-- ==== Sys2Proof/Word.lean ====
section
/-!
DEFINITION. The word types of the controller and their plainest arithmetic: 32-bit register words (R9), 64-bit values
(R51), 4 KiB blocks of content (R19), and the cutting of bit fields out of words.
-/
namespace Sys2Proof

/-- A register word. -/
abbrev Word := BitVec 32

/-- A 64-bit value: a register pair, an address, a time in nanoseconds. -/
abbrev DWord := BitVec 64

/-- The content of one 4 KiB block (R19). -/
abbrev Block := BitVec 32768

/-- Bits `[lo + wd - 1 : lo]` of a number, as a number. -/
def bitsOf (v lo wd : Nat) : Nat := v / 2 ^ lo % 2 ^ wd

/-- Bit `b` of a number. -/
def bitOf (v b : Nat) : Bool := v / 2 ^ b % 2 == 1

/-- A Bool as a bit. -/
def b2n (b : Bool) : Nat := if b then 1 else 0

/-- Ceiling division. -/
def ceilDiv (a b : Nat) : Nat := (a + b - 1) / b

end Sys2Proof
end

