-- ==== Sys2Proof/Config.lean ====
section
/-!
DEFINITION. What the manual leaves to the device or leaves open: values that no statement can see. Each is a constant with no
body; a free value is applied to the model's own counter (Dev.free) or to what it depends on. The assumption log names each.
-/
namespace Sys2Proof.Config

/-- Content of an array page of a block that has not been erased since manufacture (R390). [log entry 12 DESIGN CHOICE] -/
opaque factoryPage (bank block page : Nat) : Block

/-- Whether such a page holds a programmed page. [log entry 12 DESIGN CHOICE] -/
opaque factoryProgrammed (bank block page : Nat) : Bool

/-- 32 bits of DRBG output (R348, R356), by a fresh counter. [log entry 8 DESIGN CHOICE] -/
opaque drbg (i : Nat) : Word

/-- AES-KW unwrapping (SP 800-38F) of key bytes under a KEK of a given length flag: none when the integrity check fails. [log entry 10 DESIGN CHOICE] -/
opaque unwrap (kek : Nat) (k128 : Bool) (bytes : List Nat) : Option Nat

/-- GCM tag of an extent or block, by key, nonce bytes and additional data (R248, R335). [log entry 9 DESIGN CHOICE] -/
opaque gcmTag (key : Nat) (nonce aad : List Nat) : Nat

/-- Ciphertext of block `i` of an invocation, by key, nonce bytes and plaintext (R335). [log entry 9 DESIGN CHOICE] -/
opaque cipherBlock (key : Nat) (nonce : List Nat) (i : Nat) (b : Block) : Block

/-- Byte `i` of the LDPC parity of a scrambled payload (R309). [log entry 157 DESIGN CHOICE] -/
opaque ldpcParity (payload : List Nat) (i : Nat) : Nat

/-- Location field NEXT of a journal chunk, by the number of the chunk it names (R251). [log entry 122 DESIGN CHOICE] -/
opaque chunkPlace (num : Nat) : Nat

/-- What counter-mode decryption makes of a block that its key, salt or place does not open, or that was altered (R343). [log entry 9 DESIGN CHOICE] -/
opaque garbled (key salt ctr i : Nat) (b : Block) : Block

/-- The tag words a service GCM encryption writes (R364, R366), by a fresh counter. [log entry 11 DESIGN CHOICE] -/
opaque serviceTag (i : Nat) : Word

/-- What a service cipher makes of source bytes: slot key, MODE, OP, IV words, bytes; as many bytes come out (R346, R366). [log entry 11 DESIGN CHOICE] -/
opaque serviceByte (key mode op : Nat) (iv : List Word) (data : List Nat) (i : Nat) : Nat

/-- Highest opcode set known to an image, less 1 (R297 MEDIA_OPSUP). [log entry 16 DESIGN CHOICE] -/
opaque opSets (version : Nat) : Nat

/-- Cause a command reports in RESULT when a second poisoned word of a port buffer ends it (R381), by a fresh counter. [log entry 17 DESIGN CHOICE] -/
opaque busCause (i : Nat) : Word

/-- What the raw erased or in-doubt content of an array page reads as (R395), by a fresh counter. [log entry 13 DESIGN CHOICE] -/
opaque doubtPage (i : Nat) : Block

/-- Whether the fuse burn of an abandoned hard repair took effect (R385), by a fresh counter. [log entry 14 DESIGN CHOICE] -/
opaque burnTook (i : Nat) : Bool

/-- How many eave data pages were programmed when step WRITE was cut off (R231, R233), by a fresh counter. [log entry 39 DEDUCED] -/
opaque eaveDone (i : Nat) : Nat

/-- CLK_STAT.LOCK of the PLLs that did lock when the power-on sequence ends with FCAUSE 5 (R84, R89), by a fresh counter.
[log entry 33 DEDUCED] -/
opaque pllsLocked (i : Nat) : Nat

/-- Implementation revision PAGE_VER.IMPL of a page (R44). [log entry 15 DESIGN CHOICE] -/
opaque pageImpl (page : Nat) : Word

/-- The port GLB_OFFACC.PORT names for an access of the SMBus target (R69, R437), by a fresh counter. [log entry 18 DESIGN CHOICE] -/
opaque smbusPort (i : Nat) : Bool

/-- IDCODE bits that the manual does not give: bits [11:0], and the part number while no identity has been loaded (R466). [log entry 19 DESIGN CHOICE] -/
opaque idcodeLow : Word
/-- Assumptions: [log entry 19 DESIGN CHOICE] -/
opaque idcodePart : Word

end Sys2Proof.Config
end

