-- ==== Sys2Proof/Machine/Fields.lean ====
section
/-!
DEFINITION. The fields of the register space: each is the register's offset in the register space (R39) with its
lowest bit and width, as the register tables of the chapters give them. A field of an instanced page takes the
instance (R41, R188, R214, R293, R300, R354, R375, R389). A 64-bit pair is named by the offset of its _LO word (R51).
-/
namespace Sys2Proof.Machine

/-- One field: register offset in the 1 MiB register space, lowest bit, width in bits. -/
structure Fld where
  off : Nat
  lo : Nat
  wd : Nat
  deriving DecidableEq, Repr

namespace F


-- Page GLB
def GLB_DEVID_SREV : Fld := ⟨0x40, 16, 8⟩
def GLB_DEVID_VARIANT : Fld := ⟨0x40, 0, 4⟩
def GLB_MODE_MODE : Fld := ⟨0x80, 0, 3⟩
def GLB_STAT_TRANS : Fld := ⟨0x84, 16, 1⟩
def GLB_STAT_RSTAGE : Fld := ⟨0x84, 8, 4⟩
def GLB_STAT_RECOVERED : Fld := ⟨0x84, 4, 1⟩
def GLB_STAT_MODE : Fld := ⟨0x84, 0, 4⟩
def GLB_MODET_T : Fld := ⟨0x88, 0, 32⟩
def GLB_CATCH_FIRE : Fld := ⟨0x100, 0, 8⟩
def GLB_CATCH_DONE_QUEUED : Fld := ⟨0x104, 8, 8⟩
def GLB_CATCH_DONE_DONE : Fld := ⟨0x104, 0, 8⟩
def GLB_OFFACC_VALID : Fld := ⟨0x108, 31, 1⟩
def GLB_OFFACC_PORT : Fld := ⟨0x108, 30, 1⟩
def GLB_OFFACC_WRITE : Fld := ⟨0x108, 29, 1⟩
def GLB_OFFACC_CAUSE : Fld := ⟨0x108, 26, 3⟩
def GLB_OFFACC_OFFSET : Fld := ⟨0x108, 0, 26⟩
def GLB_OFFACC_CNT_COUNT : Fld := ⟨0x10C, 0, 16⟩
def GLB_STRAP_BOOT_SEL : Fld := ⟨0x140, 3, 2⟩
def GLB_STRAP_SMB_ADDR : Fld := ⟨0x140, 0, 3⟩
def GLB_BOOT_B1OK : Fld := ⟨0x144, 11, 1⟩
def GLB_BOOT_B0OK : Fld := ⟨0x144, 10, 1⟩
def GLB_BOOT_FALLBACK : Fld := ⟨0x144, 9, 1⟩
def GLB_BOOT_BANK : Fld := ⟨0x144, 8, 1⟩
def GLB_BOOT_FCAUSE : Fld := ⟨0x144, 4, 4⟩
def GLB_BOOT_STAGE : Fld := ⟨0x144, 0, 4⟩
def GLB_RSTCAUSE_RAILS : Fld := ⟨0x148, 8, 14⟩
def GLB_RSTCAUSE_PLL : Fld := ⟨0x148, 5, 3⟩
def GLB_RSTCAUSE_FLUSHED : Fld := ⟨0x148, 4, 1⟩
def GLB_RSTCAUSE_CAUSE : Fld := ⟨0x148, 0, 4⟩
def GLB_READYT_T : Fld := ⟨0x14C, 0, 32⟩
def GLB_UPDLOCK_LOCK : Fld := ⟨0x160, 0, 1⟩

-- Page PWR
def PWR_DOMCMD_BUSY : Fld := ⟨0x2040, 31, 1⟩
def PWR_DOMCMD_GO : Fld := ⟨0x2040, 16, 1⟩
def PWR_DOMCMD_OP : Fld := ⟨0x2040, 8, 1⟩
def PWR_DOMCMD_DOMAIN : Fld := ⟨0x2040, 0, 5⟩
def PWR_DOMSTAT_ON : Fld := ⟨0x2044, 0, 30⟩
def PWR_DOMHOST_HOST : Fld := ⟨0x2048, 0, 30⟩
def PWR_DOMERR_VALID : Fld := ⟨0x204C, 31, 1⟩
def PWR_DOMERR_DOMAIN : Fld := ⟨0x204C, 24, 5⟩
def PWR_DOMERR_CAUSE : Fld := ⟨0x204C, 16, 8⟩
def PWR_RAIL_GOOD : Fld := ⟨0x2050, 0, 14⟩
def PWR_RAILLOST_LOST : Fld := ⟨0x2054, 0, 14⟩
def PWR_PSEN_P3EN : Fld := ⟨0x2058, 2, 1⟩
def PWR_PSEN_P2EN : Fld := ⟨0x2058, 1, 1⟩
def PWR_PSEN_P1EN : Fld := ⟨0x2058, 0, 1⟩
def PWR_IDLE1_US : Fld := ⟨0x205C, 0, 16⟩
def PWR_IDLE2_MS : Fld := ⟨0x2060, 0, 16⟩
def PWR_IDLE3_MS : Fld := ⟨0x2064, 0, 16⟩
def PWR_PSCTL_HOLD : Fld := ⟨0x2074, 1, 1⟩
def PWR_PSCTL_WAKE : Fld := ⟨0x2074, 0, 1⟩
def PWR_PSTAT_WCAUSE : Fld := ⟨0x2078, 8, 4⟩
def PWR_PSTAT_EXITING : Fld := ⟨0x2078, 5, 1⟩
def PWR_PSTAT_ENTERING : Fld := ⟨0x2078, 4, 1⟩
def PWR_PSTAT_STATE : Fld := ⟨0x2078, 0, 2⟩

-- Page CLK
def CLK_SSC_CORE_HBM : Fld := ⟨0x3040, 12, 3⟩
def CLK_SSC_CORE_LDPC : Fld := ⟨0x3040, 9, 3⟩
def CLK_SSC_CORE_CIPH : Fld := ⟨0x3040, 6, 3⟩
def CLK_SSC_CORE_CP : Fld := ⟨0x3040, 3, 3⟩
def CLK_SSC_CORE_FAB : Fld := ⟨0x3040, 0, 3⟩
def CLK_SSC_CHG0_GRP : Fld := ⟨0x3044, 0, 30⟩
def CLK_SSC_CHG1_GRP : Fld := ⟨0x3048, 0, 18⟩
def CLK_STAT_XRC : Fld := ⟨0x304C, 31, 1⟩
def CLK_STAT_REFB : Fld := ⟨0x304C, 24, 1⟩
def CLK_STAT_REFA : Fld := ⟨0x304C, 23, 1⟩
def CLK_STAT_LOCK : Fld := ⟨0x304C, 0, 23⟩

-- Page CFG
def CFG_GATE_ICAUSE : Fld := ⟨0x1040, 8, 4⟩
def CFG_GATE_STATE : Fld := ⟨0x1040, 4, 3⟩
def CFG_GATE_REOPEN : Fld := ⟨0x1040, 1, 1⟩
def CFG_GATE_COMMIT : Fld := ⟨0x1040, 0, 1⟩
def CFG_SUM_SUM : Fld := ⟨0x1044, 0, 32⟩
def CFG_REASON_COUNT : Fld := ⟨0x1048, 8, 8⟩
def CFG_REASON_CODE : Fld := ⟨0x1048, 0, 8⟩
def CFG_WHERE_VALID : Fld := ⟨0x104C, 31, 1⟩
def CFG_WHERE_OFFSET : Fld := ⟨0x104C, 0, 20⟩
def CFG_CALC_CRC : Fld := ⟨0x1050, 0, 32⟩
def CFG_WORDS_COUNT : Fld := ⟨0x1054, 0, 16⟩
def CFG_CTRL_NEWMEDIA : Fld := ⟨0x1058, 0, 1⟩
def CFG_ACCT_T : Fld := ⟨0x105C, 0, 32⟩

-- Page PRT
def PRT_LINKCFG_MAXSPD (p : Nat) : Fld := ⟨0x10000 + 0x1000 * p + 0x40, 12, 2⟩
def PRT_LINKCFG_SRIS (p : Nat) : Fld := ⟨0x10000 + 0x1000 * p + 0x40, 8, 4⟩
def PRT_LINKCFG_BIF (p : Nat) : Fld := ⟨0x10000 + 0x1000 * p + 0x40, 0, 2⟩

-- Page SEAT
def SEAT_SEL_SEAT : Fld := ⟨0x12080, 0, 9⟩
def SEAT_INFO_ATT : Fld := ⟨0x12084, 31, 1⟩
def SEAT_INFO_CLASS : Fld := ⟨0x12084, 30, 1⟩
def SEAT_INFO_IDLE : Fld := ⟨0x12084, 29, 1⟩
def SEAT_INFO_REAPING : Fld := ⟨0x12084, 28, 1⟩
def SEAT_INFO_PORT : Fld := ⟨0x12084, 27, 1⟩
def SEAT_INFO_LINK : Fld := ⟨0x12084, 25, 2⟩
def SEAT_INFO_VF : Fld := ⟨0x12084, 18, 7⟩
def SEAT_INFO_WIN : Fld := ⟨0x12084, 13, 5⟩
def SEAT_INFO_VEC : Fld := ⟨0x12084, 0, 11⟩
def SEAT_INFO2_STREAMS : Fld := ⟨0x12088, 16, 8⟩
def SEAT_INFO2_CQT : Fld := ⟨0x12088, 5, 5⟩
def SEAT_INFO2_SQH : Fld := ⟨0x12088, 0, 5⟩
def SEAT_CNT_CLASSD : Fld := ⟨0x1208C, 16, 10⟩
def SEAT_CNT_TOTAL : Fld := ⟨0x1208C, 0, 10⟩
def SEAT_KICK_GO : Fld := ⟨0x12090, 31, 1⟩
def SEAT_KICK_SEAT : Fld := ⟨0x12090, 0, 9⟩

-- Page ADM
def ADM_RCAP_RCAP : Fld := ⟨0x13040, 0, 24⟩
def ADM_RMODE_RMODE : Fld := ⟨0x13044, 0, 24⟩
def ADM_RMEDIA_RMEDIA : Fld := ⟨0x13048, 0, 24⟩
def ADM_RPOWER_RPOWER : Fld := ⟨0x1304C, 0, 24⟩
def ADM_RCRYPTO_RCRYPTO : Fld := ⟨0x13050, 0, 24⟩
def ADM_SUMR_SUMR : Fld := ⟨0x13054, 0, 24⟩
def ADM_DCEIL_DCEIL : Fld := ⟨0x13058, 0, 32⟩
def ADM_BSUM_BSUM : Fld := ⟨0x1305C, 0, 32⟩
def ADM_FREE_FREE : Fld := ⟨0x13060, 0, 32⟩
def ADM_TSUM_TSUM : Fld := ⟨0x13064, 0, 32⟩
def ADM_NLUN_W : Fld := ⟨0x13068, 16, 6⟩
def ADM_NLUN_NLUN : Fld := ⟨0x13068, 0, 13⟩
def ADM_COUNT_DEMOTED : Fld := ⟨0x1306C, 8, 7⟩
def ADM_COUNT_OPEN : Fld := ⟨0x1306C, 0, 7⟩
def ADM_LAST_VALID : Fld := ⟨0x13070, 31, 1⟩
def ADM_LAST_SEAT : Fld := ⟨0x13070, 16, 9⟩
def ADM_LAST_RESULT : Fld := ⟨0x13070, 0, 4⟩
def ADM_LSEL_LINK : Fld := ⟨0x13074, 0, 3⟩
def ADM_LSUMR_LSUMR : Fld := ⟨0x13078, 0, 24⟩
def ADM_LBACK_LBACK : Fld := ⟨0x1307C, 0, 32⟩
def ADM_ENDLAST_VALID : Fld := ⟨0x13088, 31, 1⟩
def ADM_ENDLAST_CAUSE : Fld := ⟨0x13088, 28, 3⟩
def ADM_ENDLAST_SEAT : Fld := ⟨0x13088, 16, 9⟩
def ADM_ENDLAST_DEM : Fld := ⟨0x13088, 15, 1⟩
def ADM_ENDLAST_STREAM : Fld := ⟨0x13088, 0, 6⟩

-- Page STRM
def STRM_STAT_OPEN (s : Nat) : Fld := ⟨0x14000 + 0x100 * s + 0x40, 31, 1⟩
def STRM_STAT_DEMOTED (s : Nat) : Fld := ⟨0x14000 + 0x100 * s + 0x40, 30, 1⟩
def STRM_STAT_DCAUSE (s : Nat) : Fld := ⟨0x14000 + 0x100 * s + 0x40, 27, 3⟩
def STRM_STAT_PRIO (s : Nat) : Fld := ⟨0x14000 + 0x100 * s + 0x40, 24, 3⟩
def STRM_STAT_VOL (s : Nat) : Fld := ⟨0x14000 + 0x100 * s + 0x40, 16, 6⟩
def STRM_STAT_SEAT (s : Nat) : Fld := ⟨0x14000 + 0x100 * s + 0x40, 0, 9⟩
def STRM_CONTRACT_SMAX (s : Nat) : Fld := ⟨0x14000 + 0x100 * s + 0x44, 16, 8⟩
def STRM_CONTRACT_RATE (s : Nat) : Fld := ⟨0x14000 + 0x100 * s + 0x44, 0, 16⟩
def STRM_BURST_BURST (s : Nat) : Fld := ⟨0x14000 + 0x100 * s + 0x48, 0, 24⟩
def STRM_TMIN_TMIN (s : Nat) : Fld := ⟨0x14000 + 0x100 * s + 0x4C, 0, 16⟩
def STRM_HORIZON (s : Nat) : Nat := 0x14000 + 0x100 * s + 0x50
def STRM_CTL_CGRAN (s : Nat) : Fld := ⟨0x14000 + 0x100 * s + 0x58, 0, 5⟩
def STRM_LCPL_NS (s : Nat) : Fld := ⟨0x14000 + 0x100 * s + 0x5C, 0, 32⟩
def STRM_LCOM_NS (s : Nat) : Fld := ⟨0x14000 + 0x100 * s + 0x60, 0, 32⟩
def STRM_TOKEN_KIB (s : Nat) : Fld := ⟨0x14000 + 0x100 * s + 0x64, 0, 32⟩
def STRM_DONE (s : Nat) : Nat := 0x14000 + 0x100 * s + 0x68
def STRM_ADMT_T (s : Nat) : Fld := ⟨0x14000 + 0x100 * s + 0x70, 0, 32⟩
def STRM_OVER_COUNT (s : Nat) : Fld := ⟨0x14000 + 0x100 * s + 0x74, 0, 32⟩
def STRM_DEMT_T (s : Nat) : Fld := ⟨0x14000 + 0x100 * s + 0x78, 0, 32⟩
def STRM_ASEQ_SEQ (s : Nat) : Fld := ⟨0x14000 + 0x100 * s + 0x7C, 0, 32⟩

-- Page COX
def COX_POLICY_RDSUSP : Fld := ⟨0x18040, 16, 1⟩
def COX_POLICY_PTSH : Fld := ⟨0x18040, 8, 3⟩
def COX_POLICY_GCSH : Fld := ⟨0x18040, 0, 5⟩
def COX_DCAP_DCAP : Fld := ⟨0x18044, 0, 11⟩
def COX_STAT_FLOOR : Fld := ⟨0x18048, 31, 1⟩
def COX_STAT_PLIM : Fld := ⟨0x18048, 30, 1⟩
def COX_SLOT : Nat := 0x18050
def COX_ESUSP_COUNT : Fld := ⟨0x18058, 0, 32⟩
def COX_ESLIM_COUNT : Fld := ⟨0x1805C, 0, 32⟩
def COX_LSEL_LUN : Fld := ⟨0x18060, 0, 12⟩
def COX_LINFO_OP : Fld := ⟨0x18064, 29, 3⟩
def COX_LINFO_QDEPTH : Fld := ⟨0x18064, 24, 3⟩
def COX_LINFO_ESCNT : Fld := ⟨0x18064, 20, 4⟩
def COX_DSEL_STREAM : Fld := ⟨0x18068, 0, 6⟩
def COX_DVAL_KIB : Fld := ⟨0x1806C, 0, 32⟩

-- Page STK
def STK_TS_TS : Fld := ⟨0x19040, 0, 8⟩
def STK_PCAP_MW : Fld := ⟨0x19044, 0, 17⟩
def STK_PUB_HOLD : Fld := ⟨0x19048, 16, 8⟩
def STK_PUB_HYST : Fld := ⟨0x19048, 0, 16⟩
def STK_CTL_THMEN : Fld := ⟨0x1904C, 1, 1⟩
def STK_CTL_PWREN : Fld := ⟨0x1904C, 0, 1⟩
def STK_PMEAS_MW : Fld := ⟨0x19050, 0, 17⟩
def STK_RPWR_TLIM : Fld := ⟨0x19054, 25, 1⟩
def STK_RPWR_PLIM : Fld := ⟨0x19054, 24, 1⟩
def STK_RPWR_CAND : Fld := ⟨0x19054, 0, 24⟩
def STK_SCNT : Nat := 0x19064

-- Page STKL
def STKL_CTL_FESTATE (l : Nat) : Fld := ⟨0x1A040 + 0x1000 * (l / 17) + 0x80 * (l % 17) + 0x0, 8, 2⟩
def STKL_CTL_ACTIVE (l : Nat) : Fld := ⟨0x1A040 + 0x1000 * (l / 17) + 0x80 * (l % 17) + 0x0, 7, 1⟩
def STKL_CTL_TYPE (l : Nat) : Fld := ⟨0x1A040 + 0x1000 * (l / 17) + 0x80 * (l % 17) + 0x0, 0, 2⟩
def STKL_KP_KP (l : Nat) : Fld := ⟨0x1A040 + 0x1000 * (l / 17) + 0x80 * (l % 17) + 0x4, 0, 24⟩
def STKL_KI_KI (l : Nat) : Fld := ⟨0x1A040 + 0x1000 * (l / 17) + 0x80 * (l % 17) + 0x8, 0, 24⟩
def STKL_SETPT_SP (l : Nat) : Fld := ⟨0x1A040 + 0x1000 * (l / 17) + 0x80 * (l % 17) + 0xC, 0, 32⟩
def STKL_IMIN_IMIN (l : Nat) : Fld := ⟨0x1A040 + 0x1000 * (l / 17) + 0x80 * (l % 17) + 0x10, 0, 32⟩
def STKL_IMAX_IMAX (l : Nat) : Fld := ⟨0x1A040 + 0x1000 * (l / 17) + 0x80 * (l % 17) + 0x14, 0, 32⟩
def STKL_UMIN_UMIN (l : Nat) : Fld := ⟨0x1A040 + 0x1000 * (l / 17) + 0x80 * (l % 17) + 0x18, 0, 32⟩
def STKL_UMAX_UMAX (l : Nat) : Fld := ⟨0x1A040 + 0x1000 * (l / 17) + 0x80 * (l % 17) + 0x1C, 0, 32⟩
def STKL_ELIM_ELIM (l : Nat) : Fld := ⟨0x1A040 + 0x1000 * (l / 17) + 0x80 * (l % 17) + 0x20, 0, 32⟩
def STKL_TFE_TFE (l : Nat) : Fld := ⟨0x1A040 + 0x1000 * (l / 17) + 0x80 * (l % 17) + 0x24, 0, 24⟩
def STKL_MEAS_M (l : Nat) : Fld := ⟨0x1A040 + 0x1000 * (l / 17) + 0x80 * (l % 17) + 0x28, 0, 32⟩
def STKL_ERR_E (l : Nat) : Fld := ⟨0x1A040 + 0x1000 * (l / 17) + 0x80 * (l % 17) + 0x2C, 0, 32⟩
def STKL_PTERM_P (l : Nat) : Fld := ⟨0x1A040 + 0x1000 * (l / 17) + 0x80 * (l % 17) + 0x30, 0, 32⟩
def STKL_ITERM_I (l : Nat) : Fld := ⟨0x1A040 + 0x1000 * (l / 17) + 0x80 * (l % 17) + 0x34, 0, 32⟩
def STKL_UOUT_U (l : Nat) : Fld := ⟨0x1A040 + 0x1000 * (l / 17) + 0x80 * (l % 17) + 0x38, 0, 32⟩
def STKL_FLAGS_FLAGS (l : Nat) : Fld := ⟨0x1A040 + 0x1000 * (l / 17) + 0x80 * (l % 17) + 0x3C, 0, 32⟩
def STKL_FETIME_T (l : Nat) : Fld := ⟨0x1A040 + 0x1000 * (l / 17) + 0x80 * (l % 17) + 0x40, 0, 24⟩

-- Page STKT
def STKT_TRIG_ARM : Fld := ⟨0x1E060, 31, 1⟩
def STKT_TRIG_FORCE : Fld := ⟨0x1E060, 30, 1⟩
def STKT_TRIG_STOP : Fld := ⟨0x1E060, 29, 1⟩
def STKT_TRIG_SRC : Fld := ⟨0x1E060, 24, 4⟩
def STKT_TRIG_TLOOP : Fld := ⟨0x1E060, 16, 7⟩
def STKT_TRIG_TCH : Fld := ⟨0x1E060, 8, 3⟩
def STKT_TRIG_EDGE : Fld := ⟨0x1E060, 0, 2⟩
def STKT_LEVEL_LEVEL : Fld := ⟨0x1E064, 0, 32⟩
def STKT_PRE_PRE : Fld := ⟨0x1E068, 0, 12⟩
def STKT_DEC_DEC : Fld := ⟨0x1E06C, 0, 8⟩
def STKT_STAT_STATE : Fld := ⟨0x1E070, 28, 3⟩
def STKT_STAT_VPRE : Fld := ⟨0x1E070, 16, 12⟩
def STKT_STAT_TCAUSE : Fld := ⟨0x1E070, 0, 2⟩
def STKT_TRIGT : Nat := 0x1E074
def STKT_RIDX_CH : Fld := ⟨0x1E07C, 12, 3⟩
def STKT_RIDX_IDX : Fld := ⟨0x1E07C, 0, 12⟩
def STKT_RDATA_DATA : Fld := ⟨0x1E080, 0, 32⟩

-- Page BUF
def BUF_DCEIL_KIB : Fld := ⟨0x1F070, 0, 32⟩
def BUF_DENRG_KIB : Fld := ⟨0x1F074, 0, 32⟩
def BUF_DEAVE_KIB : Fld := ⟨0x1F078, 0, 32⟩
def BUF_DIRTY_KIB : Fld := ⟨0x1F07C, 0, 32⟩
def BUF_STAT_PAUSE : Fld := ⟨0x1F080, 8, 1⟩
def BUF_STAT_BIND : Fld := ⟨0x1F080, 0, 2⟩

-- Page PFL
def PFL_EHOLD_MJ : Fld := ⟨0x5040, 0, 20⟩
def PFL_CTL_FILT : Fld := ⟨0x5044, 0, 3⟩
def PFL_STAT_PFAIL : Fld := ⟨0x5048, 31, 1⟩
def PFL_STAT_STATE : Fld := ⟨0x5048, 0, 3⟩
def PFL_EC_PJ : Fld := ⟨0x504C, 0, 16⟩
def PFL_RFLUSH_RATE : Fld := ⟨0x5050, 0, 24⟩
def PFL_TFLUSH_US : Fld := ⟨0x5054, 0, 32⟩
def PFL_EMIN_MJ : Fld := ⟨0x5058, 0, 20⟩
def PFL_FOLD_KIB : Fld := ⟨0x505C, 0, 32⟩
def PFL_FOLDT_US : Fld := ⟨0x5060, 0, 32⟩

-- Page MAP
def MAP_PATCH_FOLD : Fld := ⟨0x20040, 8, 8⟩
def MAP_PATCH_LIM : Fld := ⟨0x20040, 0, 4⟩
def MAP_STAT_NOFINE : Fld := ⟨0x20044, 2, 1⟩
def MAP_STAT_FOLDING : Fld := ⟨0x20044, 1, 1⟩
def MAP_STAT_PFULL : Fld := ⟨0x20044, 0, 1⟩
def MAP_PLIM_MIB : Fld := ⟨0x20048, 0, 32⟩
def MAP_PUSED_MIB : Fld := ⟨0x2004C, 0, 32⟩
def MAP_FTOT_COUNT : Fld := ⟨0x20050, 0, 22⟩
def MAP_FUSED_COUNT : Fld := ⟨0x20054, 0, 22⟩
def MAP_GSEL_KGEN : Fld := ⟨0x20058, 8, 8⟩
def MAP_GSEL_VOL : Fld := ⟨0x20058, 0, 6⟩
def MAP_GCNT_COUNT : Fld := ⟨0x2005C, 0, 32⟩
def MAP_QSEL : Nat := 0x20060
def MAP_QENT : Nat := 0x20068
def MAP_QFINE : Nat := 0x20070
def MAP_SEQ : Nat := 0x20078
def MAP_WSEQ : Nat := 0x20080

-- Page JNL
def JNL_TJ_TJ : Fld := ⟨0x21040, 0, 8⟩
def JNL_STAT_BUSY : Fld := ⟨0x21044, 31, 1⟩
def JNL_STAT_WIN : Fld := ⟨0x21044, 0, 16⟩
def JNL_CHUNK : Nat := 0x21048
def JNL_CMARK : Nat := 0x21050
def JNL_LASTT_T : Fld := ⟨0x21058, 0, 32⟩
def JNL_TREPLAY_US : Fld := ⟨0x2105C, 0, 32⟩
def JNL_TSCAN_US : Fld := ⟨0x21060, 0, 32⟩
def JNL_REPLAYT_US : Fld := ⟨0x21064, 0, 32⟩
def JNL_SCANT_US : Fld := ⟨0x21068, 0, 32⟩
def JNL_SCANPG_COUNT : Fld := ⟨0x2106C, 0, 32⟩
def JNL_TXDROP_COUNT : Fld := ⟨0x21070, 0, 32⟩

-- Page GC
def GC_OP_OP : Fld := ⟨0x22040, 0, 8⟩
def GC_FLOOR_MODE : Fld := ⟨0x22044, 31, 1⟩
def GC_FLOOR_MIN : Fld := ⟨0x22044, 0, 24⟩
def GC_STAT_ACTIVE : Fld := ⟨0x22048, 31, 1⟩
def GC_STAT_CRIT : Fld := ⟨0x22048, 30, 1⟩
def GC_STAT_WALK : Fld := ⟨0x22048, 29, 1⟩
def GC_STAT_FREE : Fld := ⟨0x22048, 0, 24⟩
def GC_FLR_BATTENS : Fld := ⟨0x2204C, 0, 24⟩
def GC_CRIT_BATTENS : Fld := ⟨0x22050, 0, 24⟩
def GC_TOTAL_BATTENS : Fld := ⟨0x22054, 0, 24⟩
def GC_VICT_ID : Fld := ⟨0x22058, 0, 24⟩
def GC_USE_MIB : Fld := ⟨0x2205C, 0, 32⟩
def GC_VALID_MIB : Fld := ⟨0x22060, 0, 32⟩
def GC_MOVED : Nat := 0x22064
def GC_PADP_COUNT : Fld := ⟨0x2206C, 0, 32⟩

-- Page WEAR
def WEAR_ENDUR_COUNT : Fld := ⟨0x23040, 0, 32⟩
def WEAR_MIN_COUNT : Fld := ⟨0x23044, 0, 32⟩
def WEAR_MAX_COUNT : Fld := ⟨0x23048, 0, 32⟩
def WEAR_AVG_COUNT : Fld := ⟨0x2304C, 0, 32⟩
def WEAR_LIFE_USED : Fld := ⟨0x23050, 0, 16⟩
def WEAR_RDTH_KREADS : Fld := ⟨0x23054, 0, 16⟩
def WEAR_EOL_PCT : Fld := ⟨0x23058, 0, 8⟩
def WEAR_RDREL_COUNT : Fld := ⟨0x2305C, 0, 32⟩
def WEAR_LSEL_LUN : Fld := ⟨0x23060, 0, 12⟩
def WEAR_LINFO_SPARE : Fld := ⟨0x23064, 16, 16⟩
def WEAR_LINFO_RETIRED : Fld := ⟨0x23064, 0, 16⟩

-- Page PTL
def PTL_PERIOD_DAYS : Fld := ⟨0x24040, 0, 5⟩
def PTL_THR_URG : Fld := ⟨0x24044, 8, 8⟩
def PTL_THR_RELOC : Fld := ⟨0x24044, 0, 8⟩
def PTL_STAT_RUN : Fld := ⟨0x24048, 31, 1⟩
def PTL_STAT_LATE : Fld := ⟨0x24048, 30, 1⟩
def PTL_STAT_CURSOR : Fld := ⟨0x24048, 0, 24⟩
def PTL_PASS_COUNT : Fld := ⟨0x2404C, 0, 32⟩
def PTL_PASST_S : Fld := ⟨0x24050, 0, 32⟩
def PTL_RATE_PAGES : Fld := ⟨0x24054, 0, 32⟩
def PTL_RELOC_COUNT : Fld := ⟨0x24058, 0, 32⟩
def PTL_MAXC_BITS : Fld := ⟨0x2405C, 0, 16⟩

-- Page BAD
def BAD_TOTAL_COUNT : Fld := ⟨0x25040, 0, 32⟩
def BAD_EFAIL_COUNT : Fld := ⟨0x25044, 0, 32⟩
def BAD_PFAIL_COUNT : Fld := ⟨0x25048, 0, 32⟩
def BAD_FACT_COUNT : Fld := ⟨0x2504C, 0, 32⟩
def BAD_LFAIL_COUNT : Fld := ⟨0x25050, 0, 13⟩
def BAD_LAST_VALID : Fld := ⟨0x25054, 31, 1⟩
def BAD_LAST_CAUSE : Fld := ⟨0x25054, 28, 3⟩
def BAD_LAST_LUN : Fld := ⟨0x25054, 16, 12⟩
def BAD_LAST_BLOCK : Fld := ⟨0x25054, 0, 16⟩

-- Page VOL
def VOL_CAP_LO_BLK (n : Nat) : Fld := ⟨0x27040 + 16 * n + 0x0, 0, 32⟩
def VOL_CAP_HI_BLK (n : Nat) : Fld := ⟨0x27040 + 16 * n + 0x4, 0, 7⟩
def VOL_ID_EN (n : Nat) : Fld := ⟨0x27040 + 16 * n + 0x8, 31, 1⟩
def VOL_ID_VOL (n : Nat) : Fld := ⟨0x27040 + 16 * n + 0x8, 16, 6⟩
def VOL_ID_SLOT (n : Nat) : Fld := ⟨0x27040 + 16 * n + 0x8, 8, 6⟩
def VOL_ID_FGEN (n : Nat) : Fld := ⟨0x27040 + 16 * n + 0x8, 0, 8⟩

-- Page MEDIA
def MEDIA_GEOM0_NU : Fld := ⟨0x26040, 16, 12⟩
def MEDIA_GEOM0_L : Fld := ⟨0x26040, 8, 4⟩
def MEDIA_GEOM0_LPTM1 : Fld := ⟨0x26040, 4, 2⟩
def MEDIA_GEOM0_Q : Fld := ⟨0x26040, 0, 4⟩
def MEDIA_GEOM1_NUSLC : Fld := ⟨0x26044, 16, 12⟩
def MEDIA_GEOM1_BPP : Fld := ⟨0x26044, 0, 16⟩
def MEDIA_GEOM2_BBM : Fld := ⟨0x26048, 20, 4⟩
def MEDIA_GEOM2_PRULE : Fld := ⟨0x26048, 16, 4⟩
def MEDIA_GEOM2_SPARE : Fld := ⟨0x26048, 0, 16⟩
def MEDIA_ID_DEV1 : Fld := ⟨0x2604C, 16, 8⟩
def MEDIA_ID_DEV0 : Fld := ⟨0x2604C, 8, 8⟩
def MEDIA_ID_MFR : Fld := ⟨0x2604C, 0, 8⟩
def MEDIA_NLUN_COUNT : Fld := ⟨0x26050, 0, 13⟩
def MEDIA_BATW_W : Fld := ⟨0x26054, 0, 6⟩
def MEDIA_TPROG_US : Fld := ⟨0x26058, 0, 16⟩
def MEDIA_TR_US : Fld := ⟨0x2605C, 0, 16⟩
def MEDIA_TBERS_US : Fld := ⟨0x26060, 0, 16⟩
def MEDIA_TESUS_ESMAX : Fld := ⟨0x26064, 16, 8⟩
def MEDIA_TESUS_US : Fld := ⟨0x26064, 0, 12⟩
def MEDIA_TPSUS_US : Fld := ⟨0x26068, 0, 12⟩
def MEDIA_RPROG_MBS : Fld := ⟨0x2606C, 0, 16⟩
def MEDIA_RSLC_MBS : Fld := ⟨0x26070, 0, 16⟩
def MEDIA_EM_PJ : Fld := ⟨0x26074, 0, 16⟩
def MEDIA_ENDUR_COUNT : Fld := ⟨0x26078, 0, 32⟩
def MEDIA_OPSET_SET : Fld := ⟨0x2607C, 0, 16⟩
def MEDIA_OPC0_PRES : Fld := ⟨0x26080, 24, 8⟩
def MEDIA_OPC0_PSUS : Fld := ⟨0x26080, 16, 8⟩
def MEDIA_OPC0_ERES : Fld := ⟨0x26080, 8, 8⟩
def MEDIA_OPC0_ESUS : Fld := ⟨0x26080, 0, 8⟩
def MEDIA_OPC1_SOFA : Fld := ⟨0x26084, 24, 8⟩
def MEDIA_OPC1_RRN : Fld := ⟨0x26084, 16, 8⟩
def MEDIA_OPC1_RRFA : Fld := ⟨0x26084, 8, 8⟩
def MEDIA_OPC1_SLCP : Fld := ⟨0x26084, 0, 8⟩
def MEDIA_OPC2_TMFA : Fld := ⟨0x26088, 8, 8⟩
def MEDIA_OPC2_XTFA : Fld := ⟨0x26088, 0, 8⟩
def MEDIA_OPSUP_MAX : Fld := ⟨0x2608C, 0, 16⟩
def MEDIA_TPSLC_US : Fld := ⟨0x26090, 0, 16⟩

-- Page CHN
def CHN_MAP_TGT (c : Nat) : Fld := ⟨0x30000 + 0x1000 * c + 0x40, 0, 16⟩
def CHN_TSET_RATE (c : Nat) : Fld := ⟨0x30000 + 0x1000 * c + 0x44, 0, 4⟩
def CHN_TIM_RHW (c : Nat) : Fld := ⟨0x30000 + 0x1000 * c + 0x48, 24, 8⟩
def CHN_TIM_CCS (c : Nat) : Fld := ⟨0x30000 + 0x1000 * c + 0x48, 16, 8⟩
def CHN_TIM_ADL (c : Nat) : Fld := ⟨0x30000 + 0x1000 * c + 0x48, 8, 8⟩
def CHN_TIM_WHR (c : Nat) : Fld := ⟨0x30000 + 0x1000 * c + 0x48, 0, 8⟩
def CHN_DRV_NDRV (c : Nat) : Fld := ⟨0x30000 + 0x1000 * c + 0x4C, 16, 2⟩
def CHN_DRV_NODT (c : Nat) : Fld := ⟨0x30000 + 0x1000 * c + 0x4C, 12, 3⟩
def CHN_DRV_CODT (c : Nat) : Fld := ⟨0x30000 + 0x1000 * c + 0x4C, 8, 3⟩
def CHN_DRV_CADRV (c : Nat) : Fld := ⟨0x30000 + 0x1000 * c + 0x4C, 6, 2⟩
def CHN_DRV_CASLEW (c : Nat) : Fld := ⟨0x30000 + 0x1000 * c + 0x4C, 4, 2⟩
def CHN_DRV_DQDRV (c : Nat) : Fld := ⟨0x30000 + 0x1000 * c + 0x4C, 2, 2⟩
def CHN_DRV_DQSLEW (c : Nat) : Fld := ⟨0x30000 + 0x1000 * c + 0x4C, 0, 2⟩
def CHN_EQ_FIX (c : Nat) : Fld := ⟨0x30000 + 0x1000 * c + 0x50, 8, 1⟩
def CHN_EQ_POST (c : Nat) : Fld := ⟨0x30000 + 0x1000 * c + 0x50, 0, 4⟩
def CHN_ZQ_PER (c : Nat) : Fld := ⟨0x30000 + 0x1000 * c + 0x54, 0, 8⟩
def CHN_CTL_EVAC (c : Nat) : Fld := ⟨0x30000 + 0x1000 * c + 0x58, 2, 1⟩
def CHN_CTL_TRAIN (c : Nat) : Fld := ⟨0x30000 + 0x1000 * c + 0x58, 1, 1⟩
def CHN_CTL_ISO (c : Nat) : Fld := ⟨0x30000 + 0x1000 * c + 0x58, 0, 1⟩
def CHN_STAT_STATE (c : Nat) : Fld := ⟨0x30000 + 0x1000 * c + 0x5C, 29, 3⟩
def CHN_STAT_ICAUSE (c : Nat) : Fld := ⟨0x30000 + 0x1000 * c + 0x5C, 26, 3⟩
def CHN_STAT_IREF (c : Nat) : Fld := ⟨0x30000 + 0x1000 * c + 0x5C, 24, 2⟩
def CHN_STAT_RATE (c : Nat) : Fld := ⟨0x30000 + 0x1000 * c + 0x5C, 20, 4⟩
def CHN_STAT_FSTEP (c : Nat) : Fld := ⟨0x30000 + 0x1000 * c + 0x5C, 16, 4⟩
def CHN_STAT_TGTOK (c : Nat) : Fld := ⟨0x30000 + 0x1000 * c + 0x5C, 0, 16⟩
def CHN_DSK0_RD (c : Nat) : Fld := ⟨0x30000 + 0x1000 * c + 0x60, 0, 32⟩
def CHN_DSK1_RD (c : Nat) : Fld := ⟨0x30000 + 0x1000 * c + 0x64, 0, 32⟩
def CHN_DSK2_WR (c : Nat) : Fld := ⟨0x30000 + 0x1000 * c + 0x68, 0, 32⟩
def CHN_DSK3_WR (c : Nat) : Fld := ⟨0x30000 + 0x1000 * c + 0x6C, 0, 32⟩
def CHN_TRN_RVREF (c : Nat) : Fld := ⟨0x30000 + 0x1000 * c + 0x70, 24, 8⟩
def CHN_TRN_POST (c : Nat) : Fld := ⟨0x30000 + 0x1000 * c + 0x70, 16, 8⟩
def CHN_TRN_WEYE (c : Nat) : Fld := ⟨0x30000 + 0x1000 * c + 0x70, 8, 8⟩
def CHN_TRN_REYE (c : Nat) : Fld := ⟨0x30000 + 0x1000 * c + 0x70, 0, 8⟩
def CHN_HMARG_MIN (c : Nat) : Fld := ⟨0x30000 + 0x1000 * c + 0x74, 8, 8⟩
def CHN_HMARG_NOW (c : Nat) : Fld := ⟨0x30000 + 0x1000 * c + 0x74, 0, 8⟩
def CHN_HTOUT_COUNT (c : Nat) : Fld := ⟨0x30000 + 0x1000 * c + 0x78, 0, 32⟩
def CHN_HSTAT_COUNT (c : Nat) : Fld := ⟨0x30000 + 0x1000 * c + 0x7C, 0, 32⟩
def CHN_HTRN_DRIFT (c : Nat) : Fld := ⟨0x30000 + 0x1000 * c + 0x80, 16, 16⟩
def CHN_HTRN_COUNT (c : Nat) : Fld := ⟨0x30000 + 0x1000 * c + 0x80, 0, 16⟩
def CHN_TTRN_US (c : Nat) : Fld := ⟨0x30000 + 0x1000 * c + 0x84, 0, 32⟩

-- Page LDPC
def LDPC_CFG_RRMAX : Fld := ⟨0x28040, 16, 6⟩
def LDPC_CFG_RRTRK : Fld := ⟨0x28040, 8, 1⟩
def LDPC_CFG_SOFTN : Fld := ⟨0x28040, 0, 3⟩
def LDPC_SOFS0_OFS4 : Fld := ⟨0x28044, 24, 8⟩
def LDPC_SOFS0_OFS3 : Fld := ⟨0x28044, 16, 8⟩
def LDPC_SOFS0_OFS2 : Fld := ⟨0x28044, 8, 8⟩
def LDPC_SOFS0_OFS1 : Fld := ⟨0x28044, 0, 8⟩
def LDPC_SOFS1_OFS5 : Fld := ⟨0x28048, 0, 8⟩
def LDPC_STAT_CLR : Fld := ⟨0x2804C, 8, 1⟩
def LDPC_STAT_SBUSY : Fld := ⟨0x2804C, 0, 8⟩
def LDPC_NCW : Nat := 0x28050
def LDPC_NRETRY_COUNT : Fld := ⟨0x28058, 0, 32⟩
def LDPC_NSOFT_COUNT : Fld := ⟨0x2805C, 0, 32⟩
def LDPC_NRIDGE_COUNT : Fld := ⟨0x28060, 0, 32⟩
def LDPC_NUNC_COUNT : Fld := ⟨0x28064, 0, 32⟩
def LDPC_NMIS_COUNT : Fld := ⟨0x28068, 0, 32⟩
def LDPC_ULAST0_VALID : Fld := ⟨0x2808C, 31, 1⟩
def LDPC_ULAST0_VOL : Fld := ⟨0x2808C, 16, 6⟩
def LDPC_ULAST0_CAUSE : Fld := ⟨0x2808C, 0, 4⟩
def LDPC_ULAST1_COURSE : Fld := ⟨0x28090, 0, 32⟩
def LDPC_ULAST2_POS : Fld := ⟨0x28094, 24, 8⟩
def LDPC_ULAST2_BATTEN : Fld := ⟨0x28094, 0, 24⟩
def LDPC_ULAST3_LUN : Fld := ⟨0x28098, 20, 12⟩
def LDPC_ULAST3_PLANE : Fld := ⟨0x28098, 17, 3⟩
def LDPC_ULAST3_CW : Fld := ⟨0x28098, 15, 2⟩
def LDPC_ULAST3_PAGE : Fld := ⟨0x28098, 0, 14⟩

-- Page RDG
def RDG_CTL_RBSH : Fld := ⟨0x29040, 0, 5⟩
def RDG_STAT_REBUILD : Fld := ⟨0x29044, 31, 1⟩
def RDG_STAT_LEFT : Fld := ⟨0x29044, 0, 24⟩
def RDG_RBRATE_RATE : Fld := ⟨0x29048, 0, 24⟩
def RDG_RBLEFT : Nat := 0x2904C
def RDG_EXPOSED_BATTENS : Fld := ⟨0x29054, 0, 24⟩
def RDG_HELD_BATTENS : Fld := ⟨0x29058, 0, 24⟩
def RDG_NREC_COUNT : Fld := ⟨0x2905C, 0, 32⟩
def RDG_NFAIL_COUNT : Fld := ⟨0x29060, 0, 32⟩
def RDG_ACCUM_COUNT : Fld := ⟨0x29064, 0, 16⟩

-- Page CRY
def CRY_MASK_LEVEL : Fld := ⟨0x70040, 0, 2⟩
def CRY_STAT_DOM : Fld := ⟨0x70044, 8, 4⟩
def CRY_STAT_LEVEL : Fld := ⟨0x70044, 4, 2⟩
def CRY_SALT_SALT : Fld := ⟨0x70048, 0, 32⟩
def CRY_SEALS : Nat := 0x7004C
def CRY_AUTHF_COUNT : Fld := ⟨0x70054, 0, 32⟩
def CRY_ZERO_COUNT : Fld := ⟨0x70058, 0, 32⟩
def CRY_ZFAIL_COUNT : Fld := ⟨0x7005C, 0, 32⟩

-- Page KEY
def KEY_STAT_STATE (n : Nat) : Fld := ⟨0x71040 + 16 * n + 0x0, 29, 3⟩
def KEY_STAT_ROLE (n : Nat) : Fld := ⟨0x71040 + 16 * n + 0x0, 27, 2⟩
def KEY_STAT_K128 (n : Nat) : Fld := ⟨0x71040 + 16 * n + 0x0, 26, 1⟩
def KEY_STAT_FOREIGN (n : Nat) : Fld := ⟨0x71040 + 16 * n + 0x0, 25, 1⟩
def KEY_STAT_UNSAFE (n : Nat) : Fld := ⟨0x71040 + 16 * n + 0x0, 24, 1⟩
def KEY_STAT_EXH (n : Nat) : Fld := ⟨0x71040 + 16 * n + 0x0, 23, 1⟩
def KEY_STAT_VOL (n : Nat) : Fld := ⟨0x71040 + 16 * n + 0x0, 16, 6⟩
def KEY_STAT_KGEN (n : Nat) : Fld := ⟨0x71040 + 16 * n + 0x0, 8, 8⟩
def KEY_SALT_SALT (n : Nat) : Fld := ⟨0x71040 + 16 * n + 0x4, 0, 32⟩
def KEY_CNT (n : Nat) : Nat := 0x71040 + 16 * n + 0x8

-- Page KEYP
def KEY_MSEL_SLOT : Fld := ⟨0x71440, 0, 6⟩
def KEY_MARK : Nat := 0x71444

-- Page CRS
def CRS_CTL_GEN : Fld := ⟨0x72040, 0, 1⟩
def CRS_INV : Nat := 0x72044
def CRS_LAST_VALID : Fld := ⟨0x7204C, 31, 1⟩
def CRS_LAST_CH : Fld := ⟨0x7204C, 8, 5⟩
def CRS_LAST_CODE : Fld := ⟨0x7204C, 0, 4⟩

-- Page TRNG
def TRNG_STAT_SEEDED : Fld := ⟨0x73040, 31, 1⟩
def TRNG_STAT_FAIL : Fld := ⟨0x73040, 30, 1⟩
def TRNG_STAT_HFAILS : Fld := ⟨0x73040, 0, 16⟩
def TRNG_RESEED : Nat := 0x73044
def TRNG_RAND_DATA : Fld := ⟨0x7304C, 0, 32⟩

-- Page ALM
def ALM_TAMPEN_EN : Fld := ⟨0x6040, 0, 1⟩
def ALM_CTL_TFILT : Fld := ⟨0x6044, 0, 3⟩
def ALM_STAT_LIVE : Fld := ⟨0x6048, 0, 6⟩
def ALM_LATCH_SRC : Fld := ⟨0x604C, 0, 6⟩
def ALM_TIME : Nat := 0x6050
def ALM_COUNT_COUNT : Fld := ⟨0x6058, 0, 32⟩

-- Page DMV
def DMV_RUN_CH : Fld := ⟨0x78040, 0, 32⟩
def DMV_BYTES : Nat := 0x78044
def DMV_LAST_VALID : Fld := ⟨0x7804C, 31, 1⟩
def DMV_LAST_CH : Fld := ⟨0x7804C, 16, 5⟩
def DMV_LAST_STATUS : Fld := ⟨0x7804C, 12, 4⟩
def DMV_LAST_CAUSE : Fld := ⟨0x7804C, 8, 4⟩
def DMV_REF_VALID : Fld := ⟨0x78050, 31, 1⟩
def DMV_REF_CH : Fld := ⟨0x78050, 16, 5⟩
def DMV_REF_WHY : Fld := ⟨0x78050, 0, 4⟩

-- Page DMC
def DMC_CTL_RESET (ch : Nat) : Fld := ⟨0x79040 + 0x1000 * (ch / 8) + 0x80 * (ch % 8) + 0x0, 2, 1⟩
def DMC_CTL_STOP (ch : Nat) : Fld := ⟨0x79040 + 0x1000 * (ch / 8) + 0x80 * (ch % 8) + 0x0, 1, 1⟩
def DMC_CTL_EN (ch : Nat) : Fld := ⟨0x79040 + 0x1000 * (ch / 8) + 0x80 * (ch % 8) + 0x0, 0, 1⟩
def DMC_FN_FNBV (ch : Nat) : Fld := ⟨0x79040 + 0x1000 * (ch / 8) + 0x80 * (ch % 8) + 0x4, 31, 1⟩
def DMC_FN_FNB (ch : Nat) : Fld := ⟨0x79040 + 0x1000 * (ch / 8) + 0x80 * (ch % 8) + 0x4, 16, 10⟩
def DMC_FN_FNA (ch : Nat) : Fld := ⟨0x79040 + 0x1000 * (ch / 8) + 0x80 * (ch % 8) + 0x4, 0, 10⟩
def DMC_RBASE (ch : Nat) : Nat := 0x79040 + 0x1000 * (ch / 8) + 0x80 * (ch % 8) + 0x8
def DMC_RSIZE_LOG2 (ch : Nat) : Fld := ⟨0x79040 + 0x1000 * (ch / 8) + 0x80 * (ch % 8) + 0x10, 0, 4⟩
def DMC_TAIL_TAIL (ch : Nat) : Fld := ⟨0x79040 + 0x1000 * (ch / 8) + 0x80 * (ch % 8) + 0x14, 0, 12⟩
def DMC_STAT_STATE (ch : Nat) : Fld := ⟨0x79040 + 0x1000 * (ch / 8) + 0x80 * (ch % 8) + 0x18, 29, 3⟩
def DMC_STAT_SCAUSE (ch : Nat) : Fld := ⟨0x79040 + 0x1000 * (ch / 8) + 0x80 * (ch % 8) + 0x18, 26, 3⟩
def DMC_STAT_LCAUSE (ch : Nat) : Fld := ⟨0x79040 + 0x1000 * (ch / 8) + 0x80 * (ch % 8) + 0x18, 12, 4⟩
def DMC_STAT_HEAD (ch : Nat) : Fld := ⟨0x79040 + 0x1000 * (ch / 8) + 0x80 * (ch % 8) + 0x18, 0, 12⟩
def DMC_VEC_IEN (ch : Nat) : Fld := ⟨0x79040 + 0x1000 * (ch / 8) + 0x80 * (ch % 8) + 0x1C, 31, 1⟩
def DMC_VEC_VEC (ch : Nat) : Fld := ⟨0x79040 + 0x1000 * (ch / 8) + 0x80 * (ch % 8) + 0x1C, 0, 11⟩
def DMC_BAD_COUNT (ch : Nat) : Fld := ⟨0x79040 + 0x1000 * (ch / 8) + 0x80 * (ch % 8) + 0x20, 0, 32⟩
def DMC_BYTES (ch : Nat) : Nat := 0x79040 + 0x1000 * (ch / 8) + 0x80 * (ch % 8) + 0x24
def DMC_DETCNT_COUNT (ch : Nat) : Fld := ⟨0x79040 + 0x1000 * (ch / 8) + 0x80 * (ch % 8) + 0x2C, 0, 32⟩
def DMC_CSUM (ch : Nat) : Nat := 0x79040 + 0x1000 * (ch / 8) + 0x80 * (ch % 8) + 0x30

-- Page MEM
def MEM_ZSTAT_DONE : Fld := ⟨0x7040, 31, 1⟩
def MEM_ZSTAT_FAIL : Fld := ⟨0x7040, 30, 1⟩
def MEM_ZSTAT_MEMID : Fld := ⟨0x7040, 0, 7⟩
def MEM_ZTIME_US : Fld := ⟨0x7044, 0, 32⟩
def MEM_INJ_ARM : Fld := ⟨0x7048, 31, 1⟩
def MEM_INJ_DONE : Fld := ⟨0x7048, 30, 1⟩
def MEM_INJ_REFUSED : Fld := ⟨0x7048, 29, 1⟩
def MEM_INJ_REGION : Fld := ⟨0x7048, 8, 3⟩
def MEM_INJ_MEMID : Fld := ⟨0x7048, 0, 7⟩
def MEM_FLIP0_DATA : Fld := ⟨0x704C, 0, 32⟩
def MEM_FLIP1_DATA : Fld := ⟨0x7050, 0, 32⟩
def MEM_FLIP2_CHK : Fld := ⟨0x7054, 0, 8⟩
def MEM_INJADDR_WORD : Fld := ⟨0x7058, 0, 32⟩
def MEM_UELAST_VALID : Fld := ⟨0x705C, 31, 1⟩
def MEM_UELAST_MEMID : Fld := ⟨0x705C, 0, 7⟩
def MEM_UEADDR_WORD : Fld := ⟨0x7060, 0, 32⟩
def MEM_RPADDR_PC : Fld := ⟨0x7064, 27, 5⟩
def MEM_RPADDR_SID : Fld := ⟨0x7064, 25, 2⟩
def MEM_RPADDR_BG : Fld := ⟨0x7064, 23, 2⟩
def MEM_RPADDR_BA : Fld := ⟨0x7064, 21, 2⟩
def MEM_RPADDR_ROW : Fld := ⟨0x7064, 0, 14⟩
def MEM_RPCMD_GO : Fld := ⟨0x7068, 31, 1⟩
def MEM_RPCMD_OP : Fld := ⟨0x7068, 0, 1⟩
def MEM_RPSTAT_BUSY : Fld := ⟨0x706C, 31, 1⟩
def MEM_RPSTAT_CAUSE : Fld := ⟨0x706C, 24, 4⟩
def MEM_RPSTAT_SOFT : Fld := ⟨0x706C, 16, 8⟩
def MEM_FREP_HBM : Fld := ⟨0x7080, 16, 16⟩
def MEM_FREP_SRAM : Fld := ⟨0x7080, 0, 16⟩
def MEM_SCRUB_PASSES : Fld := ⟨0x7084, 0, 32⟩

-- Page MEMx
def MEMx_BKT_INC (m : Nat) : Fld := ⟨0x8040 + 0x1000 * (m / 32) + 0x20 * (m % 32) + 0x0, 24, 8⟩
def MEMx_BKT_THR (m : Nat) : Fld := ⟨0x8040 + 0x1000 * (m / 32) + 0x20 * (m % 32) + 0x0, 0, 16⟩
def MEMx_LEAK_MS (m : Nat) : Fld := ⟨0x8040 + 0x1000 * (m / 32) + 0x20 * (m % 32) + 0x4, 0, 16⟩
def MEMx_LVL_OVF (m : Nat) : Fld := ⟨0x8040 + 0x1000 * (m / 32) + 0x20 * (m % 32) + 0x8, 16, 16⟩
def MEMx_LVL_LEVEL (m : Nat) : Fld := ⟨0x8040 + 0x1000 * (m / 32) + 0x20 * (m % 32) + 0x8, 0, 16⟩
def MEMx_CE_COUNT (m : Nat) : Fld := ⟨0x8040 + 0x1000 * (m / 32) + 0x20 * (m % 32) + 0xC, 0, 32⟩
def MEMx_UE_COUNT (m : Nat) : Fld := ⟨0x8040 + 0x1000 * (m / 32) + 0x20 * (m % 32) + 0x10, 0, 32⟩
def MEMx_CROW_ROW (m : Nat) : Fld := ⟨0x8040 + 0x1000 * (m / 32) + 0x20 * (m % 32) + 0x14, 0, 32⟩
def MEMx_CADDR_WORD (m : Nat) : Fld := ⟨0x8040 + 0x1000 * (m / 32) + 0x20 * (m % 32) + 0x18, 0, 32⟩
def MEMx_INFO_DOMAIN (m : Nat) : Fld := ⟨0x8040 + 0x1000 * (m / 32) + 0x20 * (m % 32) + 0x1C, 8, 8⟩
def MEMx_INFO_TYPE (m : Nat) : Fld := ⟨0x8040 + 0x1000 * (m / 32) + 0x20 * (m % 32) + 0x1C, 0, 8⟩

-- Page MEMxP
def MEMx_OVF_SLOT (i : Nat) : Fld := ⟨0x8440 + 0x1000 * i, 0, 32⟩

-- Page FWA
def FWA_ACTIVE_VER_VERSION : Fld := ⟨0xC040, 0, 32⟩
def FWA_BANK_RECSRC : Fld := ⟨0xC044, 16, 2⟩
def FWA_BANK_RECACT : Fld := ⟨0xC044, 8, 1⟩
def FWA_BANK_EXEC : Fld := ⟨0xC044, 0, 1⟩
def FWA_RECSEQ_SEQ : Fld := ⟨0xC048, 0, 32⟩
def FWA_OPADDR_BANK : Fld := ⟨0xC054, 16, 1⟩
def FWA_OPADDR_BLOCK : Fld := ⟨0xC054, 6, 10⟩
def FWA_OPADDR_PAGE : Fld := ⟨0xC054, 0, 6⟩
def FWA_OPCMD_GO : Fld := ⟨0xC058, 31, 1⟩
def FWA_OPCMD_OP : Fld := ⟨0xC058, 0, 2⟩
def FWA_OPSTAT_BUSY : Fld := ⟨0xC05C, 31, 1⟩
def FWA_OPSTAT_SUSP : Fld := ⟨0xC05C, 30, 1⟩
def FWA_OPSTAT_CODE : Fld := ⟨0xC05C, 0, 4⟩
def FWA_DIDX_IDX : Fld := ⟨0xC060, 0, 10⟩
def FWA_DATA_WORD : Fld := ⟨0xC064, 0, 32⟩
def FWA_PCMD_GO : Fld := ⟨0xC078, 31, 1⟩
def FWA_PCMD_REGION : Fld := ⟨0xC078, 8, 4⟩
def FWA_PCMD_BANK : Fld := ⟨0xC078, 6, 1⟩
def FWA_PCMD_OP : Fld := ⟨0xC078, 0, 3⟩
def FWA_PSTAT_BUSY : Fld := ⟨0xC07C, 31, 1⟩
def FWA_PSTAT_RESULT : Fld := ⟨0xC07C, 0, 4⟩
def FWA_LOCK_REGIONS : Fld := ⟨0xC080, 0, 32⟩
def FWA_OPEN_REGIONS : Fld := ⟨0xC084, 0, 32⟩
def FWA_BLOCKED_REGIONS : Fld := ⟨0xC088, 0, 32⟩
def FWA_KEYS_TRUSTED : Fld := ⟨0xC08C, 0, 4⟩
def FWA_BAD_BANKS : Fld := ⟨0xC090, 0, 2⟩

-- Page FWU
def FWU_STATE_MIGPEND : Fld := ⟨0xD040, 16, 1⟩
def FWU_STATE_TARGET : Fld := ⟨0xD040, 8, 1⟩
def FWU_STATE_STATE : Fld := ⟨0xD040, 0, 3⟩
def FWU_NEXT_LBA : Fld := ⟨0xD044, 0, 16⟩
def FWU_LEN_UNITS : Fld := ⟨0xD048, 0, 16⟩
def FWU_VER_VERSION : Fld := ⟨0xD04C, 0, 32⟩
def FWU_FVER_FVMIN : Fld := ⟨0xD050, 16, 16⟩
def FWU_FVER_FVER : Fld := ⟨0xD050, 0, 16⟩
def FWU_MFVER_FVER : Fld := ⟨0xD054, 0, 16⟩
def FWU_REFUSE_VALID : Fld := ⟨0xD058, 31, 1⟩
def FWU_REFUSE_OPC : Fld := ⟨0xD058, 8, 8⟩
def FWU_REFUSE_CAUSE : Fld := ⟨0xD058, 0, 8⟩
def FWU_EMIN_MJ : Fld := ⟨0xD05C, 0, 20⟩
def FWU_KEYIDX_VALID : Fld := ⟨0xD060, 8, 1⟩
def FWU_KEYIDX_SLOT : Fld := ⟨0xD060, 0, 2⟩
def FWU_TACT_US : Fld := ⟨0xD064, 0, 32⟩
def FWU_MIGT_MS : Fld := ⟨0xD068, 0, 32⟩
def FWU_MIGPROG_PERMILLE : Fld := ⟨0xD06C, 0, 10⟩

-- Page THM
def THM_HOT_SRC : Fld := ⟨0x4068, 16, 4⟩
def THM_HOT_T : Fld := ⟨0x4068, 0, 16⟩
def THM_PEAK_SRC : Fld := ⟨0x406C, 16, 4⟩
def THM_PEAK_T : Fld := ⟨0x406C, 0, 16⟩
def THM_WARN_T : Fld := ⟨0x4070, 0, 16⟩
def THM_TRIP_T : Fld := ⟨0x4074, 0, 16⟩

-- Page ADMIN
def ADMIN_PROG_BUSY : Fld := ⟨0x7D040, 31, 1⟩
def ADMIN_PROG_RESUMED : Fld := ⟨0x7D040, 30, 1⟩
def ADMIN_PROG_OP : Fld := ⟨0x7D040, 27, 3⟩
def ADMIN_PROG_REINIT : Fld := ⟨0x7D040, 26, 1⟩
def ADMIN_PROG_STEP : Fld := ⟨0x7D040, 22, 4⟩
def ADMIN_PROG_VOL : Fld := ⟨0x7D040, 16, 6⟩
def ADMIN_PROG_PERMILLE : Fld := ⟨0x7D040, 0, 10⟩
def ADMIN_TEST_S : Fld := ⟨0x7D044, 0, 32⟩
def ADMIN_LAST_VALID : Fld := ⟨0x7D048, 31, 1⟩
def ADMIN_LAST_OP : Fld := ⟨0x7D048, 27, 4⟩
def ADMIN_LAST_STATUS : Fld := ⟨0x7D048, 0, 16⟩
def ADMIN_TDONE_MS : Fld := ⟨0x7D04C, 0, 32⟩

-- Page LOG
def LOG_START_NUM : Fld := ⟨0x7E040, 0, 32⟩
def LOG_NEXT_N : Fld := ⟨0x7E044, 0, 32⟩
def LOG_HELD_COUNT : Fld := ⟨0x7E048, 0, 32⟩
def LOG_PEND_COUNT : Fld := ⟨0x7E04C, 0, 32⟩
def LOG_LOST_COUNT : Fld := ⟨0x7E050, 0, 32⟩
def LOG_SEVTHR_SEV : Fld := ⟨0x7E054, 0, 2⟩
def PRT_EVTVEC_VEC (p : Nat) : Fld := ⟨0x10000 + 0x1000 * p + 0x44, 0, 11⟩
def GLB_TIME : Nat := 0x150
def THM_TEMP (n : Nat) : Fld := ⟨0x4040 + 4 * n, 0, 16⟩
def STK_FAULT (n : Nat) : Fld := ⟨0x19058 + 4 * n, 0, 32⟩
def LDPC_HIST (n : Nat) : Fld := ⟨0x2806C + 4 * n, 0, 32⟩
def BUF_BASE (n : Nat) : Fld := ⟨0x1F040 + 8 * n, 0, 9⟩
def BUF_SIZE (n : Nat) : Fld := ⟨0x1F044 + 8 * n, 0, 9⟩
def ADM_ENDED (n : Nat) : Fld := ⟨0x13080 + 4 * n, 0, 32⟩
def MEM_HRLEFT (n : Nat) : Fld := ⟨0x7070 + 4 * n, 0, 32⟩
def PWR_EXIT (n : Nat) : Fld := ⟨0x2064 + 4 * n, 0, 32⟩
def FWA_BVER (n : Nat) : Fld := ⟨0xC04C + 4 * n, 0, 32⟩
def FWA_PWD (n : Nat) : Fld := ⟨0xC068 + 4 * n, 0, 16⟩
def PRT_LSTAT_UP (p n : Nat) : Fld := ⟨0x10050 + 0x1000 * p + 4 * n, 31, 1⟩
def PRT_LSTAT_FLIT (p n : Nat) : Fld := ⟨0x10050 + 0x1000 * p + 4 * n, 30, 1⟩
def PRT_LSTAT_L0P (p n : Nat) : Fld := ⟨0x10050 + 0x1000 * p + 4 * n, 29, 1⟩
def PRT_LSTAT_L1 (p n : Nat) : Fld := ⟨0x10050 + 0x1000 * p + 4 * n, 28, 1⟩
def PRT_LSTAT_VFS (p n : Nat) : Fld := ⟨0x10050 + 0x1000 * p + 4 * n, 16, 8⟩
def PRT_LSTAT_MPS (p n : Nat) : Fld := ⟨0x10050 + 0x1000 * p + 4 * n, 12, 4⟩
def PRT_LSTAT_SPEED (p n : Nat) : Fld := ⟨0x10050 + 0x1000 * p + 4 * n, 8, 4⟩
def PRT_LSTAT_WIDTH (p n : Nat) : Fld := ⟨0x10050 + 0x1000 * p + 4 * n, 0, 5⟩
def PRT_RATE_RATE (p n : Nat) : Fld := ⟨0x10060 + 0x1000 * p + 4 * n, 0, 16⟩
def STKT_CH_EN (n : Nat) : Fld := ⟨0x1E040 + 4 * n, 31, 1⟩
def STKT_CH_LOOP (n : Nat) : Fld := ⟨0x1E040 + 4 * n, 8, 7⟩
def STKT_CH_NODE (n : Nat) : Fld := ⟨0x1E040 + 4 * n, 0, 4⟩

end F

end Sys2Proof.Machine
end

