-- ==== Sys2Proof/Machine/RegMap.lean ====
section
/-!
DEFINITION. The register map: for every word of the register space that the register index names (R451, R455), which of
its bits are of which kind (R9, R50) and what they reset to, from the register tables of the chapters. Reset bits the
tables give as HW are 0 here; the event that sets them is the meaning of a command.
-/
namespace Sys2Proof.Machine

/-- One register word: offset within its page or slot, the masks of the kinds of R50, the reset value, and its place in
a 64-bit pair (0 none, 1 the _LO word, 2 the _HI word, R51). A bit in no mask is reserved (R70). -/
structure RegRow where
  off : Nat
  rw : Word
  ro : Word
  sh : Word
  tv : Word
  w1c : Word
  w1s : Word
  wo1 : Word
  reset : Word
  pair : Nat
  deriving DecidableEq, Repr

namespace Rows

def glb : List RegRow := [
  ⟨0x40, 0x0, 0xFF000F, 0x0, 0x0, 0x0, 0x0, 0x0, 0x0, 0⟩, -- GLB_DEVID
  ⟨0x80, 0x0, 0x0, 0x7, 0x7, 0x0, 0x0, 0x0, 0x0, 0⟩, -- GLB_MODE
  ⟨0x84, 0x0, 0x10F1F, 0x0, 0x0, 0x0, 0x0, 0x0, 0xF, 0⟩, -- GLB_STAT
  ⟨0x88, 0x0, 0xFFFFFFFF, 0x0, 0x0, 0x0, 0x0, 0x0, 0x0, 0⟩, -- GLB_MODET
  ⟨0x100, 0x0, 0x0, 0x0, 0x0, 0x0, 0xFF, 0x0, 0x0, 0⟩, -- GLB_CATCH
  ⟨0x104, 0x0, 0xFFFF, 0x0, 0x0, 0x0, 0x0, 0x0, 0xFF, 0⟩, -- GLB_CATCH_DONE
  ⟨0x108, 0x0, 0x7FFFFFFF, 0x0, 0x0, 0x80000000, 0x0, 0x0, 0x0, 0⟩, -- GLB_OFFACC
  ⟨0x10C, 0x0, 0xFFFF, 0x0, 0x0, 0x0, 0x0, 0x0, 0x0, 0⟩, -- GLB_OFFACC_CNT
  ⟨0x120, 0x0, 0xFFFFFFFF, 0x0, 0x0, 0x0, 0x0, 0x0, 0x0, 0⟩, -- GLB_EVTSUM0
  ⟨0x124, 0x0, 0xFFFFFFFF, 0x0, 0x0, 0x0, 0x0, 0x0, 0x0, 0⟩, -- GLB_EVTSUM1
  ⟨0x128, 0x0, 0xFFFFFFFF, 0x0, 0x0, 0x0, 0x0, 0x0, 0x0, 0⟩, -- GLB_EVTSUM2
  ⟨0x12C, 0x0, 0xFFFFFFFF, 0x0, 0x0, 0x0, 0x0, 0x0, 0x0, 0⟩, -- GLB_EVTSUM3
  ⟨0x130, 0x0, 0xFFFFFFFF, 0x0, 0x0, 0x0, 0x0, 0x0, 0x0, 0⟩, -- GLB_EVTSUM4
  ⟨0x134, 0x0, 0xFFFFFFFF, 0x0, 0x0, 0x0, 0x0, 0x0, 0x0, 0⟩, -- GLB_EVTSUM5
  ⟨0x138, 0x0, 0xFFFFFFFF, 0x0, 0x0, 0x0, 0x0, 0x0, 0x0, 0⟩, -- GLB_EVTSUM6
  ⟨0x13C, 0x0, 0xFFFFFFFF, 0x0, 0x0, 0x0, 0x0, 0x0, 0x0, 0⟩, -- GLB_EVTSUM7
  ⟨0x140, 0x0, 0x1F, 0x0, 0x0, 0x0, 0x0, 0x0, 0x0, 0⟩, -- GLB_STRAP
  ⟨0x144, 0x0, 0xFFF, 0x0, 0x0, 0x0, 0x0, 0x0, 0x1, 0⟩, -- GLB_BOOT
  ⟨0x148, 0x0, 0x3FFFFF, 0x0, 0x0, 0x0, 0x0, 0x0, 0x0, 0⟩, -- GLB_RSTCAUSE
  ⟨0x14C, 0x0, 0xFFFFFFFF, 0x0, 0x0, 0x0, 0x0, 0x0, 0x0, 0⟩, -- GLB_READYT
  ⟨0x150, 0x0, 0xFFFFFFFF, 0x0, 0x0, 0x0, 0x0, 0x0, 0x0, 1⟩, -- GLB_TIME_LO
  ⟨0x154, 0x0, 0xFFFFFFFF, 0x0, 0x0, 0x0, 0x0, 0x0, 0x0, 2⟩, -- GLB_TIME_HI
  ⟨0x160, 0x0, 0x0, 0x0, 0x1, 0x0, 0x0, 0x1, 0x0, 0⟩ -- GLB_UPDLOCK
  ]

def pwr : List RegRow := [
  ⟨0x40, 0x11F, 0x80000000, 0x0, 0x0, 0x0, 0x10000, 0x0, 0x0, 0⟩, -- PWR_DOMCMD
  ⟨0x44, 0x0, 0x3FFFFFFF, 0x0, 0x0, 0x0, 0x0, 0x0, 0x0, 0⟩, -- PWR_DOMSTAT
  ⟨0x48, 0x0, 0x3FFFFFFF, 0x0, 0x0, 0x0, 0x0, 0x0, 0x0, 0⟩, -- PWR_DOMHOST
  ⟨0x4C, 0x0, 0x1FFF0000, 0x0, 0x0, 0x80000000, 0x0, 0x0, 0x0, 0⟩, -- PWR_DOMERR
  ⟨0x50, 0x0, 0x3FFF, 0x0, 0x0, 0x0, 0x0, 0x0, 0x0, 0⟩, -- PWR_RAIL
  ⟨0x54, 0x0, 0x0, 0x0, 0x0, 0x3FFF, 0x0, 0x0, 0x0, 0⟩, -- PWR_RAILLOST
  ⟨0x58, 0x0, 0x0, 0x7, 0x0, 0x0, 0x0, 0x0, 0x7, 0⟩, -- PWR_PSEN
  ⟨0x5C, 0x0, 0x0, 0xFFFF, 0x0, 0x0, 0x0, 0x0, 0x3E8, 0⟩, -- PWR_IDLE1
  ⟨0x60, 0x0, 0x0, 0xFFFF, 0x0, 0x0, 0x0, 0x0, 0x64, 0⟩, -- PWR_IDLE2
  ⟨0x64, 0x0, 0x0, 0xFFFF, 0x0, 0x0, 0x0, 0x0, 0x3E8, 0⟩, -- PWR_IDLE3
  ⟨0x68, 0x0, 0xFFFFFFFF, 0x0, 0x0, 0x0, 0x0, 0x0, 0x28, 0⟩, -- PWR_EXIT1
  ⟨0x6C, 0x0, 0xFFFFFFFF, 0x0, 0x0, 0x0, 0x0, 0x0, 0x7D0, 0⟩, -- PWR_EXIT2
  ⟨0x70, 0x0, 0xFFFFFFFF, 0x0, 0x0, 0x0, 0x0, 0x0, 0x4E20, 0⟩, -- PWR_EXIT3
  ⟨0x74, 0x2, 0x0, 0x0, 0x0, 0x0, 0x1, 0x0, 0x0, 0⟩, -- PWR_PSCTL
  ⟨0x78, 0x0, 0xF33, 0x0, 0x0, 0x0, 0x0, 0x0, 0x0, 0⟩ -- PWR_PSTAT
  ]

def clk : List RegRow := [
  ⟨0x40, 0x0, 0x0, 0x7FFF, 0x0, 0x0, 0x0, 0x0, 0x0, 0⟩, -- CLK_SSC_CORE
  ⟨0x44, 0x0, 0x0, 0x3FFFFFFF, 0x0, 0x0, 0x0, 0x0, 0x0, 0⟩, -- CLK_SSC_CHG0
  ⟨0x48, 0x0, 0x0, 0x3FFFF, 0x0, 0x0, 0x0, 0x0, 0x0, 0⟩, -- CLK_SSC_CHG1
  ⟨0x4C, 0x0, 0x81FFFFFF, 0x0, 0x0, 0x0, 0x0, 0x0, 0x0, 0⟩ -- CLK_STAT
  ]

def cfg : List RegRow := [
  ⟨0x40, 0x0, 0xF70, 0x0, 0x0, 0x0, 0x3, 0x0, 0x0, 0⟩, -- CFG_GATE
  ⟨0x44, 0xFFFFFFFF, 0x0, 0x0, 0x0, 0x0, 0x0, 0x0, 0x0, 0⟩, -- CFG_SUM
  ⟨0x48, 0x0, 0xFFFF, 0x0, 0x0, 0x0, 0x0, 0x0, 0x0, 0⟩, -- CFG_REASON
  ⟨0x4C, 0x0, 0x800FFFFF, 0x0, 0x0, 0x0, 0x0, 0x0, 0x0, 0⟩, -- CFG_WHERE
  ⟨0x50, 0x0, 0xFFFFFFFF, 0x0, 0x0, 0x0, 0x0, 0x0, 0x0, 0⟩, -- CFG_CALC
  ⟨0x54, 0x0, 0xFFFF, 0x0, 0x0, 0x0, 0x0, 0x0, 0x0, 0⟩, -- CFG_WORDS
  ⟨0x58, 0x0, 0x0, 0x1, 0x0, 0x0, 0x0, 0x0, 0x0, 0⟩, -- CFG_CTRL
  ⟨0x5C, 0x0, 0xFFFFFFFF, 0x0, 0x0, 0x0, 0x0, 0x0, 0x0, 0⟩ -- CFG_ACCT
  ]

def prt : List RegRow := [
  ⟨0x40, 0x3F03, 0x0, 0x0, 0x0, 0x0, 0x0, 0x0, 0xF00, 0⟩, -- PRT_LINKCFG
  ⟨0x44, 0x7FF, 0x0, 0x0, 0x0, 0x0, 0x0, 0x0, 0x0, 0⟩, -- PRT_EVTVEC
  ⟨0x50, 0x0, 0xF0FFFF1F, 0x0, 0x0, 0x0, 0x0, 0x0, 0x0, 0⟩, -- PRT_LSTAT0
  ⟨0x54, 0x0, 0xF0FFFF1F, 0x0, 0x0, 0x0, 0x0, 0x0, 0x0, 0⟩, -- PRT_LSTAT1
  ⟨0x58, 0x0, 0xF0FFFF1F, 0x0, 0x0, 0x0, 0x0, 0x0, 0x0, 0⟩, -- PRT_LSTAT2
  ⟨0x5C, 0x0, 0xF0FFFF1F, 0x0, 0x0, 0x0, 0x0, 0x0, 0x0, 0⟩, -- PRT_LSTAT3
  ⟨0x60, 0x0, 0xFFFF, 0x0, 0x0, 0x0, 0x0, 0x0, 0x0, 0⟩, -- PRT_RATE0
  ⟨0x64, 0x0, 0xFFFF, 0x0, 0x0, 0x0, 0x0, 0x0, 0x0, 0⟩, -- PRT_RATE1
  ⟨0x68, 0x0, 0xFFFF, 0x0, 0x0, 0x0, 0x0, 0x0, 0x0, 0⟩, -- PRT_RATE2
  ⟨0x6C, 0x0, 0xFFFF, 0x0, 0x0, 0x0, 0x0, 0x0, 0x0, 0⟩ -- PRT_RATE3
  ]

def seat : List RegRow := [
  ⟨0x40, 0x0, 0xFFFFFFFF, 0x0, 0x0, 0x0, 0x0, 0x0, 0x0, 0⟩, -- SEAT_ATT0
  ⟨0x44, 0x0, 0xFFFFFFFF, 0x0, 0x0, 0x0, 0x0, 0x0, 0x0, 0⟩, -- SEAT_ATT1
  ⟨0x48, 0x0, 0xFFFFFFFF, 0x0, 0x0, 0x0, 0x0, 0x0, 0x0, 0⟩, -- SEAT_ATT2
  ⟨0x4C, 0x0, 0xFFFFFFFF, 0x0, 0x0, 0x0, 0x0, 0x0, 0x0, 0⟩, -- SEAT_ATT3
  ⟨0x50, 0x0, 0xFFFFFFFF, 0x0, 0x0, 0x0, 0x0, 0x0, 0x0, 0⟩, -- SEAT_ATT4
  ⟨0x54, 0x0, 0xFFFFFFFF, 0x0, 0x0, 0x0, 0x0, 0x0, 0x0, 0⟩, -- SEAT_ATT5
  ⟨0x58, 0x0, 0xFFFFFFFF, 0x0, 0x0, 0x0, 0x0, 0x0, 0x0, 0⟩, -- SEAT_ATT6
  ⟨0x5C, 0x0, 0xFFFFFFFF, 0x0, 0x0, 0x0, 0x0, 0x0, 0x0, 0⟩, -- SEAT_ATT7
  ⟨0x60, 0x0, 0xFFFFFFFF, 0x0, 0x0, 0x0, 0x0, 0x0, 0x0, 0⟩, -- SEAT_ATT8
  ⟨0x64, 0x0, 0xFFFFFFFF, 0x0, 0x0, 0x0, 0x0, 0x0, 0x0, 0⟩, -- SEAT_ATT9
  ⟨0x68, 0x0, 0xFFFFFFFF, 0x0, 0x0, 0x0, 0x0, 0x0, 0x0, 0⟩, -- SEAT_ATT10
  ⟨0x6C, 0x0, 0xFFFFFFFF, 0x0, 0x0, 0x0, 0x0, 0x0, 0x0, 0⟩, -- SEAT_ATT11
  ⟨0x70, 0x0, 0xFFFFFFFF, 0x0, 0x0, 0x0, 0x0, 0x0, 0x0, 0⟩, -- SEAT_ATT12
  ⟨0x74, 0x0, 0xFFFFFFFF, 0x0, 0x0, 0x0, 0x0, 0x0, 0x0, 0⟩, -- SEAT_ATT13
  ⟨0x78, 0x0, 0xFFFFFFFF, 0x0, 0x0, 0x0, 0x0, 0x0, 0x0, 0⟩, -- SEAT_ATT14
  ⟨0x7C, 0x0, 0xFFFFFFFF, 0x0, 0x0, 0x0, 0x0, 0x0, 0x0, 0⟩, -- SEAT_ATT15
  ⟨0x80, 0x1FF, 0x0, 0x0, 0x0, 0x0, 0x0, 0x0, 0x0, 0⟩, -- SEAT_SEL
  ⟨0x84, 0x0, 0xFFFFE7FF, 0x0, 0x0, 0x0, 0x0, 0x0, 0x0, 0⟩, -- SEAT_INFO
  ⟨0x88, 0x0, 0xFF03FF, 0x0, 0x0, 0x0, 0x0, 0x0, 0x0, 0⟩, -- SEAT_INFO2
  ⟨0x8C, 0x0, 0x3FF03FF, 0x0, 0x0, 0x0, 0x0, 0x0, 0x0, 0⟩, -- SEAT_CNT
  ⟨0x90, 0x1FF, 0x0, 0x0, 0x0, 0x0, 0x80000000, 0x0, 0x0, 0⟩ -- SEAT_KICK
  ]

def adm : List RegRow := [
  ⟨0x40, 0x0, 0xFFFFFF, 0x0, 0x0, 0x0, 0x0, 0x0, 0x0, 0⟩, -- ADM_RCAP
  ⟨0x44, 0x0, 0xFFFFFF, 0x0, 0x0, 0x0, 0x0, 0x0, 0x0, 0⟩, -- ADM_RMODE
  ⟨0x48, 0x0, 0xFFFFFF, 0x0, 0x0, 0x0, 0x0, 0x0, 0x0, 0⟩, -- ADM_RMEDIA
  ⟨0x4C, 0x0, 0xFFFFFF, 0x0, 0x0, 0x0, 0x0, 0x0, 0xFFFFFF, 0⟩, -- ADM_RPOWER
  ⟨0x50, 0x0, 0xFFFFFF, 0x0, 0x0, 0x0, 0x0, 0x0, 0x0, 0⟩, -- ADM_RCRYPTO
  ⟨0x54, 0x0, 0xFFFFFF, 0x0, 0x0, 0x0, 0x0, 0x0, 0x0, 0⟩, -- ADM_SUMR
  ⟨0x58, 0x0, 0xFFFFFFFF, 0x0, 0x0, 0x0, 0x0, 0x0, 0x0, 0⟩, -- ADM_DCEIL
  ⟨0x5C, 0x0, 0xFFFFFFFF, 0x0, 0x0, 0x0, 0x0, 0x0, 0x0, 0⟩, -- ADM_BSUM
  ⟨0x60, 0x0, 0xFFFFFFFF, 0x0, 0x0, 0x0, 0x0, 0x0, 0x0, 0⟩, -- ADM_FREE
  ⟨0x64, 0x0, 0xFFFFFFFF, 0x0, 0x0, 0x0, 0x0, 0x0, 0x0, 0⟩, -- ADM_TSUM
  ⟨0x68, 0x0, 0x3F1FFF, 0x0, 0x0, 0x0, 0x0, 0x0, 0x0, 0⟩, -- ADM_NLUN
  ⟨0x6C, 0x0, 0x7F7F, 0x0, 0x0, 0x0, 0x0, 0x0, 0x0, 0⟩, -- ADM_COUNT
  ⟨0x70, 0x0, 0x1FF000F, 0x0, 0x0, 0x80000000, 0x0, 0x0, 0x0, 0⟩, -- ADM_LAST
  ⟨0x74, 0x7, 0x0, 0x0, 0x0, 0x0, 0x0, 0x0, 0x0, 0⟩, -- ADM_LSEL
  ⟨0x78, 0x0, 0xFFFFFF, 0x0, 0x0, 0x0, 0x0, 0x0, 0x0, 0⟩, -- ADM_LSUMR
  ⟨0x7C, 0x0, 0xFFFFFFFF, 0x0, 0x0, 0x0, 0x0, 0x0, 0x0, 0⟩, -- ADM_LBACK
  ⟨0x80, 0x0, 0x0, 0x0, 0x0, 0xFFFFFFFF, 0x0, 0x0, 0x0, 0⟩, -- ADM_ENDED0
  ⟨0x84, 0x0, 0x0, 0x0, 0x0, 0xFFFFFFFF, 0x0, 0x0, 0x0, 0⟩, -- ADM_ENDED1
  ⟨0x88, 0x0, 0x71FF803F, 0x0, 0x0, 0x80000000, 0x0, 0x0, 0x0, 0⟩ -- ADM_ENDLAST
  ]

def strm : List RegRow := [
  ⟨0x40, 0x0, 0xFF3F01FF, 0x0, 0x73F0000, 0x0, 0x0, 0x0, 0x0, 0⟩, -- STRM_STAT
  ⟨0x44, 0x0, 0xFFFFFF, 0x0, 0xFFFFFF, 0x0, 0x0, 0x0, 0x0, 0⟩, -- STRM_CONTRACT
  ⟨0x48, 0x0, 0xFFFFFF, 0x0, 0xFFFFFF, 0x0, 0x0, 0x0, 0x0, 0⟩, -- STRM_BURST
  ⟨0x4C, 0x0, 0xFFFF, 0x0, 0xFFFF, 0x0, 0x0, 0x0, 0x0, 0⟩, -- STRM_TMIN
  ⟨0x50, 0x0, 0xFFFFFFFF, 0x0, 0x0, 0x0, 0x0, 0x0, 0x0, 1⟩, -- STRM_HORIZON_LO
  ⟨0x54, 0x0, 0xFFFFFFFF, 0x0, 0x0, 0x0, 0x0, 0x0, 0x0, 2⟩, -- STRM_HORIZON_HI
  ⟨0x58, 0x1F, 0x0, 0x0, 0x0, 0x0, 0x0, 0x0, 0x0, 0⟩, -- STRM_CTL
  ⟨0x5C, 0x0, 0xFFFFFFFF, 0x0, 0x0, 0x0, 0x0, 0x0, 0x0, 0⟩, -- STRM_LCPL
  ⟨0x60, 0x0, 0xFFFFFFFF, 0x0, 0x0, 0x0, 0x0, 0x0, 0x0, 0⟩, -- STRM_LCOM
  ⟨0x64, 0x0, 0xFFFFFFFF, 0x0, 0x0, 0x0, 0x0, 0x0, 0x0, 0⟩, -- STRM_TOKEN
  ⟨0x68, 0x0, 0xFFFFFFFF, 0x0, 0x0, 0x0, 0x0, 0x0, 0x0, 1⟩, -- STRM_DONE_LO
  ⟨0x6C, 0x0, 0xFFFFFFFF, 0x0, 0x0, 0x0, 0x0, 0x0, 0x0, 2⟩, -- STRM_DONE_HI
  ⟨0x70, 0x0, 0xFFFFFFFF, 0x0, 0x0, 0x0, 0x0, 0x0, 0x0, 0⟩, -- STRM_ADMT
  ⟨0x74, 0x0, 0xFFFFFFFF, 0x0, 0x0, 0x0, 0x0, 0x0, 0x0, 0⟩, -- STRM_OVER
  ⟨0x78, 0x0, 0xFFFFFFFF, 0x0, 0x0, 0x0, 0x0, 0x0, 0x0, 0⟩, -- STRM_DEMT
  ⟨0x7C, 0x0, 0xFFFFFFFF, 0x0, 0x0, 0x0, 0x0, 0x0, 0x0, 0⟩ -- STRM_ASEQ
  ]

def cox : List RegRow := [
  ⟨0x40, 0x0, 0x0, 0x1071F, 0x0, 0x0, 0x0, 0x0, 0x20C, 0⟩, -- COX_POLICY
  ⟨0x44, 0x0, 0x0, 0x7FF, 0x0, 0x0, 0x0, 0x0, 0x40, 0⟩, -- COX_DCAP
  ⟨0x48, 0x0, 0xC0000000, 0x0, 0x0, 0x0, 0x0, 0x0, 0x0, 0⟩, -- COX_STAT
  ⟨0x50, 0x0, 0xFFFFFFFF, 0x0, 0x0, 0x0, 0x0, 0x0, 0x0, 1⟩, -- COX_SLOT_LO
  ⟨0x54, 0x0, 0xFFFFFFFF, 0x0, 0x0, 0x0, 0x0, 0x0, 0x0, 2⟩, -- COX_SLOT_HI
  ⟨0x58, 0x0, 0xFFFFFFFF, 0x0, 0x0, 0x0, 0x0, 0x0, 0x0, 0⟩, -- COX_ESUSP
  ⟨0x5C, 0x0, 0xFFFFFFFF, 0x0, 0x0, 0x0, 0x0, 0x0, 0x0, 0⟩, -- COX_ESLIM
  ⟨0x60, 0xFFF, 0x0, 0x0, 0x0, 0x0, 0x0, 0x0, 0x0, 0⟩, -- COX_LSEL
  ⟨0x64, 0x0, 0xE7F00000, 0x0, 0x0, 0x0, 0x0, 0x0, 0x0, 0⟩, -- COX_LINFO
  ⟨0x68, 0x3F, 0x0, 0x0, 0x0, 0x0, 0x0, 0x0, 0x0, 0⟩, -- COX_DSEL
  ⟨0x6C, 0x0, 0xFFFFFFFF, 0x0, 0x0, 0x0, 0x0, 0x0, 0x0, 0⟩ -- COX_DVAL
  ]

def stk : List RegRow := [
  ⟨0x40, 0x0, 0x0, 0xFF, 0x0, 0x0, 0x0, 0x0, 0x14, 0⟩, -- STK_TS
  ⟨0x44, 0x0, 0x0, 0x1FFFF, 0x1FFFF, 0x0, 0x0, 0x0, 0x109A0, 0⟩, -- STK_PCAP
  ⟨0x48, 0x0, 0x0, 0xFFFFFF, 0x0, 0x0, 0x0, 0x0, 0x320064, 0⟩, -- STK_PUB
  ⟨0x4C, 0x0, 0x0, 0x3, 0x0, 0x0, 0x0, 0x0, 0x3, 0⟩, -- STK_CTL
  ⟨0x50, 0x0, 0x1FFFF, 0x0, 0x0, 0x0, 0x0, 0x0, 0x0, 0⟩, -- STK_PMEAS
  ⟨0x54, 0x0, 0x3FFFFFF, 0x0, 0x0, 0x0, 0x0, 0x0, 0xFFFFFF, 0⟩, -- STK_RPWR
  ⟨0x58, 0x0, 0xFFFFFFFF, 0x0, 0x0, 0x0, 0x0, 0x0, 0x0, 0⟩, -- STK_FAULT0
  ⟨0x5C, 0x0, 0xFFFFFFFF, 0x0, 0x0, 0x0, 0x0, 0x0, 0x0, 0⟩, -- STK_FAULT1
  ⟨0x60, 0x0, 0x3, 0x0, 0x0, 0x0, 0x0, 0x0, 0x0, 0⟩, -- STK_FAULT2
  ⟨0x64, 0x0, 0xFFFFFFFF, 0x0, 0x0, 0x0, 0x0, 0x0, 0x0, 1⟩, -- STK_SCNT_LO
  ⟨0x68, 0x0, 0xFFFFFFFF, 0x0, 0x0, 0x0, 0x0, 0x0, 0x0, 2⟩ -- STK_SCNT_HI
  ]

def stkld : List RegRow := [
  ⟨0x0, 0x0, 0x383, 0x0, 0x0, 0x0, 0x0, 0x0, 0x0, 0⟩, -- STKL_CTL
  ⟨0x4, 0x0, 0x0, 0xFFFFFF, 0x0, 0x0, 0x0, 0x0, 0x8000, 0⟩, -- STKL_KP
  ⟨0x8, 0x0, 0x0, 0xFFFFFF, 0x0, 0x0, 0x0, 0x0, 0x28000, 0⟩, -- STKL_KI
  ⟨0xC, 0x0, 0xFFFFFFFF, 0x0, 0x0, 0x0, 0x0, 0x0, 0x0, 0⟩, -- STKL_SETPT
  ⟨0x10, 0x0, 0x0, 0xFFFFFFFF, 0xFFFFFFFF, 0x0, 0x0, 0x0, 0x0, 0⟩, -- STKL_IMIN
  ⟨0x14, 0x0, 0x0, 0xFFFFFFFF, 0xFFFFFFFF, 0x0, 0x0, 0x0, 0xC80000, 0⟩, -- STKL_IMAX
  ⟨0x18, 0x0, 0xFFFFFFFF, 0x0, 0xFFFFFFFF, 0x0, 0x0, 0x0, 0x0, 0⟩, -- STKL_UMIN
  ⟨0x1C, 0x0, 0x0, 0xFFFFFFFF, 0xFFFFFFFF, 0x0, 0x0, 0x0, 0xC80000, 0⟩, -- STKL_UMAX
  ⟨0x20, 0x0, 0x0, 0xFFFFFFFF, 0xFFFFFFFF, 0x0, 0x0, 0x0, 0x20000, 0⟩, -- STKL_ELIM
  ⟨0x24, 0x0, 0x0, 0xFFFFFF, 0xFFFFFF, 0x0, 0x0, 0x0, 0x2710, 0⟩, -- STKL_TFE
  ⟨0x28, 0x0, 0xFFFFFFFF, 0x0, 0x0, 0x0, 0x0, 0x0, 0x0, 0⟩, -- STKL_MEAS
  ⟨0x2C, 0x0, 0xFFFFFFFF, 0x0, 0x0, 0x0, 0x0, 0x0, 0x0, 0⟩, -- STKL_ERR
  ⟨0x30, 0x0, 0xFFFFFFFF, 0x0, 0x0, 0x0, 0x0, 0x0, 0x0, 0⟩, -- STKL_PTERM
  ⟨0x34, 0x0, 0xFFFFFFFF, 0x0, 0x0, 0x0, 0x0, 0x0, 0x0, 0⟩, -- STKL_ITERM
  ⟨0x38, 0x0, 0xFFFFFFFF, 0x0, 0x0, 0x0, 0x0, 0x0, 0x0, 0⟩, -- STKL_UOUT
  ⟨0x3C, 0x0, 0xFFFFFFFF, 0x0, 0x0, 0x0, 0x0, 0x0, 0x0, 0⟩, -- STKL_FLAGS
  ⟨0x40, 0x0, 0xFFFFFF, 0x0, 0x0, 0x0, 0x0, 0x0, 0x0, 0⟩ -- STKL_FETIME
  ]

def stklp : List RegRow := [
  ⟨0x0, 0x0, 0x383, 0x0, 0x0, 0x0, 0x0, 0x0, 0x1, 0⟩, -- STKL_CTL
  ⟨0x4, 0x0, 0x0, 0xFFFFFF, 0x0, 0x0, 0x0, 0x0, 0x20000, 0⟩, -- STKL_KP
  ⟨0x8, 0x0, 0x0, 0xFFFFFF, 0x0, 0x0, 0x0, 0x0, 0x10000, 0⟩, -- STKL_KI
  ⟨0xC, 0x0, 0xFFFFFFFF, 0x0, 0x0, 0x0, 0x0, 0x0, 0x0, 0⟩, -- STKL_SETPT
  ⟨0x10, 0x0, 0x0, 0xFFFFFFFF, 0xFFFFFFFF, 0x0, 0x0, 0x0, 0x0, 0⟩, -- STKL_IMIN
  ⟨0x14, 0x0, 0x0, 0xFFFFFFFF, 0xFFFFFFFF, 0x0, 0x0, 0x0, 0xFA0000, 0⟩, -- STKL_IMAX
  ⟨0x18, 0x0, 0x0, 0xFFFFFFFF, 0xFFFFFFFF, 0x0, 0x0, 0x0, 0x190000, 0⟩, -- STKL_UMIN
  ⟨0x1C, 0x0, 0x0, 0xFFFFFFFF, 0xFFFFFFFF, 0x0, 0x0, 0x0, 0xFA0000, 0⟩, -- STKL_UMAX
  ⟨0x20, 0x0, 0x0, 0xFFFFFFFF, 0xFFFFFFFF, 0x0, 0x0, 0x0, 0x20000, 0⟩, -- STKL_ELIM
  ⟨0x24, 0x0, 0x0, 0xFFFFFF, 0xFFFFFF, 0x0, 0x0, 0x0, 0xC350, 0⟩, -- STKL_TFE
  ⟨0x28, 0x0, 0xFFFFFFFF, 0x0, 0x0, 0x0, 0x0, 0x0, 0x0, 0⟩, -- STKL_MEAS
  ⟨0x2C, 0x0, 0xFFFFFFFF, 0x0, 0x0, 0x0, 0x0, 0x0, 0x0, 0⟩, -- STKL_ERR
  ⟨0x30, 0x0, 0xFFFFFFFF, 0x0, 0x0, 0x0, 0x0, 0x0, 0x0, 0⟩, -- STKL_PTERM
  ⟨0x34, 0x0, 0xFFFFFFFF, 0x0, 0x0, 0x0, 0x0, 0x0, 0x0, 0⟩, -- STKL_ITERM
  ⟨0x38, 0x0, 0xFFFFFFFF, 0x0, 0x0, 0x0, 0x0, 0x0, 0x0, 0⟩, -- STKL_UOUT
  ⟨0x3C, 0x0, 0xFFFFFFFF, 0x0, 0x0, 0x0, 0x0, 0x0, 0x0, 0⟩, -- STKL_FLAGS
  ⟨0x40, 0x0, 0xFFFFFF, 0x0, 0x0, 0x0, 0x0, 0x0, 0x0, 0⟩ -- STKL_FETIME
  ]

def stklt : List RegRow := [
  ⟨0x0, 0x0, 0x383, 0x0, 0x0, 0x0, 0x0, 0x0, 0x2, 0⟩, -- STKL_CTL
  ⟨0x4, 0x0, 0x0, 0xFFFFFF, 0x0, 0x0, 0x0, 0x0, 0x50000, 0⟩, -- STKL_KP
  ⟨0x8, 0x0, 0x0, 0xFFFFFF, 0x0, 0x0, 0x0, 0x0, 0xCCD, 0⟩, -- STKL_KI
  ⟨0xC, 0x0, 0x0, 0xFFFFFFFF, 0x0, 0x0, 0x0, 0x0, 0x550000, 0⟩, -- STKL_SETPT
  ⟨0x10, 0x0, 0x0, 0xFFFFFFFF, 0xFFFFFFFF, 0x0, 0x0, 0x0, 0x0, 0⟩, -- STKL_IMIN
  ⟨0x14, 0x0, 0x0, 0xFFFFFFFF, 0xFFFFFFFF, 0x0, 0x0, 0x0, 0xFA0000, 0⟩, -- STKL_IMAX
  ⟨0x18, 0x0, 0x0, 0xFFFFFFFF, 0xFFFFFFFF, 0x0, 0x0, 0x0, 0x190000, 0⟩, -- STKL_UMIN
  ⟨0x1C, 0x0, 0x0, 0xFFFFFFFF, 0xFFFFFFFF, 0x0, 0x0, 0x0, 0xFA0000, 0⟩, -- STKL_UMAX
  ⟨0x20, 0x0, 0x0, 0xFFFFFFFF, 0xFFFFFFFF, 0x0, 0x0, 0x0, 0x30000, 0⟩, -- STKL_ELIM
  ⟨0x24, 0x0, 0x0, 0xFFFFFF, 0xFFFFFF, 0x0, 0x0, 0x0, 0x1E8480, 0⟩, -- STKL_TFE
  ⟨0x28, 0x0, 0xFFFFFFFF, 0x0, 0x0, 0x0, 0x0, 0x0, 0x0, 0⟩, -- STKL_MEAS
  ⟨0x2C, 0x0, 0xFFFFFFFF, 0x0, 0x0, 0x0, 0x0, 0x0, 0x0, 0⟩, -- STKL_ERR
  ⟨0x30, 0x0, 0xFFFFFFFF, 0x0, 0x0, 0x0, 0x0, 0x0, 0x0, 0⟩, -- STKL_PTERM
  ⟨0x34, 0x0, 0xFFFFFFFF, 0x0, 0x0, 0x0, 0x0, 0x0, 0x0, 0⟩, -- STKL_ITERM
  ⟨0x38, 0x0, 0xFFFFFFFF, 0x0, 0x0, 0x0, 0x0, 0x0, 0x0, 0⟩, -- STKL_UOUT
  ⟨0x3C, 0x0, 0xFFFFFFFF, 0x0, 0x0, 0x0, 0x0, 0x0, 0x0, 0⟩, -- STKL_FLAGS
  ⟨0x40, 0x0, 0xFFFFFF, 0x0, 0x0, 0x0, 0x0, 0x0, 0x0, 0⟩ -- STKL_FETIME
  ]

def stkt : List RegRow := [
  ⟨0x40, 0x80007F0F, 0x0, 0x0, 0x0, 0x0, 0x0, 0x0, 0x0, 0⟩, -- STKT_CH0
  ⟨0x44, 0x80007F0F, 0x0, 0x0, 0x0, 0x0, 0x0, 0x0, 0x0, 0⟩, -- STKT_CH1
  ⟨0x48, 0x80007F0F, 0x0, 0x0, 0x0, 0x0, 0x0, 0x0, 0x0, 0⟩, -- STKT_CH2
  ⟨0x4C, 0x80007F0F, 0x0, 0x0, 0x0, 0x0, 0x0, 0x0, 0x0, 0⟩, -- STKT_CH3
  ⟨0x50, 0x80007F0F, 0x0, 0x0, 0x0, 0x0, 0x0, 0x0, 0x0, 0⟩, -- STKT_CH4
  ⟨0x54, 0x80007F0F, 0x0, 0x0, 0x0, 0x0, 0x0, 0x0, 0x0, 0⟩, -- STKT_CH5
  ⟨0x58, 0x80007F0F, 0x0, 0x0, 0x0, 0x0, 0x0, 0x0, 0x0, 0⟩, -- STKT_CH6
  ⟨0x5C, 0x80007F0F, 0x0, 0x0, 0x0, 0x0, 0x0, 0x0, 0x0, 0⟩, -- STKT_CH7
  ⟨0x60, 0xF7F0703, 0x0, 0x0, 0x0, 0x0, 0xE0000000, 0x0, 0x0, 0⟩, -- STKT_TRIG
  ⟨0x64, 0xFFFFFFFF, 0x0, 0x0, 0x0, 0x0, 0x0, 0x0, 0x0, 0⟩, -- STKT_LEVEL
  ⟨0x68, 0xFFF, 0x0, 0x0, 0x0, 0x0, 0x0, 0x0, 0x800, 0⟩, -- STKT_PRE
  ⟨0x6C, 0xFF, 0x0, 0x0, 0x0, 0x0, 0x0, 0x0, 0x0, 0⟩, -- STKT_DEC
  ⟨0x70, 0x0, 0x7FFF0003, 0x0, 0x0, 0x0, 0x0, 0x0, 0x0, 0⟩, -- STKT_STAT
  ⟨0x74, 0x0, 0xFFFFFFFF, 0x0, 0x0, 0x0, 0x0, 0x0, 0x0, 1⟩, -- STKT_TRIGT_LO
  ⟨0x78, 0x0, 0xFFFFFFFF, 0x0, 0x0, 0x0, 0x0, 0x0, 0x0, 2⟩, -- STKT_TRIGT_HI
  ⟨0x7C, 0x7FFF, 0x0, 0x0, 0x0, 0x0, 0x0, 0x0, 0x0, 0⟩, -- STKT_RIDX
  ⟨0x80, 0x0, 0xFFFFFFFF, 0x0, 0x0, 0x0, 0x0, 0x0, 0x0, 0⟩ -- STKT_RDATA
  ]

def buf : List RegRow := [
  ⟨0x40, 0x0, 0x0, 0x1FF, 0x0, 0x0, 0x0, 0x0, 0x0, 0⟩, -- BUF_BASE0
  ⟨0x44, 0x0, 0x0, 0x1FF, 0x0, 0x0, 0x0, 0x0, 0x0, 0⟩, -- BUF_SIZE0
  ⟨0x48, 0x0, 0x0, 0x1FF, 0x0, 0x0, 0x0, 0x0, 0x0, 0⟩, -- BUF_BASE1
  ⟨0x4C, 0x0, 0x0, 0x1FF, 0x0, 0x0, 0x0, 0x0, 0x0, 0⟩, -- BUF_SIZE1
  ⟨0x50, 0x0, 0x0, 0x1FF, 0x0, 0x0, 0x0, 0x0, 0x0, 0⟩, -- BUF_BASE2
  ⟨0x54, 0x0, 0x0, 0x1FF, 0x0, 0x0, 0x0, 0x0, 0x0, 0⟩, -- BUF_SIZE2
  ⟨0x58, 0x0, 0x0, 0x1FF, 0x0, 0x0, 0x0, 0x0, 0x0, 0⟩, -- BUF_BASE3
  ⟨0x5C, 0x0, 0x0, 0x1FF, 0x0, 0x0, 0x0, 0x0, 0x0, 0⟩, -- BUF_SIZE3
  ⟨0x60, 0x0, 0x0, 0x1FF, 0x0, 0x0, 0x0, 0x0, 0x0, 0⟩, -- BUF_BASE4
  ⟨0x64, 0x0, 0x0, 0x1FF, 0x0, 0x0, 0x0, 0x0, 0x0, 0⟩, -- BUF_SIZE4
  ⟨0x68, 0x0, 0x0, 0x1FF, 0x0, 0x0, 0x0, 0x0, 0x0, 0⟩, -- BUF_BASE5
  ⟨0x6C, 0x0, 0x0, 0x1FF, 0x0, 0x0, 0x0, 0x0, 0x0, 0⟩, -- BUF_SIZE5
  ⟨0x70, 0x0, 0xFFFFFFFF, 0x0, 0x0, 0x0, 0x0, 0x0, 0x0, 0⟩, -- BUF_DCEIL
  ⟨0x74, 0x0, 0xFFFFFFFF, 0x0, 0x0, 0x0, 0x0, 0x0, 0x0, 0⟩, -- BUF_DENRG
  ⟨0x78, 0x0, 0xFFFFFFFF, 0x0, 0x0, 0x0, 0x0, 0x0, 0x0, 0⟩, -- BUF_DEAVE
  ⟨0x7C, 0x0, 0xFFFFFFFF, 0x0, 0x0, 0x0, 0x0, 0x0, 0x0, 0⟩, -- BUF_DIRTY
  ⟨0x80, 0x0, 0x103, 0x0, 0x0, 0x0, 0x0, 0x0, 0x0, 0⟩ -- BUF_STAT
  ]

def pfl : List RegRow := [
  ⟨0x40, 0xFFFFF, 0x0, 0x0, 0xFFFFF, 0x0, 0x0, 0x0, 0x0, 0⟩, -- PFL_EHOLD
  ⟨0x44, 0x0, 0x0, 0x7, 0x0, 0x0, 0x0, 0x0, 0x2, 0⟩, -- PFL_CTL
  ⟨0x48, 0x0, 0x80000007, 0x0, 0x0, 0x0, 0x0, 0x0, 0x0, 0⟩, -- PFL_STAT
  ⟨0x4C, 0x0, 0xFFFF, 0x0, 0x0, 0x0, 0x0, 0x0, 0x12C, 0⟩, -- PFL_EC
  ⟨0x50, 0x0, 0xFFFFFF, 0x0, 0x0, 0x0, 0x0, 0x0, 0x0, 0⟩, -- PFL_RFLUSH
  ⟨0x54, 0x0, 0xFFFFFFFF, 0x0, 0x0, 0x0, 0x0, 0x0, 0x0, 0⟩, -- PFL_TFLUSH
  ⟨0x58, 0x0, 0xFFFFF, 0x0, 0x0, 0x0, 0x0, 0x0, 0x0, 0⟩, -- PFL_EMIN
  ⟨0x5C, 0x0, 0xFFFFFFFF, 0x0, 0x0, 0x0, 0x0, 0x0, 0x0, 0⟩, -- PFL_FOLD
  ⟨0x60, 0x0, 0xFFFFFFFF, 0x0, 0x0, 0x0, 0x0, 0x0, 0x0, 0⟩ -- PFL_FOLDT
  ]

def map : List RegRow := [
  ⟨0x40, 0x0, 0x0, 0xFF0F, 0x0, 0x0, 0x0, 0x0, 0x4B0A, 0⟩, -- MAP_PATCH
  ⟨0x44, 0x0, 0x7, 0x0, 0x0, 0x0, 0x0, 0x0, 0x0, 0⟩, -- MAP_STAT
  ⟨0x48, 0x0, 0xFFFFFFFF, 0x0, 0x0, 0x0, 0x0, 0x0, 0x0, 0⟩, -- MAP_PLIM
  ⟨0x4C, 0x0, 0xFFFFFFFF, 0x0, 0x0, 0x0, 0x0, 0x0, 0x0, 0⟩, -- MAP_PUSED
  ⟨0x50, 0x0, 0x3FFFFF, 0x0, 0x0, 0x0, 0x0, 0x0, 0x0, 0⟩, -- MAP_FTOT
  ⟨0x54, 0x0, 0x3FFFFF, 0x0, 0x0, 0x0, 0x0, 0x0, 0x0, 0⟩, -- MAP_FUSED
  ⟨0x58, 0xFF3F, 0x0, 0x0, 0x0, 0x0, 0x0, 0x0, 0x0, 0⟩, -- MAP_GSEL
  ⟨0x5C, 0x0, 0xFFFFFFFF, 0x0, 0x0, 0x0, 0x0, 0x0, 0x0, 0⟩, -- MAP_GCNT
  ⟨0x60, 0xFFFFFFFF, 0x0, 0x0, 0x0, 0x0, 0x0, 0x0, 0x0, 1⟩, -- MAP_QSEL_LO
  ⟨0x64, 0x3FFFFF, 0x0, 0x0, 0x0, 0x0, 0x0, 0x0, 0x0, 2⟩, -- MAP_QSEL_HI
  ⟨0x68, 0x0, 0xFFFFFFFF, 0x0, 0x0, 0x0, 0x0, 0x0, 0x0, 1⟩, -- MAP_QENT_LO
  ⟨0x6C, 0x0, 0xFFFFFFFF, 0x0, 0x0, 0x0, 0x0, 0x0, 0x0, 2⟩, -- MAP_QENT_HI
  ⟨0x70, 0x0, 0xFFFFFFFF, 0x0, 0x0, 0x0, 0x0, 0x0, 0x0, 1⟩, -- MAP_QFINE_LO
  ⟨0x74, 0x0, 0xFFFFFFFF, 0x0, 0x0, 0x0, 0x0, 0x0, 0x0, 2⟩, -- MAP_QFINE_HI
  ⟨0x78, 0x0, 0xFFFFFFFF, 0x0, 0x0, 0x0, 0x0, 0x0, 0x0, 1⟩, -- MAP_SEQ_LO
  ⟨0x7C, 0x0, 0xFFFFFFFF, 0x0, 0x0, 0x0, 0x0, 0x0, 0x0, 2⟩, -- MAP_SEQ_HI
  ⟨0x80, 0x0, 0xFFFFFFFF, 0x0, 0x0, 0x0, 0x0, 0x0, 0x0, 1⟩, -- MAP_WSEQ_LO
  ⟨0x84, 0x0, 0xFFFFFFFF, 0x0, 0x0, 0x0, 0x0, 0x0, 0x0, 2⟩ -- MAP_WSEQ_HI
  ]

def jnl : List RegRow := [
  ⟨0x40, 0x0, 0x0, 0xFF, 0x0, 0x0, 0x0, 0x0, 0x32, 0⟩, -- JNL_TJ
  ⟨0x44, 0x0, 0x8000FFFF, 0x0, 0x0, 0x0, 0x0, 0x0, 0x0, 0⟩, -- JNL_STAT
  ⟨0x48, 0x0, 0xFFFFFFFF, 0x0, 0x0, 0x0, 0x0, 0x0, 0x0, 1⟩, -- JNL_CHUNK_LO
  ⟨0x4C, 0x0, 0xFFFFFFFF, 0x0, 0x0, 0x0, 0x0, 0x0, 0x0, 2⟩, -- JNL_CHUNK_HI
  ⟨0x50, 0x0, 0xFFFFFFFF, 0x0, 0x0, 0x0, 0x0, 0x0, 0x0, 1⟩, -- JNL_CMARK_LO
  ⟨0x54, 0x0, 0xFFFFFFFF, 0x0, 0x0, 0x0, 0x0, 0x0, 0x0, 2⟩, -- JNL_CMARK_HI
  ⟨0x58, 0x0, 0xFFFFFFFF, 0x0, 0x0, 0x0, 0x0, 0x0, 0x0, 0⟩, -- JNL_LASTT
  ⟨0x5C, 0x0, 0xFFFFFFFF, 0x0, 0x0, 0x0, 0x0, 0x0, 0x0, 0⟩, -- JNL_TREPLAY
  ⟨0x60, 0x0, 0xFFFFFFFF, 0x0, 0x0, 0x0, 0x0, 0x0, 0x0, 0⟩, -- JNL_TSCAN
  ⟨0x64, 0x0, 0xFFFFFFFF, 0x0, 0x0, 0x0, 0x0, 0x0, 0x0, 0⟩, -- JNL_REPLAYT
  ⟨0x68, 0x0, 0xFFFFFFFF, 0x0, 0x0, 0x0, 0x0, 0x0, 0x0, 0⟩, -- JNL_SCANT
  ⟨0x6C, 0x0, 0xFFFFFFFF, 0x0, 0x0, 0x0, 0x0, 0x0, 0x0, 0⟩, -- JNL_SCANPG
  ⟨0x70, 0x0, 0xFFFFFFFF, 0x0, 0x0, 0x0, 0x0, 0x0, 0x0, 0⟩ -- JNL_TXDROP
  ]

def gc : List RegRow := [
  ⟨0x40, 0x0, 0x0, 0xFF, 0x0, 0x0, 0x0, 0x0, 0x46, 0⟩, -- GC_OP
  ⟨0x44, 0x0, 0x0, 0x80FFFFFF, 0x0, 0x0, 0x0, 0x0, 0x40, 0⟩, -- GC_FLOOR
  ⟨0x48, 0x0, 0xE0FFFFFF, 0x0, 0x0, 0x0, 0x0, 0x0, 0x0, 0⟩, -- GC_STAT
  ⟨0x4C, 0x0, 0xFFFFFF, 0x0, 0x0, 0x0, 0x0, 0x0, 0x0, 0⟩, -- GC_FLR
  ⟨0x50, 0x0, 0xFFFFFF, 0x0, 0x0, 0x0, 0x0, 0x0, 0x0, 0⟩, -- GC_CRIT
  ⟨0x54, 0x0, 0xFFFFFF, 0x0, 0x0, 0x0, 0x0, 0x0, 0x0, 0⟩, -- GC_TOTAL
  ⟨0x58, 0x0, 0xFFFFFF, 0x0, 0x0, 0x0, 0x0, 0x0, 0xFFFFFF, 0⟩, -- GC_VICT
  ⟨0x5C, 0x0, 0xFFFFFFFF, 0x0, 0x0, 0x0, 0x0, 0x0, 0x0, 0⟩, -- GC_USE
  ⟨0x60, 0x0, 0xFFFFFFFF, 0x0, 0x0, 0x0, 0x0, 0x0, 0x0, 0⟩, -- GC_VALID
  ⟨0x64, 0x0, 0xFFFFFFFF, 0x0, 0x0, 0x0, 0x0, 0x0, 0x0, 1⟩, -- GC_MOVED_LO
  ⟨0x68, 0x0, 0xFFFFFFFF, 0x0, 0x0, 0x0, 0x0, 0x0, 0x0, 2⟩, -- GC_MOVED_HI
  ⟨0x6C, 0x0, 0xFFFFFFFF, 0x0, 0x0, 0x0, 0x0, 0x0, 0x0, 0⟩ -- GC_PADP
  ]

def wear : List RegRow := [
  ⟨0x40, 0x0, 0xFFFFFFFF, 0x0, 0x0, 0x0, 0x0, 0x0, 0x0, 0⟩, -- WEAR_ENDUR
  ⟨0x44, 0x0, 0xFFFFFFFF, 0x0, 0x0, 0x0, 0x0, 0x0, 0x0, 0⟩, -- WEAR_MIN
  ⟨0x48, 0x0, 0xFFFFFFFF, 0x0, 0x0, 0x0, 0x0, 0x0, 0x0, 0⟩, -- WEAR_MAX
  ⟨0x4C, 0x0, 0xFFFFFFFF, 0x0, 0x0, 0x0, 0x0, 0x0, 0x0, 0⟩, -- WEAR_AVG
  ⟨0x50, 0x0, 0xFFFF, 0x0, 0x0, 0x0, 0x0, 0x0, 0x0, 0⟩, -- WEAR_LIFE
  ⟨0x54, 0x0, 0x0, 0xFFFF, 0x0, 0x0, 0x0, 0x0, 0x64, 0⟩, -- WEAR_RDTH
  ⟨0x58, 0x0, 0x0, 0xFF, 0x0, 0x0, 0x0, 0x0, 0x5A, 0⟩, -- WEAR_EOL
  ⟨0x5C, 0x0, 0xFFFFFFFF, 0x0, 0x0, 0x0, 0x0, 0x0, 0x0, 0⟩, -- WEAR_RDREL
  ⟨0x60, 0xFFF, 0x0, 0x0, 0x0, 0x0, 0x0, 0x0, 0x0, 0⟩, -- WEAR_LSEL
  ⟨0x64, 0x0, 0xFFFFFFFF, 0x0, 0x0, 0x0, 0x0, 0x0, 0x0, 0⟩ -- WEAR_LINFO
  ]

def ptl : List RegRow := [
  ⟨0x40, 0x0, 0x0, 0x1F, 0x0, 0x0, 0x0, 0x0, 0x7, 0⟩, -- PTL_PERIOD
  ⟨0x44, 0x0, 0x0, 0xFFFF, 0x0, 0x0, 0x0, 0x0, 0xC878, 0⟩, -- PTL_THR
  ⟨0x48, 0x0, 0xC0FFFFFF, 0x0, 0x0, 0x0, 0x0, 0x0, 0x0, 0⟩, -- PTL_STAT
  ⟨0x4C, 0x0, 0xFFFFFFFF, 0x0, 0x0, 0x0, 0x0, 0x0, 0x0, 0⟩, -- PTL_PASS
  ⟨0x50, 0x0, 0xFFFFFFFF, 0x0, 0x0, 0x0, 0x0, 0x0, 0x0, 0⟩, -- PTL_PASST
  ⟨0x54, 0x0, 0xFFFFFFFF, 0x0, 0x0, 0x0, 0x0, 0x0, 0x0, 0⟩, -- PTL_RATE
  ⟨0x58, 0x0, 0xFFFFFFFF, 0x0, 0x0, 0x0, 0x0, 0x0, 0x0, 0⟩, -- PTL_RELOC
  ⟨0x5C, 0x0, 0xFFFF, 0x0, 0x0, 0x0, 0x0, 0x0, 0x0, 0⟩ -- PTL_MAXC
  ]

def bad : List RegRow := [
  ⟨0x40, 0x0, 0xFFFFFFFF, 0x0, 0x0, 0x0, 0x0, 0x0, 0x0, 0⟩, -- BAD_TOTAL
  ⟨0x44, 0x0, 0xFFFFFFFF, 0x0, 0x0, 0x0, 0x0, 0x0, 0x0, 0⟩, -- BAD_EFAIL
  ⟨0x48, 0x0, 0xFFFFFFFF, 0x0, 0x0, 0x0, 0x0, 0x0, 0x0, 0⟩, -- BAD_PFAIL
  ⟨0x4C, 0x0, 0xFFFFFFFF, 0x0, 0x0, 0x0, 0x0, 0x0, 0x0, 0⟩, -- BAD_FACT
  ⟨0x50, 0x0, 0x1FFF, 0x0, 0x0, 0x0, 0x0, 0x0, 0x0, 0⟩, -- BAD_LFAIL
  ⟨0x54, 0x0, 0x7FFFFFFF, 0x0, 0x0, 0x80000000, 0x0, 0x0, 0x0, 0⟩ -- BAD_LAST
  ]

def vol : List RegRow := [
  ⟨0x0, 0x0, 0x0, 0xFFFFFFFF, 0x0, 0x0, 0x0, 0x0, 0x0, 1⟩, -- VOL_CAPn_LO
  ⟨0x4, 0x0, 0x0, 0x7F, 0x0, 0x0, 0x0, 0x0, 0x0, 2⟩, -- VOL_CAPn_HI
  ⟨0x8, 0x0, 0x0, 0x803F3FFF, 0x0, 0x0, 0x0, 0x0, 0x0, 0⟩ -- VOL_ID
  ]

def media : List RegRow := [
  ⟨0x40, 0x0, 0x0, 0xFFF0F3F, 0x0, 0x0, 0x0, 0x0, 0x0, 0⟩, -- MEDIA_GEOM0
  ⟨0x44, 0x0, 0x0, 0xFFFFFFF, 0x0, 0x0, 0x0, 0x0, 0x0, 0⟩, -- MEDIA_GEOM1
  ⟨0x48, 0x0, 0x0, 0xFFFFFF, 0x0, 0x0, 0x0, 0x0, 0x0, 0⟩, -- MEDIA_GEOM2
  ⟨0x4C, 0x0, 0x0, 0xFFFFFF, 0x0, 0x0, 0x0, 0x0, 0x0, 0⟩, -- MEDIA_ID
  ⟨0x50, 0x0, 0x1FFF, 0x0, 0x0, 0x0, 0x0, 0x0, 0x0, 0⟩, -- MEDIA_NLUN
  ⟨0x54, 0x0, 0x0, 0x3F, 0x0, 0x0, 0x0, 0x0, 0x10, 0⟩, -- MEDIA_BATW
  ⟨0x58, 0x0, 0x0, 0xFFFF, 0x0, 0x0, 0x0, 0x0, 0x0, 0⟩, -- MEDIA_TPROG
  ⟨0x5C, 0x0, 0x0, 0xFFFF, 0x0, 0x0, 0x0, 0x0, 0x0, 0⟩, -- MEDIA_TR
  ⟨0x60, 0x0, 0x0, 0xFFFF, 0x0, 0x0, 0x0, 0x0, 0x0, 0⟩, -- MEDIA_TBERS
  ⟨0x64, 0x0, 0x0, 0xFF0FFF, 0x0, 0x0, 0x0, 0x0, 0x0, 0⟩, -- MEDIA_TESUS
  ⟨0x68, 0x0, 0x0, 0xFFF, 0x0, 0x0, 0x0, 0x0, 0x0, 0⟩, -- MEDIA_TPSUS
  ⟨0x6C, 0x0, 0x0, 0xFFFF, 0x0, 0x0, 0x0, 0x0, 0x0, 0⟩, -- MEDIA_RPROG
  ⟨0x70, 0x0, 0x0, 0xFFFF, 0x0, 0x0, 0x0, 0x0, 0x0, 0⟩, -- MEDIA_RSLC
  ⟨0x74, 0x0, 0x0, 0xFFFF, 0x0, 0x0, 0x0, 0x0, 0x0, 0⟩, -- MEDIA_EM
  ⟨0x78, 0x0, 0x0, 0xFFFFFFFF, 0x0, 0x0, 0x0, 0x0, 0x0, 0⟩, -- MEDIA_ENDUR
  ⟨0x7C, 0x0, 0x0, 0xFFFF, 0x0, 0x0, 0x0, 0x0, 0x0, 0⟩, -- MEDIA_OPSET
  ⟨0x80, 0x0, 0x0, 0xFFFFFFFF, 0x0, 0x0, 0x0, 0x0, 0x0, 0⟩, -- MEDIA_OPC0
  ⟨0x84, 0x0, 0x0, 0xFFFFFFFF, 0x0, 0x0, 0x0, 0x0, 0x0, 0⟩, -- MEDIA_OPC1
  ⟨0x88, 0x0, 0x0, 0xFFFF, 0x0, 0x0, 0x0, 0x0, 0x100, 0⟩, -- MEDIA_OPC2
  ⟨0x8C, 0x0, 0xFFFF, 0x0, 0x0, 0x0, 0x0, 0x0, 0x0, 0⟩, -- MEDIA_OPSUP
  ⟨0x90, 0x0, 0x0, 0xFFFF, 0x0, 0x0, 0x0, 0x0, 0x0, 0⟩ -- MEDIA_TPSLC
  ]

def chn : List RegRow := [
  ⟨0x40, 0x0, 0x0, 0xFFFF, 0x0, 0x0, 0x0, 0x0, 0x0, 0⟩, -- CHN_MAP
  ⟨0x44, 0x0, 0x0, 0xF, 0x0, 0x0, 0x0, 0x0, 0x1, 0⟩, -- CHN_TSET
  ⟨0x48, 0x0, 0x0, 0xFFFFFFFF, 0x0, 0x0, 0x0, 0x0, 0x14503C10, 0⟩, -- CHN_TIM
  ⟨0x4C, 0x0, 0x0, 0x377FF, 0x0, 0x0, 0x0, 0x0, 0x10055, 0⟩, -- CHN_DRV
  ⟨0x50, 0x0, 0x0, 0x10F, 0x0, 0x0, 0x0, 0x0, 0x0, 0⟩, -- CHN_EQ
  ⟨0x54, 0x0, 0x0, 0xFF, 0x0, 0x0, 0x0, 0x0, 0x80, 0⟩, -- CHN_ZQ
  ⟨0x58, 0x4, 0x0, 0x0, 0x0, 0x0, 0x3, 0x0, 0x0, 0⟩, -- CHN_CTL
  ⟨0x5C, 0x0, 0xFFFFFFFF, 0x0, 0x0, 0x0, 0x0, 0x0, 0x0, 0⟩, -- CHN_STAT
  ⟨0x60, 0x0, 0xFFFFFFFF, 0x0, 0x0, 0x0, 0x0, 0x0, 0x0, 0⟩, -- CHN_DSK0
  ⟨0x64, 0x0, 0xFFFFFFFF, 0x0, 0x0, 0x0, 0x0, 0x0, 0x0, 0⟩, -- CHN_DSK1
  ⟨0x68, 0x0, 0xFFFFFFFF, 0x0, 0x0, 0x0, 0x0, 0x0, 0x0, 0⟩, -- CHN_DSK2
  ⟨0x6C, 0x0, 0xFFFFFFFF, 0x0, 0x0, 0x0, 0x0, 0x0, 0x0, 0⟩, -- CHN_DSK3
  ⟨0x70, 0x0, 0xFFFFFFFF, 0x0, 0x0, 0x0, 0x0, 0x0, 0x0, 0⟩, -- CHN_TRN
  ⟨0x74, 0x0, 0xFFFF, 0x0, 0x0, 0x0, 0x0, 0x0, 0x0, 0⟩, -- CHN_HMARG
  ⟨0x78, 0x0, 0xFFFFFFFF, 0x0, 0x0, 0x0, 0x0, 0x0, 0x0, 0⟩, -- CHN_HTOUT
  ⟨0x7C, 0x0, 0xFFFFFFFF, 0x0, 0x0, 0x0, 0x0, 0x0, 0x0, 0⟩, -- CHN_HSTAT
  ⟨0x80, 0x0, 0xFFFFFFFF, 0x0, 0x0, 0x0, 0x0, 0x0, 0x0, 0⟩, -- CHN_HTRN
  ⟨0x84, 0x0, 0xFFFFFFFF, 0x0, 0x0, 0x0, 0x0, 0x0, 0x0, 0⟩ -- CHN_TTRN
  ]

def ldpc : List RegRow := [
  ⟨0x40, 0x0, 0x0, 0x3F0107, 0x0, 0x0, 0x0, 0x0, 0x3F0105, 0⟩, -- LDPC_CFG
  ⟨0x44, 0x0, 0x0, 0xFFFFFFFF, 0x0, 0x0, 0x0, 0x0, 0x10F008F8, 0⟩, -- LDPC_SOFS0
  ⟨0x48, 0x0, 0x0, 0xFF, 0x0, 0x0, 0x0, 0x0, 0xE8, 0⟩, -- LDPC_SOFS1
  ⟨0x4C, 0x0, 0xFF, 0x0, 0x0, 0x0, 0x100, 0x0, 0x0, 0⟩, -- LDPC_STAT
  ⟨0x50, 0x0, 0xFFFFFFFF, 0x0, 0x0, 0x0, 0x0, 0x0, 0x0, 1⟩, -- LDPC_NCW_LO
  ⟨0x54, 0x0, 0xFFFFFFFF, 0x0, 0x0, 0x0, 0x0, 0x0, 0x0, 2⟩, -- LDPC_NCW_HI
  ⟨0x58, 0x0, 0xFFFFFFFF, 0x0, 0x0, 0x0, 0x0, 0x0, 0x0, 0⟩, -- LDPC_NRETRY
  ⟨0x5C, 0x0, 0xFFFFFFFF, 0x0, 0x0, 0x0, 0x0, 0x0, 0x0, 0⟩, -- LDPC_NSOFT
  ⟨0x60, 0x0, 0xFFFFFFFF, 0x0, 0x0, 0x0, 0x0, 0x0, 0x0, 0⟩, -- LDPC_NRIDGE
  ⟨0x64, 0x0, 0xFFFFFFFF, 0x0, 0x0, 0x0, 0x0, 0x0, 0x0, 0⟩, -- LDPC_NUNC
  ⟨0x68, 0x0, 0xFFFFFFFF, 0x0, 0x0, 0x0, 0x0, 0x0, 0x0, 0⟩, -- LDPC_NMIS
  ⟨0x6C, 0x0, 0xFFFFFFFF, 0x0, 0x0, 0x0, 0x0, 0x0, 0x0, 0⟩, -- LDPC_HIST0
  ⟨0x70, 0x0, 0xFFFFFFFF, 0x0, 0x0, 0x0, 0x0, 0x0, 0x0, 0⟩, -- LDPC_HIST1
  ⟨0x74, 0x0, 0xFFFFFFFF, 0x0, 0x0, 0x0, 0x0, 0x0, 0x0, 0⟩, -- LDPC_HIST2
  ⟨0x78, 0x0, 0xFFFFFFFF, 0x0, 0x0, 0x0, 0x0, 0x0, 0x0, 0⟩, -- LDPC_HIST3
  ⟨0x7C, 0x0, 0xFFFFFFFF, 0x0, 0x0, 0x0, 0x0, 0x0, 0x0, 0⟩, -- LDPC_HIST4
  ⟨0x80, 0x0, 0xFFFFFFFF, 0x0, 0x0, 0x0, 0x0, 0x0, 0x0, 0⟩, -- LDPC_HIST5
  ⟨0x84, 0x0, 0xFFFFFFFF, 0x0, 0x0, 0x0, 0x0, 0x0, 0x0, 0⟩, -- LDPC_HIST6
  ⟨0x88, 0x0, 0xFFFFFFFF, 0x0, 0x0, 0x0, 0x0, 0x0, 0x0, 0⟩, -- LDPC_HIST7
  ⟨0x8C, 0x0, 0x3F000F, 0x0, 0x0, 0x80000000, 0x0, 0x0, 0x0, 0⟩, -- LDPC_ULAST0
  ⟨0x90, 0x0, 0xFFFFFFFF, 0x0, 0x0, 0x0, 0x0, 0x0, 0x0, 0⟩, -- LDPC_ULAST1
  ⟨0x94, 0x0, 0xFFFFFFFF, 0x0, 0x0, 0x0, 0x0, 0x0, 0x0, 0⟩, -- LDPC_ULAST2
  ⟨0x98, 0x0, 0xFFFFBFFF, 0x0, 0x0, 0x0, 0x0, 0x0, 0x0, 0⟩ -- LDPC_ULAST3
  ]

def rdg : List RegRow := [
  ⟨0x40, 0x0, 0x0, 0x1F, 0x0, 0x0, 0x0, 0x0, 0x6, 0⟩, -- RDG_CTL
  ⟨0x44, 0x0, 0x80FFFFFF, 0x0, 0x0, 0x0, 0x0, 0x0, 0x0, 0⟩, -- RDG_STAT
  ⟨0x48, 0x0, 0xFFFFFF, 0x0, 0x0, 0x0, 0x0, 0x0, 0x0, 0⟩, -- RDG_RBRATE
  ⟨0x4C, 0x0, 0xFFFFFFFF, 0x0, 0x0, 0x0, 0x0, 0x0, 0x0, 1⟩, -- RDG_RBLEFT_LO
  ⟨0x50, 0x0, 0xFFFFFFFF, 0x0, 0x0, 0x0, 0x0, 0x0, 0x0, 2⟩, -- RDG_RBLEFT_HI
  ⟨0x54, 0x0, 0xFFFFFF, 0x0, 0x0, 0x0, 0x0, 0x0, 0x0, 0⟩, -- RDG_EXPOSED
  ⟨0x58, 0x0, 0xFFFFFF, 0x0, 0x0, 0x0, 0x0, 0x0, 0x0, 0⟩, -- RDG_HELD
  ⟨0x5C, 0x0, 0xFFFFFFFF, 0x0, 0x0, 0x0, 0x0, 0x0, 0x0, 0⟩, -- RDG_NREC
  ⟨0x60, 0x0, 0xFFFFFFFF, 0x0, 0x0, 0x0, 0x0, 0x0, 0x0, 0⟩, -- RDG_NFAIL
  ⟨0x64, 0x0, 0xFFFF, 0x0, 0x0, 0x0, 0x0, 0x0, 0x0, 0⟩ -- RDG_ACCUM
  ]

def cry : List RegRow := [
  ⟨0x40, 0x0, 0x0, 0x3, 0x0, 0x0, 0x0, 0x0, 0x1, 0⟩, -- CRY_MASK
  ⟨0x44, 0x0, 0xF30, 0x0, 0x0, 0x0, 0x0, 0x0, 0x10, 0⟩, -- CRY_STAT
  ⟨0x48, 0x0, 0xFFFFFFFF, 0x0, 0x0, 0x0, 0x0, 0x0, 0x0, 0⟩, -- CRY_SALT
  ⟨0x4C, 0x0, 0xFFFFFFFF, 0x0, 0x0, 0x0, 0x0, 0x0, 0x0, 1⟩, -- CRY_SEALS_LO
  ⟨0x50, 0x0, 0xFFFFFFFF, 0x0, 0x0, 0x0, 0x0, 0x0, 0x0, 2⟩, -- CRY_SEALS_HI
  ⟨0x54, 0x0, 0xFFFFFFFF, 0x0, 0x0, 0x0, 0x0, 0x0, 0x0, 0⟩, -- CRY_AUTHF
  ⟨0x58, 0x0, 0xFFFFFFFF, 0x0, 0x0, 0x0, 0x0, 0x0, 0x0, 0⟩, -- CRY_ZERO
  ⟨0x5C, 0x0, 0xFFFFFFFF, 0x0, 0x0, 0x0, 0x0, 0x0, 0x0, 0⟩ -- CRY_ZFAIL
  ]

def key : List RegRow := [
  ⟨0x0, 0x0, 0xFFBFFF00, 0x0, 0xE0000000, 0x0, 0x0, 0x0, 0x0, 0⟩, -- KEY_STAT
  ⟨0x4, 0x0, 0xFFFFFFFF, 0x0, 0x0, 0x0, 0x0, 0x0, 0x0, 0⟩, -- KEY_SALT
  ⟨0x8, 0x0, 0xFFFFFFFF, 0x0, 0x0, 0x0, 0x0, 0x0, 0x0, 1⟩, -- KEY_CNT_LO
  ⟨0xC, 0x0, 0xFFFFFFFF, 0x0, 0x0, 0x0, 0x0, 0x0, 0x0, 2⟩ -- KEY_CNT_HI
  ]

def keyp : List RegRow := [
  ⟨0x440, 0x3F, 0x0, 0x0, 0x0, 0x0, 0x0, 0x0, 0x0, 0⟩, -- KEY_MSEL
  ⟨0x444, 0x0, 0xFFFFFFFF, 0x0, 0x0, 0x0, 0x0, 0x0, 0x0, 1⟩, -- KEY_MARK_LO
  ⟨0x448, 0x0, 0xFFFFFFFF, 0x0, 0x0, 0x0, 0x0, 0x0, 0x0, 2⟩ -- KEY_MARK_HI
  ]

def crs : List RegRow := [
  ⟨0x40, 0x0, 0x0, 0x1, 0x0, 0x0, 0x0, 0x0, 0x0, 0⟩, -- CRS_CTL
  ⟨0x44, 0x0, 0xFFFFFFFF, 0x0, 0x0, 0x0, 0x0, 0x0, 0x0, 1⟩, -- CRS_INV_LO
  ⟨0x48, 0x0, 0xFFFFFFFF, 0x0, 0x0, 0x0, 0x0, 0x0, 0x0, 2⟩, -- CRS_INV_HI
  ⟨0x4C, 0x0, 0x1F0F, 0x0, 0x0, 0x80000000, 0x0, 0x0, 0x0, 0⟩ -- CRS_LAST
  ]

def trng : List RegRow := [
  ⟨0x40, 0x0, 0xC000FFFF, 0x0, 0x0, 0x0, 0x0, 0x0, 0x0, 0⟩, -- TRNG_STAT
  ⟨0x44, 0x0, 0xFFFFFFFF, 0x0, 0x0, 0x0, 0x0, 0x0, 0x0, 1⟩, -- TRNG_RESEED_LO
  ⟨0x48, 0x0, 0xFFFFFFFF, 0x0, 0x0, 0x0, 0x0, 0x0, 0x0, 2⟩, -- TRNG_RESEED_HI
  ⟨0x4C, 0x0, 0xFFFFFFFF, 0x0, 0x0, 0x0, 0x0, 0x0, 0x0, 0⟩ -- TRNG_RAND
  ]

def alm : List RegRow := [
  ⟨0x40, 0x0, 0x0, 0x0, 0x0, 0x0, 0x0, 0x1, 0x1, 0⟩, -- ALM_TAMPEN
  ⟨0x44, 0x0, 0x0, 0x7, 0x0, 0x0, 0x0, 0x0, 0x0, 0⟩, -- ALM_CTL
  ⟨0x48, 0x0, 0x3F, 0x0, 0x0, 0x0, 0x0, 0x0, 0x0, 0⟩, -- ALM_STAT
  ⟨0x4C, 0x0, 0x0, 0x0, 0x0, 0x3F, 0x0, 0x0, 0x0, 0⟩, -- ALM_LATCH
  ⟨0x50, 0x0, 0xFFFFFFFF, 0x0, 0x0, 0x0, 0x0, 0x0, 0x0, 1⟩, -- ALM_TIME_LO
  ⟨0x54, 0x0, 0xFFFFFFFF, 0x0, 0x0, 0x0, 0x0, 0x0, 0x0, 2⟩, -- ALM_TIME_HI
  ⟨0x58, 0x0, 0xFFFFFFFF, 0x0, 0x0, 0x0, 0x0, 0x0, 0x0, 0⟩ -- ALM_COUNT
  ]

def dmv : List RegRow := [
  ⟨0x40, 0x0, 0xFFFFFFFF, 0x0, 0x0, 0x0, 0x0, 0x0, 0x0, 0⟩, -- DMV_RUN
  ⟨0x44, 0x0, 0xFFFFFFFF, 0x0, 0x0, 0x0, 0x0, 0x0, 0x0, 1⟩, -- DMV_BYTES_LO
  ⟨0x48, 0x0, 0xFFFFFFFF, 0x0, 0x0, 0x0, 0x0, 0x0, 0x0, 2⟩, -- DMV_BYTES_HI
  ⟨0x4C, 0x0, 0x1FFF00, 0x0, 0x0, 0x80000000, 0x0, 0x0, 0x0, 0⟩, -- DMV_LAST
  ⟨0x50, 0x0, 0x1F000F, 0x0, 0x0, 0x80000000, 0x0, 0x0, 0x0, 0⟩ -- DMV_REF
  ]

def dmc : List RegRow := [
  ⟨0x0, 0x1, 0x0, 0x0, 0x0, 0x0, 0x6, 0x0, 0x0, 0⟩, -- DMC_CTL
  ⟨0x4, 0x83FF03FF, 0x0, 0x0, 0x0, 0x0, 0x0, 0x0, 0x0, 0⟩, -- DMC_FN
  ⟨0x8, 0xFFFFFFFF, 0x0, 0x0, 0x0, 0x0, 0x0, 0x0, 0x0, 1⟩, -- DMC_RBASE_LO
  ⟨0xC, 0xFFFFFFFF, 0x0, 0x0, 0x0, 0x0, 0x0, 0x0, 0x0, 2⟩, -- DMC_RBASE_HI
  ⟨0x10, 0xF, 0x0, 0x0, 0x0, 0x0, 0x0, 0x0, 0x4, 0⟩, -- DMC_RSIZE
  ⟨0x14, 0xFFF, 0x0, 0x0, 0x0, 0x0, 0x0, 0x0, 0x0, 0⟩, -- DMC_TAIL
  ⟨0x18, 0x0, 0xFC00FFFF, 0x0, 0x0, 0x0, 0x0, 0x0, 0x0, 0⟩, -- DMC_STAT
  ⟨0x1C, 0x800007FF, 0x0, 0x0, 0x0, 0x0, 0x0, 0x0, 0x0, 0⟩, -- DMC_VEC
  ⟨0x20, 0x0, 0xFFFFFFFF, 0x0, 0x0, 0x0, 0x0, 0x0, 0x0, 0⟩, -- DMC_BAD
  ⟨0x24, 0x0, 0xFFFFFFFF, 0x0, 0x0, 0x0, 0x0, 0x0, 0x0, 1⟩, -- DMC_BYTES_LO
  ⟨0x28, 0x0, 0xFFFFFFFF, 0x0, 0x0, 0x0, 0x0, 0x0, 0x0, 2⟩, -- DMC_BYTES_HI
  ⟨0x2C, 0x0, 0xFFFFFFFF, 0x0, 0x0, 0x0, 0x0, 0x0, 0x0, 0⟩, -- DMC_DETCNT
  ⟨0x30, 0x0, 0xFFFFFFFF, 0x0, 0x0, 0x0, 0x0, 0x0, 0x0, 1⟩, -- DMC_CSUM_LO
  ⟨0x34, 0x0, 0xFFFFFFFF, 0x0, 0x0, 0x0, 0x0, 0x0, 0x0, 2⟩ -- DMC_CSUM_HI
  ]

def mem : List RegRow := [
  ⟨0x40, 0x0, 0xC000007F, 0x0, 0x0, 0x0, 0x0, 0x0, 0x0, 0⟩, -- MEM_ZSTAT
  ⟨0x44, 0x0, 0xFFFFFFFF, 0x0, 0x0, 0x0, 0x0, 0x0, 0x0, 0⟩, -- MEM_ZTIME
  ⟨0x48, 0x77F, 0x60000000, 0x0, 0x0, 0x0, 0x80000000, 0x0, 0x700, 0⟩, -- MEM_INJ
  ⟨0x4C, 0xFFFFFFFF, 0x0, 0x0, 0x0, 0x0, 0x0, 0x0, 0x0, 0⟩, -- MEM_FLIP0
  ⟨0x50, 0xFFFFFFFF, 0x0, 0x0, 0x0, 0x0, 0x0, 0x0, 0x0, 0⟩, -- MEM_FLIP1
  ⟨0x54, 0xFF, 0x0, 0x0, 0x0, 0x0, 0x0, 0x0, 0x0, 0⟩, -- MEM_FLIP2
  ⟨0x58, 0x0, 0xFFFFFFFF, 0x0, 0x0, 0x0, 0x0, 0x0, 0x0, 0⟩, -- MEM_INJADDR
  ⟨0x5C, 0x0, 0x7F, 0x0, 0x0, 0x80000000, 0x0, 0x0, 0x0, 0⟩, -- MEM_UELAST
  ⟨0x60, 0x0, 0xFFFFFFFF, 0x0, 0x0, 0x0, 0x0, 0x0, 0x0, 0⟩, -- MEM_UEADDR
  ⟨0x64, 0xFFE03FFF, 0x0, 0x0, 0x0, 0x0, 0x0, 0x0, 0x0, 0⟩, -- MEM_RPADDR
  ⟨0x68, 0x1, 0x0, 0x0, 0x0, 0x0, 0x80000000, 0x0, 0x0, 0⟩, -- MEM_RPCMD
  ⟨0x6C, 0x0, 0x8FFF0000, 0x0, 0x0, 0x0, 0x0, 0x0, 0x0, 0⟩, -- MEM_RPSTAT
  ⟨0x70, 0x0, 0xFFFFFFFF, 0x0, 0x0, 0x0, 0x0, 0x0, 0x0, 0⟩, -- MEM_HRLEFT0
  ⟨0x74, 0x0, 0xFFFFFFFF, 0x0, 0x0, 0x0, 0x0, 0x0, 0x0, 0⟩, -- MEM_HRLEFT1
  ⟨0x78, 0x0, 0xFFFFFFFF, 0x0, 0x0, 0x0, 0x0, 0x0, 0x0, 0⟩, -- MEM_HRLEFT2
  ⟨0x7C, 0x0, 0xFFFFFFFF, 0x0, 0x0, 0x0, 0x0, 0x0, 0x0, 0⟩, -- MEM_HRLEFT3
  ⟨0x80, 0x0, 0xFFFFFFFF, 0x0, 0x0, 0x0, 0x0, 0x0, 0x0, 0⟩, -- MEM_FREP
  ⟨0x84, 0x0, 0xFFFFFFFF, 0x0, 0x0, 0x0, 0x0, 0x0, 0x0, 0⟩ -- MEM_SCRUB
  ]

def memx : List RegRow := [
  ⟨0x0, 0x0, 0x0, 0xFF00FFFF, 0x0, 0x0, 0x0, 0x0, 0x1000040, 0⟩, -- MEMx_BKT
  ⟨0x4, 0x0, 0x0, 0xFFFF, 0x0, 0x0, 0x0, 0x0, 0x3E8, 0⟩, -- MEMx_LEAK
  ⟨0x8, 0x0, 0xFFFFFFFF, 0x0, 0x0, 0x0, 0x0, 0x0, 0x0, 0⟩, -- MEMx_LVL
  ⟨0xC, 0x0, 0xFFFFFFFF, 0x0, 0x0, 0x0, 0x0, 0x0, 0x0, 0⟩, -- MEMx_CE
  ⟨0x10, 0x0, 0xFFFFFFFF, 0x0, 0x0, 0x0, 0x0, 0x0, 0x0, 0⟩, -- MEMx_UE
  ⟨0x14, 0x0, 0xFFFFFFFF, 0x0, 0x0, 0x0, 0x0, 0x0, 0x0, 0⟩, -- MEMx_CROW
  ⟨0x18, 0x0, 0xFFFFFFFF, 0x0, 0x0, 0x0, 0x0, 0x0, 0x0, 0⟩, -- MEMx_CADDR
  ⟨0x1C, 0x0, 0xFFFF, 0x0, 0x0, 0x0, 0x0, 0x0, 0x0, 0⟩ -- MEMx_INFO
  ]

def memxp : List RegRow := [
  ⟨0x440, 0x0, 0x0, 0x0, 0x0, 0xFFFFFFFF, 0x0, 0x0, 0x0, 0⟩ -- MEMx_OVF
  ]

def fwa : List RegRow := [
  ⟨0x40, 0x0, 0xFFFFFFFF, 0x0, 0x0, 0x0, 0x0, 0x0, 0x0, 0⟩, -- FWA_ACTIVE_VER
  ⟨0x44, 0x0, 0x30101, 0x0, 0x0, 0x0, 0x0, 0x0, 0x0, 0⟩, -- FWA_BANK
  ⟨0x48, 0x0, 0xFFFFFFFF, 0x0, 0x0, 0x0, 0x0, 0x0, 0x0, 0⟩, -- FWA_RECSEQ
  ⟨0x4C, 0x0, 0xFFFFFFFF, 0x0, 0x0, 0x0, 0x0, 0x0, 0x0, 0⟩, -- FWA_B0VER
  ⟨0x50, 0x0, 0xFFFFFFFF, 0x0, 0x0, 0x0, 0x0, 0x0, 0x0, 0⟩, -- FWA_B1VER
  ⟨0x54, 0x1FFFF, 0x0, 0x0, 0x0, 0x0, 0x0, 0x0, 0x0, 0⟩, -- FWA_OPADDR
  ⟨0x58, 0x3, 0x0, 0x0, 0x0, 0x0, 0x80000000, 0x0, 0x0, 0⟩, -- FWA_OPCMD
  ⟨0x5C, 0x0, 0xC000000F, 0x0, 0x0, 0x0, 0x0, 0x0, 0x0, 0⟩, -- FWA_OPSTAT
  ⟨0x60, 0x3FF, 0x0, 0x0, 0x0, 0x0, 0x0, 0x0, 0x0, 0⟩, -- FWA_DIDX
  ⟨0x64, 0xFFFFFFFF, 0x0, 0x0, 0x0, 0x0, 0x0, 0x0, 0x0, 0⟩, -- FWA_DATA
  ⟨0x68, 0x0, 0x0, 0x0, 0x0, 0x0, 0xFFFF, 0x0, 0x0, 0⟩, -- FWA_PWD0
  ⟨0x6C, 0x0, 0x0, 0x0, 0x0, 0x0, 0xFFFF, 0x0, 0x0, 0⟩, -- FWA_PWD1
  ⟨0x70, 0x0, 0x0, 0x0, 0x0, 0x0, 0xFFFF, 0x0, 0x0, 0⟩, -- FWA_PWD2
  ⟨0x74, 0x0, 0x0, 0x0, 0x0, 0x0, 0xFFFF, 0x0, 0x0, 0⟩, -- FWA_PWD3
  ⟨0x78, 0xF47, 0x0, 0x0, 0x0, 0x0, 0x80000000, 0x0, 0x0, 0⟩, -- FWA_PCMD
  ⟨0x7C, 0x0, 0x8000000F, 0x0, 0x0, 0x0, 0x0, 0x0, 0x0, 0⟩, -- FWA_PSTAT
  ⟨0x80, 0x0, 0xFFFFFFFF, 0x0, 0x0, 0x0, 0x0, 0x0, 0x0, 0⟩, -- FWA_LOCK
  ⟨0x84, 0x0, 0xFFFFFFFF, 0x0, 0x0, 0x0, 0x0, 0x0, 0x0, 0⟩, -- FWA_OPEN
  ⟨0x88, 0x0, 0xFFFFFFFF, 0x0, 0x0, 0x0, 0x0, 0x0, 0x0, 0⟩, -- FWA_BLOCKED
  ⟨0x8C, 0x0, 0xF, 0x0, 0x0, 0x0, 0x0, 0x0, 0x0, 0⟩, -- FWA_KEYS
  ⟨0x90, 0x0, 0x3, 0x0, 0x0, 0x0, 0x0, 0x0, 0x0, 0⟩ -- FWA_BAD
  ]

def fwu : List RegRow := [
  ⟨0x40, 0x0, 0x10107, 0x0, 0x0, 0x0, 0x0, 0x0, 0x0, 0⟩, -- FWU_STATE
  ⟨0x44, 0x0, 0xFFFF, 0x0, 0x0, 0x0, 0x0, 0x0, 0x0, 0⟩, -- FWU_NEXT
  ⟨0x48, 0x0, 0xFFFF, 0x0, 0x0, 0x0, 0x0, 0x0, 0x0, 0⟩, -- FWU_LEN
  ⟨0x4C, 0x0, 0xFFFFFFFF, 0x0, 0x0, 0x0, 0x0, 0x0, 0x0, 0⟩, -- FWU_VER
  ⟨0x50, 0x0, 0xFFFFFFFF, 0x0, 0x0, 0x0, 0x0, 0x0, 0x0, 0⟩, -- FWU_FVER
  ⟨0x54, 0x0, 0xFFFF, 0x0, 0x0, 0x0, 0x0, 0x0, 0x0, 0⟩, -- FWU_MFVER
  ⟨0x58, 0x0, 0xFFFF, 0x0, 0x0, 0x80000000, 0x0, 0x0, 0x0, 0⟩, -- FWU_REFUSE
  ⟨0x5C, 0x0, 0xFFFFF, 0x0, 0x0, 0x0, 0x0, 0x0, 0x3E8, 0⟩, -- FWU_EMIN
  ⟨0x60, 0x0, 0x103, 0x0, 0x0, 0x0, 0x0, 0x0, 0x0, 0⟩, -- FWU_KEYIDX
  ⟨0x64, 0x0, 0xFFFFFFFF, 0x0, 0x0, 0x0, 0x0, 0x0, 0x0, 0⟩, -- FWU_TACT
  ⟨0x68, 0x0, 0xFFFFFFFF, 0x0, 0x0, 0x0, 0x0, 0x0, 0x0, 0⟩, -- FWU_MIGT
  ⟨0x6C, 0x0, 0x3FF, 0x0, 0x0, 0x0, 0x0, 0x0, 0x0, 0⟩ -- FWU_MIGPROG
  ]

def thm : List RegRow := [
  ⟨0x40, 0x0, 0xFFFF, 0x0, 0x0, 0x0, 0x0, 0x0, 0x0, 0⟩, -- THM_TEMP0
  ⟨0x44, 0x0, 0xFFFF, 0x0, 0x0, 0x0, 0x0, 0x0, 0x0, 0⟩, -- THM_TEMP1
  ⟨0x48, 0x0, 0xFFFF, 0x0, 0x0, 0x0, 0x0, 0x0, 0x0, 0⟩, -- THM_TEMP2
  ⟨0x4C, 0x0, 0xFFFF, 0x0, 0x0, 0x0, 0x0, 0x0, 0x0, 0⟩, -- THM_TEMP3
  ⟨0x50, 0x0, 0xFFFF, 0x0, 0x0, 0x0, 0x0, 0x0, 0x0, 0⟩, -- THM_TEMP4
  ⟨0x54, 0x0, 0xFFFF, 0x0, 0x0, 0x0, 0x0, 0x0, 0x0, 0⟩, -- THM_TEMP5
  ⟨0x58, 0x0, 0xFFFF, 0x0, 0x0, 0x0, 0x0, 0x0, 0x0, 0⟩, -- THM_TEMP6
  ⟨0x5C, 0x0, 0xFFFF, 0x0, 0x0, 0x0, 0x0, 0x0, 0x0, 0⟩, -- THM_TEMP7
  ⟨0x60, 0x0, 0xFFFF, 0x0, 0x0, 0x0, 0x0, 0x0, 0x0, 0⟩, -- THM_TEMP8
  ⟨0x64, 0x0, 0xFFFF, 0x0, 0x0, 0x0, 0x0, 0x0, 0x0, 0⟩, -- THM_TEMP9
  ⟨0x68, 0x0, 0xFFFFF, 0x0, 0x0, 0x0, 0x0, 0x0, 0x0, 0⟩, -- THM_HOT
  ⟨0x6C, 0x0, 0xFFFFF, 0x0, 0x0, 0x0, 0x0, 0x0, 0x0, 0⟩, -- THM_PEAK
  ⟨0x70, 0x0, 0x0, 0xFFFF, 0x0, 0x0, 0x0, 0x0, 0x0, 0⟩, -- THM_WARN
  ⟨0x74, 0x0, 0x0, 0xFFFF, 0x0, 0x0, 0x0, 0x0, 0x0, 0⟩ -- THM_TRIP
  ]

def admin : List RegRow := [
  ⟨0x40, 0x0, 0xFFFF03FF, 0x0, 0x0, 0x0, 0x0, 0x0, 0x0, 0⟩, -- ADMIN_PROG
  ⟨0x44, 0x0, 0xFFFFFFFF, 0x0, 0x0, 0x0, 0x0, 0x0, 0x0, 0⟩, -- ADMIN_TEST
  ⟨0x48, 0x0, 0x7800FFFF, 0x0, 0x0, 0x80000000, 0x0, 0x0, 0x0, 0⟩, -- ADMIN_LAST
  ⟨0x4C, 0x0, 0xFFFFFFFF, 0x0, 0x0, 0x0, 0x0, 0x0, 0x0, 0⟩ -- ADMIN_TDONE
  ]

def log : List RegRow := [
  ⟨0x40, 0x0, 0xFFFFFFFF, 0x0, 0x0, 0x0, 0x0, 0x0, 0x0, 0⟩, -- LOG_START
  ⟨0x44, 0x0, 0xFFFFFFFF, 0x0, 0x0, 0x0, 0x0, 0x0, 0x1, 0⟩, -- LOG_NEXT
  ⟨0x48, 0x0, 0xFFFFFFFF, 0x0, 0x0, 0x0, 0x0, 0x0, 0x0, 0⟩, -- LOG_HELD
  ⟨0x4C, 0x0, 0xFFFFFFFF, 0x0, 0x0, 0x0, 0x0, 0x0, 0x0, 0⟩, -- LOG_PEND
  ⟨0x50, 0x0, 0xFFFFFFFF, 0x0, 0x0, 0x0, 0x0, 0x0, 0x0, 0⟩, -- LOG_LOST
  ⟨0x54, 0x3, 0x0, 0x0, 0x0, 0x0, 0x0, 0x0, 0x2, 0⟩ -- LOG_SEVTHR
  ]

end Rows
/-- Page of a register-space offset, bits [19:12] (R39). -/
def pageOf (off : Nat) : Nat := off / 0x1000 % 256

/-- Offset within the page, bits [11:0]. -/
def inPage (off : Nat) : Nat := off % 0x1000

/-- The implemented pages of the register index (R451, R454). -/
def implemented (p : Nat) : Bool :=
  p ≤ 0x0D || (0x10 ≤ p && p ≤ 0x29) || (0x30 ≤ p && p ≤ 0x73) || (0x78 ≤ p && p ≤ 0x7E)

/-- Default Catch group of a page (R53, the Group column of R451). -/
def groupDefault (p : Nat) : Nat :=
  if p ≤ 0x0D || p == 0x1F || p == 0x7D || p == 0x7E then 0
  else if 0x10 ≤ p && p ≤ 0x17 then 1
  else if 0x18 ≤ p && p ≤ 0x1E then 2
  else if 0x20 ≤ p && p ≤ 0x29 then 3
  else if 0x30 ≤ p && p ≤ 0x4F then 4
  else if 0x50 ≤ p && p ≤ 0x6F then 5
  else if 0x70 ≤ p && p ≤ 0x73 then 6
  else 7

/-- Clock island of a page (R46, R451). -/
def islandOf (p : Nat) : Nat :=
  if p ≤ 0x06 || p == 0x71 || p == 0x73 then 0
  else if p == 0x0C then 4
  else if p == 0x10 then 1
  else if p == 0x11 then 2
  else if 0x30 ≤ p && p ≤ 0x6F then 8
  else 3

/-- Power domain of a page (R46, R451): 0 to 29 switched, 0xFE the fabric, 0xFF the AON domain. -/
def domainOf (p : Nat) : Nat :=
  if p ≤ 0x06 || p == 0x71 || p == 0x73 then 0xFF
  else if p == 0x0C then 27
  else if p == 0x10 then 16
  else if p == 0x11 then 17
  else if 0x18 ≤ p && p ≤ 0x1E then 29
  else if 0x30 ≤ p && p ≤ 0x6F then (p - 0x30) / 4
  else 0xFE

/-- Block type code: 0x0100 plus the number of the first page of the block type (R452). -/
def btypeOf (p : Nat) : Nat :=
  0x100 + (if 0x08 ≤ p && p ≤ 0x0B then 0x08 else if p == 0x11 then 0x10
    else if 0x14 ≤ p && p ≤ 0x17 then 0x14 else if 0x1A ≤ p && p ≤ 0x1D then 0x1A
    else if 0x30 ≤ p && p ≤ 0x6F then 0x30 else if 0x79 ≤ p && p ≤ 0x7C then 0x79 else p)

/-- Instance of a page within its block type (R41, R451). -/
def instOf (p : Nat) : Nat := 0x100 + p - btypeOf p

/-- Rows of the whole-page blocks. -/
def pageRows (p : Nat) : List RegRow :=
  if p == 0 then Rows.glb else if p == 1 then Rows.cfg else if p == 2 then Rows.pwr
  else if p == 3 then Rows.clk else if p == 4 then Rows.thm else if p == 5 then Rows.pfl
  else if p == 6 then Rows.alm else if p == 7 then Rows.mem else if p == 0xC then Rows.fwa
  else if p == 0xD then Rows.fwu else if p == 0x10 || p == 0x11 then Rows.prt
  else if p == 0x12 then Rows.seat else if p == 0x13 then Rows.adm else if p == 0x18 then Rows.cox
  else if p == 0x19 then Rows.stk else if p == 0x1E then Rows.stkt else if p == 0x1F then Rows.buf
  else if p == 0x20 then Rows.map else if p == 0x21 then Rows.jnl else if p == 0x22 then Rows.gc
  else if p == 0x23 then Rows.wear else if p == 0x24 then Rows.ptl else if p == 0x25 then Rows.bad
  else if p == 0x26 then Rows.media else if p == 0x28 then Rows.ldpc else if p == 0x29 then Rows.rdg
  else if 0x30 ≤ p && p ≤ 0x6F then Rows.chn else if p == 0x70 then Rows.cry
  else if p == 0x72 then Rows.crs else if p == 0x73 then Rows.trng else if p == 0x78 then Rows.dmv
  else if p == 0x7D then Rows.admin else if p == 0x7E then Rows.log else []

/-- The rows that apply at an offset and the offset to look up in them: whole pages directly, instanced blocks by
their slot (the table "Finding a register from an offset" of the register index). -/
def rowsAt (off : Nat) : List RegRow × Nat :=
  let p := pageOf off
  let o := inPage off
  if 0x08 ≤ p && p ≤ 0x0B then
    if o < 0x440 then
      if 32 * (p - 8) + (o - 0x40) / 0x20 ≤ 110 then (Rows.memx, (o - 0x40) % 0x20) else ([], 0)
    else (Rows.memxp, o)
  else if 0x14 ≤ p && p ≤ 0x17 then (Rows.strm, o % 0x100)
  else if 0x1A ≤ p && p ≤ 0x1D then
    let l := 17 * (p - 0x1A) + (o - 0x40) / 0x80
    if (o - 0x40) / 0x80 ≥ 17 then ([], 0)
    else if l ≤ 63 then (Rows.stkld, (o - 0x40) % 0x80)
    else if l = 64 then (Rows.stklp, (o - 0x40) % 0x80)
    else if l = 65 then (Rows.stklt, (o - 0x40) % 0x80)
    else ([], 0)
  else if p == 0x27 then if o < 0x440 then (Rows.vol, (o - 0x40) % 16) else ([], 0)
  else if p == 0x71 then if o < 0x440 then (Rows.key, (o - 0x40) % 16) else (Rows.keyp, o)
  else if 0x79 ≤ p && p ≤ 0x7C then
    if (o - 0x40) / 0x80 < 8 then (Rows.dmc, (o - 0x40) % 0x80) else ([], 0)
  else (pageRows p, o)

/-- The register row at an offset, none for a header word, a reserved word or a reserved page. -/
def regRow? (off : Nat) : Option RegRow :=
  if inPage off < 0x40 then none
  else
    let r := rowsAt off
    r.1.find? (fun x => x.off == r.2)

/-- Reset value of the word at a register-space offset. [log entry 2 DESIGN CHOICE] -/
def resetWord (off : Nat) : Word := ((regRow? off).map RegRow.reset).getD 0

/-- Mask of the shadowed bits at an offset. -/
def shMask (off : Nat) : Word := ((regRow? off).map RegRow.sh).getD 0

/-- Mask of the triple-voted bits at an offset. -/
def tvMask (off : Nat) : Word := ((regRow? off).map RegRow.tv).getD 0

end Sys2Proof.Machine
end

