-- ==== Sys2Proof/Machine/Store.lean ====
section
/-!
DEFINITION. Sparse stores: a store is a list of (key, value) pairs with strictly rising keys. A store with a default
lists no entry equal to its default, so equal contents are equal data. Every register space, table and memory of the
model is held in one.
-/
namespace Sys2Proof.Machine

/-- A sparse store keyed by numbers. -/
abbrev SMap (α : Type) := List (Nat × α)

namespace SMap
variable {α : Type}

/-- The listed value at a key. -/
def get? : SMap α → Nat → Option α
  | [], _ => none
  | (k', v) :: m, k => if k = k' then some v else get? m k

/-- The value at a key, or a default. -/
def getD (m : SMap α) (k : Nat) (d : α) : α := (get? m k).getD d

/-- Insert or replace, keeping the keys rising. -/
def set : SMap α → Nat → α → SMap α
  | [], k, v => [(k, v)]
  | (k', v') :: m, k, v =>
    if k < k' then (k, v) :: (k', v') :: m
    else if k = k' then (k, v) :: m
    else (k', v') :: set m k v

/-- Remove a key. -/
def erase : SMap α → Nat → SMap α
  | [], _ => []
  | (k', v') :: m, k => if k = k' then erase m k else (k', v') :: erase m k

/-- Write a value into a store whose unlisted keys read as `d`: the default itself is not listed. -/
def put [DecidableEq α] (d : Nat → α) (m : SMap α) (k : Nat) (v : α) : SMap α :=
  if v = d k then erase m k else set m k v

/-- Read a store whose unlisted keys read as `d`. -/
def read (d : Nat → α) (m : SMap α) (k : Nat) : α := getD m k (d k)

/-- Every key of the store is at least `n` and keys rise strictly. -/
def risingFrom : Nat → SMap α → Bool
  | _, [] => true
  | n, (k, _) :: m => n ≤ k && risingFrom (k + 1) m

/-- Canonical order: strictly rising keys. -/
def wf (m : SMap α) : Bool := risingFrom 0 m

/-- Canonical form of a store with defaults: rising keys and no entry equal to its default. -/
def canon [DecidableEq α] (d : Nat → α) (m : SMap α) : Bool :=
  wf m && m.all (fun e => !(e.2 == d e.1))

/-- Keep the entries that satisfy a test. -/
def keep (p : Nat → α → Bool) (m : SMap α) : SMap α := List.filter (fun e => p e.1 e.2) m

/-- Map the values. -/
def mapV (f : Nat → α → α) (m : SMap α) : SMap α := List.map (fun e => (e.1, f e.1 e.2)) m

end SMap

/-- Insert into a rising list of numbers without repeats. -/
def nins : Nat → List Nat → List Nat
  | n, [] => [n]
  | n, m :: l => if n < m then n :: m :: l else if n = m then m :: l else m :: nins n l

/-- Remove a number. -/
def ndel (n : Nat) (l : List Nat) : List Nat := l.filter (fun m => !(m == n))

/-- Replace the value of each element that satisfies a test. -/
def updWhere {α : Type} (p : α → Bool) (f : α → α) (l : List α) : List α :=
  l.map (fun a => if p a then f a else a)

/-- Take the first element that satisfies a test. -/
def takeFirst {α : Type} (p : α → Bool) : List α → Option (α × List α)
  | [] => none
  | x :: l => if p x then some (x, l) else (takeFirst p l).map (fun r => (r.1, x :: r.2))

/-- Fold a function over the numbers below `n`, upward. -/
def foldUpto {α : Type} (n : Nat) (f : Nat → α → α) (a : α) : α :=
  (List.range n).foldl (fun acc i => f i acc) a

end Sys2Proof.Machine
end

