-- ==== Sys2Proof/Syntax.lean ====
section
/-!
DEFINITION. The commands of the controller: one constructor per row of the operation and event table. A port is 0 (A) or 1
(B); a function is its SEAT_FNID code without the MGMT bit, 512 × port + 128 × link + VF (R122); a seat is 0 to 511, a LUN is
numbered as in R295. What the world outside the controller decides (data that a pull returns, the verdict of a decoder, the
result of a NAND operation, a measured temperature) is an operand.
-/
namespace Sys2Proof

/-- A host-memory segment of a segment list (R139): address, length in bytes, and the reserved word. -/
structure Seg where
  addr : DWord
  len : Nat
  rsv : Nat
  deriving DecidableEq, Repr

/-- What the fetch of a segment list gave: nothing to fetch, a list, or a failed fetch (R139). -/
inductive SegList where
  | none
  | list (segs : List Seg)
  | failed
  deriving DecidableEq, Repr

/-- What the fuse map holds (R86 step 4): identity, the salt of the cipher engine, the repairs, the trusted key hashes. -/
structure Fuse where
  variant : Nat := 0
  srev : Nat := 0x10
  vendor : Nat := 0
  serial : DWord := 0
  salt : Word := 0
  hrLeft : List Nat := []
  frepHbm : Nat := 0
  frepSram : Nat := 0
  trusted : Nat := 0
  burned : Nat := 0
  deriving DecidableEq, Repr

/-- Settings of a function's PCIe capability (R114, R115): Device Control's Max_Read_Request_Size code, Enable Relaxed Ordering
and Enable No Snoop; Device Control 2's completion timeout range; the ECRC enables of AER. The defaults are those of PCIe. -/
structure DevCtl where
  mrrs : Nat := 2
  relaxed : Bool := true
  noSnoop : Bool := true
  cto : Nat := 0
  ecrcGen : Bool := false
  ecrcCheck : Bool := false
  deriving DecidableEq, Repr

/-- Link configuration after training and enumeration (R114 to R119): the trained link, the negotiated payload size, the
virtual functions enabled, ASPM L1, and the function numbers (0 the PF) whose Bus Master Enable, Memory Space Enable, MSI-X
Enable and MSI-X Function Mask are 1; whether the link partner asked for an L0p narrowing; LTR enabled; the capability settings
of the link's functions. -/
structure LinkCfg where
  width : Nat
  speed : Nat
  flit : Bool
  l0p : Bool
  mps : Nat
  vfs : Nat
  aspmL1 : Bool
  bme : List Nat
  mse : List Nat
  msixEn : List Nat := []
  msixFm : List Nat := []
  partner : Bool := true
  ltr : Bool := false
  dev : DevCtl := {}
  deriving DecidableEq, Repr

/-- Where a register write goes: BAR0 of a port's management function, or BAR2 or BAR4 of a function (R121). -/
inductive RegTarget where
  | bar0 (port off : Nat)
  | bar2 (fn off : Nat)
  | bar4 (fn off : Nat)
  deriving DecidableEq, Repr

/-- An upset of triple-voted copies (R60): the register offset, whether in its shadow copies, the copies that changed (their
masks exclusive-ored into copies 0, 1 and 2). -/
structure Upset where
  off : Nat
  shadow : Bool
  x0 : Word
  x1 : Word
  x2 : Word
  deriving DecidableEq, Repr

/-- Where a poisoned word lies (R381); `second` says that it is the second one of the same operation. -/
inductive UePlace where
  | ringHeld (slot : Nat)
  | ringFilling (seat tag : Nat)
  | map (fine : Bool)
  | staging (job : Nat)
  | parity (batten : Nat)
  | journal
  | counters (battens : List Nat)
  | fatal
  | channel (chn : Nat) (second : Bool)
  | codec (chn : Nat) (second : Bool)
  | cipher (seat tag : Nat) (second : Bool)
  | port (seat tag : Nat) (second : Bool)
  | completion (seat : Nat) (second : Bool)
  | keySlot (n : Nat)
  | unused
  deriving DecidableEq, Repr

/-- Result of a pull from host memory (R26, R28, R115): the data with the verdict of its CRC-32C, or a failed request with the
cause code of R146. -/
inductive PullRes where
  | ok (data : List Block) (crcOk : Bool)
  | fail (cause : Nat)
  deriving DecidableEq, Repr

/-- What the training of one channel gives (R302): the step that failed (0 none), the targets that passed, and the trained
values; `us` is its duration. -/
structure TrainRes where
  chn : Nat
  fail : Nat
  tgtOk : Nat
  dsk0 : Word
  dsk1 : Word
  dsk2 : Word
  dsk3 : Word
  rvref : Nat
  post : Nat
  weye : Nat
  reye : Nat
  us : Nat
  deriving DecidableEq, Repr

/-- What the boot hash engine finds in the bytes of an image (R404): the slot of the trusted digest that matches its key, the signature
is valid. -/
structure ImgVerdict where
  keySlot : Option Nat
  sig : Bool
  programOk : Bool
  deriving DecidableEq, Repr

/-- What KEY_LOAD fetches (R331): the bytes, none for a failed fetch with its cause; and whether the volume record of its
reservation reaches a system batten. -/
structure KeyMat where
  bytes : Option (List Nat)
  cause : Nat
  recordOk : Bool
  deriving DecidableEq, Repr

/-- What the decoders make of one codeword of a page read (R310, R313, R315): the step at which it decoded (1 hard, 2 retry, 3 soft,
0 not at all), the read-retry level, the corrected bits, the miscorrections on the way, and the zeros among its raw bits. -/
structure CwRes where
  step : Nat
  level : Nat
  bits : Nat
  mis : Nat
  zeros : Nat
  deriving DecidableEq, Repr

/-- What Stroke measures at a sample (R207, R423): average controller power in mW, the hottest sensor averaged (Q16.16, °C), the
time since the previous sample in µs, and, for loops at their first sample, the time since they started. -/
structure StrokeIn where
  mw : Nat
  temp : Word
  us : Nat
  first : List (Nat × Nat)
  deriving DecidableEq, Repr

/-- What the traffic and the scrubber do to a word of a memory (R377, R378, R382): a clean read, a write, a corrected error (word,
HBM row, HBM region), a poisoned word with the place it lies in (R381), a read of a word that an injection changed, the end of
an HBM pass. A region is one of R219, 7 for none. -/
inductive MemFinding where
  | clean
  | wrote (word region : Nat)
  | corrected (word row region : Nat)
  | poisoned (word : Nat) (place : UePlace)
  | planted (word row region : Nat) (place : UePlace)
  | pass
  deriving DecidableEq, Repr

/-- The end of a descriptor's operation (R365 to R370): the first failing offset with its bus cause; for COMPARE the first difference;
for the cipher the result; the bytes that were read. -/
structure DescRes where
  /-- BAD cause: 0 none, 1 to 4 bus, 6 index table, 7 cipher -/
  bad : Nat
  bus : Nat
  sub : Nat
  at_ : Nat
  /-- COMPARE: offset, source byte and destination byte of the first difference -/
  diff : Option (Nat × Nat × Nat)
  /-- source bytes read by COPY, GATHER or CHECKSUM, in order, as far as the operation went -/
  data : List Nat
  /-- the write-back of the descriptor succeeded -/
  wbOk : Bool
  deriving DecidableEq, Repr

/-- What VERIFY reads (R104, R230, R268): a copy of the media record passes its check; the volumes whose record has no valid copy; the eave
pages (LUN, block, page) that do not read with a valid tag; the anchor records (bank, page) that do not pass their check. -/
structure MediaRead where
  readable : Bool
  volBad : List Nat
  eaveBad : List (Nat × Nat × Nat)
  anchorBad : List (Nat × Nat)
  deriving DecidableEq, Repr

/-- Instructions of the TAP that R466 names; every other one acts as BYPASS. -/
inductive TapIr where
  | bypass | idcode | samplePreload | extest | extestPulse | extestTrain | highz | clamp | other
  deriving DecidableEq, Repr
/-- The commands, one per row of spec/opcode_table.json. -/
inductive Instr where
  /-- PWRGD_AON_RISE (R86): PWRGD_AON rises with VDD_AON and VDD_IO good, and the power-on sequence starts the crystal oscillator. -/
  | pwrgdAonRise
  /-- PWRGD_AON_FALL (R79): PWRGD_AON falls and the whole device is held in reset with its outputs high-impedance. -/
  | pwrgdAonFall
  /-- CRYSTAL_STABLE (R86): The crystal has counted 1,024 stable cycles, so the AON domain is released, the straps are sampled and STAGE becomes RAILS. -/
  | crystalStable (bootSel smb : Nat) (testEn : Bool)
  /-- RAIL_GOOD (R74): A rail has held 93 % of nominal for 100 µs and becomes good; when all fourteen rails are good, the switched domains are powered and the PLLs are started. -/
  | railGood (rail : Nat)
  /-- PLLS_LOCKED (R86): The PLLs lock and the controller loads the fuse map, applies trims, identity and repairs, and sets STAGE to FUSE. -/
  | pllsLocked (fuse : Fuse)
  /-- FUSE_MAP_LOADED (R86): The fuse map is valid, so the ports are released to train, HBM training starts and the boot hash engine begins verifying the selected bank. -/
  | fuseMapLoaded (crcOk : Bool)
  /-- HBM_TRAINED (R86): HBM training ends and the zero-fill of the HBM and every SRAM begins. -/
  | hbmTrained (ok : Bool)
  /-- ZERO_FILL_COMPLETE (R379): The zero-fill and its read-back end; a non-zero or uncorrectable word ends the sequence in STAGE FAIL with FCAUSE 3. -/
  | zeroFillComplete (bad : Option Nat)
  /-- BANK_VERIFIED (R87): The boot hash engine finishes checking a bank, and the controller releases the processors from it, falls back to the other bank, or enters FAIL with FCAUSE 4. -/
  | bankVerified (bank : Nat) (verdict : ImgVerdict)
  /-- FIRMWARE_INITIALISED (R86): The firmware finishes initialisation, PAGE_STAT.ON is set on the powered pages, GLB_READYT is written and STAGE becomes READY. -/
  | firmwareInitialised
  /-- FIRMWARE_READY_TIMEOUT (R411): A verified bank has not reached READY within the step 8 bound, so the processors restart from the other bank and a CAUSE 3 bank record is written. -/
  | firmwareReadyTimeout
  /-- RAIL_LOST (R78): A rail that was good falls below 90 % of nominal for more than 2 µs, causing a reset, a port link-down or an emergency flush, depending on the rail. -/
  | railLost (rail : Nat)
  /-- PFAIL_ASSERT (R229): PFAIL# stays low for the filter time and starts the emergency flush, unless R108 applies. -/
  | pfailAssert
  /-- FLUSH_SEAL_DONE (R229): Step SEAL ends with the cipher pipeline drained, and step WRITE starts programming sealed courses into eave pages. -/
  | flushSealDone
  /-- FLUSH_EAVE_WRITE_DONE (R229): Every eave data program has passed status, and the META pages are programmed. -/
  | flushEaveWriteDone (failed dead : List Nat)
  /-- FLUSH_META_DONE (R229): The META pages have passed status, and the eave record is programmed in two copies. -/
  | flushMetaDone
  /-- FLUSH_RECORD_DONE (R229): Both copies of the eave record have passed status, FLUSHED is set and the channels are held in reset. -/
  | flushRecordDone
  /-- WARM_RESTART (R90): After a flush, PFAIL#, the rails and the crystal have been stable for 10 ms, so steps 3 to 8 of the power-on sequence run again. -/
  | warmRestart
  /-- CRYSTAL_FAILURE (R83): The crystal stops or drifts out of range, so the AON domain switches to the RC oscillator, the clock-glitch alarm fires and the emergency flush starts. -/
  | crystalFailure
  /-- PLL_UNLOCK (R85): A PLL loses lock, so its island clock is held and a relock starts. -/
  | pllUnlock (pll : Nat)
  /-- PLL_RELOCK (R85): A PLL relocks and its island is released, with the held work resuming where it stopped. -/
  | pllRelock (pll : Nat)
  /-- PLL_RELOCK_TIMEOUT (R85): A PLL has not relocked after 1 ms, so its channel group is isolated, its port is taken down, or the device is declared faulty. -/
  | pllRelockTimeout (pll : Nat)
  /-- PORT_PLL_RETRY (R85): The 10 ms retry timer of an unlocked port PLL expires and the relock is tried again. -/
  | portPllRetry (port : Nat) (locked : Bool)
  /-- REFCLK_LOSS (R82): A port's REFCLK pair disappears, so that port keeps its link down and REFLOSS is raised. -/
  | refclkLoss (port : Nat)
  /-- PERST_ASSERT (R91): PERST# of a port goes low, taking its links down, resetting its functions and reaping its seats. -/
  | perstAssert (port : Nat)
  /-- PERST_DEASSERT (R91): PERST# of a port rises, and its links train to L0 with the link configuration in force. -/
  | perstDeassert (port : Nat)
  /-- THERMAL_SAMPLE (R423): The 1 ms AON monitor tick reads every temperature sensor and updates THM_HOT and THM_PEAK. -/
  | thermalSample (temps : List Nat) (answered : List Bool) (mw : Nat)
  /-- THERMAL_TRIP (R424): The hottest sensor has stayed above THM_TRIP for 1 ms, so the emergency flush starts. -/
  | thermalTrip
  /-- ALARM (R349): An alarm detector fires, erasing all key slots, the DRBG state and the staged plaintext, and setting ALM_LATCH. -/
  | alarm (src : Nat)
  /-- ENTROPY_STOP (R348): After a health failure the DRBG reaches its limit of 2^32 requests and stops, which is the entropy alarm. -/
  | entropyStop
  /-- DRBG_RESEED (R348): The 100 ms reseed timer of the DRBG expires and the DRBG reseeds from the entropy source. -/
  | drbgReseed (healthy : Bool)
  /-- DRBG_SEEDED (R348): The entropy source passes its start-up tests and the DRBG becomes seeded. -/
  | drbgSeeded
  /-- MASKING_RESEED (R327): The 10 µs timer expires and each cipher domain's masking generator is reseeded from the DRBG. -/
  | maskingReseed
  /-- ALM_LATCH_CLEAR (R351): A W1C write to ALM_LATCH clears each bit whose condition has ended. -/
  | almLatchClear (port : Nat) (v : Word)
  /-- CATCH_FIRE (R55): A GLB_CATCH write fires a Catch of each selected group, which snapshots the shadows and sends the tokens, or queues the Catch. -/
  | catchFire (port : Nat) (v : Word)
  /-- CATCH_COMPLETE (R55): Every island has acknowledged the Catch, so DONE is set, CBUSY is cleared and CSEQ is advanced. -/
  | catchComplete (group : Nat)
  /-- SHADOW_DISCARD (R45): A write of PAGE_CTRL.DISCARD copies the active values of the page into its shadows and clears PEND. -/
  | shadowDiscard (port page : Nat)
  /-- EVT_TEST_WRITE (R47): A write to EVT_TEST sets EVT_RAW bits as the hardware events would. -/
  | evtTestWrite (port page : Nat) (v : Word)
  /-- EVT_RAW_CLEAR (R132): A W1C write to EVT_RAW clears event bits and re-sends the event message when pending events remain. -/
  | evtRawClear (port page : Nat) (v : Word)
  /-- ALIAS_ACCESS (R65): An access in the bit-alias window reads or indivisibly writes one bit of the register space according to that bit's kind. -/
  | aliasAccess (port addr : Nat) (write : Option Word)
  /-- REG_WRITE (R50): A write to a register that has no row of its own behaves according to the kinds of its fields. -/
  | regWrite (target : RegTarget) (v : Word)
  /-- BAR0_INVALID_ACCESS (R40): A BAR0 access that is not one aligned word, or that falls in the unmapped window or a reserved page, returns zero or is dropped, and is recorded. -/
  | bar0InvalidAccess (port off : Nat) (write whole : Bool)
  /-- CROSSING_TIMEOUT (R67): A register access into another island has not completed after 1.5 µs, so the hub ends it and records cause 2. -/
  | crossingTimeout (port off : Nat) (write : Bool)
  /-- PAIR_LO_READ (R51): A read of an _LO register latches the matching _HI value for the reading function. -/
  | pairLoRead (port off : Nat)
  /-- TV_SCRUB (R60): The 1 ms scrubber votes every triple-voted field. -/
  | tvScrub (upsets : List Upset)
  /-- CFG_COMMIT (R100): A write of CFG_GATE.COMMIT snapshots the configuration, ungates the declared groups and starts the image checks, or is ignored. -/
  | cfgCommit (port : Nat)
  /-- IMAGE_CHECK_COMPLETE (R101): The image checks of a commit end with either an acceptance or a rejection. -/
  | imageCheckComplete
  /-- CFG_REOPEN (R107): A write of CFG_GATE.REOPEN is either ignored or accepted, and once accepted the controller begins to hold and drain commands. -/
  | cfgReopen (port : Nat)
  /-- REOPEN_COMPLETE (R107): The drain and commit of a reopen end, so the channels are reset, the slots are emptied and the gate becomes STAGED. -/
  | reopenComplete
  /-- TRAIN_STAGE_DONE (R104): Training of every ungated channel ends and VERIFY starts. -/
  | trainStageDone (results : List TrainRes)
  /-- VERIFY_DONE (R104): The media record and volume records are read and the media checks run, so the held KEY_LOAD commands are released. -/
  | verifyDone (media : MediaRead)
  /-- REPLAY_DONE (R255): The journal replay ends and SCAN starts; `bad` are the numbers of chunks that do not read. -/
  | replayDone (bad : List Nat)
  /-- SCAN_DONE (R256): The tag scan ends and FOLD starts; `bad` are the places (2^21 × batten + codeword offset) of pages whose first codeword does not decode or has a bad tag. -/
  | scanDone (bad : List Nat)
  /-- FOLD_DONE (R232): The eave fold ends and bulk commands are accepted; `progBad` are the units (batten, stripe, position) whose program in FOLD
  failed, `failed` the blocks (LUN, block) whose erase in step 4 failed. -/
  | foldDone (progBad : List (Nat × Nat × Nat)) (failed : List (Nat × Nat))
  /-- MIGRATE_STEP_DONE (R413): A migration step ends and its progress record is written. -/
  | migrateStepDone (permille : Nat) (last : Bool)
  /-- DOMAIN_GATE (R93): A PWR_DOMCMD GO with OP 1 requests the gating of a domain, which is refused or started. -/
  | domainGate (port dom : Nat)
  /-- DOMAIN_UNGATE (R94): A PWR_DOMCMD GO with OP 0 requests the ungating of a domain. -/
  | domainUngate (port dom : Nat)
  /-- DOMDONE (R94): A gate or ungate operation finishes and DOMDONE is raised. -/
  | domdone
  /-- GROUP_REGATE_TIMER (R94): 1 ms after its last read, a host-gated channel group that was ungated for a read is gated again. -/
  | groupRegateTimer (group : Nat)
  /-- IDLE_THRESHOLD (R419): In DRIFT, the idle timer reaches PWR_IDLE1, 2 or 3 and entry into the matching power state starts. -/
  | idleThreshold (n : Nat)
  /-- PS_ENTRY_DONE (R417): Entry into a power state completes with its domains gated. -/
  | psEntryDone
  /-- PSCTL_WAKE (R420): A write of PWR_PSCTL.WAKE is a wake event that starts the return to P0. -/
  | psctlWake (port : Nat)
  /-- PS_EXIT_COMPLETE (R420): The device returns to P0 and the held commands start. -/
  | psExitComplete
  /-- LINK_UP (R117): A link reaches L0 and its speed, width and RATE are reported. -/
  | linkUp (port link : Nat) (cfg : LinkCfg)
  /-- RATECHG (R118): The link's speed, width, flit mode or MPS changes, and RATE is recomputed. -/
  | ratechg (port link : Nat) (cfg : LinkCfg)
  /-- DL_DOWN (R133): A link goes down, and every seat of its functions starts to be reaped. -/
  | dlDown (port link : Nat)
  /-- LINK_L1_IDLE (R119): After 100 µs without traffic, with ASPM L1 enabled and no class D seat with IDLE 0, the link enters L1. -/
  | linkL1Idle (port link : Nat)
  /-- FLR (R133): A function-level reset resets the function and reaps its seats and those of its VFs. -/
  | flr (fn : Nat)
  /-- BUS_MASTER_DISABLE (R133): Bus Master Enable or VF Enable is cleared on a function, and its seats start to be reaped. -/
  | busMasterDisable (fn : Nat) (vfEnable : Bool)
  /-- BAR_DECODE_DISABLED (R121): A memory request to the BARs of a function whose MSE is 0 completes or is reported as Unsupported Request. -/
  | barDecodeDisabled (fn bar : Nat) (write : Bool)
  /-- BAR2_INVALID_ACCESS (R122): A BAR2 access that is misaligned, or aimed at an undefined offset, returns zero or is dropped, and is logged. -/
  | bar2InvalidAccess (fn off : Nat) (write : Bool)
  /-- PASID_TLP (R12): A received TLP with a PASID or TPH prefix completes as Unsupported Request and is reported through AER. -/
  | pasidTlp (fn : Nat)
  /-- SEAT_REQ (R123): A SEAT_REQ GO requests a seat, which is granted or refused in SEAT_RSP. -/
  | seatReq (fn : Nat) (v : Word)
  /-- SEAT_REL (R131): A SEAT_REL GO starts the release of a window with a seat reset. -/
  | seatRel (fn : Nat) (v : Word)
  /-- SEAT_RELEASE_COMPLETE (R131): A release finishes, so its streams close, the seat and window are freed and SEAT_RELRSP is set. -/
  | seatReleaseComplete (seat : Nat)
  /-- SEAT_SQT_DOORBELL (R126): A write of the submission tail doorbell starts fetching of the posted entries. -/
  | seatSqtDoorbell (fn win tail : Nat)
  /-- SEAT_CQH_DOORBELL (R128): A write of the completion head releases ring slots, so held completions are written. -/
  | seatCqhDoorbell (fn win head : Nat)
  /-- SEAT_RESET (R130): A write of SEAT_CTL.RESET starts a seat reset that aborts the unstarted commands. -/
  | seatReset (fn win : Nat) (v : Word)
  /-- SEAT_RESET_COMPLETE (R165): Every command affected by a seat reset has completed and RESETTING clears. -/
  | seatResetComplete (seat : Nat)
  /-- SEAT_KICK (R135): A SEAT_KICK GO force-detaches a seat, or it raises KREF. -/
  | seatKick (port : Nat) (v : Word)
  /-- SEAT_CQINT_TIMER (R128): TIME µs after the first unsignalled completion, the seat's vector is signalled. -/
  | seatCqintTimer (seat : Nat)
  /-- ENTRY_FETCHED (R144): A fetched command entry is checked in order and completed with an error or started. -/
  | entryFetched (seat : Nat) (entry : List Word) (segs : SegList)
  /-- ENTRY_REFETCH (R126): 2 µs after a wrong-phase fetch the entry is fetched again, and fetching stops at the fourth failure. -/
  | entryRefetch (seat : Nat) (entry : List Word) (segs : SegList)
  /-- ENTRY_FETCH_FAILED (R126): The fetch of an entry fails, so fetching stops on the seat and SQERR is set. -/
  | entryFetchFailed (seat : Nat)
  /-- REAP_COMPLETE (R133): At t0 + 10 ms the reaped seat's commands are completed DETACHED or discarded, its streams are closed and the seat is freed. -/
  | reapComplete (seat : Nat)
  /-- WRITE (R146): The WRITE command transfers host data into a range along the write path. -/
  | write (seat tag : Nat)
  /-- READ (R147): The READ command transfers a range to host memory under the early-release or held-release rule. -/
  | read (seat tag : Nat)
  /-- FLUSH (R159): The FLUSH command waits until the covered writes are Committed and the covered discards are durable, closing their stripes and journalling at once. -/
  | flush (seat tag : Nat)
  /-- DISCARD (R151): The DISCARD command unmaps a range through the map. -/
  | discard (seat tag : Nat)
  /-- WRITE_FILL (R149): The WRITE_FILL command writes a repeated 64-bit pattern into a range. -/
  | writeFill (seat tag : Nat)
  /-- VERIFY (R148): The VERIFY command compares host data with the decrypted content of a range. -/
  | verify (seat tag : Nat)
  /-- GATHER_WRITE (R150): The GATHER_WRITE command writes the elements named by an index table. -/
  | gatherWrite (seat tag : Nat)
  /-- ABORT (R163): The ABORT command ends a target command of the same seat, depending on the target's state. -/
  | abort (seat tag : Nat)
  /-- STREAM_OPEN (R176): The STREAM_OPEN command asks for a stream contract, which is admitted or refused by the admission conditions. -/
  | streamOpen (seat tag : Nat)
  /-- STREAM_CLOSE (R152): The STREAM_CLOSE command ends a contract once the earlier writes of the stream have completed. -/
  | streamClose (seat tag : Nat)
  /-- STREAM_QUERY (R152): The STREAM_QUERY command writes the stream's record to host memory. -/
  | streamQuery (seat tag : Nat)
  /-- SANITISE (R427): The SANITISE command starts a block or crypto erase of the whole media. -/
  | sanitise (seat tag : Nat)
  /-- FORMAT (R429): The FORMAT command unmaps a volume and advances its format generation, or initialises new media. -/
  | format (seat tag : Nat) (recordOk : Bool)
  /-- FW_LOAD (R407): The FW_LOAD command writes image blocks into the inactive bank. -/
  | fwLoad (seat tag : Nat) (data : List Block) (stop : Option (Nat × Nat)) (arrayFail : Option Nat)
  /-- FW_COMMIT (R408): The FW_COMMIT command verifies the loaded image and writes the bank record that prefers it. -/
  | fwCommit (seat tag : Nat) (verdict : ImgVerdict)
  /-- FW_ACTIVATE (R409): The FW_ACTIVATE command holds new commands and starts the drain of a live switch to the committed bank. -/
  | fwActivate (seat tag : Nat)
  /-- LOG_READ (R433): The LOG_READ command returns entries of the event log or the health snapshot. -/
  | logRead (seat tag : Nat)
  /-- KEY_LOAD (R332): The KEY_LOAD command fetches, checks, unwraps, reserves and authenticates key material into a slot. -/
  | keyLoad (seat tag : Nat) (material : KeyMat)
  /-- KEY_RETIRE (R334): The KEY_RETIRE command retires a slot once its reserved invocations and decryptions are finished. -/
  | keyRetire (seat tag : Nat)
  /-- VOLUME_SET (R341): The VOLUME_SET command binds a volume to a slot and, with REKEY set, advances its key generation. -/
  | volumeSet (seat tag : Nat) (recordOk : Bool)
  /-- DATA_PULL_COMPLETE (R26): The pull of a course or patch extent from host memory completes, its CRC-32C is checked and sealing starts. -/
  | dataPullComplete (seat tag : Nat) (res : PullRes)
  /-- TRANSFER_RESUME (R27): Commits release enough ring space, so a transfer paused at the dirty ceiling resumes. -/
  | transferResume (seat tag : Nat)
  /-- SEAL_COMPLETE (R26): The cipher engine seals a course, it is written to the ingest ring as dirty, and it takes its SEQ. -/
  | sealComplete (seat tag : Nat)
  /-- PROGRAM_COMPLETE (R26): A program operation on a LUN reports its status. -/
  | programComplete (lun : Nat) (ok : Bool)
  /-- STRIPE_PAD_CLOSE (R29): The wait for more data would let a course miss its commit bound, so the stripe or unit (`unit`) is closed with pad pages. -/
  | stripePadClose (batten : Nat) (unit : Bool)
  /-- PAGE_READ_COMPLETE (R313): A page read completes and its codewords are hard-decoded, escalating to read-retry when they fail. -/
  | pageReadComplete (lun : Nat) (cws : List CwRes)
  /-- SOFT_DECODE_COMPLETE (R313): A soft decode finishes, or the codeword goes on to ridge reconstruction. -/
  | softDecodeComplete (lun : Nat) (cw : CwRes)
  /-- RECONSTRUCTION_COMPLETE (R319): The ridge engine finishes XORing the stripe members and checks the rebuilt codeword. -/
  | reconstructionComplete (lun : Nat) (others : List (Nat × List CwRes)) (checks : List Bool)
  /-- DECRYPT_COMPLETE (R343): The cipher engine finishes decrypting a course and checks its tag, releasing or zeroing plaintext. -/
  | decryptComplete (seat tag : Nat) (altered : Bool)
  /-- ZEROING_READ_COMPLETE (R343): The zero-length read after zeroing completes, and a failure counts a ZFAIL. -/
  | zeroingReadComplete (seat tag : Nat) (ok : Bool)
  /-- NAND_OP_TIMEOUT (R304): A NAND operation has not reported ready within twice its descriptor time plus 1 ms, so RESET LUN is issued and the operation is retried or failed. -/
  | nandOpTimeout (lun : Nat) (resetOk : Bool)
  /-- ERASE_COMPLETE (R274): A member erase reports its status, and a batten with all members erased becomes FREE. -/
  | eraseComplete (lun : Nat) (ok : Bool)
  /-- ERASE_SUSPENDED (R198): A LUN reports its erase suspended, so the waiting stream program is placed. -/
  | eraseSuspended (lun : Nat)
  /-- COX_SLOT (R191): At each 10 µs slot boundary the Cox latches its inputs, refills budgets and deficits, and places operations. -/
  | coxSlot
  /-- TOKEN_FILL (R169): Once per microsecond, RATE × 10 bytes are added to each stream's token bucket. -/
  | tokenFill
  /-- STROKE_SAMPLE (R206): At each sample period every active loop computes its error, integrator and output. -/
  | strokeSample (inp : StrokeIn)
  /-- STKT_ARM (R217): A write of STKT_TRIG.ARM clears the record and starts pre-trigger recording. -/
  | stktArm (port : Nat) (v : Word)
  /-- STKT_FORCE (R217): A write of STKT_TRIG.FORCE triggers the trace manually in PRE. -/
  | stktForce (port : Nat) (v : Word)
  /-- STKT_STOP (R217): A write of STKT_TRIG.STOP discards the record and returns the trace to IDLE. -/
  | stktStop (port : Nat) (v : Word)
  /-- STKT_RDATA_READ (R218): A read of STKT_RDATA returns a trace record and advances IDX. -/
  | stktRdataRead (port : Nat)
  /-- JOURNAL_CHUNK_START (R250): JNL_TJ ms after the previous chunk, a new journal chunk starts in class 1. -/
  | journalChunkStart
  /-- EARLY (R250): The waiting deltas reach 4 MiB, or the window is nearly used, so a chunk starts early. -/
  | early
  /-- JOURNAL_CHUNK_DURABLE (R250): A journal chunk is durable, so JNL_CHUNK and CMARK advance and waiting erases may proceed. -/
  | journalChunkDurable (ok : Bool)
  /-- VALID_WALK_DONE (R277): The valid-data walk after FOLD ends, so GC may choose victims. -/
  | validWalkDone
  /-- PATROL_RATE_TICK (R286): Once per second the patrol rate is recomputed and LATE is checked. -/
  | patrolRateTick
  /-- READ_DISTURB_LIMIT (R288): A member's read count exceeds WEAR_RDTH × 1,000, so its batten becomes a relocation victim. -/
  | readDisturbLimit (batten : Nat)
  /-- CHN_ISO (R305): A write of CHN_CTL.ISO requests a host isolation of the channel, which is refused or started. -/
  | chnIso (port chn : Nat) (v : Word)
  /-- HOST_ISOLATION_DONE (R306): The in-flight work and the replacement eave erases end, so the channel becomes ISOLATED. -/
  | hostIsolationDone (chn : Nat)
  /-- CHN_TRAIN (R303): A write of CHN_CTL.TRAIN starts training of an isolated channel, or it is refused. -/
  | chnTrain (port chn : Nat) (v : Word)
  /-- TRAINING_DONE (R302): A channel's training passes step CHECK and moves to SERVE, or fails a step and is isolated. -/
  | trainingDone (res : TrainRes)
  /-- ZQ_SHORT_TIMER (R300): Every CHN_ZQ.PER ms, a short ZQ calibration runs on each target. -/
  | zqShortTimer (chn : Nat)
  /-- TRACKING_CHECK (R304): Every 10 ms a tracking check adjusts deskew, and a third low eye isolates the channel. -/
  | trackingCheck (chn eye : Nat) (moves : List (Nat × Bool))
  /-- MEM_SCRUB_PASS (R378): The scrubber reads memory words on its schedule and corrects them. -/
  | memScrubPass (mem : Nat) (finding : MemFinding)
  /-- LEAK_TICK (R380): A memory's LEAK timer expires and 1 is subtracted from its bucket level. -/
  | leakTick (mem : Nat)
  /-- MEM_INJ_ARM (R382): A write of MEM_INJ.ARM arms an error injection, or it is refused. -/
  | memInjArm (port : Nat) (v : Word)
  /-- SOFT_REPAIR (R384): A MEM_RPCMD GO with OP 0 starts a soft repair of an HBM row. -/
  | softRepair (port : Nat) (v : Word)
  /-- HARD_REPAIR (R385): A MEM_RPCMD GO with OP 1 starts a fuse burn for a soft-repaired row. -/
  | hardRepair (port : Nat) (v : Word)
  /-- RPDONE (R384): A repair step or the fuse burn ends, and the held accesses are released. -/
  | rpdone
  /-- RESERVATION_EXTEND (R338): A slot's counter reaches M − 2^19, so a volume record with a higher mark is written. -/
  | reservationExtend (slot : Nat)
  /-- RESERVATION_DURABLE (R338): A high-water record write completes, or fails in both battens and sets UNSAFE. -/
  | reservationDurable (slot : Nat) (ok : Bool)
  /-- KEY_RETIRE_EFFECT (R334): The last reserved invocation and decryption of a retiring slot are finished, so the slot becomes RETIRED. -/
  | keyRetireEffect (slot : Nat)
  /-- DMC_TAIL_WRITE (R360): A write of DMC_TAIL starts or extends descriptor fetching on a data-mover channel. -/
  | dmcTailWrite (port ch : Nat) (v : Word)
  /-- DMC_ENABLE (R359): A write of DMC_CTL.EN starts or resumes a channel, or it is ignored and recorded. -/
  | dmcEnable (port ch : Nat) (v : Word)
  /-- DMC_STOP (R372): A write of STOP, or of EN 0, stops a channel after its running descriptor. -/
  | dmcStop (port ch : Nat) (v : Word)
  /-- DMC_RESET (R372): A write of DMC_CTL.RESET zeroes HEAD and the accumulator of a stopped channel. -/
  | dmcReset (port ch : Nat) (v : Word)
  /-- DESCRIPTOR_FETCHED (R362): A descriptor entry is fetched and its fields are captured and checked. -/
  | descriptorFetched (ch : Nat) (words : List Word) (keyIv : List Word)
  /-- DESCRIPTOR_COMPLETE (R369): A descriptor's operation ends and its result words and DW0 are written back. -/
  | descriptorComplete (ch : Nat) (res : DescRes)
  /-- BARRIER_READ_COMPLETE (R368): A barrier's zero-length read completes, so the waiting descriptor starts or completes BAD. -/
  | barrierReadComplete (ch cause : Nat)
  /-- FWA_READ_PAGE (R396): A raw operation with FWA_OPCMD OP 0 reads an array page into the buffer. -/
  | fwaReadPage (port : Nat) (v : Word)
  /-- FWA_PROGRAM_PAGE (R396): A raw operation with FWA_OPCMD OP 1 programs an array page from the buffer. -/
  | fwaProgramPage (port : Nat) (v : Word)
  /-- FWA_ERASE_BLOCK (R396): A raw operation with FWA_OPCMD OP 2 erases an array block. -/
  | fwaEraseBlock (port : Nat) (v : Word)
  /-- FWA_OP_DONE (R393): An array program or erase ends with its code in FWA_OPSTAT. -/
  | fwaOpDone (ok : Bool)
  /-- FWA_RESUME_TIMER (R394): 1 ms after a suspend, the suspended array operation resumes. -/
  | fwaResumeTimer (bank : Nat)
  /-- FWA_DATA_ACCESS (R396): An access to FWA_DATA moves a buffer word and advances FWA_DIDX. -/
  | fwaDataAccess (port : Nat) (write : Option Word)
  /-- FWA_SET (R399): An owner operation SET locks an unlocked region under a password. -/
  | fwaSet (port : Nat) (v : Word)
  /-- FWA_OPEN (R399): An owner operation OPEN opens a locked region when the password matches. -/
  | fwaOpen (port : Nat) (v : Word)
  /-- FWA_CLOSE (R399): An owner operation CLOSE locks an open region again. -/
  | fwaClose (port : Nat) (v : Word)
  /-- FWA_CLEAR (R399): An owner operation CLEAR removes a region's password when it matches. -/
  | fwaClear (port : Nat) (v : Word)
  /-- FWA_OWNER_OP_DONE (R399): A SET or CLEAR finishes its configuration-row write and FWA_PSTAT reports the result. -/
  | fwaOwnerOpDone
  /-- ACTIVATION_DRAIN_DONE (R409): Every started command has completed, and the running image writes its handover state. -/
  | activationDrainDone
  /-- ACTIVATION_DRAIN_TIMEOUT (R409): The drain has not ended within 100 ms, so the activation completes with cause 9. -/
  | activationDrainTimeout
  /-- ACTIVATION_QUIESCE_DONE (R409): The handover state is written, so the processors are reset and switched to the committed bank. -/
  | activationQuiesceDone
  /-- ACTIVATED (R409): The new image serves, held commands are released and FW_ACTIVATE completes with SUCCESS. -/
  | activated
  /-- ACTIVATION_FALLBACK (R409): The START bound passes without service, so the previous bank resumes and a CAUSE 2 record is written. -/
  | activationFallback
  /-- SANITISE_STEP_DONE (R427): A sanitise step, or 1 % of ERASE, finishes and its progress record is written. -/
  | sanitiseStepDone
  /-- MEDIA_INIT_DONE (R430): Media initialisation writes its anchors and completes the first FORMAT. -/
  | mediaInitDone (bad : List (Nat × Nat))
  /-- PFL_EHOLD_WRITE (R224): A write of PFL_EHOLD sets the hold-up energy and recomputes the dirty ceiling. -/
  | pflEholdWrite (port : Nat) (v : Word)
  /-- MAP_LOOKUP (R261): MAP_QSEL takes a new value, and the map lookup fills MAP_QENT and MAP_QFINE. -/
  | mapLookup (port : Nat) (v : Word)
  /-- LDPC_COUNTER_CLEAR (R325): A write of LDPC_STAT.CLR zeroes every counter and histogram bin of page LDPC. -/
  | ldpcCounterClear (port : Nat)
  /-- TRNG_RAND_READ (R356): A read of TRNG_RAND returns 32 bits of DRBG output. -/
  | trngRandRead (port : Nat)
  /-- SMBUS_READ_STATUS (R437): SMBus command 0x00 returns GLB_BOOT, CFG_GATE, GLB_STAT and PWR_PSTAT. -/
  | smbusReadStatus
  /-- SMBUS_READ_TEMPERATURE (R437): SMBus command 0x01 returns THM_HOT and THM_PEAK. -/
  | smbusReadTemperature
  /-- SMBUS_READ_SENSORS (R437): SMBus command 0x02 returns THM_TEMP0 to THM_TEMP9. -/
  | smbusReadSensors
  /-- SMBUS_READ_POWER (R437): SMBus command 0x03 returns the measured power, PWR_RAIL and PWR_RAILLOST. -/
  | smbusReadPower
  /-- SMBUS_READ_IDENTITY (R437): SMBus command 0x04 returns ALM_LATCH, GLB_RSTCAUSE, GLB_DEVID and FWA_ACTIVE_VER. -/
  | smbusReadIdentity
  /-- SMBUS_SET_OFFSET (R437): SMBus command 0x10 sets the register offset for command 0x11. -/
  | smbusSetOffset (bytes : List Nat)
  /-- SMBUS_READ_REGISTER (R437): SMBus command 0x11 reads the register at the set offset, stretching the clock during stalls. -/
  | smbusReadRegister (timedOut : Bool)
  /-- SMBUS_ALERT_RESPONSE (R437): A read of the Alert Response Address while ALERT# is low returns the target's address. -/
  | smbusAlertResponse
  /-- PROGRAM_SUSPENDED (R200): A LUN reports its lower-class program suspended, so the class 1 or host read waiting for it is placed. -/
  | programSuspended (lun : Nat)
  /-- LINK_L1_EXIT (R420): A TLP from the link partner brings a link out of L1, which is a wake event and clears PRTx_LSTATn.L1. -/
  | linkL1Exit (port link : Nat)
  /-- PLL_LOCK_FAILURE (R89): The PLLs fail to lock at step 3 of the power-on sequence and STAGE becomes FAIL with FCAUSE 5. -/
  | pllLockFailure
  /-- MSIX_VECTOR_UNMASK (R132): Host software unmasks an MSI-X vector whose PBA bit is pending, and the held message is sent under the PCIe rules. -/
  | msixVectorUnmask (fn vec : Nat)
  /-- FWA_MINIMUM_RUN_ELAPSED (R394): The 500 µs minimum run after a resume elapses, so a waiting read of the bank suspends the array operation again. -/
  | fwaMinimumRunElapsed (bank : Nat)
  /-- TAP_INSTRUCTION (R466): TCK edges on the JTAG TAP shift and execute an IEEE 1149.1 instruction such as IDCODE, BYPASS or EXTEST. -/
  | tapInstruction (ir : TapIr)
  /-- PFAIL_DEASSERT (R90): PFAIL# returns high, which clears PFL_STAT.PFAIL and starts the 10 ms stability wait of the warm restart. -/
  | pfailDeassert
  /-- TAMPER_DEASSERT (R351): TAMPER# returns high, so the TAMPER bit of ALM_STAT.LIVE clears and its latch bit can then be cleared. -/
  | tamperDeassert
  /-- CRYSTAL_RETURN (R351): The crystal returns within range, so CLK_STAT.XRC clears and the clock-glitch condition ends. -/
  | crystalReturn
  /-- REFCLK_RETURN (R84): A port's REFCLK pair becomes present, setting CLK_STAT.REFA or REFB and letting the port PLL lock. -/
  | refclkReturn (port : Nat)
  deriving DecidableEq, Repr

end Sys2Proof
end

