-- ==== Sys2Proof/Machine/State.lean ====
section
/-!
DEFINITION. The state of the controller as plain data: the register space and its headers, the AON domain, links, functions
and seats, the command layer, and (below) every engine, table, buffer, memory and counter the chapters give the device;
with the queue of commands that wait. State.reset is the device before its first PWRGD_AON rise.
-/
namespace Sys2Proof.Machine

/-! ### The register hub (chapter Register Model) -/

/-- The header of one implemented page (R42 to R72), but for the words that are computed on a read. -/
structure PageHdr where
  view : Bool := false
  irqA : Bool := true
  irqB : Bool := true
  alert : Bool := false
  group : Nat := 0
  evtRaw : Word := 0
  evtEn : Word := 0
  on : Bool := false
  cbusy : Bool := false
  cseq : Nat := 0
  cause : Nat := 0
  whr : Nat := 0
  refused : Bool := false
  pend : Bool := false
  /-- The page passed its check in the Catch in progress (R55 step 5). -/
  applied : Bool := false
  /-- A shadow was written since the snapshot of a commit (R57, R100). -/
  late : Bool := false
  woWhere : Nat := 0
  woOver : Bool := false
  woValid : Bool := false
  scount : Nat := 0
  vWhere : Nat := 0
  triple : Bool := false
  single : Bool := false
  deriving DecidableEq, Repr

/-- The header of page `p` at reset (R42, R53). [log entry 2 DESIGN CHOICE] -/
def hdrDefault (p : Nat) : PageHdr := { group := groupDefault p }

/-- An access that waits behind a stalled shadow write (R55, R66). -/
structure HubReq where
  /-- 0 A, 1 B, 2 the SMBus target -/
  port : Nat
  off : Nat
  /-- none for a read -/
  value : Option Word
  /-- the bit of an alias access -/
  bit : Option Nat
  /-- false: no single aligned word (R40); of the SMBus target, a crossing that times out (R67) -/
  ok : Bool
  deriving DecidableEq, Repr

/-- The three copies of a triple-voted word (R60), each as its difference from the word the store holds. -/
structure Copies where
  x0 : Word := 0
  x1 : Word := 0
  x2 : Word := 0
  deriving DecidableEq, Repr

/-- The register hub. -/
structure Hub where
  /-- active words; an unlisted word holds its reset value -/
  act : SMap Word := []
  /-- shadow bits of shadowed words; an unlisted word holds its reset bits -/
  shd : SMap Word := []
  hdr : SMap PageHdr := []
  /-- triple-voted words whose three copies are not all equal, keyed by 2 × offset, plus 1 for the shadow copies (R60) -/
  tv : SMap Copies := []
  /-- read latch of each management function: the _LO offset read last and the _HI value (R51) -/
  latch : SMap (Nat × Word) := []
  /-- held _LO writes, keyed by 2 × offset + port (R51) -/
  held : SMap Word := []
  /-- words whose write-once field has been written (R71) -/
  woTaken : List Nat := []
  stalled : List HubReq := []
  /-- captured at a commit (R100): the shadows, CFG_SUM, and the two configuration words that have no shadow -/
  snapShd : SMap Word := []
  snapSum : Word := 0
  snapEhold : Word := 0
  snapLock : Word := 0
  /-- GLB_MODE took its safe value during RECOVER (R62, R104) -/
  safeMode : Bool := false
  deriving DecidableEq, Repr

/-! ### The AON domain (chapter Supplies, Clocks, Reset and Bring-Up) -/

/-- A domain operation accepted through PWR_DOMCMD and not yet complete (R92). -/
structure DomOp where
  dom : Nat
  gate : Bool
  port : Nat := 0
  deriving DecidableEq, Repr

/-- The AON domain and what it monitors. -/
structure Sys where
  /-- the PWRGD_AON input -/
  pwrgd : Bool := false
  /-- the AON domain has left reset (R86 step 2) -/
  aon : Bool := false
  /-- the 64-bit time base in ns (R22) -/
  time : Nat := 0
  /-- good rails, bit n of R73 -/
  rails : Nat := 0
  /-- rails that have been good since PWRGD_AON rose (R77) -/
  everGood : Nat := 0
  xtalBad : Bool := false
  pfailLow : Bool := false
  tamperLow : Bool := false
  testEn : Bool := false
  perstLow : List Nat := [0, 1]
  refPresent : List Nat := []
  /-- a PCIe rail loss keeps the links down (R78) -/
  pcieRailLost : Bool := false
  /-- ALERT# is driven low -/
  alertLow : Bool := false
  /-- the OR of the events routed to each management function (R132) -/
  orA : Bool := false
  orB : Bool := false
  /-- the PLL fault recorded in the AON domain (R85, R89), coded as GLB_RSTCAUSE.PLL -/
  pllFault : Nat := 0
  /-- the device attempts nothing further (R85) -/
  dead : Bool := false
  /-- the ports are released to train (R86 step 5) -/
  portsFree : Bool := false
  bankFailed : Bool := false
  hbmOk : Bool := false
  /-- time at which the zero-fill started (R379) -/
  zeroT : Nat := 0
  zeroDone : Bool := false
  verifiedBank : Option Nat := none
  domOp : Option DomOp := none
  /-- GOs that arrived during a power-state transition, in order (R93) -/
  domHeld : List DomOp := []
  /-- host-gated channel groups ungated for a read (R94) -/
  readOpen : List Nat := []
  /-- state an entry in progress leads to, and the domains the power state gated (R417, R419) -/
  psTarget : Nat := 0
  psGated : List Nat := []
  /-- domains whose gating by the power state waits for their PEND to clear (R58) -/
  psLate : List Nat := []
  /-- the emergency flush lost a rail it needs and cannot complete (R78) -/
  flushLost : Bool := false
  /-- cause code the next warm restart will report (R89) and whether the flush wrote its record -/
  restartCause : Nat := 0
  flushed : Bool := false
  /-- channel groups whose PLL did not relock: it stays unlocked until a warm restart or a cold start (R85, R307) -/
  pllDead : List Nat := []
  /-- ports taken down because their PLL did not relock: the next lock acts as a deassertion of their PERST# (R85) -/
  portDead : List Nat := []
  smbOff : Nat := 0
  /-- TAP instruction in force (R466) -/
  tapIr : TapIr := .bypass
  fuse : Fuse := {}
  deriving DecidableEq, Repr

/-! ### Links, functions and seats (chapter Host Links and Seats) -/

/-- The function control page of one function (R122); the RO words FNID, FNRATE and FNWIN are computed. -/
structure FnCtl where
  sqb : Nat := 0
  cqb : Nat := 0
  sqbHeld : Option Word := none
  cqbHeld : Option Word := none
  req : Nat := 0
  rspDone : Bool := true
  rspStatus : Nat := 0
  rspWin : Nat := 0
  rspSeat : Nat := 0
  relWin : Nat := 0
  relDone : Bool := true
  relStatus : Nat := 0
  deriving DecidableEq, Repr

/-- The PCIe side: configuration-space state the rules name. -/
structure Pci where
  ctl : SMap FnCtl := []
  /-- functions whose Bus Master Enable is 1, and whose Memory Space Enable is 1 -/
  bme : List Nat := []
  mse : List Nat := []
  /-- PRTA_LINKCFG and PRTB_LINKCFG as taken at the last rise of PERST# (R116) -/
  cfgA : Word := 0xF00
  cfgB : Word := 0xF00
  /-- links with ASPM L1 enabled, keyed 4 × port + link -/
  aspm : List Nat := []
  /-- links with LTR enabled, keyed 4 × port + link (R119) -/
  ltr : List Nat := []
  /-- capability settings of a function (R114, R115) -/
  devCtl : SMap DevCtl := []
  /-- functions whose MSI-X Enable is 1, and whose MSI-X Function Mask is 1 (R132) -/
  msixEn : List Nat := []
  msixFm : List Nat := []
  /-- unmasked MSI-X vectors and pending (PBA) vectors, keyed 2048 × function + vector -/
  vecOn : List Nat := []
  pba : List Nat := []
  /-- address and data words of the MSI-X tables, keyed 8192 × function + word; an unlisted word is 0 (R121, R132) -/
  msixTab : SMap Word := []
  /-- BAR2 accesses logged by the seat directory: function and offset, newest first (R122) -/
  bar2Log : List (Nat × Nat) := []
  deriving DecidableEq, Repr

/-- A completion entry before its phase and head are known (R140), with the opcode for the log of a reap (R133). -/
structure Cqe where
  opc : Nat := 0
  tag : Nat
  status : Nat
  flags : Nat
  courses : Nat
  time : Nat
  result : Nat
  deriving DecidableEq, Repr

/-- One attached seat (R123 to R131). -/
structure Seat where
  fn : Nat := 0
  win : Nat := 0
  classD : Bool := false
  idle : Bool := false
  vec : Nat := 0
  sqb : Nat := 0
  cqb : Nat := 0
  sqt : Nat := 0
  sqh : Nat := 0
  sqPhase : Bool := true
  cqt : Nat := 0
  cqPhase : Bool := true
  cqh : Nat := 0
  ien : Bool := true
  cqint : Nat := 0
  resetting : Bool := false
  /-- tail at the RESET write: entries up to it are aborted (R130) -/
  resetTail : Option Nat := none
  sqerr : Bool := false
  reapAt : Option Nat := none
  kicked : Bool := false
  releasing : Bool := false
  /-- the reset in progress was asked for during an activation: it ends commands after it (R166) -/
  resetLater : Bool := false
  badPhase : Nat := 0
  unsig : Nat := 0
  unsigT : Nat := 0
  /-- completions taken by the arbiter that a full ring holds (R128, R162) -/
  waiting : List Cqe := []
  deriving DecidableEq, Repr

/-! ### Commands in flight (chapter Commands and Completions) -/

/-- Where a fetched command stands (R164). -/
inductive Stage where
  /-- fetched, held before its checks (activation, power-state exit) -/
  | held
  /-- passed every check of R144, not started -/
  | ready
  /-- started, transferring or working -/
  | run
  /-- started and paused at the dirty ceiling (R27) -/
  | paused
  /-- started and waiting for other work (FLUSH, STREAM_CLOSE, KEY_RETIRE, a record write) -/
  | wait
  deriving DecidableEq, Repr

/-- Progress of a data command through its course portions. -/
structure Prog where
  /-- portions whose pull has been issued / completed with data / sealed and Protected -/
  issued : Nat := 0
  pulled : Nat := 0
  done : Nat := 0
  /-- data of the portions pulled and not yet sealed, in their order -/
  data : List Block := []
  /-- read side: the portion being read has its plaintext here; the decode step of its current extent -/
  level : Nat := 0
  bad : Bool := false
  /-- portions that took effect, ascending (R160, R161) -/
  eff : Nat := 0
  deriving DecidableEq, Repr

/-- A fetched command that has not completed. -/
structure Cmd where
  seat : Nat
  tag : Nat
  seq : Nat
  entry : List Word
  segs : SegList := .none
  /-- the seat is gone and the completion will be discarded (R165) -/
  orphan : Bool := false
  stage : Stage := .held
  /-- a within-stream write outside its contract (R145) -/
  outside : Bool := false
  exitDelayed : Bool := false
  prog : Prog := {}
  /-- the command ends at the next portion boundary with this status (ABORT, reset, key limits) -/
  ending : Option Nat := none
  /-- tags of ABORT commands that wait for this one (R163) -/
  aborts : List Nat := []
  /-- transaction number of a write that needs one (R246) -/
  txn : Option Nat := none
  /-- invocations reserved in a key slot (R146) -/
  kslot : Nat := 0
  kres : Nat := 0
  /-- last seal a FLUSH or STREAM_CLOSE covers (R159, R152) -/
  coverSeq : Nat := 0
  /-- ring slots that a FLUSH of device scope covers though their SEQ was not taken when it was fetched (R159) -/
  coverSlots : List Nat := []
  /-- of a read whose zeroing runs, the block offset that RESULT reports; 1 once the material of a KEY_LOAD has been pulled -/
  aux : Nat := 0
  deriving DecidableEq, Repr

/-- The command layer: every fetched and uncompleted command in fetch order. -/
structure Cmds where
  list : List Cmd := []
  nextSeq : Nat := 0
  /-- FW_ACTIVATE holds fetched commands (R166) -/
  activating : Bool := false
  /-- REOPEN holds and drains commands (R107) -/
  reopening : Bool := false
  /-- class B seat whose pull each link served last, keyed 4 × port + link; 512 + n is software channel n (R129, R360) -/
  served : SMap Nat := []
  /-- source of class 3 that the cipher cores served last, and the bytes service descriptors may still take of the slot (R329) -/
  coreLast : Nat := 3
  /-- invocations that the work of each source in class 3 has had since the source was last served (R329) -/
  corePart : SMap Nat := []
  service : Int := 0
  deriving DecidableEq, Repr

/-! ### Streams (chapter Streams, Admission and the Latency Bound) -/

/-- A course portion of a within-contract write, in order of acceptance, that the commit horizon has not passed (R185). -/
structure HorPart where
  cmd : Nat
  portion : Nat
  bytes : Nat
  committed : Bool
  deriving DecidableEq, Repr

/-- What an open stream holds beside its registers. -/
structure Strm where
  /-- token bucket in bytes (R169) -/
  tokens : Nat := 0
  line : List HorPart := []
  deriving DecidableEq, Repr

/-- Part of the admission sums that a stream held which ended in the present slot (R178 item 4): its link, R_s, buffer term and
R_s × T_min. -/
structure Ended where
  link : Nat := 8
  rate : Nat := 0
  term : Nat := 0
  rtmin : Nat := 0
  deriving DecidableEq, Repr

/-- The admission unit. -/
structure Adm where
  strm : SMap Strm := []
  /-- last admission sequence number given (R167) -/
  aseq : Nat := 0
  /-- links whose part of condition 1 failed after admission (R182), keyed 4 × port + link -/
  noBound : List Nat := []
  /-- DCAUSE codes of the sources that fell since the last slot boundary (R184) -/
  causes : List Nat := []
  /-- streams that ended since the last slot boundary, by number (R178 item 4) -/
  ended : SMap Ended := []
  /-- streams whose contract fields or loop limits took their safe values: demoted at the next slot boundary (R62, R184) -/
  safe : List Nat := []
  /-- streams whose COMMIT has been raised since the last slot boundary (R186) -/
  crossed : List Nat := []
  deriving DecidableEq, Repr


/-! ### Media and translation (chapters HBM Regions, Translation Layer, Battens, Flash Channels) -/

/-- What the page tags of an extent have in common (R248): block i, page j of it have SEQ, TXORD, EIDX and WSEQ of their own, which
Format.lean derives. With it goes the identity of the key that sealed it: the model keeps ciphertext as the plaintext and the identity
of the seal (symbolic authenticated encryption, see the assumption log). -/
structure ExtTag where
  patch : Bool := false
  reloc : Bool := false
  blkSeal : Bool := false
  vol : Nat := 0
  course : Nat := 0
  blk : Nat := 0
  n : Nat := 0
  kgen : Nat := 0
  /-- SEQ; of the first block where each block has one (R247) -/
  seq : Nat := 0
  txid : Nat := 0
  /-- TXORD; of the first page under TXNP 3 (R247) -/
  txord : Nat := 0
  txnp : Nat := 0
  ctr : Nat := 0
  salt : Nat := 0
  key : Nat := 0
  /-- a word of it was poisoned in the ring: its tag check fails at every read (R381) -/
  dmg : Bool := false
  deriving DecidableEq, Repr

/-- A sealed course or patch extent (R240, R335). -/
structure Extent where
  tag : ExtTag := {}
  data : List Block := []
  /-- pages of it that are not programmed: power failed before they were (R246, R247) -/
  miss : List Nat := []
  deriving DecidableEq, Repr

/-- A course entry of the map (R237). -/
inductive MapEnt where
  | un
  | course (batten off kgen : Nat) (blkSeal moving : Bool)
  | ring (slot kgen : Nat)
  | fine (idx : Nat)
  deriving DecidableEq, Repr

/-- A fine entry (R239): unmapped, in an extent on flash, or in a ring slot. -/
inductive FineEnt where
  | un
  | loc (patch : Bool) (batten off idx kgen : Nat) (blkSeal : Bool)
  | ring (slot idx kgen : Nat)
  deriving DecidableEq, Repr

/-- The map and the fine map, keyed by 2^32 × volume + course; a fine block lists its entries that are not UNMAPPED. -/
structure MapSt where
  map : SMap MapEnt := []
  fine : SMap (SMap FineEnt) := []
  deriving DecidableEq, Repr

/-- A delta record (R252), its ENTRY by fields, with what the controller keeps beside it while it waits for its chunk: the rule of
its transaction (R245), the source of a relocation (R254), the seat and command of a host change (R159). -/
structure Delta where
  /-- 1 COMMIT, 2 UNMAP, 3 MOVE, 4 FOLD -/
  kind : Nat
  vol : Nat
  course : Nat
  blk : Nat
  count : Nat
  seq : Nat
  /-- ENTRY is a fine entry, PATCH or COURSE, else a course entry -/
  fineE : Bool := false
  patch : Bool := false
  batten : Nat := 0
  off : Nat := 0
  /-- IDX of the first block -/
  idx : Nat := 0
  kgen : Nat := 0
  blkSeal : Bool := false
  txid : Nat := 0
  txnp : Nat := 1
  ord : Nat := 0
  /-- place of the source of a relocation -/
  src : Nat := 0
  seat : Nat := 0
  cmd : Nat := 0
  deriving DecidableEq, Repr

/-- A copy of a map segment or, above the map's segments, of a fine-map segment (R253): the entries in it that are not UNMAPPED. -/
structure Segment where
  idx : Nat
  ents : SMap MapEnt := []
  /-- fine blocks by FIDX, with the course that has the block -/
  fine : SMap (Nat × SMap FineEnt) := []
  deriving DecidableEq, Repr

/-- A journal chunk on flash (R250, R251): its header fields, delta records, segment copies and window records (batten, next
stripe), and the parts of journal battens it lies in: batten, offset and length in codewords. -/
structure Chunk where
  fver : Nat := 0
  early : Bool := false
  clean : Bool := false
  num : Nat := 0
  cmark : Nat := 0
  wseq0 : Nat := 0
  deltas : List Delta := []
  segs : List Segment := []
  wins : List (Nat × Nat) := []
  time : Nat := 0
  next : Nat := 0
  crc : Nat := 0
  parts : List (Nat × Nat × Nat) := []
  deriving DecidableEq, Repr

/-- A slot of the ingest ring (R221, R244): a sealed extent that is not yet Committed. -/
structure RingSlot where
  ext : Extent
  /-- seat, command fetch number and portion -/
  seat : Nat := 0
  cmd : Nat
  portion : Nat
  /-- its SEQ has been taken and the map names it -/
  live : Bool := false
  /-- what its RING entries replaced: the course entry, or entries by block; the last ones with a flash location (R244). Of a rewrite of a
  DISCARD that waits for its SEQ, the course as it was read (R259) -/
  wasEnt : MapEnt := .un
  wasFine : SMap FineEnt := []
  /-- stream of a within-contract write -/
  stream : Option Nat := none
  /-- every page, and every ridge page of its stripes, has passed -/
  placed : Bool := false
  /-- its batten; 2^24, which is no id, while it has none -/
  batten : Nat := 0x1000000
  off : Nat := 0
  /-- class its programs are placed in (R195) -/
  cls : Nat := 4
  deriving DecidableEq, Repr

/-- A relocation or fold copy on its way to a GC batten (R242, R278): the source it must still match. -/
structure RelocSlot where
  ext : Extent
  /-- 3 move, 4 fold -/
  kind : Nat
  src : Nat
  /-- the course entry and fine block at step 1 of a fold -/
  was : MapEnt := .un
  wasFine : SMap FineEnt := []
  batten : Nat := 0x1000000
  off : Nat := 0
  gc : Bool := false
  /-- class its programs are placed in -/
  cls : Nat := 3
  deriving DecidableEq, Repr

/-- Batten states (R274). -/
inductive BatSt where
  | free | window | opened | closed | victim | reclaimed | erasing | dissolved
  deriving DecidableEq, Repr

/-- Writers of open battens (R271), also the role of a batten. -/
inductive Writer where
  | stream (s : Nat)
  | bulk | patch | gc | journal | system
  deriving DecidableEq, Repr

/-- A batten (R264, R270, R274). A batten that is not listed is FREE with erase count 0 and the members R266 gave it. -/
structure Batten where
  st : BatSt := .free
  role : Writer := .bulk
  /-- erases of the batten, above those every batten has had -/
  ec : Int := 0
  /-- members replaced: position to LUN and block -/
  repl : SMap (Nat × Nat) := []
  /-- erases of their blocks, above those of the batten (R283) -/
  adj : SMap Int := []
  /-- next data offset not assigned, in codewords -/
  wptr : Nat := 0
  /-- WSEQ at the close (R278) -/
  cseq : Nat := 0
  /-- units whose program failed: (stripe, position) (R280, R319) -/
  failed : List (Nat × Nat) := []
  /-- positions whose block is FAILING (R275) -/
  failing : List Nat := []
  /-- units passed: stripe × 64 + position, of an open batten -/
  passed : List Nat := []
  /-- WSEQ of the first page of each unit placed, by stripe × 64 + position (R243) -/
  wseq : SMap Nat := []
  /-- class and cause of a victim: 1 GC, 2 failure, 3 LUN or channel, 4 patrol, 5 read disturb -/
  vcls : Nat := 0
  vcause : Nat := 0
  /-- members still to erase -/
  toErase : List Nat := []
  /-- pad pages close it: no further extent is taken -/
  sealed : Bool := false
  /-- when a FLUSH closed its last stripe, while no further extent has come since (R273) -/
  idleAt : Option Nat := none
  /-- reads counted since the last erase, by position (R288) -/
  reads : SMap Nat := []
  /-- tracked read-retry level, by position (R314) -/
  level : SMap Nat := []
  /-- offsets of extents that stay unreadable (R321) -/
  heldBy : List Nat := []
  /-- a read of it needed soft decode or the ridge since its last erase (R288) -/
  hardRead : Bool := false
  deriving DecidableEq, Repr

/-- A key-generation entry of a volume record (R270, R342): state 1 CURRENT, 2 OLD, 3 NEXT, and the mark M (R338). -/
structure GenEnt where
  kgen : Nat
  st : Nat
  mark : Nat
  deriving DecidableEq, Repr

/-- A volume record (R270). -/
structure VolRec where
  fgen : Nat := 0
  cur : Nat := 0
  cap : Nat := 0
  gens : List GenEnt := []
  deriving DecidableEq, Repr

/-- Place of an eave page: LUN, block and page number within the block in SLC mode (R229, R230). -/
structure EavePlace where
  lun : Nat
  block : Nat
  page : Nat
  deriving DecidableEq, Repr

/-- Invocation counter of a LOADED key slot at the flush (R229). -/
structure EaveCtr where
  slot : Nat
  role : Nat
  vol : Nat
  kgen : Nat
  ctr : Nat
  deriving DecidableEq, Repr

/-- A copy of an eave record: its place and the CRC-32C it holds (R230). -/
structure EaveRec where
  at_ : EavePlace
  crc : Nat
  deriving DecidableEq, Repr

/-- A flush set (R229, R230). -/
structure EaveSet where
  num : Nat
  gen : Nat
  t0 : Nat
  t1 : Nat
  bytes : Nat
  exts : List RingSlot
  deltas : List Delta
  counters : List EaveCtr
  doubt : List Nat
  /-- open transaction records: TXID, and the TXORD below which everything is Committed (R229, R246) -/
  txns : List (Nat × Nat) := []
  /-- places of the eave data pages, of the META pages with both their copies, and the copies of the record -/
  pages : List EavePlace := []
  metas : List EavePlace := []
  recs : List EaveRec := []
  /-- WSEQ of its first page (R243) -/
  wseq0 : Nat := 0
  /-- blocks with a failed eave program, as LUN and block: retired at the next start (R231) -/
  retire : List (Nat × Nat) := []
  /-- LUNs that failed in step WRITE: no further page goes to them (R231) -/
  lost : List Nat := []
  folded : Bool
  /-- a copy of the record passes its CRC and every page it lists reads (R230) -/
  valid : Bool
  deriving DecidableEq, Repr

/-- The blocks of one LUN that are not as R266 pooled them. -/
structure LunRec where
  spareTaken : Nat := 0
  spareBack : List Nat := []
  /-- retired blocks with the cause (R270) -/
  retired : SMap Nat := []
  failedB : Bool := false
  /-- eave blocks of the LUN that are erased, and that still need an erase (R228) -/
  eave : List Nat := []
  eaveDirty : List Nat := []
  /-- erase counts of its blocks outside battens, where not 0 (R228, R283) -/
  wear : SMap Nat := []
  deriving DecidableEq, Repr

/-- An interrupted administrative operation or migration (R270 TYPE 7, R413, R431). op: 1 sanitise, 2 format, 3 media
initialisation, 4 migration. -/
structure Progress where
  op : Nat := 0
  step : Nat := 0
  vol : Nat := 0
  permille : Nat := 0
  reinit : Bool := false
  action : Nat := 0
  /-- nanoseconds the operation has run, to the last record -/
  ns : Nat := 0
  deriving DecidableEq, Repr

/-- Everything the NAND stores: it survives a loss of power. -/
structure Nand where
  /-- a valid media record exists -/
  formatted : Bool := false
  fver : Nat := 0
  gen : Nat := 0
  geom : List Word := []
  nlun : Nat := 0
  w : Nat := 0
  sparePct : Nat := 2
  /-- declared LUNs at the first FORMAT, in LUN order -/
  luns : List Nat := []
  /-- those of the LUN groups: group g has the places g, g + G, g + 2 G … (R266) -/
  grp : List Nat := []
  /-- factory bad blocks: LUN, block -/
  bad : List (Nat × Nat) := []
  vols : SMap VolRec := []
  /-- system generation (R269), the two system battens, and the anchor generation (R268) -/
  sysGen : Nat := 0
  sysPair : Nat × Nat := (0, 1)
  anchorGen : Nat := 0
  /-- records of the anchor blocks by bank: generation and pair of each page written; the bank written last (R268) -/
  anchors : SMap (List (Nat × Nat × Nat)) := []
  anchorAt : Nat := 0
  /-- system generation of the first record in the pair, and the newest ones of the keys written since (R269) -/
  recBase : Nat := 0
  recs : SMap Nat := []
  /-- erase batches written (R270) -/
  batchNo : Nat := 0
  lunRec : SMap LunRec := []
  bats : SMap Batten := []
  /-- extents every page of which is programmed, keyed by 2^21 × batten + offset -/
  flash : SMap Extent := []
  /-- the journal: number and CMARK of the last durable chunk, the chunks of the chain that are kept, oldest first, and the location of
  the first chunk that the journal root names (R250, R270) -/
  chunk : Nat := 0
  cmark : Nat := 0
  chunks : List Chunk := []
  /-- place of its first part -/
  root : Option Nat := none
  eaves : List EaveSet := []
  prog : Option Progress := none
  /-- migration in progress (R413) -/
  mig : Option Progress := none
  /-- erases that sanitises have added to every batten's count: the counts listed are above it -/
  ec0 : Nat := 0
  passNo : Nat := 0
  cursor : Nat := 0
  doubt : List Nat := []
  retiredTotal : Nat := 0
  eraseFails : Nat := 0
  progFails : Nat := 0
  deriving DecidableEq, Repr

/-- Kind of work that reads flash. -/
inductive ReadFor where
  /-- a host READ or VERIFY, by fetch number -/
  | host (cmd : Nat)
  /-- a relocation out of a victim batten -/
  | move (batten : Nat)
  /-- a fold of a course: volume, course -/
  | fold (vol course : Nat)
  /-- a patrol pass over a batten -/
  | patrol (batten : Nat)
  deriving DecidableEq, Repr

/-- How far one unit of a read has come (R313): to be read, its read placed, to be read again for soft decoding, in soft decode, in the
ridge, done, unreadable. -/
inductive RuSt where
  | todo | placed | reread | soft | ridge | done | unreadable
  deriving DecidableEq, Repr

/-- One program unit that a read job needs. -/
structure ReadUnit where
  batten : Nat
  stripe : Nat
  pos : Nat
  /-- offset of the extent read -/
  off : Nat
  bytes : Nat
  st : RuSt := .todo
  /-- read issued again after a timeout (R304) -/
  again : Bool := false
  /-- the codewords it needs, by their number in the unit -/
  cws : List Nat := []
  /-- those in step 3, each with its read-retry level; those in step 4, or, of a unit that ended, unreadable -/
  soft : List (Nat × Nat) := []
  rid : List Nat := []
  /-- LDPC_CFG, and the soft-read offsets as one number, when its step 1 began (R313) -/
  cfg : Nat := 0
  offs : Nat := 0
  /-- LDPC_CFG when its step 4 began -/
  rcfg : Option Nat := none
  deriving DecidableEq, Repr

/-- A codeword in soft decode: its unit's place in its job, its number in the unit, its class, its LDPC domain, and its decoder once it has
one (R311). -/
structure SoftEnt where
  job : Nat
  batten : Nat
  stripe : Nat
  pos : Nat
  cw : Nat
  cls : Nat
  dom : Nat
  dec : Option Nat := none
  deriving DecidableEq, Repr

/-- A read job: what it is for, its service class, its units. -/
structure ReadJob where
  id : Nat
  why : ReadFor
  cls : Nat
  units : List ReadUnit
  /-- the extents read, with the place of each: in the ring, slot or flash place -/
  exts : List Extent := []
  src : List (Bool × Nat) := []
  /-- blocks wanted: block of the course, index in exts, index in that extent -/
  blks : List (Nat × Nat × Nat) := []
  /-- course entry and fine block when a fold started (R242) -/
  was : MapEnt := .un
  wasFine : SMap FineEnt := []
  deriving DecidableEq, Repr

/-- Kinds of NAND operation on a LUN (R192). -/
inductive OpKind where
  | prog | read | erase
  deriving DecidableEq, Repr

/-- A placed operation. -/
structure FOp where
  kind : OpKind
  cls : Nat
  batten : Nat
  stripe : Nat
  pos : Nat
  /-- user bytes counted against budgets (R194) -/
  bytes : Nat := 0
  ridge : Bool := false
  /-- read job, for a read -/
  job : Nat := 0
  /-- codeword offset of the extent of a read -/
  off : Nat := 0
  /-- the erase of an eave block, which `off` names -/
  eave : Bool := false
  /-- the soft reads of a unit (R313) -/
  soft : Bool := false
  /-- suspends of this operation so far -/
  susp : Nat := 0
  stream : Option Nat := none
  deriving DecidableEq, Repr

/-- One LUN: the executing operation, an operation suspended on it, its queue, and the counts of R304 and R322. -/
structure LunSt where
  exec : Option FOp := none
  asleep : Option FOp := none
  /-- a suspend has been issued and not reported (R198, R200) -/
  asking : Bool := false
  q : List FOp := []
  /-- its read-retry feature (R313) -/
  level : Nat := 0
  /-- times of the timeouts, ridge reads (with member) and status failures (with member) -/
  touts : List Nat := []
  resets : Nat := 0
  ridges : List (Nat × Nat) := []
  fails : List (Nat × Nat) := []
  deriving DecidableEq, Repr

/-- A program unit that waits to be placed. -/
structure Work where
  w : Writer
  cls : Nat
  batten : Nat
  stripe : Nat
  pos : Nat
  bytes : Nat
  ridge : Bool := false
  deriving DecidableEq, Repr

/-- Volatile state of the translation layer and of media management. -/
structure Med where
  nand : Nand := {}
  m : MapSt := {}
  ring : SMap RingSlot := []
  nextSlot : Nat := 0
  reloc : SMap RelocSlot := []
  deltas : List Delta := []
  /-- the chunk being written -/
  chunkNow : Option Chunk := none
  /-- the map the durable journal stands for, from which segments are copied, and the deltas that REPLAY keeps for SCAN and FOLD: those
  above CMARK, and the transactions of the others (R253, R255) -/
  jmap : MapSt := {}
  jrecent : List Delta := []
  /-- first codewords that SCAN could not use, by place of their page (R249, R256) -/
  scanBad : List Nat := []
  nextTx : Nat := 0
  /-- battens erased since the last erase batch, with the erase count last recorded (R270) -/
  eraseBatch : List (Nat × Int) := []
  /-- system records wait for a fresh pair of system battens (R269) -/
  sysWait : Bool := false
  /-- allocation window, in order (R272), and the group rotation -/
  window : List Nat := []
  rot : Nat := 0
  /-- extents that wait for an open batten: ring slots, then relocation slots -/
  waitOpen : List Nat := []
  waitReloc : List Nat := []
  work : List Work := []
  jobs : List ReadJob := []
  /-- soft decodes in order of arrival (R311) -/
  soft : List SoftEnt := []
  nextJob : Nat := 0
  /-- GC victim under collection -/
  gcv : Option Nat := none
  /-- flash rate rung 1 work takes beyond the tenth, in 10 MB/s (R183, R323) -/
  rung1Cut : Nat := 0
  /-- courses being folded now: keys -/
  folding : List Nat := []
  /-- patrol: battens left in the pass and the pages not yet read -/
  ptlLeft : List Nat := []
  ptlStart : Nat := 0
  /-- ns the pass had taken when the gate last left ACCEPTED (R286) -/
  ptlSpent : Nat := 0
  eolDone : Bool := false
  /-- battens whose data the rebuild still has to move (R323) -/
  rebuild : List Nat := []
  /-- candidates of SCAN and FOLD that wait (R256) -/
  t0 : Nat := 0
  deriving DecidableEq, Repr

/-- Hidden state of one channel. -/
structure Chn where
  /-- targets that timed out within 100 ms: target, time (R304) -/
  touts : List (Nat × Nat) := []
  /-- consecutive low tracking checks -/
  low : Nat := 0
  /-- a tracking check has run since the last training -/
  tracked : Bool := false
  /-- a host isolation is under way (R306) -/
  isolating : Bool := false
  drifted : Bool := false
  /-- it trains after an isolation: its LUNs stay out of service until it serves (R307) -/
  retrain : Bool := false
  /-- rate the group PLL has taken is held in the lowest channel of the group -/
  pllRate : Nat := 0
  /-- RATE, NODT, FIX and POST as the training in progress took them (R300) -/
  tRate : Nat := 0
  tNodt : Nat := 0
  tFix : Bool := false
  tPost : Nat := 0
  deriving DecidableEq, Repr

/-- What a slot has placed: bytes by channel (R193), and LUN time in µs of classes 3, 6 and all (R202), and of rung 1 work (R183). -/
structure SlotUse where
  chB : SMap Nat := []
  gcT : Nat := 0
  ptT : Nat := 0
  allT : Nat := 0
  r1T : Nat := 0
  deriving DecidableEq, Repr

/-- The flash scheduler (chapter Flash Scheduler and Control Loops): LUNs, budgets, deficits, shares. -/
structure Cox where
  luns : SMap LunSt := []
  budW : Int := 0
  budR : Int := 0
  budA : Int := 0
  /-- deficit of each contracted stream in bytes, and its value at the last step 2 -/
  dfc : SMap Int := []
  dfcLast : SMap Int := []
  /-- gains less losses of the share counters of classes 3 and 6 in the last 1,000 slots, newest first, in 1/200 µs of LUN time -/
  gcHist : List Int := []
  ptHist : List Int := []
  /-- LUN time in µs of rung 1 work in the last 1,000 slots, newest first (R183) -/
  r1Hist : List Nat := []
  /-- what step 1 of the slot latched: ADM_RPOWER and the contracted streams (R191) -/
  rpower : Nat := 0xFFFFFF
  streams : List Nat := []
  /-- bytes the rebuild may still move at its pace (R323) -/
  rbBud : Int := 0
  /-- placements since the last slot boundary -/
  use : SlotUse := {}
  /-- class 4 alternates between write and read -/
  lastWrite : Bool := false
  /-- latched loop outputs, by stream (Q16.16) -/
  grants : SMap Nat := []
  deriving DecidableEq, Repr

/-! ### Control loops and traces (chapter Flash Scheduler and Control Loops) -/

/-- What Stroke keeps beside its registers. -/
structure Stroke where
  /-- bytes Protected and bytes programmed of each stream since its loop's last sample (R207) -/
  arr : SMap Nat := []
  drn : SMap Nat := []
  /-- streams whose loop has not sampled yet (R196) -/
  fresh : List Nat := []
  /-- streams whose FOLLOW_ERR waits for the admission unit (R210) -/
  follow : List Nat := []
  /-- loops 64 and 65 whose UMAX took its safe value: they limit R_power to it (R62) -/
  safeMax : List Nat := []
  /-- samples for which a rise has held (R211) -/
  hold : Nat := 0
  /-- loops that entered FAULT since the previous recorded sample (R217) -/
  newFault : List Nat := []
  deriving DecidableEq, Repr

/-- The trace buffers (R215 to R218): what ARM latched, and the records, newest first, one word per channel. -/
structure Trace where
  chans : List Word := []
  trig : Word := 0
  level : Word := 0
  pre : Nat := 0
  dec : Nat := 0
  /-- samples until the next recorded one -/
  skip : Nat := 0
  before : List (List Word) := []
  after : List (List Word) := []
  deriving DecidableEq, Repr

/-! ### Keys (chapter Cipher Engine and Keys) -/

/-- Hidden part of a key slot: the key material, the durable mark M, and what is pending. -/
structure KeySlot where
  mat : Nat := 0
  mark : Nat := 0
  /-- a longer reservation is being written (R338) -/
  extending : Bool := false
  /-- KEY_RETIRE has been taken and waits (R334): fetch number of the command -/
  retiring : Option Nat := none
  deriving DecidableEq, Repr

/-- The key store and the DRBG. -/
structure Keys where
  slots : SMap KeySlot := []
  /-- DRBG requests since the last reseed (R348) -/
  requests : Nat := 0
  /-- what the masking generator of each cipher domain that is on was seeded with last (R327) -/
  masks : SMap Word := []
  deriving DecidableEq, Repr

/-! ### Data mover (chapter Data Mover) -/

/-- A descriptor captured at its fetch (R362), with the IV and tag of its status area. -/
structure DescCap where
  /-- entry of the ring -/
  idx : Nat := 0
  words : List Word := []
  iv : List Word := []
  /-- BAD cause and field offset found at the fetch, 0 for none -/
  bad : Nat := 0
  sub : Nat := 0
  /-- its barrier read has completed, or none was needed -/
  clear : Bool := true
  deriving DecidableEq, Repr

/-- Hidden state of a software channel. -/
structure MovCh where
  /-- descriptors captured and not complete, in ring order -/
  cap : List DescCap := []
  /-- a stop waits for the running descriptor, with its SCAUSE (R372) -/
  stopping : Option Nat := none
  /-- the chain holds a CHECKSUM descriptor: its algorithm, and whether one was BAD (R367) -/
  alg : Option Nat := none
  chainBad : Bool := false
  /-- functions written to since the last barrier: FNA, FNB (R368) -/
  dirty : Bool := false
  deriving DecidableEq, Repr

/-! ### Memory protection (chapter Memory Protection) -/

/-- An HBM row (R388): pseudo-channel, stack, bank group, bank, row, as MEM_RPADDR lays it out. -/
abbrev HbmRow := Nat

/-- Hidden state of memory protection. -/
structure MemSt where
  /-- rows under a soft repair in force (R384) -/
  soft : List HbmRow := []
  /-- the repair in progress: row and kind -/
  repair : Option (HbmRow × Nat) := none
  /-- hard repairs left by pseudo-channel where it is not 8, fused (R385); it survives power-down -/
  burned : List HbmRow := []
  /-- journal staging was lost: chunks until every segment has a copy again (R381) -/
  recopy : Nat := 0
  /-- words that an injection changed, with the number of flipped bits: memory, word, bits (R382) -/
  planted : List (Nat × Nat × Nat) := []
  deriving DecidableEq, Repr

/-! ### Firmware array and update (chapter Firmware Array and Field Update) -/

/-- One block of the array that has been erased or programmed since manufacture: its programmed pages; in doubt after an erase that did
not end, or with single pages in doubt after a program that did not end (R393, R395). -/
structure ArrBlock where
  pages : SMap Block := []
  failed : Bool := false
  doubt : Bool := false
  doubtPages : List Nat := []
  deriving DecidableEq, Repr

/-- An owner region (R398): its password, whether it is open, its wrong passwords. -/
structure OwnReg where
  pwd : Option Nat := none
  opened : Bool := false
  wrong : Nat := 0
  deriving DecidableEq, Repr

/-- A raw operation in progress (R393, R394). -/
structure ArrOp where
  bank : Nat
  block : Nat
  page : Nat
  op : Nat
  /-- content to program, captured from the page buffer at GO -/
  data : Block := 0
  susp : Bool := false
  /-- the 500 µs minimum run after a resume is in force, and a read waits for it -/
  minRun : Bool := false
  wants : Bool := false
  /-- reads of the bank that wait (a page to read into the buffer) -/
  reads : List (Nat × Nat) := []
  deriving DecidableEq, Repr

/-- The firmware array: non-volatile content, the page buffer, the running operations. -/
structure FwArray where
  /-- blocks keyed by 1024 × bank + block; an unlisted block is as it left the factory (Config.factoryPage) -/
  blocks : SMap ArrBlock := []
  /-- regions keyed by 16 × bank + region -/
  regs : SMap OwnReg := []
  /-- page buffer, by word index -/
  buf : SMap Word := []
  /-- password latch words -/
  pwd : SMap Nat := []
  ops : List ArrOp := []
  /-- owner operation in progress: key of its region, OP, password -/
  owner : Option (Nat × Nat × Nat) := none
  deriving DecidableEq, Repr

/-- Update session (R407 to R412). -/
structure Upd where
  /-- activation step: 0 none, 1 DRAIN, 2 QUIESCE, 3 START -/
  step : Nat := 0
  /-- fetch number of the FW_ACTIVATE command and its start time -/
  cmd : Nat := 0
  t0 : Nat := 0
  /-- version the hub's AON copy holds (R437) -/
  aonVer : Nat := 0
  /-- both banks failed to reach READY -/
  tried : List Nat := []
  deriving DecidableEq, Repr

/-! ### Administration (chapter Power States and Administration) -/

/-- Administrative state that is not in a register. -/
structure AdminSt where
  /-- fetch number of the running SANITISE or FORMAT, none when it was resumed -/
  cmd : Option Nat := none
  start : Nat := 0
  /-- a chunk with the unmaps of the running FORMAT has started, and whether its volume record will reach a system batten -/
  fmtChunk : Bool := false
  fmtOk : Bool := true
  /-- a SANITISE with REINIT has left no media record -/
  noMedia : Bool := false
  /-- temperature: WARN is armed again; sensors out of the median -/
  warnOff : Bool := false
  /-- a temperature has been measured since PWRGD_AON rose (R425) -/
  hotSeen : Bool := false
  excluded : List Nat := []
  /-- powered seconds of earlier power-ups -/
  powered : Nat := 0
  /-- AON measurement of controller power (R437) -/
  aonPower : Nat := 0
  deriving DecidableEq, Repr
/-! ### The whole device -/

/-- A cycle of the NAND interface: an opcode, a row (plane, block, NAND page), a column, a feature with its value, a volume, page data (R296). -/
inductive NandCyc where
  | cmd (op : Nat)
  | row (plane block page : Nat)
  | col (byte : Nat)
  | feat (addr value : Nat)
  | vol (v : Nat)
  | data (bytes : List Nat)
  deriving DecidableEq, Repr

/-- An output of the controller, in the order it is issued. -/
inductive Output where
  /-- data of a BAR0 read by a management function -/
  | reg (port : Nat) (v : Word)
  /-- data of a BAR2 read -/
  | bar2 (fn : Nat) (v : Word)
  /-- a completion with Unsupported Request, and an AER report -/
  | ur (fn : Nat)
  | aer (fn : Nat)
  /-- an entry of a seat's completion ring: seat, slot, the host address written (R125), DW0 to DW3 -/
  | cqe (seat slot : Nat) (addr : DWord) (dw0 dw1 dw2 dw3 : Word)
  /-- a read of a submission entry from host memory: function, address (R125) -/
  | fetch (fn : Nat) (addr : DWord)
  /-- blocks pushed to host memory: seat, tag, block offset in the command's buffer -/
  | push (seat tag blk : Nat) (data : List Block)
  /-- words written to host memory at an address (query records, status areas) -/
  | memWrite (fn : Nat) (addr : DWord) (words : List Word)
  /-- an MSI-X message -/
  | msix (fn vec : Nat)
  /-- bytes returned on the SMBus -/
  | smbus (bytes : List Nat)
  /-- the value captured in the register that the TAP shifts out at TDO -/
  | tdo (v : Word)
  /-- bytes a data-mover descriptor writes at its destination: channel, function, address (R365, R366) -/
  | dma (ch fn : Nat) (addr : DWord) (bytes : List Nat)
  /-- the write-back of a descriptor that ends DETACHED: OWN 0, STATUS 3, CAUSE 0, both results 0, the other bits as posted -/
  | detached (fn : Nat) (addr : DWord)
  /-- cycles issued to a LUN of the NAND -/
  | nand (lun : Nat) (cycles : List NandCyc)
  deriving DecidableEq, Repr

/-- One entry of the event log (R433): index within the start, time base, code, severity, parameters P0 to P10. START is 0
until the entry is persistent. -/
structure LogEnt where
  start : Nat
  n : Nat
  time : Nat
  code : Nat
  sev : Nat
  params : List Word
  deriving DecidableEq, Repr

/-- The event log: entries of this power-up not yet persistent, and the persistent entries, both newest first. -/
structure Log where
  buf : List LogEnt := []
  saved : List LogEnt := []
  deriving DecidableEq, Repr

/-- Everything of the controller but the queue of waiting commands. -/
structure Dev where
  hub : Hub := {}
  sys : Sys := {}
  pci : Pci := {}
  seats : SMap Seat := []
  cmds : Cmds := {}
  log : Log := {}
  adm : Adm := {}
  med : Med := {}
  chn : SMap Chn := []
  cox : Cox := {}
  stk : Stroke := {}
  trace : Trace := {}
  keys : Keys := {}
  mover : SMap MovCh := []
  mem : MemSt := {}
  array : FwArray := {}
  upd : Upd := {}
  admin : AdminSt := {}
  /-- outputs, newest first -/
  out : List Output := []
  /-- the model's own counter of free values (Config) -/
  free : Nat := 0
  deriving DecidableEq, Repr

/-- The state: the controller and the commands that wait, first in, first out. -/
structure State where
  dev : Dev := {}
  pending : List Instr := []
  deriving DecidableEq, Repr

/-- The controller before its first PWRGD_AON rise, with no command waiting. [log entries 2 DESIGN CHOICE; 7 DESIGN CHOICE] -/
def State.reset : State := {}

/-- No command of this hardware ends the machine with a fault: what the chapters call an error is an event, a status or
a recorded cause, and the machine goes on. The type has one constructor, which no meaning answers: safe. -/
inductive Fault where
  /-- never raised -/
  | unreachable
  deriving DecidableEq, Repr

/-- Why a command has no next state. -/
inductive Refusal where
  /-- an arm of `exec` whose command has no meaning yet -/
  | notModelled (mnemonic : String)
  /-- a host write changes a reserved bit or a reserved word of an implemented page; some are live test controls whose
  effect the manual does not describe (R70). Raised by the register-write commands; safe: the machine stops where the
  hardware goes on in a way nothing describes -/
  | reservedBitChanged
  deriving DecidableEq, Repr

end Sys2Proof.Machine
end

