-- ==== Sys2Proof/Machine/Ops.lean ====
section
/-!
DEFINITION. The named operations every meaning is written with: reading and writing register fields, headers, events and
their outputs (ALERT#, event messages), the event log, the time base, the 64-bit pairs and the recording of dropped accesses.
-/
namespace Sys2Proof.Machine

/-! ### Words and fields -/

/-- A mask of `wd` ones from bit `lo`. -/
def maskOf (lo wd : Nat) : Word := BitVec.ofNat 32 ((2 ^ wd - 1) * 2 ^ lo)

/-- Replace bits `[lo + wd - 1 : lo]` of a word. -/
def putBits (w : Word) (lo wd v : Nat) : Word :=
  (w &&& ~~~ maskOf lo wd) ||| BitVec.ofNat 32 (v % 2 ^ wd * 2 ^ lo)

/-- The active word at a register-space offset. -/
def actW (d : Dev) (off : Nat) : Word := d.hub.act.read resetWord off

/-- Write the active word. -/
def setActW (d : Dev) (off : Nat) (w : Word) : Dev :=
  { d with hub := { d.hub with act := d.hub.act.put resetWord off w } }

/-- Reset bits of the shadow of a word. -/
def shReset (off : Nat) : Word := resetWord off &&& shMask off

/-- The shadow bits of a word (R50 SH). -/
def shdW (d : Dev) (off : Nat) : Word := d.hub.shd.read shReset off

/-- Write the shadow bits of a word. -/
def setShdW (d : Dev) (off : Nat) (w : Word) : Dev :=
  { d with hub := { d.hub with shd := d.hub.shd.put shReset off (w &&& shMask off) } }

/-- A write of a triple-voted word stores its value in all three copies (R60). -/
def tvTaken (d : Dev) (off : Nat) (shadow : Bool) : Dev :=
  { d with hub := { d.hub with tv := d.hub.tv.erase (2 * off + b2n shadow) } }

/-- Read a field's active value. -/
def rd (d : Dev) (f : Fld) : Nat := bitsOf (actW d f.off).toNat f.lo f.wd

/-- Write a field's active value. -/
def wr (d : Dev) (f : Fld) (v : Nat) : Dev := setActW d f.off (putBits (actW d f.off) f.lo f.wd v)

/-- Write several fields, in order. -/
def wrs (d : Dev) (l : List (Fld × Nat)) : Dev := l.foldl (fun d e => wr d e.1 e.2) d

/-- A one-bit field as a Bool. -/
def rdB (d : Dev) (f : Fld) : Bool := rd d f == 1

/-- Read a field's shadow value. -/
def rdShd (d : Dev) (f : Fld) : Nat := bitsOf (shdW d f.off).toNat f.lo f.wd

/-- Write a field's shadow value. -/
def wrShd (d : Dev) (f : Fld) (v : Nat) : Dev := setShdW d f.off (putBits (shdW d f.off) f.lo f.wd v)

/-- Write a field in its shadow and active copies. -/
def wrBoth (d : Dev) (f : Fld) (v : Nat) : Dev := wrShd (wr d f v) f v

/-- Read a 16-bit field as a signed value. -/
def rdS16 (d : Dev) (f : Fld) : Int := (BitVec.ofNat 16 (rd d f)).toInt

/-- Add to a counter field that saturates at its largest value. -/
def satAdd (d : Dev) (f : Fld) (n : Nat) : Dev := wr d f (min (rd d f + n) (2 ^ f.wd - 1))

/-- Add to a counter field that wraps. -/
def wrapAdd (d : Dev) (f : Fld) (n : Nat) : Dev := wr d f (rd d f + n)

/-- Read a 64-bit pair by the offset of its _LO word (R51). -/
def rd64 (d : Dev) (lo : Nat) : Nat := (actW d lo).toNat + 2 ^ 32 * (actW d (lo + 4)).toNat

/-- Write a 64-bit pair. -/
def wr64 (d : Dev) (lo v : Nat) : Dev :=
  setActW (setActW d lo (BitVec.ofNat 32 v)) (lo + 4) (BitVec.ofNat 32 (v / 2 ^ 32))

/-- Add to a 64-bit counter. -/
def add64 (d : Dev) (lo n : Nat) : Dev := wr64 d lo (rd64 d lo + n)

/-- Low 32 bits of the time base (R22). [log entry 6 DESIGN CHOICE] -/
def now32 (d : Dev) : Nat := d.sys.time % 2 ^ 32

/-! ### Headers and events -/

/-- The header of a page. -/
def hdrOf (d : Dev) (p : Nat) : PageHdr := d.hub.hdr.read hdrDefault p

/-- Replace the header of a page. -/
def setHdr (d : Dev) (p : Nat) (h : PageHdr) : Dev :=
  { d with hub := { d.hub with hdr := d.hub.hdr.put hdrDefault p h } }

/-- The implemented pages, rising (R451). -/
def allPages : List Nat := (List.range 0x7F).filter implemented

/-- EVT_PEND of a page: EVT_RAW AND EVT_EN (R47). -/
def evtPend (d : Dev) (p : Nat) : Word := (hdrOf d p).evtRaw &&& (hdrOf d p).evtEn

/-- Registers that the log entry of an event holds after P0 (R434), as offsets. [log entry 55 DEDUCED] -/
def logRegs (code : Nat) : List Nat :=
  let p := code / 256
  let b := code % 256
  if code == 0xFF01 then [0x148, 0x144, 0x14C]
  else if code == 0xFF02 then [0x1044, 0x105C]
  else if code == 0xFF03 then [0x1048, 0x104C]
  else if code == 0xFF06 then [0x7D048, 0x7D04C]
  else if p == 6 && b == 8 then [0x604C, 0x6050]
  else if p == 0x25 && 8 ≤ b && b ≤ 10 then [0x25054]
  else if p == 0x28 && b == 8 then [0x2808C, 0x28090, 0x28094, 0x28098]
  else if p == 2 && b == 10 then [0x2054]
  else if p == 4 && b == 9 then [0x4068]
  else []

/-- Severity of an entry (R434). [log entry 55 DEDUCED] -/
def logSev (code : Nat) : Nat :=
  let p := code / 256
  let b := code % 256
  if code == 0xFF02 then 0
  else if code == 0xFF03 || code == 0xFF05 then 2
  else if code == 0xFF04 then 3
  else if p == 6 && b == 8 then 3
  else if p == 0x25 && 8 ≤ b && b ≤ 10 then 2
  else if p == 0x28 && b == 8 then 3
  else if (p == 2 && b == 10) || (p == 4 && b == 9) then 3
  else if 0x14 ≤ p && p ≤ 0x17 && b == 24 then 2
  else 1

/-- Set event bits of a page without a log entry (R47). -/
def setRaw (d : Dev) (p : Nat) (w : Word) : Dev :=
  setHdr d p { hdrOf d p with evtRaw := (hdrOf d p).evtRaw ||| w }

/-- Append an entry with its parameters to the buffered event log (R433): a full buffer drops it and raises LOST; NEWENT is
raised at or above LOG_SEVTHR and is not logged (R436). -/
def logPut (d : Dev) (code : Nat) (params : List Word) : Dev :=
  if d.log.buf.length ≥ 65536 then setRaw (satAdd d F.LOG_LOST_COUNT 1) 0x7E 0x200
  else
    let n := rd d F.LOG_NEXT_N
    let e : LogEnt := ⟨0, n, d.sys.time, code, logSev code, params⟩
    let d1 := wr (wr { d with log := { d.log with buf := e :: d.log.buf } } F.LOG_NEXT_N (n + 1))
      F.LOG_PEND_COUNT (d.log.buf.length + 1)
    if rd d F.LOG_SEVTHR_SEV ≤ logSev code then setRaw d1 0x7E 0x100 else d1

/-- A log entry that is not an event (R434): its P0 is 0, its other parameters are given or are the registers of the table. -/
def logNote (d : Dev) (code : Nat) (args : List Nat) : Dev :=
  logPut d code ((0 : Word) :: (if args.isEmpty then (logRegs code).map (actW d) else args.map (BitVec.ofNat 32)))

/-- Raise an event bit of a page, enabled or not (R48), and log it with extra parameters (R434). [log entries 52 DEDUCED; 55 DEDUCED] -/
def raiseArgs (d : Dev) (p b : Nat) (args : List Word) : Dev :=
  let d1 := setRaw d p (BitVec.ofNat 32 (2 ^ b))
  logPut d1 (256 * p + b) ((hdrOf d1 p).evtRaw :: (if args.isEmpty then (logRegs (256 * p + b)).map (actW d1) else args))

/-- Raise an event bit of a page and log it. [log entry 55 DEDUCED] -/
def raise (d : Dev) (p b : Nat) : Dev := raiseArgs d p b []

/-! ### Functions (R120, R122) -/

/-- Port, link and virtual-function number of a function code. -/
def fnPort (fn : Nat) : Nat := fn / 512 % 2
def fnLink (fn : Nat) : Nat := fn / 128 % 4
def fnVf (fn : Nat) : Nat := fn % 128
def isMgmt (fn : Nat) : Bool := fn % 512 == 0

/-- Functions of a link, the PF first. -/
def linkFns (port link : Nat) : List Nat := (List.range 65).map (fun v => 512 * port + 128 * link + v)

/-- Bus Master Enable of the function is 1. -/
def bmeOn (d : Dev) (fn : Nat) : Bool := d.pci.bme.contains fn

/-- Memory Space Enable of the function is 1. -/
def mseOn (d : Dev) (fn : Nat) : Bool := d.pci.mse.contains fn

/-- The function's link is up. -/
def linkUpB (d : Dev) (port link : Nat) : Bool := rdB d (F.PRT_LSTAT_UP port link)

/-- A function's link is up and its Bus Master Enable is 1: the controller may issue requests for it (R115). -/
def fnReachable (d : Dev) (fn : Nat) : Bool := bmeOn d fn && linkUpB d (fnPort fn) (fnLink fn)

/-! ### Outputs -/

/-- Emit an output. [log entry 108 DESIGN CHOICE] -/
def emit (d : Dev) (o : Output) : Dev := { d with out := o :: d.out }

/-- Function code of the management function of a port (R120). -/
def mgmtFn (port : Nat) : Nat := 512 * port

/-- The vector may be sent: its own mask and the Function Mask are 0 (R132). -/
def vecOpen (d : Dev) (fn vec : Nat) : Bool := d.pci.vecOn.contains (2048 * fn + vec) && !d.pci.msixFm.contains fn

/-- The function may send messages at all: MSI-X Enable is 1, and requests can be issued for it (R115, R132). -/
def msixLive (d : Dev) (fn : Nat) : Bool := d.pci.msixEn.contains fn && fnReachable d fn

/-- Send an MSI-X message, or record it pending while the vector is masked (R132, the PCIe rules). None is written during an
emergency flush (R229), nor for a function for which no request may be issued (R115). [log entry 56 DEDUCED] -/
def sendMsix (d : Dev) (fn vec : Nat) : Dev :=
  if !(rd d F.PFL_STAT_STATE == 0) || !msixLive d fn then d
  else if vecOpen d fn vec then emit d (.msix fn vec)
  else { d with pci := { d.pci with pba := nins (2048 * fn + vec) d.pci.pba } }

/-- The OR of the pending events of the pages routed to a port's management function (R45, R132). -/
def routedOr (d : Dev) (port : Nat) : Bool :=
  d.hub.hdr.any (fun e => (if port = 0 then e.2.irqA else e.2.irqB) && !(e.2.evtRaw &&& e.2.evtEn == 0))

/-- Some page routed to ALERT# has a pending event (R132). -/
def alertOr (d : Dev) : Bool :=
  d.hub.hdr.any (fun e => e.2.alert && !(e.2.evtRaw &&& e.2.evtEn == 0))

/-- The event message of a port's management function, on vector PRTx_EVTVEC (R132). [log entry 56 DEDUCED] -/
def eventMessage (d : Dev) (port : Nat) : Dev := sendMsix d (mgmtFn port) (rd d (F.PRT_EVTVEC_VEC port))

/-- A wake event (R420): outside P0, or during an entry, the exit starts and its cause is recorded; 1 a BAR2 write, 2 a link exit
from L1, 3 WAKE, 4 a mode change, 5 an event. [log entry 53 DEDUCED] -/
def wake (d : Dev) (cause : Nat) : Dev :=
  if (!(rd d F.PWR_PSTAT_STATE == 0) || rdB d F.PWR_PSTAT_ENTERING) && !rdB d F.PWR_PSTAT_EXITING then
    wrs d [(F.PWR_PSTAT_WCAUSE, cause), (F.PWR_PSTAT_EXITING, 1)]
  else d

/-- Outputs that follow the state after every command: ALERT# and the event messages on a 0 to 1 change (R132). The PLL
fault of R85 holds ALERT# low. [log entry 56 DEDUCED] -/
def settleEvents (d : Dev) : Dev :=
  let a := routedOr d 0
  let b := routedOr d 1
  let d1 := if a && !d.sys.orA then eventMessage d 0 else d
  let d2 := if b && !d.sys.orB then eventMessage d1 1 else d1
  let low := alertOr d || d.sys.dead
  let d3 := if (a && !d.sys.orA) || (b && !d.sys.orB) || (low && !d.sys.alertLow) then wake d2 5 else d2
  { d3 with sys := { d3.sys with orA := a, orB := b, alertLow := low } }

/-! ### Dropped and recorded accesses -/

/-- Record a dropped or timed-out access in GLB_OFFACC and count it (R69). -/
def offAcc (d : Dev) (port : Nat) (write : Bool) (cause off : Nat) : Dev :=
  let d1 := satAdd d F.GLB_OFFACC_CNT_COUNT 1
  if rdB d F.GLB_OFFACC_VALID then d1
  else wrs d1 [(F.GLB_OFFACC_VALID, 1), (F.GLB_OFFACC_PORT, port), (F.GLB_OFFACC_WRITE, b2n write),
    (F.GLB_OFFACC_CAUSE, cause), (F.GLB_OFFACC_OFFSET, off)]

/-- Record an ignored write to a write-once field in WO_VIOL and raise WOV (R72). -/
def woViol (d : Dev) (off : Nat) : Dev :=
  let p := pageOf off
  let h := hdrOf d p
  let h' := if h.woValid then { h with woOver := true }
    else { h with woValid := true, woWhere := inPage off }
  raise (setHdr d p h') p 0

/-- PAGE_STAT.ON (R46): set with the domain; of page FWA also in STAGE FAIL with FCAUSE 4 (R397). -/
def pageOn (d : Dev) (p : Nat) : Bool :=
  (hdrOf d p).on || (p == 0xC && rd d F.GLB_BOOT_STAGE == 0xF && rd d F.GLB_BOOT_FCAUSE == 4)

/-- The block registers of a page answer: a page of the AON island always once the AON domain runs (R86, R88), any other while
PAGE_STAT.ON is 1 (R68, R453). -/
def answers (d : Dev) (p : Nat) : Bool := islandOf p == 0 || pageOn d p

/-- GLB_BOOT.STAGE is READY. -/
def stageReady (d : Dev) : Bool := rd d F.GLB_BOOT_STAGE == 6

/-- CFG_GATE.STATE is ACCEPTED. -/
def accepted (d : Dev) : Bool := rd d F.CFG_GATE_STATE == 4

/-- Domain `n` is powered (R92). -/
def domOn (d : Dev) (n : Nat) : Bool := bitOf (rd d F.PWR_DOMSTAT_ON) n

/-- Set or clear one bit of a field. -/
def setBit (d : Dev) (f : Fld) (n : Nat) (v : Bool) : Dev :=
  let w := rd d f
  if bitOf w n == v then d else wr d f (if v then w + 2 ^ n else w - 2 ^ n)

/-- PLL of CLK_STAT.LOCK that a switched domain holds (R84): the fabric's PLL belongs to none. -/
def domPll (dom : Nat) : Option Nat :=
  if dom ≤ 17 then some (5 + dom) else if dom ≤ 21 then some 2 else if dom ≤ 25 then some 3 else if dom == 26 then some 4
  else if dom == 28 then some 1 else none

/-- A PLL has a domain that is on: the fabric's always, any other while a domain it serves is powered (R84). -/
def pllDomainOn (d : Dev) (pll : Nat) : Bool := pll == 0 || (List.range 30).any (fun n => domPll n == some pll && domOn d n)

/-- The clock of a PLL's island is held: the PLL has lost lock while a domain of it is on, and the work of the island waits (R85). -/
def clockHeld (d : Dev) (pll : Nat) : Bool :=
  rd d F.GLB_BOOT_STAGE ≥ 3 && pllDomainOn d pll && !bitOf (rd d F.CLK_STAT_LOCK) pll

/-- The PLL of a channel group has failed: it locks again only after a restart (R85, R307). -/
def pllBroken (d : Dev) (k : Nat) : Bool := d.sys.pllDead.contains k

/-- CLK_STAT.LOCK follows a domain that has been switched: a PLL with no domain on reads 0, the first domain starts it, a port's PLL
only with its REFCLK (R84). -/
def pllFollow (d : Dev) (dom : Nat) : Dev :=
  match domPll dom with
  | none => d
  | some p =>
    let on := (List.range 30).filter (fun n => domPll n == some p && domOn d n)
    if on.isEmpty then setBit d F.CLK_STAT_LOCK p false
    else if on == [dom] && !(dom ≤ 15 && pllBroken d dom) && (p < 21 || d.sys.refPresent.contains (p - 21)) then setBit d F.CLK_STAT_LOCK p true else d

/-- Take the next free value index (the model's own field, see Config). [log entries 3 DESIGN CHOICE; 6 DESIGN CHOICE] -/
def tick (d : Dev) : Dev := { d with free := d.free + 1 }

/-! ### Outcomes -/

/-- The emergency flush is in progress or done (R229). -/
def flushing (d : Dev) : Bool := !(rd d F.PFL_STAT_STATE == 0)

/-- The AON domain runs and the device has not given up (R85, R86). [log entry 1 DESIGN CHOICE] -/
def alive (d : Dev) : Bool := d.sys.aon && !d.sys.dead

/-- The device serves: alive and not in an emergency flush. [log entry 1 DESIGN CHOICE] -/
def serving (d : Dev) : Bool := alive d && !flushing d

/-- The fabric runs: no flush, and its clock is not held (R85). An event of work that a held clock stops changes nothing; it comes again
after the relock. [log entry 147 DEDUCED] -/
def running (d : Dev) : Bool := serving d && !clockHeld d 0

/-- The control processors run as well (R85). -/
def cpuRuns (d : Dev) : Bool := running d && !clockHeld d 1

/-- Every command ends here: the outputs that follow the state are brought up to date. [log entry 1 DESIGN CHOICE] -/
def finish (s : State) (d : Dev) : Host.Outcome State Fault Refusal :=
  .next { s with dev := settleEvents d }

/-- An event that its condition does not allow changes nothing. [log entry 1 DESIGN CHOICE] -/
def guardDev (c : Bool) (d d' : Dev) : Dev := if c then d' else d

/-! ### The BARs of a function (R121, R122) -/

/-- A request reaches the BARs of the function: the device runs, the link is up and MSE is 1 (R121). -/
def barOk (d : Dev) (fn : Nat) : Bool :=
  alive d && linkUpB d (fnPort fn) (fnLink fn) && mseOn d fn

/-- The control page of a function. -/
def ctlOf (d : Dev) (fn : Nat) : FnCtl := d.pci.ctl.read (fun _ => {}) fn

def setCtl (d : Dev) (fn : Nat) (c : FnCtl) : Dev :=
  { d with pci := { d.pci with ctl := d.pci.ctl.put (fun _ => {}) fn c } }

/-! ### Seats and commands -/

def seatOf? (d : Dev) (s : Nat) : Option Seat := d.seats.get? s

def setSeat (d : Dev) (s : Nat) (v : Seat) : Dev := { d with seats := d.seats.set s v }

/-- Change an attached seat. -/
def modSeat (d : Dev) (s : Nat) (f : Seat → Seat) : Dev :=
  match seatOf? d s with
  | some v => setSeat d s (f v)
  | none => d

/-- The seat of a function's window. -/
def seatAt? (d : Dev) (fn win : Nat) : Option Nat :=
  (d.seats.find? (fun e => e.2.fn == fn && e.2.win == win)).map Prod.fst

def modCmds (d : Dev) (f : List Cmd → List Cmd) : Dev :=
  { d with cmds := { d.cmds with list := f d.cmds.list } }

/-- Change the command with a fetch number. -/
def modCmd (d : Dev) (seq : Nat) (f : Cmd → Cmd) : Dev :=
  modCmds d (updWhere (fun c => c.seq == seq) f)

def cmdOf? (d : Dev) (seq : Nat) : Option Cmd := d.cmds.list.find? (fun c => c.seq == seq)

/-- The uncompleted command of a seat that holds a tag. -/
def cmdAt? (d : Dev) (seat tag : Nat) : Option Cmd :=
  d.cmds.list.find? (fun c => c.seat == seat && c.tag == tag && !c.orphan)

/-- Word `n` of a command entry (R137). -/
def dw (c : Cmd) (n : Nat) : Nat := (c.entry.getD n 0).toNat

/-! Fields of the command entry (R137). -/
def cOpc (c : Cmd) : Nat := bitsOf (dw c 0) 0 8
def cTag (e : List Word) : Nat := bitsOf (e.getD 0 0).toNat 8 5
def cVol (c : Cmd) : Nat := bitsOf (dw c 0) 16 6
def cHold (c : Cmd) : Bool := bitOf (dw c 1) 0
def cScope (c : Cmd) : Bool := bitOf (dw c 1) 1
def cSid (c : Cmd) : Nat := bitsOf (dw c 1) 8 6
def cSv (c : Cmd) : Bool := bitOf (dw c 1) 15
def cDtype (c : Cmd) : Nat := bitsOf (dw c 1) 16 2
def cLba (c : Cmd) : Nat := dw c 2 + 2 ^ 32 * bitsOf (dw c 3) 0 16
def cLen (c : Cmd) : Nat := bitsOf (dw c 4) 0 24
def cNseg (c : Cmd) : Nat := bitsOf (dw c 5) 0 24
def cDptr (c : Cmd) : Nat := dw c 6 + 2 ^ 32 * dw c 7
def cAptr (c : Cmd) : Nat := dw c 8 + 2 ^ 32 * dw c 9
def cOp (c : Cmd) (i : Nat) : Nat := dw c (10 + i)

/-- Opcodes (R142, R153). -/
def opWRITE : Nat := 0x01
def opREAD : Nat := 0x02
def opFLUSH : Nat := 0x03
def opDISCARD : Nat := 0x04
def opFILL : Nat := 0x05
def opVERIFY : Nat := 0x06
def opGATHER : Nat := 0x07
def opABORT : Nat := 0x08
def opOPEN : Nat := 0x10
def opCLOSE : Nat := 0x11
def opQUERY : Nat := 0x12
def opSANITISE : Nat := 0x40
def opFORMAT : Nat := 0x41
def opFWLOAD : Nat := 0x42
def opFWCOMMIT : Nat := 0x43
def opFWACT : Nat := 0x44
def opLOG : Nat := 0x45
def opKEYLOAD : Nat := 0x46
def opKEYRET : Nat := 0x47
def opVOLSET : Nat := 0x48

/-- A command that pulls or makes data for the write path (R142). -/
def isDataWrite (c : Cmd) : Bool := cOpc c == opWRITE || cOpc c == opFILL || cOpc c == opGATHER

/-- Write-kind commands (R142). -/
def isWriteKind (c : Cmd) : Bool := isDataWrite c || cOpc c == opDISCARD

/-- Read-kind commands (R142). -/
def isReadKind (c : Cmd) : Bool := cOpc c == opREAD || cOpc c == opVERIFY

/-- Completion statuses (R143). -/
def stSUCCESS : Nat := 0x0
def stINVOPC : Nat := 0x1
def stINVFLD : Nat := 0x2
def stLBA : Nat := 0x3
def stNOTADM : Nat := 0x4
def stABORTED : Nat := 0x5
def stTOOLATE : Nat := 0x6
def stRESET : Nat := 0x7
def stAUTH : Nat := 0x8
def stKEYABS : Nat := 0x9
def stKEYEXH : Nat := 0xA
def stNONCE : Nat := 0xB
def stMEDIA : Nat := 0xC
def stDETACHED : Nat := 0xD
def stMODE : Nat := 0xE
def stUPDATE : Nat := 0xF
def stBUS : Nat := 0x10
def stMISMATCH : Nat := 0x11
def stCAPACITY : Nat := 0x12
def stBUSYREC : Nat := 0x13

/-! ### Completions (R128, R140) -/

/-- The CNT condition of SEAT_CQINT, with its cap of 30 (R128). -/
def cqThreshold (s : Seat) : Nat := min (bitsOf s.cqint 8 5) 30 + 1

/-- The completion ring is full (R128). -/
def cqFull (s : Seat) : Bool := (s.cqt + 1) % 32 == s.cqh

/-- The four words of a completion entry in a seat's next slot (R140). -/
def cqeWords (s : Seat) (c : Cqe) : Word × Word × Word × Word :=
  (BitVec.ofNat 32 (c.status + 2 ^ 16 * c.tag + 2 ^ 21 * s.sqh + 2 ^ 31 * b2n s.cqPhase),
   BitVec.ofNat 32 (c.flags + 2 ^ 8 * c.courses), BitVec.ofNat 32 c.time, BitVec.ofNat 32 c.result)

/-- Host address of the submission entry at the head, and of the next completion entry: base + i × entry size (R125). -/
def sqAddr (s : Seat) : DWord := BitVec.ofNat 64 (s.sqb + 64 * s.sqh)
def cqAddr (s : Seat) : DWord := BitVec.ofNat 64 (s.cqb + 16 * s.cqt)

/-- Write one completion entry into a slot that is free, and signal it by R128. -/
def writeCqe (d : Dev) (sn : Nat) (s : Seat) (c : Cqe) : Dev :=
  let w := cqeWords s c
  let d1 := emit d (.cqe sn s.cqt (cqAddr s) w.1 w.2.1 w.2.2.1 w.2.2.2)
  let s1 := { s with cqt := (s.cqt + 1) % 32, cqPhase := (if s.cqt == 31 then !s.cqPhase else s.cqPhase) }
  if s.ien then
    let s2 := { s1 with unsig := s.unsig + 1, unsigT := (if s.unsig == 0 then d.sys.time else s.unsigT) }
    let immediate := bitsOf s.cqint 0 8 == 0 && bitsOf s.cqint 8 5 == 0
    if immediate || s2.unsig ≥ cqThreshold s || cqFull s1 then
      setSeat (sendMsix d1 s.fn s.vec) sn { s2 with unsig := 0 }
    else setSeat d1 sn s2
  else setSeat d1 sn s1

/-- A write of SEAT_CQINT: entries already unsignalled are signalled when the new condition is met (R128). -/
def cqintSignal (d : Dev) (sn : Nat) : Dev :=
  match seatOf? d sn with
  | none => d
  | some s =>
    let immediate := bitsOf s.cqint 0 8 == 0 && bitsOf s.cqint 8 5 == 0
    if s.ien && !(s.unsig == 0) && (immediate || s.unsig ≥ cqThreshold s) then
      setSeat (sendMsix d s.fn s.vec) sn { s with unsig := 0 }
    else d

/-- The controller may write the seat's ring: its function is reachable, and no reap other than of a forced detach runs (R115,
R134). -/
def ringReachable (d : Dev) (s : Seat) : Bool := fnReachable d s.fn && (s.reapAt.isNone || s.kicked)

/-- Write held completions, in order, while the ring has free slots and can be written. The fuel is the ring size. -/
def drainCq : Nat → Dev → Nat → Dev
  | 0, d, _ => d
  | n + 1, d, sn =>
    match seatOf? d sn with
    | none => d
    | some s =>
      match s.waiting with
      | [] => d
      | c :: rest =>
        if cqFull s || !ringReachable d s then d
        else drainCq n (writeCqe d sn { s with waiting := rest } c) sn

/-- The completion arbiter takes one completion: the command leaves the list and its entry joins the seat's completions
(R128, R162), where it holds its tag until it is written (R126). Completions of a command whose seat is gone are discarded (R165). -/
def completeOne (d : Dev) (c : Cmd) (status result courses : Nat) (partialB : Bool) : Dev :=
  let demoted := cSv c && rdB d (F.STRM_STAT_DEMOTED (cSid c)) && rdB d (F.STRM_STAT_OPEN (cSid c))
  let flags := b2n c.outside + 2 * b2n demoted + 4 * b2n c.exitDelayed + 8 * b2n partialB
  let q : Cqe := ⟨cOpc c, c.tag, status, flags, courses, now32 d, result⟩
  let d1 := modCmds d (fun l => l.filter (fun x => !(x.seq == c.seq)))
  if c.orphan then d1
  else
    match seatOf? d1 c.seat with
    | none => d1
    | some s => drainCq 32 (setSeat d1 c.seat { s with waiting := s.waiting ++ [q] }) c.seat

/-- Complete a command, then the ABORT commands that wait for it, in their order (R163). [log entry 47 DEDUCED] -/
def complete (d : Dev) (c : Cmd) (status result : Nat) (courses : Nat := 0) (partialB : Bool := false) : Dev :=
  let aborts := ((cmdOf? d c.seq).map Cmd.aborts).getD []
  aborts.foldl (fun d a => match cmdOf? d a with
    | some x => completeOne d x stSUCCESS 0 0 false
    | none => d) (completeOne d c status result courses partialB)

/-- Complete with SUCCESS. -/
def succeed (d : Dev) (c : Cmd) (result : Nat := 0) : Dev := complete d c stSUCCESS result

end Sys2Proof.Machine
end

