-- ==== Sys2Proof/Machine/MediaTerms.lean ====
section
/-!
DEFINITION. Terms of the media: declared and healthy LUNs, the geometry, the dirty ceiling and the flush bound, battens and their
members, capacity, the volume table and the journal bounds (chapters HBM Regions, Translation Layer, Battens, Flash Channels).
-/
namespace Sys2Proof.Machine

/-! ### LUNs and channels (R172, R295, R308) -/

/-- CHN_STAT.STATE codes. -/
def chRESET : Nat := 0
def chTRAIN : Nat := 1
def chSERVE : Nat := 2
def chISO : Nat := 3
def chGATED : Nat := 4

def chnState (d : Dev) (c : Nat) : Nat := rd d (F.CHN_STAT_STATE c)

/-- Channel of a LUN (R295). -/
def lunChn (l : Nat) : Nat := l / 64

/-- LUN numbers a target map declares on a channel, rising (R295). -/
def lunsOfMap (c tgt lpt : Nat) : List Nat :=
  ((List.range 16).filter (fun t => bitOf tgt t)).flatMap (fun t => (List.range lpt).map (fun l => 64 * c + 4 * t + l))

/-- Declared LUNs in LUN order. -/
def declaredLuns (d : Dev) : List Nat :=
  (List.range 64).flatMap (fun c => lunsOfMap c (rd d (F.CHN_MAP_TGT c)) (rd d F.MEDIA_GEOM0_LPTM1 + 1))

def lunRecOf (d : Dev) (l : Nat) : LunRec := d.med.nand.lunRec.read (fun _ => {}) l
def setLunRec (d : Dev) (l : Nat) (r : LunRec) : Dev :=
  { d with med := { d.med with nand := { d.med.nand with lunRec := d.med.nand.lunRec.put (fun _ => {}) l r } } }

/-- The LUN can hold eave blocks: not failed, not on an isolated channel, which stays out of service until its training passes (R228,
R307). -/
def lunKept (d : Dev) (l : Nat) : Bool := !(lunRecOf d l).failedB && !(chnState d (lunChn l) == chISO) && !(d.chn.read (fun _ => {}) (lunChn l)).retrain

/-- A switched domain is gated by host request (R92). -/
def hostOff (d : Dev) (dom : Nat) : Bool := bitOf (rd d F.PWR_DOMHOST_HOST) dom

/-- The channel's group is gated by host request. -/
def hostGated (d : Dev) (c : Nat) : Bool := hostOff d (c / 4)

/-- A healthy LUN (R172). -/
def lunHealthy (d : Dev) (l : Nat) : Bool := lunKept d l && !hostGated d (lunChn l)

def healthyLuns (d : Dev) : List Nat := (declaredLuns d).filter (lunHealthy d)
def nLunHealthy (d : Dev) : Nat := (healthyLuns d).length
def nEl (d : Dev) : Nat := ((declaredLuns d).filter (lunKept d)).length

/-- A member on the LUN can be accessed (R320). -/
def lunAvail (d : Dev) (l : Nat) : Bool := lunKept d l

/-! ### Geometry (R263 to R265, R298) -/

/-- Codewords per program unit. -/
def cuOf (d : Dev) : Nat := 4 * rd d F.MEDIA_GEOM0_Q * rd d F.MEDIA_GEOM0_L
def nUnits (d : Dev) : Nat := rd d F.MEDIA_GEOM0_NU
def batW (d : Dev) : Nat := rd d F.MEDIA_BATW_W
/-- Data codewords per stripe, and per batten. -/
def stripeCw (d : Dev) : Nat := (batW d - 1) * cuOf d
def batCw (d : Dev) : Nat := nUnits d * stripeCw d
/-- SLC-mode pages of a block. -/
def slcPages (d : Dev) : Nat := rd d F.MEDIA_GEOM0_Q * rd d F.MEDIA_GEOM1_NUSLC
/-- b_slc in bytes (R298). -/
def bSlc (d : Dev) : Nat := rd d F.MEDIA_GEOM0_Q * rd d F.MEDIA_GEOM1_NUSLC * 16384
/-- Pages of one program unit. [log entry 60 DEDUCED] -/
def unitPages (d : Dev) : Nat := rd d F.MEDIA_GEOM0_Q * rd d F.MEDIA_GEOM0_L

/-- Stripe and member position of a codeword offset (R265). -/
def offStripe (d : Dev) (o : Nat) : Nat := o / stripeCw d
def posOf (w stripe m : Nat) : Nat := if m < stripe % w then m else m + 1
def offPos (d : Dev) (o : Nat) : Nat := posOf (batW d) (offStripe d o) (o % stripeCw d / cuOf d)

/-- Plane, page in the plane's block, and codeword of an offset (R265). -/
def offPlace (d : Dev) (o : Nat) : Nat × Nat × Nat :=
  let q := o % cuOf d
  let j := q / 4
  (j % rd d F.MEDIA_GEOM0_Q, offStripe d o * rd d F.MEDIA_GEOM0_L + j / rd d F.MEDIA_GEOM0_Q, q % 4)

/-! ### The dirty ceiling (R223 to R228) -/

/-- What the energy terms are computed from. -/
structure EnergyIn where
  ehold : Nat
  nel : Nat
  rslc : Nat
  em : Nat
  tprog : Nat
  deriving DecidableEq, Repr

/-- R_flush in bytes per second (R226). -/
def rFlush (e : EnergyIn) : Nat := min (e.nel * e.rslc * 900000) 200000000000

/-- P_base × (t_fix + t_PROG) in pJ. -/
def fixedPj (e : EnergyIn) : Nat := 30000000 * (2000 + e.tprog)

/-- (e_c + e_m) × R_flush, in pJ per second: e_c is 300 pJ/B at 100 GB/s or more, else 150 pJ/B + 15 W ÷ R_flush. -/
def perByteTimesR (e : EnergyIn) : Nat :=
  if rFlush e ≥ 100000000000 then (300 + e.em) * rFlush e else (150 + e.em) * rFlush e + 15000000000000

/-- The energy term in bytes, 0 when negative or when R_flush is 0. -/
def energyTerm (e : EnergyIn) : Nat :=
  if rFlush e == 0 then 0 else (800000000 * e.ehold - fixedPj e) * rFlush e / perByteTimesR e

/-- PFL_EC in pJ/B. -/
def ecPj (e : EnergyIn) : Nat :=
  if rFlush e == 0 then 0xFFFF
  else if rFlush e ≥ 100000000000 then 300 else min 0xFFFF (150 + 15000000000000 / rFlush e)

/-- PFL_EMIN: the smallest declaration whose energy term reaches 16 MiB. -/
def eMin (e : EnergyIn) : Nat :=
  if rFlush e == 0 then 0xFFFFF
  else min 0xFFFFF (ceilDiv (16777216 * perByteTimesR e + fixedPj e * rFlush e) (800000000 * rFlush e))

/-- The terms with the values in force. -/
def energyIn (d : Dev) : EnergyIn :=
  ⟨rd d F.PFL_EHOLD_MJ, nEl d, rd d F.MEDIA_RSLC_MBS, rd d F.MEDIA_EM_PJ, rd d F.MEDIA_TPROG_US⟩

/-- The terms with N_eL at its commit value, MEDIA_NLUN of the configuration (R226). -/
def energyDeclared (d : Dev) : EnergyIn := { energyIn d with nel := (declaredLuns d).length }

/-- PFL_EC, PFL_RFLUSH, PFL_EMIN and FWU_EMIN from the terms (R226). -/
def energyRegs (d : Dev) (e : EnergyIn) : Dev :=
  wrs d [(F.PFL_EC_PJ, ecPj e), (F.PFL_RFLUSH_RATE, rFlush e / 10000000), (F.PFL_EMIN_MJ, eMin e), (F.FWU_EMIN_MJ, min 0xFFFFF (eMin e + 1000))]

/-- Ring size in bytes. -/
def ringBytes (d : Dev) : Nat := rd d (F.BUF_SIZE 2) * 0x4000000

/-- Erased eave blocks of the LUNs that can take eave pages, and C_eave in bytes (R228). -/
def eaveBlocks (d : Dev) : Nat := (((declaredLuns d).filter (lunKept d)).map (fun l => (lunRecOf d l).eave.length)).foldl (· + ·) 0
def cEave (d : Dev) : Nat := eaveBlocks d * bSlc d
def reserveTerm (d : Dev) : Nat := cEave d * 100 / 102

/-- D_ceil in bytes (R223). -/
def dCeilBytes (d : Dev) : Nat := min (ringBytes d) (min (energyTerm (energyIn d)) (reserveTerm d))

/-- n_eave (R228). -/
def nEave (d : Dev) : Nat :=
  let t := min (ringBytes d) (energyTerm (energyIn d))
  if bSlc d == 0 then nEl d else max (nEl d) (ceilDiv (102 * t) (100 * bSlc d))

/-- Refresh the flush terms on pages BUF and PFL (R223, R226, R227, R234); DCHG and RESV are raised on a change. Of equal terms BIND names the ring, then the energy. [log entries 38 DESIGN CHOICE; 137 DESIGN CHOICE] -/
def flushTerms (d : Dev) : Dev :=
  let e := energyIn d
  let ceilB := dCeilBytes d
  let old := rd d F.BUF_DCEIL_KIB
  let bind := if ceilB == ringBytes d then 0 else if ceilB == energyTerm e then 1 else 2
  let d1 := wrs (energyRegs d e) [(F.BUF_DCEIL_KIB, ceilB / 1024), (F.BUF_DENRG_KIB, energyTerm e / 1024), (F.BUF_DEAVE_KIB, reserveTerm d / 1024),
    (F.PFL_TFLUSH_US, 2000 + e.tprog + (if rFlush e == 0 then 0 else ceilDiv (ceilB * 1000000) (rFlush e))),
    (F.BUF_STAT_BIND, bind)]
  let d2 := if old == ceilB / 1024 then d1 else raise d1 0x1F 8
  if bind == 2 && !(rd d F.BUF_STAT_BIND == 2) then raise d2 0x1F 10 else d2

/-! ### Battens (R264 to R267, R272) -/

/-- Change the NAND content. -/
def modNand (d : Dev) (f : Nand → Nand) : Dev := { d with med := { d.med with nand := f d.med.nand } }

/-- Number of LUN groups. -/
def groupsOf (n : Nand) : Nat := if n.w == 0 then 0 else n.grp.length / n.w

/-- The LUNs that groups of `w` LUNs on distinct channels can take when there are `g` groups: at most `g` of each channel. -/
def channelCapped (luns : List Nat) (g : Nat) : List Nat :=
  luns.filter (fun l => (luns.filter (fun x => lunChn x == lunChn l && x < l)).length < g)

/-- The LUNs of the groups: as many groups of `w` LUNs on distinct channels as there can be, at most ⌊N ÷ W⌋ (R266). The fuel counts down
from there. [log entry 59 DEDUCED] -/
def groupedLuns (luns : List Nat) (w : Nat) : Nat → List Nat
  | 0 => []
  | g + 1 =>
    let l := channelCapped luns (g + 1)
    if l.length ≥ w * (g + 1) then l.take (w * (g + 1)) else groupedLuns luns w g

/-- Bad blocks of a LUN, rising. -/
def badOf (n : Nand) (l : Nat) : List Nat := (n.bad.filter (fun e => e.1 == l)).foldl (fun acc e => nins e.2 acc) []

/-- Blocks per LUN as the media record has them (MEDIA_GEOM1.BPP). -/
def bppOf (n : Nand) : Nat := bitsOf (n.geom.getD 1 0).toNat 0 16

/-- Anchor LUNs: the first declared LUN of each bank of 16 channels (R268). -/
def isAnchorLun (n : Nand) (l : Nat) : Bool := (n.luns.find? (fun x => x / 1024 == l / 1024)) == some l

/-- The anchor block of a LUN: the first good block among 0 to 15. -/
def anchorBlock (n : Nand) (l : Nat) : Nat := ((List.range 16).find? (fun b => !(badOf n l).contains b)).getD 0

def goodBlocks (n : Nand) (l : Nat) : Nat := bppOf n - (badOf n l).length
/-- Size of the spare pool at the first FORMAT, the eave share included, and of the member pool (R266). -/
def sparePool (n : Nand) (l : Nat) : Nat := ceilDiv (goodBlocks n l * n.sparePct) 100
def memberPool (n : Nand) (l : Nat) : Nat := goodBlocks n l - sparePool n l - b2n (isAnchorLun n l)

/-- The k-th block of a LUN that is neither bad nor the anchor. -/
def nthGood (n : Nand) (l k : Nat) : Nat :=
  (if isAnchorLun n l then nins (anchorBlock n l) (badOf n l) else badOf n l).foldl (fun a x => if x ≤ a then a + 1 else a) k

/-- LUN at a position of a group's battens as assembled. [log entry 59 DEDUCED] -/
def groupLun (n : Nand) (g pos : Nat) : Nat := n.grp.getD (g + groupsOf n * pos) 0

/-- Battens of a group. [log entry 59 DEDUCED] -/
def groupCount (n : Nand) (g : Nat) : Nat :=
  ((List.range n.w).map (fun p => memberPool n (groupLun n g p))).foldl min 0x1000000

/-- Battens assembled. -/
def batTotal (n : Nand) : Nat := ((List.range (groupsOf n)).map (groupCount n)).foldl (· + ·) 0

/-- A batten id that was assembled at the first FORMAT: every batten receives the next id (R266). -/
def batExists (n : Nand) (b : Nat) : Bool := b < batTotal n

/-- Group and row of the `b`-th batten from row `k` on, over groups with their sizes: the rows are numbered one after another, and a group
that has no batten left in a row is passed over. The fuel is one more than the groups. [log entry 59 DEDUCED] -/
def placeFrom : Nat → List (Nat × Nat) → Nat → Nat → Option (Nat × Nat)
  | 0, _, _, _ => none
  | f + 1, l, k, b =>
    let m := (l.map Prod.snd).foldl min ((l.head?.map Prod.snd).getD k)
    let full := (m - k) * l.length
    if b < full then some ((l.getD (b % l.length) (0, 0)).1, k + b / l.length)
    else placeFrom f (l.filter (fun e => e.2 > m)) m (b - full)

/-- Group of a batten, and its number within the group. [log entry 59 DEDUCED] -/
def batPlace (n : Nand) (b : Nat) : Nat × Nat :=
  (placeFrom (groupsOf n + 1) ((List.range (groupsOf n)).map (fun g => (g, groupCount n g))) 0 b).getD (0, 0)

/-- Id of a batten of a group. [log entry 59 DEDUCED] -/
def batId (n : Nand) (g k : Nat) : Nat :=
  ((List.range (groupsOf n)).map (fun x => min k (groupCount n x))).foldl (· + ·) 0
    + ((List.range g).filter (fun x => groupCount n x > k)).length

def batOf (d : Dev) (b : Nat) : Batten := d.med.nand.bats.read (fun _ => {}) b
def setBat (d : Dev) (b : Nat) (v : Batten) : Dev := modNand d (fun n => { n with bats := n.bats.put (fun _ => {}) b v })
def modBat (d : Dev) (b : Nat) (f : Batten → Batten) : Dev := setBat d b (f (batOf d b))

/-- Member LUN and block at a position (R265, R267). [log entry 59 DEDUCED] -/
def memberAt (d : Dev) (b pos : Nat) : Nat × Nat :=
  let n := d.med.nand
  match (batOf d b).repl.get? pos with
  | some m => m
  | none => (groupLun n (batPlace n b).1 pos, nthGood n (groupLun n (batPlace n b).1 pos) (batPlace n b).2)

def memberLun (d : Dev) (b pos : Nat) : Nat := (memberAt d b pos).1

/-- Member LUNs of a batten. [log entry 59 DEDUCED] -/
def memberLuns (d : Dev) (b : Nat) : List Nat := (List.range d.med.nand.w).map (memberLun d b)

/-- Every member of a batten can be programmed. -/
def batUsable (d : Dev) (b : Nat) : Bool := (memberLuns d b).all (lunHealthy d)

/-- Battens with a listed record, with a state test. -/
def batsWhere (d : Dev) (p : Nat → Batten → Bool) : List Nat :=
  (d.med.nand.bats.filter (fun e => p e.1 e.2)).map Prod.fst

def isDissolved (v : Batten) : Bool := v.st == .dissolved

/-- Battens in service, and the free count: FREE and WINDOW (R279, R289). -/
def batsInService (d : Dev) : Nat := batTotal d.med.nand - (batsWhere d (fun _ v => isDissolved v)).length
def freeBattens (d : Dev) : Nat :=
  batTotal d.med.nand - (batsWhere d (fun _ v => !(v.st == .free) && !(v.st == .window))).length

/-! Erase counts (R283, R284): a batten that is not listed has the common count. -/

/-- Erase count of a member of a batten: that of the batten, but for a replacement, which keeps its own. -/
def memberWear (n : Nand) (v : Batten) (pos : Nat) : Nat := ((n.ec0 : Int) + v.ec + v.adj.getD pos 0).toNat

/-- Erase count of a batten: that of its most-erased member. -/
def batWear (n : Nand) (v : Batten) : Nat := ((List.range n.w).map (memberWear n v)).foldl max 0

/-- Counts of the listed battens in service. -/
def wearListed (n : Nand) : List Nat := (n.bats.filter (fun e => !isDissolved e.2)).map (fun e => batWear n e.2)

/-- Battens in service that are not listed. -/
def wearPlain (d : Dev) : Nat := batsInService d - (wearListed d.med.nand).length
def wearMax (d : Dev) : Nat := (wearListed d.med.nand).foldl max (if wearPlain d == 0 then 0 else d.med.nand.ec0)
def wearMin (d : Dev) : Nat :=
  let l := wearListed d.med.nand
  l.foldl min (if wearPlain d == 0 then l.headD 0 else d.med.nand.ec0)
def wearAvg (d : Dev) : Nat :=
  if batsInService d == 0 then 0 else ((wearListed d.med.nand).foldl (· + ·) 0 + wearPlain d * d.med.nand.ec0) / batsInService d

/-- EOL is raised once, when the highest count reaches PCT per cent of the endurance. [log entry 103 DEDUCED] -/
def wearEol (d : Dev) : Dev :=
  if !d.med.eolDone && !(rd d F.WEAR_ENDUR_COUNT == 0) && 100 * wearMax d ≥ rd d F.WEAR_EOL_PCT * rd d F.WEAR_ENDUR_COUNT then
    raise { d with med := { d.med with eolDone := true } } 0x23 8
  else d

/-- Lowest batten of a group that is not listed: FREE with erase count 0. The fuel is the number of listed battens. -/
def unlistedIn (n : Nand) (g : Nat) : Nat → Nat → Option Nat
  | 0, _ => none
  | fuel + 1, k =>
    let b := batId n g k
    if k ≥ groupCount n g then none
    else if (n.bats.get? b).isNone then some b else unlistedIn n g fuel (k + 1)

/-- The free batten of a group with the lowest erase count, ties to the lower id (R272). -/
def pickFree (d : Dev) (g : Nat) : Option Nat :=
  let n := d.med.nand
  let listed := batsWhere d (fun b v => v.st == .free && (batPlace n b).1 == g && batUsable d b)
  let cands := (match unlistedIn n g (n.bats.length + 1) 0 with
    | some b => if batUsable d b then nins b listed else listed
    | none => listed)
  cands.foldl (fun acc b => match acc with
    | none => some b
    | some a => if batWear n (batOf d b) < batWear n (batOf d a) then some b else some a) none

/-! ### The allocation window (R253, R272) -/

/-- The window is a list of battens; JNL_STAT.WIN counts them. -/
def putWindow (d : Dev) (l : List Nat) : Dev := wr { d with med := { d.med with window := l } } F.JNL_STAT_WIN l.length

/-- Open the next usable batten of the window for a writer (R272). -/
def openBatten (d : Dev) (w : Writer) : Option (Dev × Nat) :=
  match d.med.window.find? (fun b => (batOf d b).st == .window && batUsable d b) with
  | none => none
  | some b =>
    let d1 := modBat d b (fun v => { v with st := .opened, role := w, wptr := 0, failed := [], passed := [], wseq := [], sealed := false,
                                            vcls := 0, vcause := 0, heldBy := [], failing := [], idleAt := none })
    some (putWindow d1 (d1.med.window.filter (fun x => !(x == b))), b)

/-! ### The system battens (R268 to R270) -/

/-- Codewords a system batten holds in SLC mode. -/
def sysCw (d : Dev) : Nat := (batW d - 1) * (4 * rd d F.MEDIA_GEOM0_Q * rd d F.MEDIA_GEOM1_NUSLC)

/-- LENGTH of a system record with a body of `n` bytes (R269). -/
def sysLen (n : Nat) : Nat := ceilDiv (28 + n) 8 * 8

/-- A record's TYPE and KEY as one number (R269). -/
def recKey (typ key : Nat) : Nat := 2 ^ 32 * typ + key

/-- Records of the newest copy of every key: media, volumes, battens, retirements, journal root, progress, patrol cursor. -/
def sysKeys (n : Nand) : Nat := 3 + n.vols.length + batTotal n + n.lunRec.length + (n.prog.toList ++ n.mig.toList).length

/-- Pages they take when they are written one after another. [log entry 121 DESIGN CHOICE] -/
def sysPages (n : Nand) : Nat :=
  ceilDiv (sysLen 28 + sysLen 8 + sysLen 8 + sysLen 16 * (n.prog.toList ++ n.mig.toList).length
    + (n.vols.map (fun e => sysLen (11 + 16 * e.2.gens.length))).foldl (· + ·) 0 + sysLen (8 + 4 * n.w) * batTotal n
    + (n.lunRec.map (fun e => sysLen (1 + 3 * e.2.retired.length))).foldl (· + ·) 0) 16384

/-- Keys of the newest records, in the order a fresh pair takes them, but for the battens' own, which come last, by id. [log entry 121 DESIGN CHOICE] -/
def recOrder (n : Nand) : List Nat :=
  [recKey 1 0, recKey 6 0, recKey 8 0] ++ n.prog.toList.map (fun p => recKey 7 p.op) ++ n.mig.toList.map (fun _ => recKey 7 4)
    ++ n.vols.map (fun e => recKey 2 e.1) ++ n.lunRec.map (fun e => recKey 5 e.1)

/-- System generation of the record that governs a key: the newest one (R269). -/
def recGen (n : Nand) (key : Nat) : Nat :=
  match n.recs.get? key with
  | some g => g
  | none => n.recBase + (if key / 2 ^ 32 == 3 then (recOrder n).length + key % 2 ^ 32 else ((recOrder n).idxOf? key).getD 0)

/-- Anchor LUN of a bank of 16 channels, and the banks that have one (R268). -/
def anchorLun? (n : Nand) (bank : Nat) : Option Nat := n.luns.find? (fun l => l / 1024 == bank)
def anchorBanks (d : Dev) : List Nat := (List.range 4).filter (fun k => match anchorLun? d.med.nand k with
  | some l => lunHealthy d l
  | none => false)

/-- The anchor of a bank is erased: the wear of its block is counted. -/
def anchorErase (d : Dev) (bank : Nat) : Dev :=
  let n := d.med.nand
  match anchorLun? n bank with
  | none => d
  | some l =>
    let r := lunRecOf d l
    let blk := anchorBlock n l
    setLunRec (modNand d (fun n => { n with anchors := n.anchors.erase bank })) l { r with wear := r.wear.set blk (r.wear.getD blk 0 + 1) }

/-- The next anchor record names the pair in use: on the anchor written last while it has a page, else on another one, after which the full
one is erased (R268). A single anchor is erased first. [log entry 121 DESIGN CHOICE] -/
def anchorPut (d : Dev) : Dev :=
  let n := d.med.nand
  let g := n.anchorGen + 1
  let put := fun (d : Dev) (k : Nat) => add64 (modNand d (fun n => { n with
    anchorGen := g, anchorAt := k, anchors := n.anchors.put (fun _ => []) k (n.anchors.getD k [] ++ [(g, n.sysPair.1, n.sysPair.2)]) })) F.MAP_WSEQ 1
  let full := fun (k : Nat) => (n.anchors.getD k []).length ≥ slcPages d
  let ks := anchorBanks d
  if ks.contains n.anchorAt && !full n.anchorAt then put d n.anchorAt
  else match ks.find? (fun k => !(k == n.anchorAt) && !full k) with
    | some k => if full n.anchorAt then anchorErase (put d k) n.anchorAt else put d k
    | none => match ks.head? with
      | some k => put (anchorErase d k) k
      | none => put d n.anchorAt

/-- The anchor record that VERIFY uses: of those that pass their check, the one with the highest generation; `bad` are bank and page of
those that do not (R268). -/
def anchorUsed (n : Nand) (bad : List (Nat × Nat)) : Option (Nat × Nat × Nat) :=
  (n.anchors.flatMap (fun e => (e.2.zipIdx.filter (fun r => !bad.contains (e.1, r.2))).map Prod.fst)).foldl (fun acc r => match acc with
    | none => some r
    | some a => if r.1 > a.1 then some r else some a) none

/-- A fresh pair of system battens, opened from the window, takes the newest record of each key, a new anchor record names it, the old pair
is released for erase (R268, R269, R272, R274). With no two battens in the window it waits. -/
def sysRoll (d : Dev) : Dev :=
  match openBatten d .system with
  | none => { d with med := { d.med with sysWait := true } }
  | some (d1, a) =>
    match openBatten d1 .system with
    | none => { d with med := { d.med with sysWait := true } }
    | some (d2, b) =>
      let old := d.med.nand.sysPair
      let n := sysPages d.med.nand
      let d3 := [a, b].foldl (fun d x => modBat d x (fun v => { v with wptr := min (sysCw d) (4 * n) })) d2
      let d4 := add64 (modNand d3 (fun x => { x with sysPair := (a, b), recBase := x.sysGen + 1, recs := [], sysGen := x.sysGen + sysKeys x })) F.MAP_WSEQ (2 * n)
      let d5 := [old.1, old.2].foldl (fun d x => modBat d x (fun v => { v with st := .reclaimed, role := .bulk, vcls := 0, vcause := 0, sealed := false })) (anchorPut d4)
      { d5 with med := { d5.med with sysWait := false } }

/-- System records, by key, are written to both system battens, each in a page of its own, under the next generations (R243, R269).
[log entry 121 DESIGN CHOICE] -/
def sysPut (d : Dev) (l : List Nat) : Dev :=
  let p := d.med.nand.sysPair
  let n := l.length
  let d1 := add64 (modNand d (fun x => { x with
    sysGen := x.sysGen + n
    recs := l.zipIdx.foldl (fun (m : SMap Nat) e => SMap.set m e.1 (x.sysGen + 1 + e.2)) x.recs })) F.MAP_WSEQ (2 * n)
  let full := (batOf d p.1).wptr + 4 * n > sysCw d
  if !d.med.nand.formatted || sysCw d == 0 then d1
  else if full then sysRoll d1
  else [p.1, p.2].foldl (fun d x => modBat d x (fun v => { v with wptr := v.wptr + 4 * n })) d1

/-! ### Volumes (R293) -/

/-- Entry of the volume table that defines a volume. -/
def volEntry? (d : Dev) (v : Nat) : Option Nat :=
  (List.range 64).find? (fun n => rdB d (F.VOL_ID_EN n) && rd d (F.VOL_ID_VOL n) == v)

/-- Capacity of an entry in blocks. -/
def entryBlocks (d : Dev) (n : Nat) : Nat := rd d (F.VOL_CAP_LO_BLK n) + 2 ^ 32 * rd d (F.VOL_CAP_HI_BLK n)

def volBlocks (d : Dev) (v : Nat) : Nat := ((volEntry? d v).map (entryBlocks d)).getD 0

/-- Σ C_u in courses. -/
def sumCourses (d : Dev) : Nat :=
  (((List.range 64).filter (fun n => rdB d (F.VOL_ID_EN n))).map (fun n => entryBlocks d n / 256)).foldl (· + ·) 0

/-! ### The map and capacity (R236 to R241, R276) -/

/-- Key of a course in the map. -/
def courseKey (vol course : Nat) : Nat := 2 ^ 32 * vol + course

def mapEnt (m : MapSt) (k : Nat) : MapEnt := m.map.read (fun _ => .un) k
def fineOf (m : MapSt) (k : Nat) : SMap FineEnt := m.fine.read (fun _ => []) k
def fineEnt (m : MapSt) (k i : Nat) : FineEnt := (fineOf m k).read (fun _ => .un) i

/-- The fine map has size 0 (R219). -/
def fineAbsent (d : Dev) : Bool := rd d (F.BUF_SIZE 1) == 0

/-- MAP_FTOT (R239). -/
def fineTotal (d : Dev) : Nat := min (rd d (F.BUF_SIZE 1) * 32768) (2 ^ 21)

/-- Fine blocks in use. -/
def fineUsed (d : Dev) : Nat := d.med.m.fine.length

def mapPlim (d : Dev) : Nat := sumCourses d * rd d F.MAP_PATCH_LIM / 1000

/-- Blocks of patch data in patch battens (R241). -/
def patchBlocks (d : Dev) : Nat :=
  ((d.med.nand.flash.filter (fun e => (batOf d (e.1 / 2 ^ 21)).role == .patch)).map (fun e => e.2.tag.n)).foldl (· + ·) 0

/-- Mapped blocks of one entry. -/
def entBlocks (m : MapSt) (e : Nat × MapEnt) : Nat :=
  match e.2 with
  | .un => 0
  | .fine _ => (fineOf m e.1).length
  | _ => 256

/-- Mapped blocks: course, fine and RING entries alike (R276). -/
def mappedBlocks (d : Dev) : Nat := (d.med.m.map.map (entBlocks d.med.m)).foldl (· + ·) 0

/-- v in MiB, rounded up. -/
def validMiB (d : Dev) : Nat := ceilDiv (mappedBlocks d) 256

/-- c_use in MiB (R276). -/
def cUse (d : Dev) : Nat :=
  let sys := (batsWhere d (fun _ v => v.role == .system && !isDissolved v)).length
  (batsInService d - sys) * batCw d * (1000 - rd d F.GC_OP_OP) / 256000 - mapPlim d - 1024

def freeMiB (d : Dev) : Nat := cUse d - validMiB d

/-- Unmapped blocks of a range (check 11). -/
def unmappedIn (d : Dev) (vol lba len : Nat) : Nat :=
  if len == 0 then 0
  else ((List.range ((lba + len - 1) / 256 - lba / 256 + 1)).map (fun i =>
    let c := lba / 256 + i
    let lo := max lba (c * 256)
    let hi := min (lba + len) (c * 256 + 256)
    match mapEnt d.med.m (courseKey vol c) with
    | .un => hi - lo
    | .fine _ => (hi - lo) - ((fineOf d.med.m (courseKey vol c)).filter (fun e => lo % 256 ≤ e.1 && e.1 < lo % 256 + (hi - lo))).length
    | _ => 0)).foldl (· + ·) 0

/-- Floor in battens, and the critical count (R279). -/
def gcFloor (d : Dev) : Nat :=
  if rdB d F.GC_FLOOR_MODE || batCw d == 0 then rd d F.GC_FLOOR_MIN
  else max (rd d F.GC_FLOOR_MIN) (ceilDiv (rd d F.ADM_TSUM_TSUM * 256) (batCw d))
def gcCrit (d : Dev) : Nat := 2 * d.med.window.length + 8

/-! ### Journal terms (R253, R257) -/

/-- R_w in bytes per second, and P_w in pages. -/
def rWrite (d : Dev) : Nat :=
  let w := batW d
  min (if w ≤ 1 then 0 else 200000000000 * w / (w - 1)) (nLunHealthy d * rd d F.MEDIA_RPROG_MBS * 1000000)
def pWindow (d : Dev) : Nat := ceilDiv (rWrite d * (rd d F.JNL_TJ_TJ + 5)) (1000 * 16384)

/-- Battens the window lists: enough for P_w pages. -/
def windowSize (d : Dev) : Nat := max 1 (if batW d * nUnits d * unitPages d == 0 then 1 else ceilDiv (pWindow d) (batW d * nUnits d * unitPages d))

/-- Transfer rate of a rate code in MT/s (R301). -/
def rateMT (code : Nat) : Nat := 400 * code + 400

/-- Recompute JNL_TREPLAY and JNL_TSCAN (R257). -/
def journalBounds (d : Dev) : Dev :=
  let n := nLunHealthy d
  let chs := (List.range 64).filter (fun c => chnState d c == chSERVE)
  let rjr := min 100000000000 (n * 50000000)
  let rch := (chs.map (fun c => rateMT (rd d (F.CHN_STAT_RATE c)) * 1000000)).foldl (· + ·) 0
  let bytes := 8 * sumCourses d + rd d (F.BUF_SIZE 1) * 0x4000000 + 268435456
  let p := pWindow d
  let d1 := if rjr == 0 then d else wr d F.JNL_TREPLAY_US (5000 + ceilDiv (bytes * 1000000) rjr)
  if n == 0 || rch == 0 then d1
  else wr d1 F.JNL_TSCAN_US (2000 + (ceilDiv (ceilDiv p n) 4 + 1) * rd d F.MEDIA_TR_US + ceilDiv (p * 4608 * 1000000) rch)

end Sys2Proof.Machine
end

