-- ==== Sys2Proof/Machine/Format.lean ====
section
/-!
DEFINITION. Layouts on the media and in the map regions: map and fine entries and their places, page tags, journal chunks, system
records, anchors, codewords and their scrambling (R236 to R239, R248 to R253, R268 to R270, R309, R310, R316).
-/
namespace Sys2Proof.Machine

/-! ### Bytes and CRC-32C (R98) -/

/-- A number as `n` little-endian bytes. -/
def leBytes (n v : Nat) : List Nat := (List.range n).map (fun i => bitsOf v (8 * i) 8)

/-- One byte of CRC-32C, reflected. -/
def crc32cByte (acc b : Nat) : Nat :=
  foldUpto 8 (fun _ a => if a % 2 == 1 then (a / 2) ^^^ 0x82F63B78 else a / 2) (acc ^^^ (b % 256))

/-- CRC-32C of bytes from an accumulator (initial value 0xFFFFFFFF, final XOR 0xFFFFFFFF outside). -/
def crc32cFrom (acc : Nat) (l : List Nat) : Nat := l.foldl crc32cByte acc
def crc32c (l : List Nat) : Nat := crc32cFrom 0xFFFFFFFF l ^^^ 0xFFFFFFFF

/-! ### Map and fine entries (R236, R237, R239) -/

/-- A course entry as its 64-bit word. -/
def entWord : MapEnt → Nat
  | .un => 0
  | .course b o k bs mv => 2 ^ 62 + 2 ^ 61 * b2n bs + 2 ^ 60 * b2n mv + 2 ^ 45 * (k % 256) + 2 ^ 24 * (o % 2 ^ 21) + b % 2 ^ 24
  | .fine i => 2 * 2 ^ 62 + i % 2 ^ 21
  | .ring s k => 3 * 2 ^ 62 + 2 ^ 45 * (k % 256) + s % 2 ^ 32

/-- A fine entry as its 64-bit word. -/
def fineWord : FineEnt → Nat
  | .un => 0
  | .loc pt b o i k bs => (if pt then 1 else 2) * 2 ^ 62 + 2 ^ 61 * b2n bs + 2 ^ 53 * (i % 256) + 2 ^ 45 * (k % 256) + 2 ^ 24 * (o % 2 ^ 21) + b % 2 ^ 24
  | .ring s i k => 3 * 2 ^ 62 + 2 ^ 53 * (i % 256) + 2 ^ 45 * (k % 256) + s % 2 ^ 32

/-- Courses of the volumes with a lower number: Σ C_u. -/
def coursesBelow (d : Dev) (v : Nat) : Nat :=
  (((List.range 64).filter (fun n => rdB d (F.VOL_ID_EN n) && rd d (F.VOL_ID_VOL n) < v)).map (fun n => entryBlocks d n / 256)).foldl (· + ·) 0

/-- Number of a course's entry in the map region, and its offset in the region (R236). -/
def entIndex (d : Dev) (key : Nat) : Nat := coursesBelow d (key / 2 ^ 32) + key % 2 ^ 32
def entOffset (d : Dev) (key : Nat) : Nat := 8 * entIndex d key

/-- Offset in the fine-map region of fine entry `b` of fine block `idx` (R239). -/
def fineOffset (idx b : Nat) : Nat := 2048 * idx + 8 * b

/-- Every course of the volume table has its entry inside the map region of a size in bytes. -/
def mapHolds (d : Dev) (bytes : Nat) : Bool := 8 * sumCourses d ≤ bytes

/-! ### Page tags (R247 to R249) -/

/-- Types of a codeword's tag. -/
inductive TagType where
  | data | patch | journal | eave | pad | system
  deriving DecidableEq, Repr

def TagType.code : TagType → Nat
  | .data => 1 | .patch => 2 | .journal => 3 | .eave => 4 | .pad => 5 | .system => 6

/-- The 64-byte tag of one codeword (R248). -/
structure PageTag where
  typ : TagType
  patchx : Bool := false
  reloc : Bool := false
  blkSeal : Bool := false
  vol : Nat := 0
  blk : Nat := 0
  kgen : Nat := 0
  course : Nat := 0
  seq : Nat := 0
  wseq : Nat := 0
  /-- batten id and member position, 0xFFFF_FFFF on EAVE and SYSTEM codewords -/
  batten : Nat := 0
  txid : Nat := 0
  txord : Nat := 0
  txnp : Nat := 0
  pblkm1 : Nat := 0
  eidx : Nat := 0
  nonce : Nat := 0
  gtag : Nat := 0
  deriving DecidableEq, Repr

/-- Bytes 0x00 to 0x3B of a tag. -/
def tagBody (t : PageTag) : List Nat :=
  leBytes 1 (t.typ.code + 16 * b2n t.patchx + 32 * b2n t.reloc + 64 * b2n t.blkSeal) ++ leBytes 1 t.vol ++ leBytes 1 t.blk ++ leBytes 1 t.kgen
    ++ leBytes 4 t.course ++ leBytes 8 t.seq ++ leBytes 8 t.wseq ++ leBytes 4 t.batten ++ leBytes 4 t.txid
    ++ leBytes 4 (t.txord % 2 ^ 24 + 2 ^ 24 * (t.txnp % 4)) ++ leBytes 1 t.pblkm1 ++ leBytes 1 t.eidx ++ leBytes 6 t.nonce ++ leBytes 16 t.gtag

/-- The tag's 64 bytes. -/
def tagBytes (t : PageTag) : List Nat := tagBody t ++ leBytes 4 (crc32c (tagBody t))

/-- A tag counts as present: 64 bytes, a valid TYPE, a CRC that passes (R249). -/
def tagValid (l : List Nat) : Bool :=
  l.length == 64 && 1 ≤ l.getD 0 0 % 16 && l.getD 0 0 % 16 ≤ 6 && l.drop 60 == leBytes 4 (crc32c (l.take 60))

/-- Pages of an extent, and blocks on its page `j`. -/
def extPages (t : ExtTag) : Nat := ceilDiv t.n 4
def pageBlks (t : ExtTag) (j : Nat) : Nat := min 4 (t.n - 4 * j)

/-- SEQ of block `i` of an extent: each block sealed on its own has its own (R243, R247); the highest SEQ of the extent. -/
def blkSeq (t : ExtTag) (i : Nat) : Nat := if t.blkSeal then t.seq + i else t.seq
def lastSeq (t : ExtTag) : Nat := blkSeq t (t.n - 1)

/-- TXORD of page `j` of an extent (R246, R247). -/
def pageOrd (t : ExtTag) (j : Nat) : Nat := if t.txnp == 3 then t.txord + 4 * j else t.txord

/-- WSEQ of the page that holds a codeword offset: pages of a unit take theirs in order (R243, R265). -/
def pageWseq (d : Dev) (b off : Nat) : Nat :=
  (batOf d b).wseq.getD (64 * offStripe d off + offPos d off) 0 + off % cuOf d / 4

/-- Field BATTEN of a codeword of a batten. -/
def tagPlace (d : Dev) (b off : Nat) : Nat := b % 2 ^ 24 + 2 ^ 24 * offPos d off

/-- A number as `n` bytes, the most significant first. -/
def beBytes (n v : Nat) : List Nat := (leBytes n v).reverse

/-- Nonce of an invocation: the salt, then the invocation counter (R335). -/
def gcmNonce (salt ctr : Nat) : List Nat := beBytes 4 salt ++ beBytes 8 ctr

/-- Additional data of an invocation: what binds it to its place (R335). -/
def gcmAad (vol blk kgen pblkm1 course : Nat) : List Nat := [vol, blk, kgen, pblkm1] ++ beBytes 4 course

/-- The authentication tag of block `i`'s invocation: in RECOVER each block is an extent of its own (R247, R335). [log entry 9 DESIGN CHOICE] -/
def extGcm (t : ExtTag) (i : Nat) : Nat :=
  if t.blkSeal then Config.gcmTag t.key (gcmNonce t.salt (t.ctr + i)) (gcmAad t.vol (t.blk + i) t.kgen 0 t.course)
  else Config.gcmTag t.key (gcmNonce t.salt t.ctr) (gcmAad t.vol t.blk t.kgen (t.n - 1) t.course)

/-- Tag of codeword `i` of an extent (R248, R249); `typ` DATA, PATCH or EAVE. [log entry 9 DESIGN CHOICE] -/
def extTag (typ : TagType) (t : ExtTag) (i place wseq : Nat) : PageTag :=
  { typ := typ, patchx := typ == .eave && t.patch, reloc := t.reloc, blkSeal := t.blkSeal, vol := t.vol, blk := t.blk + i, kgen := t.kgen,
    course := t.course, seq := blkSeq t i, wseq := wseq, batten := place, txid := t.txid, txord := pageOrd t (i / 4), txnp := t.txnp,
    pblkm1 := t.n - 1, eidx := i, nonce := if t.blkSeal then t.ctr + i else t.ctr
    gtag := extGcm t i }

/-- Tag of a pad codeword, of a journal codeword, and of a system codeword (R249). -/
def padTag (place wseq : Nat) : PageTag := { typ := .pad, wseq := wseq, batten := place }
def journalTag (chunk place wseq : Nat) : PageTag := { typ := .journal, seq := chunk, wseq := wseq, batten := place }
def systemTag (wseq : Nat) : PageTag := { typ := .system, wseq := wseq, batten := 0xFFFFFFFF }

/-- Codewords an extent takes: whole pages (R238). -/
def extCw (n : Nat) : Nat := ceilDiv n 4 * 4

/-- The extent that has a codeword offset of a batten among its pages, with its offset: on flash, else in the ring or among the copies. -/
def extOver? (d : Dev) (b off : Nat) : Option (Nat × Extent) :=
  let covers := fun (o n : Nat) => o ≤ off && off < o + extCw n
  match d.med.nand.flash.find? (fun e => e.1 / 2 ^ 21 == b && covers (e.1 % 2 ^ 21) e.2.tag.n) with
  | some e => some (e.1 % 2 ^ 21, e.2)
  | none => match d.med.ring.find? (fun e => e.2.batten == b && covers e.2.off e.2.ext.tag.n) with
    | some e => some (e.2.off, e.2.ext)
    | none => (d.med.reloc.find? (fun e => e.2.batten == b && covers e.2.off e.2.ext.tag.n)).map (fun e => (e.2.off, e.2.ext))

/-- The tag of a data codeword of a user batten, of a codeword its extent does not fill, or of a page that no extent has (R238, R248, R249). -/
def tagAt (d : Dev) (b off : Nat) : PageTag :=
  match (d.med.nand.chunks ++ d.med.chunkNow.toList).find? (fun c => c.parts.any (fun p => p.1 == b && p.2.1 ≤ off && off < p.2.1 + p.2.2)) with
  | some c => journalTag c.num (tagPlace d b off) (pageWseq d b off)
  | none => match extOver? d b off with
    | none => padTag (tagPlace d b off) (pageWseq d b off)
    | some (o, e) =>
      if off - o < e.tag.n then extTag (if e.tag.patch then .patch else .data) e.tag (off - o) (tagPlace d b off) (pageWseq d b off)
      else padTag (tagPlace d b off) (pageWseq d b off)

/-! ### Codewords (R309, R310, R316) -/


/-- The ridge payload: the XOR of payloads, before scrambling (R310, R316). -/
def xorBytes (a b : List Nat) : List Nat := (List.range (max a.length b.length)).map (fun i => a.getD i 0 ^^^ b.getD i 0)
def ridgePayload (l : List (List Nat)) : List Nat := l.foldl xorBytes (List.replicate 4160 0)

/-- Seed of the scrambler (R310). -/
def scrambleSeed (lun plane block page k : Nat) : Nat :=
  let s := crc32c (leBytes 2 lun ++ leBytes 1 plane ++ leBytes 2 block ++ leBytes 2 page ++ leBytes 1 k)
  if s == 0 then 1 else s

/-- One step of the Galois LFSR with polynomial 0x8040_0007. [log entry 120 DESIGN CHOICE] -/
def lfsrStep (s : Nat) : Nat := if s % 2 == 1 then (s / 2) ^^^ 0x80400007 else s / 2

/-- Next byte of the sequence, its first bit the lowest, and the state after it. [log entry 120 DESIGN CHOICE] -/
def lfsrByte (s : Nat) : Nat × Nat :=
  foldUpto 8 (fun i (a : Nat × Nat) => (a.1 + 2 ^ i * (a.2 % 2), lfsrStep a.2)) (0, s)

/-- XOR a payload with the sequence from a seed; doing it twice gives the payload back. -/
def scramble : Nat → List Nat → List Nat
  | _, [] => []
  | s, x :: l => (x ^^^ (lfsrByte s).1) :: scramble (lfsrByte s).2 l


/-- A codeword is reported as erased: at most 64 zeros among its raw bits (R310). -/
def rawErased (zeros : Nat) : Bool := zeros ≤ 64

/-! ### Journal chunks (R251 to R253) -/

/-- Segments of the map, and of the map and the fine map together: S (R253). -/
def mapSegs (d : Dev) : Nat := ceilDiv (sumCourses d) 131072
def segCount (d : Dev) : Nat := mapSegs d + ceilDiv (fineTotal d) 512

/-- ENTRY of a delta record. -/
def deltaEntry (x : Delta) : Nat :=
  if x.kind == 2 then 0
  else if x.fineE then fineWord (.loc x.patch x.batten x.off x.idx x.kgen x.blkSeal)
  else entWord (.course x.batten x.off x.kgen x.blkSeal false)

/-- The 32 bytes of a delta record (R252). -/
def deltaBytes (x : Delta) : List Nat :=
  leBytes 1 x.kind ++ leBytes 1 x.vol ++ leBytes 2 x.count ++ leBytes 4 x.course ++ leBytes 8 x.seq ++ leBytes 8 (deltaEntry x)
    ++ leBytes 1 x.blk ++ leBytes 3 0 ++ leBytes 4 x.txid

/-- A copy of segment `i` of a map (R253). -/
def segmentOf (d : Dev) (m : MapSt) (i : Nat) : Segment :=
  if i < mapSegs d then { idx := i, ents := m.map.filter (fun e => entIndex d e.1 / 131072 == i) }
  else { idx := i, fine := m.map.foldl (fun (f : SMap (Nat × SMap FineEnt)) e => match e.2 with
      | .fine k => if k / 512 == i - mapSegs d then SMap.set f k (e.1, fineOf m e.1) else f
      | _ => f) [] }

/-- The bytes of a segment copy: entries in the order of their places, zeros where nothing is mapped. -/
def segBytes (d : Dev) (s : Segment) : List Nat :=
  let words : SMap Nat :=
    if s.idx < mapSegs d then s.ents.foldl (fun m e => SMap.set m (entIndex d e.1 % 131072) (entWord e.2)) []
    else s.fine.foldl (fun m e => e.2.2.foldl (fun m f => SMap.set m (256 * (e.1 % 512) + f.1) (fineWord f.2)) m) []
  (List.range 131072).flatMap (fun i => leBytes 8 (words.getD i 0))

/-- LENGTH of a chunk. -/
def chunkLen (c : Chunk) : Nat := 64 + 32 * c.deltas.length + 0x100000 * c.segs.length + 8 * c.wins.length

/-- A chunk's bytes with a CRC field (R251). -/
def chunkBytes (d : Dev) (c : Chunk) (crc : Nat) : List Nat :=
  leBytes 4 0x4C4E4A51 ++ leBytes 2 c.fver ++ leBytes 2 (b2n c.early + 2 * b2n c.clean) ++ leBytes 8 c.num ++ leBytes 8 c.cmark ++ leBytes 8 c.wseq0
    ++ leBytes 4 c.deltas.length ++ leBytes 4 c.segs.length ++ leBytes 4 c.wins.length ++ leBytes 4 (chunkLen c) ++ leBytes 8 c.time
    ++ leBytes 4 c.next ++ leBytes 4 crc
    ++ c.deltas.flatMap deltaBytes ++ c.segs.flatMap (segBytes d)
    ++ c.wins.flatMap (fun w => leBytes 8 (w.1 % 2 ^ 24 + 2 ^ 24 * (w.2 % 2 ^ 24)))

/-- CRC of a chunk: over all of it with the field taken as 0. -/
def chunkCrc (d : Dev) (c : Chunk) : Nat := crc32c (chunkBytes d c 0)

/-! ### System records and anchors (R268 to R270) -/

/-- A system record: header, body, CRC. -/
def sysRecord (typ gen key : Nat) (body : List Nat) : List Nat :=
  let len := ceilDiv (28 + body.length) 8 * 8
  let b := leBytes 4 0x52534B51 ++ leBytes 1 typ ++ [0] ++ leBytes 2 len ++ leBytes 8 gen ++ leBytes 4 key ++ leBytes 4 0
    ++ body ++ List.replicate (len - 28 - body.length) 0
  b ++ leBytes 4 (crc32c (b ++ leBytes 4 0))

/-- An anchor record: magic, generation, the two system battens, CRC-32C. [log entry 121 DESIGN CHOICE] -/
def anchorRecord (n : Nand) : List Nat :=
  let b := leBytes 4 0x4E414B51 ++ leBytes 8 n.anchorGen ++ leBytes 4 n.sysPair.1 ++ leBytes 4 n.sysPair.2
  b ++ leBytes 4 (crc32c b)

/-- Body of the media record. The widths of G and of the batten id limit are not stated. [log entry 121 DESIGN CHOICE] -/
def mediaBody (n : Nand) : List Nat :=
  leBytes 2 n.fver ++ leBytes 4 n.gen ++ n.geom.flatMap (fun w => leBytes 4 w.toNat) ++ leBytes 2 n.nlun ++ leBytes 1 n.w ++ leBytes 1 n.sparePct
    ++ leBytes 2 (groupsOf n) ++ leBytes 4 (batTotal n)

/-- Body of a volume record (R270). -/
def volBody (v : Nat) (r : VolRec) : List Nat :=
  leBytes 1 v ++ leBytes 1 r.fgen ++ leBytes 1 r.cur ++ leBytes 8 r.cap
    ++ r.gens.flatMap (fun g => leBytes 1 g.kgen ++ leBytes 1 g.st ++ leBytes 6 0 ++ leBytes 8 g.mark)

/-- A member of a batten record, an entry of an erase batch (R270). -/
def memberWord (m : Nat × Nat) : Nat := m.1 % 2 ^ 12 + 2 ^ 12 * (m.2 % 2 ^ 16)
def eraseBody (l : List (Nat × Nat)) : List Nat := l.flatMap (fun e => leBytes 8 (e.1 % 2 ^ 24 + 2 ^ 24 * (e.2 % 2 ^ 32)))

/-- Role and recorded state of a batten as codes. [log entry 121 DESIGN CHOICE] -/
def roleCode : Writer → Nat
  | .stream _ => 0 | .bulk => 1 | .patch => 2 | .gc => 3 | .journal => 4 | .system => 5
def stateCode : BatSt → Nat
  | .dissolved => 2 | .free => 0 | .window => 0 | .erasing => 0 | .reclaimed => 1 | .opened => 1 | .closed => 1 | .victim => 1

/-- Bodies of a batten record, of a LUN's retirement record, of the journal root, of a progress record, of the patrol cursor: their fields in
the order of R270, in widths the rule leaves open. [log entry 121 DESIGN CHOICE] -/
def batBody (d : Dev) (b : Nat) : List Nat :=
  let v := batOf d b
  leBytes 2 (batPlace d.med.nand b).1 ++ leBytes 1 (roleCode v.role) ++ (List.range d.med.nand.w).flatMap (fun p => leBytes 4 (memberWord (memberAt d b p)))
    ++ leBytes 4 (batWear d.med.nand v) ++ leBytes 1 (stateCode v.st)
def lunBody (r : LunRec) : List Nat := leBytes 1 (b2n r.failedB) ++ r.retired.flatMap (fun e => leBytes 2 e.1 ++ leBytes 1 e.2)
def rootBody (n : Nand) : List Nat := leBytes 8 (n.root.getD 0)
def progBody (p : Progress) : List Nat :=
  leBytes 1 p.op ++ leBytes 1 p.step ++ leBytes 1 p.vol ++ leBytes 1 (b2n p.reinit) ++ leBytes 2 p.permille ++ leBytes 2 p.action ++ leBytes 8 p.ns
def cursorBody (n : Nand) : List Nat := leBytes 4 n.passNo ++ leBytes 4 n.cursor

/-- Body of the record that governs a key (R269, R270). -/
def recBody (d : Dev) (key : Nat) : List Nat :=
  let n := d.med.nand
  let k := key % 2 ^ 32
  match key / 2 ^ 32 with
  | 1 => mediaBody n
  | 2 => volBody k ((n.vols.get? k).getD {})
  | 3 => batBody d k
  | 4 => eraseBody (d.med.eraseBatch.map (fun e => (e.1, batWear n (batOf d e.1))))
  | 5 => lunBody (lunRecOf d k)
  | 6 => rootBody n
  | 7 => ((n.prog.toList ++ n.mig.toList).find? (fun p => p.op == k)).elim [] progBody
  | 8 => cursorBody n
  | _ => []

/-- The record that governs a key, as it stands in both system battens (R269). -/
def govRecord (d : Dev) (key : Nat) : List Nat := sysRecord (key / 2 ^ 32) (recGen d.med.nand key) (key % 2 ^ 32) (recBody d key)

end Sys2Proof.Machine
end

