-- ==== Sys2Proof/Machine/Keys.lean ====
section
/-!
DEFINITION. Key slots: which slot seals and opens what, reservations, counters, the high-water mark, volume records (chapter
Cipher Engine and Keys, R330 to R342).
-/
namespace Sys2Proof.Machine

/-! ### Slots (R330, R333, R354) -/

/-- KEY_STATn.STATE codes. -/
def ksEMPTY : Nat := 0
def ksLOADED : Nat := 1
def ksRETIRED : Nat := 2
def ksLOST : Nat := 3

/-- Roles. -/
def roleREST : Nat := 1
def roleSERVICE : Nat := 2
def roleKEK : Nat := 3

def keySlot (d : Dev) (n : Nat) : KeySlot := d.keys.slots.read (fun _ => {}) n
def setKeySlot (d : Dev) (n : Nat) (k : KeySlot) : Dev :=
  { d with keys := { d.keys with slots := d.keys.slots.put (fun _ => {}) n k } }

def slotLoaded (d : Dev) (n : Nat) : Bool := rd d (F.KEY_STAT_STATE n) == ksLOADED

/-- A LOADED slot of a role. [log entry 86 DEDUCED] -/
def slotIs (d : Dev) (n role : Nat) : Bool := slotLoaded d n && rd d (F.KEY_STAT_ROLE n) == role

/-- The slot holds the key of a generation of a volume. -/
def slotHolds (d : Dev) (n vol kgen : Nat) : Bool :=
  slotIs d n roleREST && rd d (F.KEY_STAT_VOL n) == vol && rd d (F.KEY_STAT_KGEN n) == kgen

/-- The LOADED at-rest slot of a generation. -/
def slotOfGen? (d : Dev) (vol kgen : Nat) : Option Nat := (List.range 64).find? (fun n => slotHolds d n vol kgen)

/-- A command that reaches check 10 may use the slot: a KEY_RETIRE taken for it excludes it (R334). -/
def slotOpen (d : Dev) (n : Nat) : Bool := (keySlot d n).retiring.isNone

/-! ### Masking generators (R327) -/

/-- The masking generator of cipher domain `c` draws a seed from the DRBG, while that is seeded. [log entry 8 DESIGN CHOICE] -/
def maskSeed (d : Dev) (c : Nat) : Dev :=
  if rdB d F.TRNG_STAT_SEEDED then
    tick { d with keys := { d.keys with requests := d.keys.requests + 1, masks := d.keys.masks.set c (Config.drbg d.free) } }
  else d

/-- A generator is lost with the power of its domain. -/
def maskLost (d : Dev) (c : Nat) : Dev := { d with keys := { d.keys with masks := d.keys.masks.erase c } }

/-- Slot a volume is bound to. -/
def volSlot (d : Dev) (vol : Nat) : Nat := ((volEntry? d vol).map (fun n => rd d (F.VOL_ID_SLOT n))).getD 0

/-- The slot leaves LOADED, or is emptied: its words take a state and its material is gone. -/
def slotClear (d : Dev) (n state : Nat) : Dev :=
  let b := 0x71040 + 16 * n
  wr (setKeySlot (setActW (setActW (setActW (setActW (tvTaken d b false) b 0) (b + 4) 0) (b + 8) 0) (b + 12) 0) n {}) (F.KEY_STAT_STATE n) state

/-- Every slot EMPTY (R330). -/
def emptyKeys (d : Dev) : Dev := foldUpto 64 (fun n d => slotClear d n ksEMPTY) d

/-- A slot becomes RETIRED or LOST with its event on page KEY: it keeps its identity fields. -/
def slotLeave (d : Dev) (n state : Nat) : Dev :=
  raise (wr (setKeySlot (tvTaken d (0x71040 + 16 * n) false) n {}) (F.KEY_STAT_STATE n) state) 0x71 (if state == ksLOST then 10 else 9)

/-! ### Volume records (R270, R341, R342) -/

def volRec? (d : Dev) (v : Nat) : Option VolRec := d.med.nand.vols.get? v

/-- The current generation of a volume. -/
def curGen (d : Dev) (v : Nat) : Nat := ((volRec? d v).map VolRec.cur).getD 0

/-- The generation after one (R341). -/
def nextGen (g : Nat) : Nat := if g ≥ 255 then 1 else g + 1

/-- Key generation of a map entry, with 1 for a whole course that one extent holds. -/
def entGen : MapEnt → Option Nat
  | .course _ _ k _ _ => some k
  | .ring _ k => some k
  | _ => none

/-- Generation and place of a fine entry. -/
def fineGen : FineEnt → Option (Nat × Nat × Nat)
  | .un => none
  | .loc _ b o _ k _ => some (k, b, o)
  | .ring s _ k => some (k, 0x1000000, s)

/-- Distinct places of a generation in a fine block. -/
def finePlaces (kgen : Nat) (f : SMap FineEnt) : List (Nat × Nat) :=
  f.foldl (fun acc e => match fineGen e.2 with
    | some (k, b, o) => if k == kgen && !acc.contains (b, o) then (b, o) :: acc else acc
    | none => acc) []

/-- MAP_GCNT: courses and patch extents of a volume sealed under a generation (R261). -/
def gcnt (d : Dev) (vol kgen : Nat) : Nat :=
  (d.med.m.map.map (fun e =>
    if !(e.1 / 2 ^ 32 == vol) then 0
    else match e.2 with
      | .fine _ => (finePlaces kgen (fineOf d.med.m e.1)).length
      | x => if entGen x == some kgen then 1 else 0)).foldl (· + ·) 0

/-- The controller is in RECOVER, until host software selects a mode (R104). -/
def inRecover (d : Dev) : Bool := rd d F.GLB_STAT_MODE == 0

/-- RECOVER still runs its stages: RECOVERED is 0. -/
def recovering (d : Dev) : Bool := inRecover d && !rdB d F.GLB_STAT_RECOVERED

/-- The end of FOLD has passed: the map is complete. [log entry 81 DEDUCED] -/
def foldEnded (d : Dev) : Bool := !(recovering d && rd d F.GLB_STAT_RSTAGE < 6)

/-- Write a volume record: entries that R342 removes leave it; an OLD one only where the map is complete. [log entry 65 DESIGN CHOICE] -/
def writeVolRec (d : Dev) (v : Nat) (r : VolRec) : Dev :=
  let gens := r.gens.filter (fun g =>
    if g.st == 2 then !foldEnded d || !(gcnt d v g.kgen == 0)
    else if g.st == 3 then (slotOfGen? d v g.kgen).isSome else true)
  sysPut (modNand d (fun n => { n with vols := n.vols.set v { r with gens := gens } })) [recKey 2 v]

/-- Set the mark of a generation entry, adding a NEXT entry when there is none. [log entry 83 DEDUCED] -/
def setMark (r : VolRec) (kgen mark : Nat) : VolRec :=
  if r.gens.any (fun g => g.kgen == kgen) then
    { r with gens := updWhere (fun g => g.kgen == kgen) (fun g => { g with mark := mark }) r.gens }
  else { r with gens := r.gens ++ [⟨kgen, if kgen == r.cur then 1 else 3, mark⟩] }

/-- Mark of a generation, 0 when the record does not hold it. -/
def markOf (r : VolRec) (kgen : Nat) : Nat := ((r.gens.find? (fun g => g.kgen == kgen)).map GenEnt.mark).getD 0

/-! ### Reservations and counters (R146, R337 to R340) -/

/-- Usage limit of a counter. [log entry 83 DEDUCED] -/
def ctrLimit : Nat := 2 ^ 48

/-- Invocations that uncompleted commands have reserved in a slot. -/
def reservedIn (d : Dev) (n : Nat) : Nat :=
  ((d.cmds.list.filter (fun c => c.kslot == n)).map Cmd.kres).foldl (· + ·) 0

/-- Whether a slot can take the reservation of `k` invocations for a volume: the failing status (R337, R339, R340). The next portion of
a write whose slot has been retired meanwhile fails here with KEY_ABSENT. [log entry 115 DESIGN CHOICE] -/
def reserveFail (d : Dev) (vol slot k : Nat) : Option Nat :=
  if !(match volRec? d vol with
      | some r => slotHolds d slot vol r.cur
      | none => slotIs d slot roleREST && rd d (F.KEY_STAT_VOL slot) == vol) || rdB d (F.KEY_STAT_FOREIGN slot) || !slotOpen d slot then some stKEYABS
  else if rdB d (F.KEY_STAT_EXH slot) then some stKEYEXH
  else
    let upto := rd64 d (F.KEY_CNT slot) + reservedIn d slot + k
    if rdB d (F.KEY_STAT_UNSAFE slot) && upto > (keySlot d slot).mark then some stNONCE
    else if upto > ctrLimit then some stKEYEXH else none

/-- Blocks of a portion of a range. -/
def portLen (lba len k : Nat) : Nat := min (lba + len) ((lba / 256 + k + 1) * 256) - (if k == 0 then lba else (lba / 256 + k) * 256)

/-- Invocations one portion takes: one, or one per block in RECOVER (R247). -/
def portionInv (d : Dev) (c : Cmd) (k : Nat) : Nat := if inRecover d then portLen (cLba c) (cLen c) k else 1

/-- Course portions of a command. -/
def cPortions (c : Cmd) : Nat := if cLen c == 0 then 0 else (cLba c + cLen c - 1) / 256 - cLba c / 256 + 1

/-- Invocations a data write reserves before it starts: all of them up to 1 MiB, else the first portion's (R146). -/
def firstInv (d : Dev) (c : Cmd) : Nat :=
  if cLen c ≤ 256 then ((List.range (cPortions c)).map (portionInv d c)).foldl (· + ·) 0 else portionInv d c 0

/-- Generations a range holds. -/
def gensIn (d : Dev) (vol lba len : Nat) : List Nat :=
  if len == 0 then []
  else (List.range ((lba + len - 1) / 256 - lba / 256 + 1)).foldl (fun acc i =>
    let c := lba / 256 + i
    let k := courseKey vol c
    match mapEnt d.med.m k with
    | .fine _ => (fineOf d.med.m k).foldl (fun acc e =>
        if lba ≤ 256 * c + e.1 && 256 * c + e.1 < lba + len then
          match fineGen e.2 with
          | some (g, _) => nins g acc
          | none => acc
        else acc) acc
    | x => match entGen x with
      | some g => nins g acc
      | none => acc) []

/-- Partial portions on mapped courses of a DISCARD with the fine map absent: they are rewritten and need the key (R259). -/
def discardSeals (d : Dev) (c : Cmd) : Nat :=
  if !fineAbsent d then 0
  else ((List.range (cPortions c)).filter (fun k =>
    !(portLen (cLba c) (cLen c) k == 256) && !(mapEnt d.med.m (courseKey (cVol c) (cLba c / 256 + k)) == .un))).length

/-- Check 10 of R144. The device is unchanged: the reservation is held in the command. -/
def keyCheck (d : Dev) (c : Cmd) : Except Nat (Dev × Nat × Nat) :=
  let v := cVol c
  if isDataWrite c then
    match reserveFail d v (volSlot d v) (firstInv d c) with
    | some st => .error st
    | none => .ok (d, volSlot d v, firstInv d c)
  else if cOpc c == opDISCARD && !(discardSeals d c == 0) then
    match reserveFail d v (volSlot d v) (discardSeals d c) with
    | some st => .error st
    | none => .ok (d, volSlot d v, discardSeals d c)
  else if isReadKind c then
    if (gensIn d v (cLba c) (cLen c)).all (fun g => match slotOfGen? d v g with
        | some n => slotOpen d n
        | none => false) then .ok (d, 0, 0) else .error stKEYABS
  else .ok (d, 0, 0)

/-- A reservation that is given back leaves with the command that holds it. -/
def keyUnreserve (d : Dev) (_slot _n : Nat) : Dev := d

/-- The slot can seal `k` invocations now: they lie below the durable mark (R338, Wait). -/
def canSeal (d : Dev) (slot k : Nat) : Bool :=
  slotIs d slot roleREST && rd64 d (F.KEY_CNT slot) + k ≤ (keySlot d slot).mark

/-- Take `k` counter values of a slot: the counters move, KNEAR and KEXH follow (R338, R340). -/
def takeCtr (d : Dev) (slot k : Nat) : Dev :=
  let c0 := rd64 d (F.KEY_CNT slot)
  let d1 := add64 (add64 d (F.KEY_CNT slot) k) F.CRY_SEALS k
  let d2 := if c0 < ctrLimit - 2 ^ 36 && ctrLimit - 2 ^ 36 ≤ c0 + k then raise d1 0x70 10 else d1
  if c0 + k ≥ ctrLimit then
    let v := rd d (F.KEY_STAT_VOL slot)
    let d3 := raise (wr d2 (F.KEY_STAT_EXH slot) 1) 0x70 11
    match volRec? d3 v with
    | some r => writeVolRec d3 v (setMark r (rd d (F.KEY_STAT_KGEN slot)) ctrLimit)
    | none => d3
  else d2

/-! ### KEY_LOAD material (R331) -/

/-- Length OP1 must give. -/
def keyMatLen (wrap k128 : Bool) : Nat :=
  16 + (if wrap then (if k128 then 24 else 40) else (if k128 then 16 else 32))

/-- Check of OP1 at check 4. -/
def keyFieldBad (c : Cmd) : Option Nat :=
  if cOp c 1 == keyMatLen (bitOf (cOp c 0) 8) (bitOf (cOp c 0) 9) then none else some 0x2C

/-- Bytes as a number, the first byte most significant. -/
def bytesBE (l : List Nat) : Nat := l.foldl (fun a b => 256 * a + b % 256) 0
/-- Bytes as a number, the first byte least significant. -/
def bytesLE (l : List Nat) : Nat := l.foldr (fun b a => b % 256 + 256 * a) 0

/-- First faulty field of the material, as its byte offset (R331). -/
def keyMatBad (d : Dev) (wrap : Bool) (m : List Nat) : Option Nat :=
  let b := fun i => m.getD i 0
  let rest := b 0 == roleREST
  let saltv := bitOf (b 8) 0
  if b 0 == 0 || b 0 > 3 then some 0
  else if (rest && (volEntry? d (b 1)).isNone) || (!rest && !(b 1 == 0)) then some 1
  else if (rest && b 2 == 0) || (!rest && !(b 2 == 0)) then some 2
  else if (wrap && b 3 > 63) || (!wrap && !(b 3 == 0)) then some 3
  else if !(rest && saltv) && !(bytesLE ((m.drop 4).take 4) == 0) then some 4
  else if b 8 > 1 || (!rest && saltv) then some 8
  else (List.range 7).findSome? (fun i => if b (9 + i) == 0 then none else some (9 + i))

end Sys2Proof.Machine
end

