-- ==== Sys2Proof/Machine/MoverOps.lean ====
section
/-!
DEFINITION. The data mover (chapter Data Mover): channels, descriptor checks, results, chains, stops and detaches.
-/
namespace Sys2Proof.Machine

/-! ### Channels (R358 to R362, R375) -/

/-- DMC_STAT.STATE codes. -/
def mvOFF : Nat := 0
def mvIDLE : Nat := 1
def mvRUN : Nat := 2
def mvWAIT : Nat := 3
def mvSTOPPED : Nat := 4
def mvDETACHED : Nat := 5

def dmcPage (ch : Nat) : Nat := 0x79 + ch / 8
def movOf (d : Dev) (ch : Nat) : MovCh := d.mover.read (fun _ => {}) ch
def setMov (d : Dev) (ch : Nat) (m : MovCh) : Dev := { d with mover := d.mover.put (fun _ => {}) ch m }

/-- Privileged channels are 28 to 31 (R358). -/
def privileged (ch : Nat) : Bool := 28 ≤ ch

/-- Ring entries: other values of LOG2 act as 4. -/
def ringLen (d : Dev) (ch : Nat) : Nat :=
  let l := rd d (F.DMC_RSIZE_LOG2 ch)
  2 ^ (if 4 ≤ l && l ≤ 12 then l else 4)

def mvState (d : Dev) (ch : Nat) : Nat := rd d (F.DMC_STAT_STATE ch)

/-- Set the state of a channel, and its bit of DMV_RUN (R374). -/
def setMvState (d : Dev) (ch st : Nat) : Dev :=
  setBit (wr d (F.DMC_STAT_STATE ch) st) F.DMV_RUN_CH ch (st == mvRUN || st == mvWAIT)

/-- Record an ignored write in DMV_REF and raise REF (R374). -/
def mvRef (d : Dev) (ch why : Nat) : Dev :=
  raise (wrs d [(F.DMV_REF_VALID, 1), (F.DMV_REF_CH, ch), (F.DMV_REF_WHY, why)]) 0x78 9

/-- Record a completion in DMV_LAST and raise LAST (R373). -/
def mvLast (d : Dev) (ch status cause : Nat) : Dev :=
  raise (wrs d [(F.DMV_LAST_VALID, 1), (F.DMV_LAST_CH, ch), (F.DMV_LAST_STATUS, status), (F.DMV_LAST_CAUSE, cause)]) 0x78 8

/-- A function is enabled: its link is up, and a VF number is within VFS. -/
def fnEnabled (d : Dev) (fn : Nat) : Bool :=
  linkUpB d (fnPort fn) (fnLink fn) && fnVf fn ≤ rd d (F.PRT_LSTAT_VFS (fnPort fn) (fnLink fn))

/-- A started channel with entries to fetch is in RUN, or in WAIT while its first descriptor waits at a barrier. -/
def mvSettle (d : Dev) (ch : Nat) : Dev :=
  let m := movOf d ch
  match m.cap with
  | c :: _ => setMvState d ch (if c.clear then mvRUN else mvWAIT)
  | [] =>
    match m.stopping with
    | some sc =>
      setMvState (wrs (setMov d ch { m with stopping := none }) [(F.DMC_STAT_SCAUSE ch, sc), (F.DMC_CTL_EN ch, 0)]) ch mvSTOPPED
    | none => setMvState d ch (if rd d (F.DMC_STAT_HEAD ch) == rd d (F.DMC_TAIL_TAIL ch) then mvIDLE else mvRUN)

/-- A write of DMC_CTL.EN 1 (R359). -/
def mvEnable (d : Dev) (ch : Nat) : Dev :=
  let a := rd d (F.DMC_FN_FNA ch)
  let bv := rdB d (F.DMC_FN_FNBV ch)
  let b := rd d (F.DMC_FN_FNB ch)
  let ok := fun fn => fnEnabled d fn && bmeOn d fn
  if !ok a || (bv && privileged ch && !ok b) then mvRef d ch 1
  else if bv && !privileged ch then mvRef d ch 5
  else if mvState d ch == mvRUN || mvState d ch == mvWAIT || mvState d ch == mvIDLE then d
  else mvSettle (wrs d [(F.DMC_CTL_EN ch, 1), (F.DMC_STAT_SCAUSE ch, 0)]) ch

/-- A stop after the running descriptor (R372): fetched descriptors not started return to the ring. -/
def mvStop (d : Dev) (ch scause : Nat) : Dev :=
  let st := mvState d ch
  if st == mvOFF || st == mvSTOPPED || st == mvDETACHED then d
  else
    let m := movOf d ch
    let back := m.cap.length - 1
    let head := (rd d (F.DMC_STAT_HEAD ch) + ringLen d ch - back) % ringLen d ch
    mvSettle (wr (setMov d ch { m with cap := m.cap.take 1, stopping := some scause }) (F.DMC_STAT_HEAD ch) head) ch

/-- A write of DMC_CTL.RESET (R372). -/
def mvReset (d : Dev) (ch : Nat) : Dev :=
  let st := mvState d ch
  if st == mvOFF || st == mvSTOPPED || st == mvDETACHED then
    wr64 (wr (setMov d ch {}) (F.DMC_STAT_HEAD ch) 0) (F.DMC_CSUM ch) 0
  else mvRef d ch 4

/-- A write of DMC_CTL: RESET, then STOP or EN. -/
def mvCtlWrite (d : Dev) (ch v : Nat) : Dev :=
  let d1 := if bitOf v 2 then mvReset d ch else d
  if bitOf v 1 || !bitOf v 0 then mvStop d1 ch 1 else mvEnable d1 ch

/-- A write of DMC_TAIL (R360, R362). -/
def mvTailWrite (d : Dev) (ch v : Nat) : Dev :=
  if v ≥ ringLen d ch then mvRef d ch 3
  else
    let d1 := wr d (F.DMC_TAIL_TAIL ch) v
    if rdB d1 (F.DMC_CTL_EN ch) && mvState d1 ch == mvIDLE then mvSettle d1 ch else d1

/-- A write of DMC_FN (R359). -/
def mvFnWrite (d : Dev) (ch : Nat) (v : Word) : Dev :=
  let st := mvState d ch
  if st == mvOFF || st == mvSTOPPED || st == mvDETACHED then setActW d (F.DMC_FN_FNA ch).off (v &&& 0x83FF03FF)
  else mvRef d ch 2

/-- Address of a ring entry. -/
def entryAddr (d : Dev) (ch idx : Nat) : DWord := BitVec.ofNat 64 (rd64 d (F.DMC_RBASE ch) + 64 * idx)

/-- Words of a descriptor as numbers. -/
def dN (w : List Word) (i : Nat) : Nat := (w.getD i 0).toNat

/-- The IRQ bit of a channel, with its vector (R373). -/
def irqOf (d : Dev) (ch : Nat) (irq : Bool) : Dev :=
  if irq then
    let x := raise d (dmcPage ch) (8 + ch % 8)
    if rdB x (F.DMC_VEC_IEN ch) then sendMsix x (rd x (F.DMC_FN_FNA ch)) (rd x (F.DMC_VEC_VEC ch)) else x
  else d

/-- A channel bound to a function that was reaped detaches (R372): every descriptor up to the tail ends DETACHED, with its write-back while
the ring is reachable (R134). The IRQ bits of entries that were not fetched are unknown. [log entry 131 DEDUCED] -/
def mvDetach (d : Dev) (ch : Nat) : Dev :=
  let st := mvState d ch
  if st == mvOFF || st == mvSTOPPED || st == mvDETACHED then d
  else
    let m := movOf d ch
    let tail := rd d (F.DMC_TAIL_TAIL ch)
    let n := m.cap.length + (tail + ringLen d ch - rd d (F.DMC_STAT_HEAD ch)) % ringLen d ch
    let fn := rd d (F.DMC_FN_FNA ch)
    let first := tail + ringLen d ch - n
    let d0 := if fnReachable d fn then
        (List.range n).foldl (fun d i => emit d (.detached fn (entryAddr d ch ((first + i) % ringLen d ch)))) d
      else d
    let d1 := wrs (setMov d0 ch {}) [(F.DMC_DETCNT_COUNT ch, n), (F.DMC_STAT_HEAD ch, tail), (F.DMC_CTL_EN ch, 0)]
    let d2 := raise (irqOf (setMvState d1 ch mvDETACHED) ch (m.cap.any (fun c => bitOf (dN c.words 0) 17))) (dmcPage ch) (24 + ch % 8)
    if n == 0 then d2 else mvLast d2 ch 3 0

def moverDetach (d : Dev) (p : Nat → Bool) : Dev :=
  foldUpto 32 (fun ch d =>
    if p (rd d (F.DMC_FN_FNA ch)) || (rdB d (F.DMC_FN_FNBV ch) && p (rd d (F.DMC_FN_FNB ch))) then mvDetach d ch else d) d

/-! ### Descriptor checks (R363, R365, R370) -/

def d64 (w : List Word) (i : Nat) : Nat := dN w i + 2 ^ 32 * dN w (i + 1)
def dOp (w : List Word) : Nat := bitsOf (dN w 0) 0 4
def dCount (w : List Word) : Nat := dN w 1
def dEoc (w : List Word) : Bool := bitOf (dN w 0) 19
def dBar (w : List Word) : Bool := bitOf (dN w 0) 18
def dCiph (w : List Word) : Nat := dN w 10
def dMode (w : List Word) : Nat := bitsOf (dCiph w) 6 3

/-- First faulty field in ascending offset, as cause 5 names it. -/
def descField (w : List Word) : Option Nat :=
  let op := dOp w
  let src := op == 1 || op == 3 || op == 4 || op == 5
  let dst := 1 ≤ op && op ≤ 4
  let aux := op == 2 || op == 4
  let ciph := op == 1 || op == 4
  let n := dCount w
  let gather0 := op == 4 && dN w 9 == 0
  let wraps := fun (a k : Nat) => a + k > 2 ^ 64
  let tests : List (Bool × Nat) := [
    (op ≥ 6 || !(bitsOf (dN w 0) 4 4 == 0), 0),
    ((if src then bitsOf (dN w 0) 8 2 ≥ 2 else !(bitsOf (dN w 0) 8 2 == 0)), 1),
    ((if dst then bitsOf (dN w 0) 10 2 ≥ 2 else !(bitsOf (dN w 0) 10 2 == 0)), 1),
    (!(bitsOf (dN w 0) 12 4 == 0), 1),
    ((bitOf (dN w 0) 16 && !(op == 3)) || !(bitsOf (dN w 0) 20 4 == 0), 2),
    (!(bitsOf (dN w 0) 24 4 == 0) || !(bitsOf (dN w 0) 28 3 == 0), 3),
    (op == 0 && !(n == 0), 4),
    ((if src then !gather0 && op != 4 && wraps (d64 w 2) n else !(d64 w 2 == 0)), 8),
    ((if dst then !gather0 && wraps (d64 w 4) n else !(d64 w 4 == 0)), 0x10),
    ((if aux then op == 4 && (!(d64 w 6 % 4 == 0) || wraps (d64 w 6) (4 * dN w 9)) else !(d64 w 6 == 0)), 0x18),
    ((if op == 4 then !(bitsOf (dN w 8) 24 8 == 0) || (!gather0 && bitsOf (dN w 8) 0 24 == 0)
      else if op == 5 then dN w 8 > 1 else !(dN w 8 == 0)), 0x20),
    ((if op == 4 then !gather0 && !(bitsOf (dN w 8) 0 24 * dN w 9 == n) else !(dN w 9 == 0)), 0x24),
    ((if ciph then !(bitsOf (dCiph w) 12 4 == 0) || (dMode w == 0 && !(dCiph w == 0)) else !(dCiph w == 0)), 0x28),
    (!(dN w 11 == 0), 0x2C),
    (!(d64 w 12 % 64 == 0) || (ciph && !(dMode w == 0) && d64 w 12 == 0)
      || (!(d64 w 12 == 0) && dMode w == 0 && !dEoc w), 0x30)]
  (tests.find? (fun t => t.1)).map Prod.snd

/-- Cause 8: what a general channel may not do (R358). [log entry 90 DEDUCED] -/
def descDenied (ch : Nat) (w : List Word) : Bool :=
  !privileged ch && (dOp w == 5 || !(bitsOf (dN w 0) 8 4 == 0))

/-- Sub-code of R347 that holds before the cipher runs. [log entry 90 DEDUCED] -/
def cipherBad (d : Dev) (ch : Nat) (w : List Word) : Option Nat :=
  let c := dCiph w
  let slot := bitsOf c 0 6
  let op := bitsOf c 9 2
  let mode := dMode w
  let n := dCount w
  if mode == 0 then none
  else if !slotIs d slot roleSERVICE || !slotOpen d slot then some 1
  else if !privileged ch && !rdB d F.CRS_CTL_GEN then some 2
  else if mode ≥ 5 || op == 3 || (op == 2 && !(mode == 4)) then some 3
  else if bitOf c 11 == (op == 0) then some 4
  else if mode == 1 && !(n % 16 == 0) then some 5
  else if mode == 4 && bitsOf c 16 16 > n then some 6
  else if mode == 4 && !(op == 0) && n > 1048576 then some 7
  else if op == 0 && rd64 d (F.KEY_CNT slot) ≥ 2 ^ 32 then some 8 else none

/-- Additional data in front of a GCM source: it is not copied (R345). -/
def aadOf (w : List Word) : Nat := if dMode w == 4 then bitsOf (dCiph w) 16 16 else 0

/-- Nothing of the result reaches the destination when the descriptor fails: GCM decryption and verification hold it back until the tag has
passed (R344), and a failure of the cipher releases no ciphertext (R347). -/
def heldBack (w : List Word) (cause : Nat) : Bool :=
  !(dMode w == 0) && ((dMode w == 4 && !(bitsOf (dCiph w) 9 2 == 0)) || (cause == 7 && bitsOf (dCiph w) 9 2 == 0))

/-- BAD cause and RESULT1 found at the fetch of a descriptor: 11, then 5, then 8. [log entry 90 DEDUCED] -/
def descBad (ch : Nat) (w : List Word) : Nat × Nat :=
  if !bitOf (dN w 0) 31 then (11, 0)
  else match descField w with
    | some o => (5, o)
    | none => if descDenied ch w then (8, 0) else (0, 0)

/-! ### Checksums (R98, R367) -/

/-- One byte of CRC-64/ECMA-182, not reflected. -/
def crc64Byte (acc b : Nat) : Nat :=
  foldUpto 8 (fun _ a => if a ≥ 2 ^ 63 then (a * 2 % 2 ^ 64) ^^^ 0x42F0E1EBA9EA3693 else a * 2) (acc ^^^ (b % 256 * 2 ^ 56))

def crc64From (acc : Nat) (l : List Nat) : Nat := l.foldl crc64Byte acc

/-! ### Fetch and completion -/

/-- A stop on a failed ring read or write-back (R370). The entries fetched are dropped, and HEAD stays past them. [log entry 140 DESIGN CHOICE] -/
def mvBroken (d : Dev) (ch : Nat) : Dev :=
  let m := movOf d ch
  mvLast (mvSettle (setMov d ch { m with cap := [], stopping := some 3 }) ch) ch 0xF 0

/-- A descriptor is captured (R362). A barrier waits while earlier writes of the channel are not acknowledged. -/
def mvFetch (d : Dev) (ch : Nat) (words iv : List Word) : Dev :=
  let m := movOf d ch
  if words.isEmpty then
    if m.cap.isEmpty then mvBroken d ch else mvLast (mvStop d ch 3) ch 0xF 0
  else
    let head := rd d (F.DMC_STAT_HEAD ch)
    let b := descBad ch words
    let c : DescCap := { idx := head, words := words, iv := iv, bad := b.1, sub := b.2,
                         clear := !dBar words || (!m.dirty && m.cap.isEmpty) }
    mvSettle (wr (setMov d ch { m with cap := m.cap ++ [c] }) (F.DMC_STAT_HEAD ch) ((head + 1) % ringLen d ch)) ch

/-- STATUS, CAUSE, RESULT0 and RESULT1 of a descriptor (R369, R370). -/
structure DescEnd where
  status : Nat
  cause : Nat
  r0 : Nat
  r1 : Nat
  deriving DecidableEq, Repr

/-- How a descriptor ends: faults found at its fetch or start, then what its operation met. -/
def descEnd (d : Dev) (ch : Nat) (m : MovCh) (c : DescCap) (r : DescRes) : DescEnd :=
  let w := c.words
  let mixed := dOp w == 5 && (match m.alg with
    | some a => !(a == dN w 8 % 2)
    | none => false)
  let noArea := dEoc w && (m.alg.isSome || dOp w == 5) && d64 w 12 == 0
  if !(c.bad == 0) then ⟨1, c.bad, 0, c.sub⟩
  else if mixed then ⟨1, 5, 0, 0x20⟩
  else if noArea then ⟨1, 5, 0, 0x30⟩
  else match cipherBad d ch w with
    | some s => ⟨1, 7, 0, s⟩
    | none =>
      if !(r.bad == 0) then
        ⟨1, r.bad, if heldBack w r.bad then min r.at_ (aadOf w) else r.at_, if r.bad == 6 || r.bad == 10 then r.bus else if r.bad == 7 then r.sub else 0⟩
      else if dEoc w && m.chainBad then ⟨1, 9, dCount w, 0⟩
      else match dOp w == 3, r.diff with
        | true, some (o, a, b) => ⟨2, 0, o, 256 * (a % 256) + b % 256⟩
        | _, _ => ⟨0, 0, dCount w, 0⟩

/-- The accumulator after a descriptor: a chain starts at its first CHECKSUM (R367). [log entry 91 DESIGN CHOICE] -/
def chainFeed (d : Dev) (ch : Nat) (m : MovCh) (w : List Word) (e : DescEnd) (data : List Nat) : Dev :=
  if !(dOp w == 5) then d
  else if !(e.status == 0 || e.cause == 9) then setMov d ch { m with chainBad := true }
  else
    let alg := dN w 8 % 2
    let start := if alg == 0 then 0xFFFFFFFF else 0
    let acc := if m.alg.isSome then rd64 d (F.DMC_CSUM ch) else start
    let v := if alg == 0 then crc32cFrom acc data else crc64From acc data
    wr64 (setMov d ch { m with alg := some alg }) (F.DMC_CSUM ch) v

/-- The end of a chain: the checksum is stored at offset 0x20 of the status area (R367). -/
def chainEnd (d : Dev) (ch : Nat) (w : List Word) (e : DescEnd) : Dev :=
  if !dEoc w then d
  else
    let m := movOf d ch
    let d1 := setMov d ch { m with alg := none, chainBad := false }
    match m.alg with
    | some alg =>
      if m.chainBad || !(e.status == 0) then d1
      else
        let v := if alg == 0 then rd64 d (F.DMC_CSUM ch) ^^^ 0xFFFFFFFF else rd64 d (F.DMC_CSUM ch)
        emit (wr64 d1 (F.DMC_CSUM ch) v)
          (.memWrite (rd d (F.DMC_FN_FNA ch)) (BitVec.ofNat 64 (d64 w 12 + 0x20)) [BitVec.ofNat 32 v, BitVec.ofNat 32 (v / 2 ^ 32)])
    | none => d1

/-- Bytes a descriptor wrote to its destination. [log entry 91 DESIGN CHOICE] -/
def descWritten (w : List Word) (e : DescEnd) : Nat :=
  let verify := !(dMode w == 0) && bitsOf (dCiph w) 9 2 == 2
  if (dOp w == 1 || dOp w == 2 || dOp w == 4) && !verify then
    (if e.status == 0 then (if dOp w == 4 && dN w 9 == 0 then 0 else dCount w - aadOf w) else e.r0 - aadOf w) else 0

/-- IV words that the device draws for an encryption: 64 bits and a block counter from 0 for CTR, 96 bits for GCM, else 128 (R346). -/
def drawnIv (d : Dev) (mode : Nat) : List Word :=
  if mode == 2 then [Config.drbg d.free, Config.drbg (d.free + 1), 0, 0]
  else if mode == 4 then [Config.drbg d.free, Config.drbg (d.free + 1), Config.drbg (d.free + 2), 0]
  else [Config.drbg d.free, Config.drbg (d.free + 1), Config.drbg (d.free + 2), Config.drbg (d.free + 3)]

/-- What a service descriptor that ran leaves: its invocation, and for an encryption the IV and tag it used (R346, R364); one that fails after
it wrote ciphertext has used its IV, and gives no tag. [log entry 11 DESIGN CHOICE] -/
def cipherDone (d : Dev) (ch : Nat) (w : List Word) (e : DescEnd) : Dev :=
  let c := dCiph w
  let mode := dMode w
  if mode == 0 then d
  else if e.cause == 7 then
    raise (wrs d [(F.CRS_LAST_VALID, 1), (F.CRS_LAST_CH, ch), (F.CRS_LAST_CODE, e.r1)]) 0x72 8
  else if !(e.status == 0) && descWritten w e == 0 then d
  else
    let d1 := add64 d F.CRS_INV 1
    if bitsOf c 9 2 == 0 then
      let tag := if mode == 4 && e.status == 0 then (List.range 4).map (fun i => Config.serviceTag (d.free + i)) else []
      emit (add64 { d1 with free := d.free + 4 } (F.KEY_CNT (bitsOf c 0 6)) 1)
        (.memWrite (rd d (F.DMC_FN_FNA ch)) (BitVec.ofNat 64 (d64 w 12)) (drawnIv d mode ++ tag))
    else d1

/-- Write-back of a descriptor: DW14 and DW15 first, then DW0 (R369). -/
def writeBack (d : Dev) (ch : Nat) (c : DescCap) (e : DescEnd) : Dev :=
  let fn := rd d (F.DMC_FN_FNA ch)
  let a := entryAddr d ch c.idx
  let dw0 := bitsOf (dN c.words 0) 0 20 + 2 ^ 28 * bitsOf (dN c.words 0) 28 3 + 2 ^ 24 * e.status + 2 ^ 20 * e.cause
  emit (emit d (.memWrite fn (a + 0x38) [BitVec.ofNat 32 e.r0, BitVec.ofNat 32 e.r1])) (.memWrite fn a [BitVec.ofNat 32 dw0])

/-- Events and records of a completion (R371, R373). -/
def descEvents (d : Dev) (ch : Nat) (w : List Word) (e : DescEnd) : Dev :=
  let d1 := irqOf d ch (bitOf (dN w 0) 17)
  let d2 := if e.status == 0 then d1 else mvLast (raise d1 (dmcPage ch) (16 + ch % 8)) ch e.status e.cause
  if e.status == 1 then satAdd (wr d2 (F.DMC_STAT_LCAUSE ch) e.cause) (F.DMC_BAD_COUNT ch) 1 else d2

/-- Bytes at the destination: the pattern of a FILL, what was read, or what the cipher made of it behind its additional data (R346, R365,
R366). -/
def destBytes (d : Dev) (w iv : List Word) (n : Nat) (data : List Nat) : List Nat :=
  if dOp w == 2 then (List.range n).map (fun i => bitsOf (d64 w 6) (8 * (i % 8)) 8)
  else if dMode w == 0 then data.take n
  else (List.range n).map (Config.serviceByte (keySlot d (bitsOf (dCiph w) 0 6)).mat (dMode w) (bitsOf (dCiph w) 9 2) iv (data.drop (aadOf w)))

/-- Bytes an operation has read when it ends: what its result names must be there (R369). -/
def dataFits (w : List Word) (e : DescEnd) (r : DescRes) : Bool :=
  let n := if dOp w == 4 && dN w 9 == 0 then 0 else if e.status == 0 then dCount w else e.r0
  (if dOp w == 1 || dOp w == 4 || dOp w == 5 then !(e.status == 0) || r.data.length == n else r.data.isEmpty)
    && (if dOp w == 3 then (match r.diff with
      | some (o, a, b) => o < dCount w && !(a % 256 == b % 256)
      | none => true) else r.diff.isNone)
/-- The next descriptor of a channel: with a barrier it waits for the acknowledgement of earlier writes (R368). -/
def nextClear (l : List DescCap) : List DescCap :=
  match l with
  | c :: rest => { c with clear := !dBar c.words } :: rest
  | [] => []

/-- IV words of a descriptor: those it was posted with, or those the device draws (R346). -/
def ivOf (d : Dev) (c : DescCap) : List Word :=
  if bitOf (dCiph c.words) 11 then c.iv else drawnIv d (dMode c.words)

/-- Slots lost to an alarm end the service descriptors that run under them with sub-code 10 (R347, R372). -/
def descLost (d : Dev) (p : Nat → Bool) : Dev :=
  { d with mover := d.mover.mapV (fun _ m => match m.cap with
      | c :: rest => if c.clear && c.bad == 0 && !(dMode c.words == 0) && p (bitsOf (dCiph c.words) 0 6) then { m with cap := { c with bad := 7, sub := 10 } :: rest } else m
      | [] => m) }

/-- A descriptor completes (R369). Space 1 is FNB, also with FNBV 0 (R359). [log entries 91 DESIGN CHOICE; 141 DESIGN CHOICE] -/
def mvComplete (d : Dev) (ch : Nat) (c : DescCap) (rest : List DescCap) (r : DescRes) : Dev :=
  let m := movOf d ch
  let e := descEnd d ch m c r
  let d1 := chainFeed (setMov d ch { m with cap := nextClear rest, dirty := true }) ch { m with cap := nextClear rest, dirty := true } c.words e r.data
  let d2 := chainEnd (cipherDone d1 ch c.words e) ch c.words e
  let n := descWritten c.words e
  let d3 := add64 (add64 d2 (F.DMC_BYTES ch) n) F.DMV_BYTES n
  let d4 := if n == 0 then d3
    else emit d3 (.dma ch (if bitsOf (dN c.words 0) 10 2 == 1 then rd d (F.DMC_FN_FNB ch) else rd d (F.DMC_FN_FNA ch)) (BitVec.ofNat 64 (d64 c.words 4))
      (destBytes d c.words (ivOf d c) n r.data))
  if !r.wbOk then mvBroken d4 ch
  else
    let d5 := descEvents (writeBack d4 ch c e) ch c.words e
    if e.status == 2 && bitOf (dN c.words 0) 16 then
      let m5 := movOf d5 ch
      let head := (rd d5 (F.DMC_STAT_HEAD ch) + ringLen d5 ch - m5.cap.length) % ringLen d5 ch
      mvSettle (wr (setMov d5 ch { m5 with cap := [], stopping := some 2 }) (F.DMC_STAT_HEAD ch) head) ch
    else mvSettle d5 ch

/-- A barrier read ends (R368): the descriptor may start, or completes BAD with cause 10. -/
def mvBarrier (d : Dev) (ch cause : Nat) (c : DescCap) (rest : List DescCap) : Dev :=
  let m := movOf d ch
  if cause == 0 then mvSettle (setMov d ch { m with cap := { c with clear := true } :: rest, dirty := false }) ch
  else mvComplete d ch { c with bad := 10, sub := cause } rest ⟨0, 0, 0, 0, none, [], true⟩

end Sys2Proof.Machine
end

