-- ==== Sys2Proof/Machine/ArrayOps.lean ====
section
/-!
DEFINITION. The firmware array: its content, raw and owner operations, bank records, image headers, and what a start of the
control processors sets (chapter Firmware Array and Field Update, R87, R390 to R404, R411, R415).
-/
namespace Sys2Proof.Machine

/-! ### Blocks as bytes -/

/-- 32-bit word `i` of a 4 KiB block, little-endian. -/
def blkWord (b : Block) (i : Nat) : Nat := bitsOf b.toNat (32 * i) 32

/-- The first `n` bytes of a block. -/
def blkBytes (b : Block) (n : Nat) : List Nat := (List.range n).map (fun i => bitsOf b.toNat (8 * i) 8)

/-- A block of little-endian words; words not given are `fill`. -/
def blkOfWords (l : List Nat) (fill : Nat) : Block :=
  BitVec.ofNat 32768 (((List.range 1024).map (fun i => l.getD i fill % 2 ^ 32)).foldr (fun w a => w + 2 ^ 32 * a) 0)

/-- An erased page. -/
def erasedPage : Block := BitVec.allOnes 32768

/-! ### Content (R390, R393, R395) -/

/-- Replace the array. -/
def setArr (d : Dev) (a : FwArray) : Dev := { d with array := a }

/-- Key of a block. -/
def arrKey (bank block : Nat) : Nat := 1024 * bank + block

/-- The page is programmed. [log entry 12 DESIGN CHOICE] -/
def pageProgrammed (d : Dev) (bank block page : Nat) : Bool :=
  match d.array.blocks.get? (arrKey bank block) with
  | some b => b.doubt || b.doubtPages.contains page || (b.pages.get? page).isSome
  | none => Config.factoryProgrammed bank block page

/-- Content of a page: in doubt it is a free value. [log entry 12 DESIGN CHOICE] -/
def arrPage (d : Dev) (bank block page : Nat) : Block :=
  match d.array.blocks.get? (arrKey bank block) with
  | some b => if b.doubt || b.doubtPages.contains page then Config.doubtPage d.free else (b.pages.get? page).getD erasedPage
  | none => if Config.factoryProgrammed bank block page then Config.factoryPage bank block page else erasedPage

/-- The programmed pages of a block as a list. -/
def arrPages (d : Dev) (bank block : Nat) : SMap Block :=
  match d.array.blocks.get? (arrKey bank block) with
  | some b => b.pages
  | none => ((List.range 64).filter (fun p => Config.factoryProgrammed bank block p)).map (fun p => (p, Config.factoryPage bank block p))

/-- Erase a block: every page returns to the erased state (R393). -/
def arrErase (d : Dev) (bank block : Nat) : Dev :=
  let failed := ((d.array.blocks.get? (arrKey bank block)).map ArrBlock.failed).getD false
  setArr d { d.array with blocks := d.array.blocks.set (arrKey bank block) { failed := failed } }

/-- Program a page. -/
def arrProgram (d : Dev) (bank block page : Nat) (data : Block) : Dev :=
  let b := (d.array.blocks.get? (arrKey bank block)).getD { pages := arrPages d bank block }
  setArr d { d.array with blocks := d.array.blocks.set (arrKey bank block) { b with pages := b.pages.set page data, doubtPages := ndel page b.doubtPages } }

/-- What an erase (no page) or a program that did not end leaves: its block or its page in doubt (R395). -/
def arrDoubt (d : Dev) (bank block : Nat) (page : Option Nat) : Dev :=
  let b := (d.array.blocks.get? (arrKey bank block)).getD { pages := arrPages d bank block }
  let b1 := match page with
    | some p => { b with doubtPages := nins p b.doubtPages }
    | none => { b with doubt := true }
  setArr d { d.array with blocks := d.array.blocks.set (arrKey bank block) b1 }

/-- An erase (no page) or a program ends FAIL: the block is recorded as failed, FWA_BAD shows its bank and AFAIL is raised (R393); what it
left is in doubt. [log entry 13 DESIGN CHOICE] -/
def arrFail (d : Dev) (bank block : Nat) (page : Option Nat) : Dev :=
  let d0 := arrDoubt d bank block page
  let b := (d0.array.blocks.get? (arrKey bank block)).getD {}
  let d1 := setArr d0 { d0.array with blocks := d0.array.blocks.set (arrKey bank block) { b with failed := true } }
  raise (setBit d1 F.FWA_BAD_BANKS bank true) 0xC 10

/-- A bank holds a failed block. -/
def bankBad (d : Dev) (bank : Nat) : Bool := d.array.blocks.any (fun e => e.1 / 1024 == bank && e.2.failed)

/-- An erase or program in progress at STOP of the emergency flush is abandoned (R395). [log entry 13 DESIGN CHOICE] -/
def arrAbandon (d : Dev) : Dev :=
  let d1 := d.array.ops.foldl (fun d o => arrDoubt d o.bank o.block (if o.op == 1 then some o.page else none)) d
  setArr d1 { d1.array with ops := [], owner := none }

/-! ### Owner regions (R398 to R400) -/

def regOf (d : Dev) (k : Nat) : OwnReg := d.array.regs.read (fun _ => {}) k
def setReg (d : Dev) (k : Nat) (r : OwnReg) : Dev := setArr d { d.array with regs := d.array.regs.put (fun _ => {}) k r }

/-- Region of a block, as 16 × bank + region. -/
def regionOf (bank block : Nat) : Nat := 16 * bank + block / 64

/-- Three wrong passwords block a region. -/
def regBlocked (r : OwnReg) : Bool := r.pwd.isSome && r.wrong ≥ 3

/-- The region refuses programs and erases: Locked or Blocked, not Open. -/
def regShut (r : OwnReg) : Bool := r.pwd.isSome && (!r.opened || regBlocked r)

/-- Bits of the regions that satisfy a test. -/
def regBits (d : Dev) (p : OwnReg → Bool) : Nat :=
  ((List.range 32).filter (fun k => p (regOf d k))).foldl (fun a k => a + 2 ^ k) 0

/-- FWA_LOCK, FWA_OPEN, FWA_BLOCKED and FWA_BAD follow the array. -/
def regShow (d : Dev) : Dev :=
  wrs d [(F.FWA_LOCK_REGIONS, regBits d (fun r => r.pwd.isSome)), (F.FWA_OPEN_REGIONS, regBits d (fun r => r.opened && !regBlocked r)),
    (F.FWA_BLOCKED_REGIONS, regBits d regBlocked), (F.FWA_BAD_BANKS, b2n (bankBad d 0) + 2 * b2n (bankBad d 1))]

/-- A region of the bank is Locked or Blocked (R400). -/
def bankLocked (d : Dev) (bank : Nat) : Bool := (List.range 16).any (fun k => regShut (regOf d (16 * bank + k)))

/-! ### Image headers and bank records (R401 to R404) -/

/-- The fields of an image header that the controller uses. -/
structure ImgHdr where
  ok : Bool
  version : Nat
  fver : Nat
  fvmin : Nat
  length : Nat
  migms : Nat
  deriving DecidableEq, Repr

/-- Read the header of block 0 (R403). `ok` is the part of R404 that the header itself shows. -/
def imgHdr (b : Block) : ImgHdr :=
  let byte := fun i => bitsOf b.toNat (8 * i) 8
  let zero := fun lo n => bitsOf b.toNat (8 * lo) (8 * n) == 0
  let len := blkWord b 4
  { ok := blkWord b 0 == 0x4B4F4A46 && bitsOf (blkWord b 1) 0 16 == 1 && zero 6 2 && byte 0xB == 1 && zero 0x18 8 && zero 0x81 7
            && zero 0xE8 24 && len % 65536 == 0 && 65536 ≤ len && len ≤ 267386880
    version := blkWord b 2, fver := bitsOf (blkWord b 3) 0 16, fvmin := bitsOf (blkWord b 3) 16 16, length := len
    migms := blkWord b 5 }

/-- The header of the image in a bank. [log entry 41 DEDUCED] -/
def bankHdr (d : Dev) (bank : Nat) : ImgHdr := imgHdr (arrPage d bank 0 0)

/-- Bytes of pages in order. -/
def pageBytes (ps : List Block) : List Nat := ps.flatMap (fun b => blkBytes b 4096)

/-- An image block of 16 pages passes its CRC: its last 4 bytes hold the CRC-32C of the others (R403). -/
def imgBlockOk (ps : List Block) : Bool := (pageBytes ps).drop 65532 == leBytes 4 (crc32c ((pageBytes ps).take 65532))

/-- The 16 pages of image block `i` of a bank (R403). -/
def imgPages (d : Dev) (bank i : Nat) : List Block := (List.range 16).map (fun p => arrPage d bank (i / 4) (16 * (i % 4) + p))

/-- Every block of the image in a bank passes its CRC (R87, R404). -/
def bankCrcs (d : Dev) (bank : Nat) : Bool :=
  (List.range ((bankHdr d bank).length / 65536)).all (fun i => imgBlockOk (imgPages d bank i))

/-- The image in a bank verifies under R404: its header, its block CRCs, and the key and signature that the boot hash engine finds.
[log entry 92 DEDUCED] -/
def imgVerifies (d : Dev) (bank : Nat) (v : ImgVerdict) : Option Nat :=
  match v.keySlot with
  | some k => if (bankHdr d bank).ok && v.sig && k < 4 && bitOf d.sys.fuse.trusted k && bankCrcs d bank then some k else none
  | none => none

/-- A bank record as (SEQ, ACTIVE), when MAGIC and CRC are valid (R401, R402). -/
def bankRecord (b : Block) : Option (Nat × Nat) :=
  if blkWord b 0 == 0x4B4E4142 && blkWord b 7 == crc32c (blkBytes b 28) then some (blkWord b 1, bitsOf (blkWord b 2) 0 8) else none

/-- The block is in doubt after an erase that did not end. -/
def blkDoubt (d : Dev) (bank block : Nat) : Bool := ((d.array.blocks.get? (arrKey bank block)).map ArrBlock.doubt).getD false

/-- Valid records of a bank. A block or a page in doubt holds none that counts (R395). -/
def bankRecords (d : Dev) (bank : Nat) : List (Nat × Nat) :=
  [1020, 1021].flatMap (fun blk =>
    if blkDoubt d bank blk then []
    else ((arrPages d bank blk).filter (fun e => !(((d.array.blocks.get? (arrKey bank blk)).map ArrBlock.doubtPages).getD []).contains e.1)).filterMap
      (fun e => bankRecord e.2))

/-- The governing record: SEQ, ACTIVE and the bank it lies in (R402). Of two records with one SEQ the first found governs: bank 0, the lower page. [log entry 142 DESIGN CHOICE] -/
def governing (d : Dev) : Option (Nat × Nat × Nat) :=
  (((bankRecords d 0).map (fun (r : Nat × Nat) => (r.1, r.2, 0))) ++ ((bankRecords d 1).map (fun (r : Nat × Nat) => (r.1, r.2, 1)))).foldl
    (fun acc r => match acc with
      | none => some r
      | some a => if a.1 < r.1 then some r else some a) none

/-- FWA_BANK.RECSRC, RECACT and FWA_RECSEQ follow the records. -/
def recShow (d : Dev) : Dev :=
  match governing d with
  | none => wrs d [(F.FWA_BANK_RECSRC, 0), (F.FWA_BANK_RECACT, 0), (F.FWA_RECSEQ_SEQ, 0)]
  | some (sq, act, b) => wrs d [(F.FWA_BANK_RECSRC, b + 1), (F.FWA_BANK_RECACT, act), (F.FWA_RECSEQ_SEQ, sq)]

/-- First page that a new record of a bank takes: ascending order, block 1,020 first. A block in doubt is erased before its use (R395). -/
def recordPlace (d : Dev) (bank : Nat) : Option (Nat × Nat) :=
  ((List.range 128).map (fun i => (1020 + i / 64, i % 64))).find? (fun p =>
    (p.2 == 0 && blkDoubt d bank p.1)
      || (!pageProgrammed d bank p.1 p.2 && (List.range 64).all (fun q => q ≤ p.2 || !pageProgrammed d bank p.1 q)))

/-- Program a bank record (R401): nothing is written into a locked region (R400) or when both record blocks are full. -/
def writeRecord (d : Dev) (bank active cause : Nat) : Dev :=
  if regShut (regOf d (regionOf bank 1020)) then d
  else match recordPlace d bank with
    | none => d
    | some (blk, pg) =>
      let h := bankHdr d bank
      let sq := match governing d with
        | some r => r.1 + 1
        | none => 1
      let ws := [0x4B4E4142, sq, active + 256 * cause, h.version, h.length, 0, 0]
      let crc := crc32c (blkBytes (blkOfWords ws 0) 28)
      recShow (arrProgram (if blkDoubt d bank blk then arrErase d bank blk else d) bank blk pg (blkOfWords (ws ++ [crc]) 0xFFFFFFFF))

/-- The record blocks of a bank are erased when a load of it starts (R401). -/
def eraseRecords (d : Dev) (bank : Nat) : Dev := recShow (arrErase (arrErase d bank 1020) bank 1021)

/-! ### Starts of the control processors (R86, R87, R411, R415) -/

/-- The bank the control processors fetch from, while they run. -/
def execBank? (d : Dev) : Option Nat :=
  if rd d F.GLB_BOOT_STAGE == 5 || rd d F.GLB_BOOT_STAGE == 6 then some (rd d F.FWA_BANK_EXEC) else none

/-- Bank preferred at a start (R87). Strap code 0b11 is taken as 0b00 (see the assumption log). [log entry 30 DEDUCED] -/
def preferredBank (d : Dev) : Nat :=
  let s := rd d F.GLB_STRAP_BOOT_SEL
  if s == 1 then 0 else if s == 2 then 1
  else match governing d with
    | some (_, act, _) => act % 2
    | none => 0

/-- Page FWA shows the array (R397, R415). -/
def arrayShow (d : Dev) : Dev := wr (recShow (regShow d)) F.FWA_KEYS_TRUSTED d.sys.fuse.trusted

/-- VERSION of a bank's image as FWA_BnVER shows it. [log entry 42 DEDUCED] -/
def showBank (d : Dev) (b : Nat) (ok : Bool) : Dev :=
  wr d (F.FWA_BVER b) (if ok then (bankHdr d b).version else 0)

/-- The control processors fetch from bank `b` (R86 step 7, R415). [log entries 41 DEDUCED; 42 DEDUCED] -/
def bankStarted (d : Dev) (b : Nat) : Dev :=
  let d1 := showBank (arrayShow d) b true
  let v := (bankHdr d b).version
  wrs d1 [(F.GLB_BOOT_BANK, b), (F.FWA_BANK_EXEC, b), (F.FWA_ACTIVE_VER_VERSION, v), (F.FWU_STATE_TARGET, 1 - b),
    (F.MEDIA_OPSUP_MAX, Config.opSets v % 65535 + 1)]

/-- STAGE becomes READY: the hub copies the version for the SMBus (R437). [log entry 16 DESIGN CHOICE] -/
def imageRunning (d : Dev) : Dev := { d with upd := { d.upd with aonVer := rd d F.FWA_ACTIVE_VER_VERSION } }

/-- The running bank has not reached READY (R411): restart from the other bank when it verified, else FAIL with FCAUSE 4. -/
def readyTimeout (d : Dev) : Dev :=
  let b := rd d F.FWA_BANK_EXEC
  let o := 1 - b
  let okO := rdB d (if o == 0 then F.GLB_BOOT_B0OK else F.GLB_BOOT_B1OK)
  if okO && !d.upd.tried.contains o then
    let d1 := { d with upd := { d.upd with tried := nins b d.upd.tried }, sys := { d.sys with verifiedBank := some o } }
    bankStarted (wr (writeRecord d1 b o 3) F.GLB_BOOT_FALLBACK 1) o
  else arrayShow (wrs d [(F.GLB_BOOT_STAGE, 0xF), (F.GLB_BOOT_FCAUSE, 4)])

/-! ### The fuse map (R2, R4, R86 step 4, R219, R425) -/

/-- Words whose reset value hardware loads by variant: the region bases and sizes (R219) and the temperature levels (R425). [log entry 2 DESIGN CHOICE] -/
def variantWords (variant : Nat) : List (Nat × Nat) :=
  let big := [0, 0x80, 0x80, 0x10, 0x90, 0xC0, 0x150, 0x10, 0x160, 0x10, 0x170, 0x10]
  let small := [0, 0x40, 0x40, 0x8, 0x48, 0x58, 0xA0, 0x8, 0xA8, 0x8, 0xB0, 0x10]
  ((if variant == 2 then small else big).zipIdx.map (fun e => (0x1F040 + 4 * e.2, e.1)))
    ++ [(0x4070, if variant == 1 then 0x640 else 0x5A0), (0x4074, if variant == 1 then 0x6E0 else 0x640)]

/-- Shadow bits of a word at reset, with the words hardware loads by variant. -/
def shResetHw (d : Dev) (off : Nat) : Word :=
  match (variantWords d.sys.fuse.variant).find? (fun e => e.1 == off) with
  | some e => BitVec.ofNat 32 e.2
  | none => shReset off

/-- Load the words of the variant into active and shadow copies. -/
def loadVariant (d : Dev) : Dev :=
  (variantWords d.sys.fuse.variant).foldl (fun d e =>
    setShdW (setActW d e.1 (BitVec.ofNat 32 e.2)) e.1 (BitVec.ofNat 32 e.2)) d

/-- Identity, per-device values and repairs are applied (R4, R86 step 4, R385, R388): the silicon is revision B0. [log entries 2 DESIGN CHOICE; 33 DEDUCED] -/
def applyFuse (d : Dev) : Dev :=
  let f := d.sys.fuse
  let d1 := wrs (loadVariant d) [(F.GLB_DEVID_SREV, 0x10), (F.GLB_DEVID_VARIANT, f.variant), (F.CRY_SALT_SALT, f.salt.toNat),
    (F.MEM_FREP_HBM, f.frepHbm), (F.MEM_FREP_SRAM, f.frepSram)]
  foldUpto 4 (fun i d => setActW d (0x7070 + 4 * i)
    (BitVec.ofNat 32 (((List.range 8).map (fun j => (f.hrLeft.getD (8 * i + j) 0) % 16 * 16 ^ j)).foldl (· + ·) 0))) d1

/-- CFG_WORDS.COUNT: the configuration words of R97. -/
def configWordCount : Nat := 1328

end Sys2Proof.Machine
end

