-- ==== Sys2Proof/Machine/StrokeOps.lean ====
section
/-!
DEFINITION. The loops of the Stroke engine as other blocks drive them: opening, arming, closing, the number formats, and the
trace buffers' states (R204, R205, R207, R212, R217).
-/
namespace Sys2Proof.Machine

/-! ### Numbers (R205) -/

/-- Division rounded to the nearest, ties away from zero. -/
def rndDiv (a : Int) (b : Nat) : Int :=
  if b == 0 then 0
  else if a < 0 then -((2 * -a + b) / (2 * b)) else (2 * a + b) / (2 * b)

/-- A value outside Q16.16 takes the nearer end; whether it did. -/
def q16Sat (x : Int) : Int × Bool :=
  if x > 2 ^ 31 - 1 then (2 ^ 31 - 1, true) else if x < -(2 ^ 31) then (-(2 ^ 31), true) else (x, false)

/-- A field as a signed Q16.16 value, and the field of a value. -/
def q16 (d : Dev) (f : Fld) : Int := (actW d f.off).toInt
def q16Field (x : Int) : Nat := (BitVec.ofInt 32 x).toNat

/-- Clamp, with the flags "below" and "above" as bits. -/
def q16Clamp (x lo hi : Int) (below above : Nat) : Int × Nat :=
  if x < lo then (lo, below) else if x > hi then (hi, above) else (x, 0)

/-! ### Loops (R204, R207, R209, R212) -/

/-- STKL page and event bit of a loop. -/
def stklPage (l : Nat) : Nat := 0x1A + l / 17
def stklBit (l : Nat) : Nat := 8 + l % 17

/-- Bit of a loop in STK_FAULT0 to STK_FAULT2. -/
def faultBit (d : Dev) (l : Nat) (v : Bool) : Dev := setBit d (F.STK_FAULT (l / 32)) (l % 32) v

/-- A loop becomes inactive and IDLE (R209). -/
def loopOff (d : Dev) (l : Nat) : Dev :=
  faultBit (wrs d [(F.STKL_CTL_ACTIVE l, 0), (F.STKL_CTL_FESTATE l, 0), (F.STKL_FETIME_T l, 0)]) l false

/-- The drain loop of an admitted stream starts: UMIN is its rate, the integrator and the output start there. -/
def loopOpen (d : Dev) (i rate : Nat) : Dev :=
  let u := q16Field (rndDiv (rate * 65536) 100)
  let d1 := wrs (loopOff d i) [(F.STKL_CTL_ACTIVE i, 1), (F.STKL_UMIN_UMIN i, u), (F.STKL_ITERM_I i, u), (F.STKL_UOUT_U i, u)]
  { d1 with stk := { d1.stk with fresh := nins i d1.stk.fresh, arr := d1.stk.arr.erase i, drn := d1.stk.drn.erase i } }

/-- The drain loop of a stream ends: its read-only fields read 0, a FOLLOW_ERR not yet applied is discarded. -/
def loopClose (d : Dev) (i : Nat) : Dev :=
  let d1 := wrs (loopOff d i) [(F.STKL_SETPT_SP i, 0), (F.STKL_UMIN_UMIN i, 0), (F.STKL_MEAS_M i, 0), (F.STKL_ERR_E i, 0),
    (F.STKL_PTERM_P i, 0), (F.STKL_ITERM_I i, 0), (F.STKL_UOUT_U i, 0), (F.STKL_FLAGS_FLAGS i, 0)]
  { d1 with stk := { d1.stk with fresh := ndel i d1.stk.fresh, follow := ndel i d1.stk.follow,
                                 arr := d1.stk.arr.erase i, drn := d1.stk.drn.erase i }
            cox := { d1.cox with dfc := d1.cox.dfc.erase i, dfcLast := d1.cox.dfcLast.erase i, grants := d1.cox.grants.erase i } }

/-- Loop 64 or 65 starts with its integrator at IMAX. -/
def loopArm (d : Dev) (l : Nat) : Dev :=
  let i := q16 d (F.STKL_IMAX_IMAX l)
  let u := (q16Clamp i (q16 d (F.STKL_UMIN_UMIN l)) (q16 d (F.STKL_UMAX_UMAX l)) 0 0).1
  wrs (loopOff d l) [(F.STKL_CTL_ACTIVE l, 1), (F.STKL_ITERM_I l, q16Field i), (F.STKL_UOUT_U l, q16Field u)]

/-- The enable bit of loop 64 or 65. -/
def loopEnabled (d : Dev) (l : Nat) : Bool := if l == 64 then rdB d F.STK_CTL_PWREN else rdB d F.STK_CTL_THMEN

/-- Loop 64 or 65 follows its enable bit while the gate is ACCEPTED. -/
def loopFollow (d : Dev) (l : Nat) : Dev :=
  let on := accepted d && loopEnabled d l
  if on && !rdB d (F.STKL_CTL_ACTIVE l) then loopArm d l
  else if !on && rdB d (F.STKL_CTL_ACTIVE l) then loopOff d l
  else d

/-- Publish R_power: ADM_RPOWER, COX_STAT.PLIM, and a demotion cause when it falls (R184, R203, R211). -/
def publish (d : Dev) (pub : Nat) : Dev :=
  let old := rd d F.ADM_RPOWER_RPOWER
  let d1 := wrs d [(F.ADM_RPOWER_RPOWER, pub), (F.COX_STAT_PLIM, b2n (pub < 0xFFFFFF))]
  let d2 := if pub == old then d1 else raise d1 0x19 9
  if pub < old then { d2 with adm := { d2.adm with causes := 2 :: d2.adm.causes } } else d2

/-- A Catch of page STK: loops 64 and 65 follow their enable bits; with both disabled nothing is limited (R211). -/
def strokeEnables (d : Dev) : Dev :=
  let d1 := loopFollow (loopFollow d 64) 65
  if rdB d1 (F.STKL_CTL_ACTIVE 64) || rdB d1 (F.STKL_CTL_ACTIVE 65) || rd d1 F.ADM_RPOWER_RPOWER == 0xFFFFFF then d1
  else publish { d1 with stk := { d1.stk with hold := 0 } } 0xFFFFFF

/-- A trace in PRE or POST goes to IDLE and its record is discarded (R212, R217). -/
def traceDrop (d : Dev) : Dev :=
  let st := rd d F.STKT_STAT_STATE
  if st == 1 || st == 2 then
    wrs { d with trace := {} } [(F.STKT_STAT_STATE, 0), (F.STKT_STAT_VPRE, 0)]
  else d

/-- Stroke starts at an acceptance (R204, R207, R213). -/
def strokeStart (d : Dev) : Dev :=
  let d1 := wr64 { d with stk := {} } 0x19064 0
  strokeEnables (wr (loopOff (loopOff d1 64) 65) F.ADM_RPOWER_RPOWER 0xFFFFFF)

/-- Every loop is inactive while the gate is not ACCEPTED. -/
def strokeEnd (d : Dev) : Dev :=
  let d1 := loopOff (loopOff { d with stk := {} } 64) 65
  wrs (traceDrop d1) [(F.ADM_RPOWER_RPOWER, 0xFFFFFF), (F.COX_STAT_PLIM, 0)]

/-- Loops 64 and 65, where enabled, take IMAX, as after each return to P0 (R207). -/
def powerArm (d : Dev) : Dev :=
  let d1 := if rdB d (F.STKL_CTL_ACTIVE 64) then loopArm d 64 else d
  if rdB d1 (F.STKL_CTL_ACTIVE 65) then loopArm d1 65 else d1

/-- Loops restart on the return to P0 after P3 (R212). -/
def strokeRestart (d : Dev) : Dev :=
  let active := (List.range 64).filter (fun l => rdB d (F.STKL_CTL_ACTIVE l))
  powerArm (active.foldl (fun d l => loopOpen d l (rd d (F.STRM_CONTRACT_RATE l))) d)

end Sys2Proof.Machine
end

