-- ==== Sys2Proof/Machine/Stream.lean ====
section
/-!
DEFINITION. Streams and admission (chapter Streams, Admission and the Latency Bound): the terms, the three conditions, policing,
the bounds, demotion, the horizon and the end of a stream.
-/
namespace Sys2Proof.Machine

/-- Open streams, contracted streams (open and not demoted). -/
def openStreams (d : Dev) : List Nat := (List.range 64).filter (fun i => rdB d (F.STRM_STAT_OPEN i))
def contracted (d : Dev) : List Nat := (openStreams d).filter (fun i => !rdB d (F.STRM_STAT_DEMOTED i))

/-- STRM page and slot of a stream (R188). -/
def strmPage (i : Nat) : Nat := 0x14 + i / 16

def sumOver (l : List Nat) (f : Nat → Nat) : Nat := (l.map f).foldl (· + ·) 0

/-- Write ceiling of a mode in units of 10 MB/s (R37, R175). -/
def modeCeiling (mode : Nat) : Nat :=
  if mode == 1 then 20000 else if mode == 2 then 15000 else if mode == 3 then 2000
  else if mode == 4 then 10000 else if mode == 5 then 2500 else 0

/-- R_crypto for a number of cipher domains that are on and a masking level (R174). -/
def rCryptoOf (domains level : Nat) : Nat := domains * (if level == 2 then 4800 else 9600) * 25 / 32

/-- Cipher domains 18 to 21 in service: on, or gated by a power state only (R25, R417). -/
def cipherDomains (d : Dev) : Nat := ((List.range 4).filter (fun i => domOn d (18 + i) || (d.sys.psGated.contains (18 + i) && !hostOff d (18 + i)))).length

/-- R_media (R173): r_prog in MB/s, batten width W. -/
def rMediaOf (nlun rprog w : Nat) : Nat := if w == 0 then 0 else nlun * rprog * (w - 1) * 9 / (w * 100)

/-- R_media now, less the flash time rung 1 work takes beyond its tenth (R183). -/
def rMedia (d : Dev) : Nat := rMediaOf (nLunHealthy d) (rd d F.MEDIA_RPROG_MBS) (rd d F.MEDIA_BATW_W) - d.med.rung1Cut

/-- R_cap_now with a given write ceiling and media rate (R175). -/
def rCapWith (ceiling rmedia rcrypto rpower : Nat) : Nat :=
  let m := min ceiling (min rmedia rcrypto)
  if rpower == 0xFFFFFF then m else min m rpower

/-- R_cap_now from the mirrors, with the ceiling of a mode. -/
def rCapMode (d : Dev) (mode : Nat) : Nat :=
  rCapWith (modeCeiling mode) (rMedia d) (rCryptoOf (cipherDomains d) (rd d F.CRY_STAT_LEVEL)) (rd d F.ADM_RPOWER_RPOWER)

/-- A LUN that an accepted request is about to remove: its channel is being isolated by the host, or its group gated (R440). -/
def lunLeaving (d : Dev) (l : Nat) : Bool :=
  (d.chn.read (fun _ => {}) (lunChn l)).isolating
    || (match d.sys.domOp with
        | some o => o.gate && o.dom ≤ 15 && o.dom == lunChn l / 4
        | none => false)

/-- LUNs and cipher domains that later checks count (R440). -/
def nLunStaying (d : Dev) : Nat := ((healthyLuns d).filter (fun l => !lunLeaving d l)).length
def cipherStaying (d : Dev) : Nat :=
  cipherDomains d - (match d.sys.domOp with
    | some o => b2n (o.gate && 18 ≤ o.dom && o.dom ≤ 21 && domOn d o.dom)
    | none => 0)

/-- R_cap_now as a check judges it (R440). -/
def rCapCheck (d : Dev) (mode : Nat) : Nat :=
  rCapWith (modeCeiling mode) (rMediaOf (nLunStaying d) (rd d F.MEDIA_RPROG_MBS) (rd d F.MEDIA_BATW_W) - d.med.rung1Cut)
    (rCryptoOf (cipherStaying d) (rd d F.CRY_STAT_LEVEL)) (rd d F.ADM_RPOWER_RPOWER)

/-- Σ R_s of the contracted streams. -/
def sumRates (d : Dev) : Nat := sumOver (contracted d) (fun i => rd d (F.STRM_CONTRACT_RATE i))

/-- Link of a stream's seat, 4 × port + link. -/
def strmLink (d : Dev) (i : Nat) : Nat :=
  match seatOf? d (rd d (F.STRM_STAT_SEAT i)) with
  | some s => s.fn / 128
  | none => 8

def onLink (d : Dev) (l : Nat) : List Nat := (contracted d).filter (fun i => strmLink d i == l)

/-- Σ R_s and Σ (B_s + S_s) in KiB of the contracted streams of a link (R187). -/
def linkRates (d : Dev) (l : Nat) : Nat := sumOver (onLink d l) (fun i => rd d (F.STRM_CONTRACT_RATE i))
def linkBack (d : Dev) (l : Nat) : Nat :=
  sumOver (onLink d l) (fun i => (rd d (F.STRM_BURST_BURST i) + rd d (F.STRM_CONTRACT_SMAX i)) * 1024)

/-- 2·t_PROG + t_ESUS in µs (R178). -/
def tHold (d : Dev) : Nat := 2 * rd d F.MEDIA_TPROG_US + rd d F.MEDIA_TESUS_US

/-- Buffer term of condition 2 in KiB (R178). -/
def bufTerm (thold rate smax burst : Nat) : Nat := (burst + smax) * 1024 + ceilDiv (rate * 10 * thold) 1024

def strmTerm (d : Dev) (i : Nat) : Nat :=
  bufTerm (tHold d) (rd d (F.STRM_CONTRACT_RATE i)) (rd d (F.STRM_CONTRACT_SMAX i)) (rd d (F.STRM_BURST_BURST i))

/-- Σ of the buffer terms, in KiB. -/
def bSum (d : Dev) : Nat := sumOver (contracted d) (strmTerm d)

/-- Σ RATE × T_min, and its value in MiB, rounded up (R178). -/
def tSumRs (d : Dev) : Nat := sumOver (contracted d) (fun i => rd d (F.STRM_CONTRACT_RATE i) * rd d (F.STRM_TMIN_TMIN i))
def tSumMiB (v : Nat) : Nat := ceilDiv (v * 10000000) 1048576

/-- RATE of a link (R118). -/
def portRate (d : Dev) (l : Nat) : Nat := rd d (F.PRT_RATE_RATE (l / 4) (l % 4))

/-- The device part of condition 1, and condition 2 (R176). -/
def cond1 (d : Dev) : Bool := sumRates d ≤ rCapMode d (rd d F.GLB_STAT_MODE)
def cond2 (d : Dev) : Bool := bSum d ≤ dCeilBytes d / 1024

/-- `a` ranks below `b` (R168): a higher priority number, or the same with the later admission. -/
def ranksBelow (d : Dev) (a b : Nat) : Bool :=
  let pa := rd d (F.STRM_STAT_PRIO a)
  let pb := rd d (F.STRM_STAT_PRIO b)
  pb < pa || (pa == pb && rd d (F.STRM_ASEQ_SEQ b) < rd d (F.STRM_ASEQ_SEQ a))

/-- The lowest-ranked contracted stream. -/
def lowestRanked (d : Dev) : Option Nat :=
  (contracted d).foldl (fun acc i => match acc with
    | none => some i
    | some j => if ranksBelow d i j then some i else some j) none

/-- Demote one stream with a cause (R184). -/
def demote (d : Dev) (i cause : Nat) : Dev :=
  let d1 := wrs (loopClose d i) [(F.STRM_STAT_DEMOTED i, 1), (F.STRM_STAT_DCAUSE i, cause), (F.STRM_DEMT_T i, now32 d),
    (F.STRM_LCPL_NS i, 0xFFFFFFFF), (F.STRM_LCOM_NS i, 0xFFFFFFFF)]
  raise (raiseArgs d1 (strmPage i) 24 [actW d1 (0x14040 + 0x1000 * (i / 16) + 0x100 * (i % 16)), actW d1 (0x14078 + 0x1000 * (i / 16) + 0x100 * (i % 16))]) 0x13 10

/-- Demote the lowest-ranked streams one at a time until conditions 1 (device part) and 2 hold (R35, R184). -/
def demoteLoop : Nat → Dev → Nat → Dev
  | 0, d, _ => d
  | n + 1, d, cause =>
    if cond1 d && cond2 d then d
    else match lowestRanked d with
      | none => d
      | some i => demoteLoop n (demote d i cause) cause

/-- Exit latency charged to a stream's seat in ns (R180). -/
def tX (d : Dev) (i : Nat) : Nat :=
  let idle := ((seatOf? d (rd d (F.STRM_STAT_SEAT i))).map Seat.idle).getD false
  if rd d F.GLB_STAT_MODE == 5 && idle then
    (if rdB d F.PWR_PSEN_P3EN then rd d (F.PWR_EXIT 3) else if rdB d F.PWR_PSEN_P2EN then rd d (F.PWR_EXIT 2)
     else if rdB d F.PWR_PSEN_P1EN then rd d (F.PWR_EXIT 1) else 0) * 1000
  else 0

/-- The bounds of R180 and R181 in ns, rounded up. -/
def lCpl (d : Dev) (i : Nat) : Nat :=
  let l := strmLink d i
  4000 + tX d i + ceilDiv ((linkBack d l * 1024 + 65536) * 100) (portRate d l)

def lCom (d : Dev) (i : Nat) : Nat :=
  let l := strmLink d i
  let r := portRate d l
  let q := rd d (F.STRM_CONTRACT_RATE i)
  let bs := (rd d (F.STRM_BURST_BURST i) + rd d (F.STRM_CONTRACT_SMAX i)) * 1048576
  4000 + tX d i + (tHold d + 60) * 1000
    + ceilDiv ((linkBack d l * 1024 + 65536) * 100 * q + bs * 100 * r) (r * q)

/-- Recompute the bounds of every contracted stream (R182); NOBOUND is raised when the link part begins to fail. A
bound of more than 32 bits of ns is shown modulo 2^32. [log entry 116 DESIGN CHOICE] -/
def bounds (d : Dev) : Dev :=
  let failing := (List.range 8).filter (fun l => !(onLink d l).isEmpty && portRate d l < linkRates d l)
  let d1 := if failing.any (fun l => !d.adm.noBound.contains l) then raise d 0x13 11 else d
  let d2 := { d1 with adm := { d1.adm with noBound := failing } }
  (contracted d2).foldl (fun d i =>
    if failing.contains (strmLink d i) || portRate d (strmLink d i) == 0 then
      wrs d [(F.STRM_LCPL_NS i, 0xFFFFFFFF), (F.STRM_LCOM_NS i, 0xFFFFFFFF)]
    else wrs d [(F.STRM_LCPL_NS i, lCpl d i), (F.STRM_LCOM_NS i, lCom d i)]) d2

/-- Write the sums and counts of page ADM (R187). -/
def admSums (d : Dev) : Dev :=
  wrs d [(F.ADM_SUMR_SUMR, sumRates d), (F.ADM_BSUM_BSUM, bSum d), (F.ADM_TSUM_TSUM, tSumMiB (tSumRs d)),
    (F.ADM_COUNT_OPEN, (openStreams d).length),
    (F.ADM_COUNT_DEMOTED, (openStreams d).length - (contracted d).length)]

/-- Sources of R172 that fell against their mirrors, as DCAUSE codes (R184). [log entry 57 DEDUCED] -/
def fallen (d : Dev) : List Nat :=
  d.adm.causes
    ++ (if rMedia d < rd d F.ADM_RMEDIA_RMEDIA then [1] else [])
    ++ (if rCryptoOf (cipherDomains d) (rd d F.CRY_STAT_LEVEL) < rd d F.ADM_RCRYPTO_RCRYPTO then [3] else [])
    ++ (if dCeilBytes d / 1024 < rd d F.ADM_DCEIL_DCEIL then [4] else [])

/-- Lowest of a list of causes, 0 for none. [log entry 57 DEDUCED] -/
def lowestCause (l : List Nat) : Nat := l.foldl (fun a b => if a == 0 || b < a then b else a) 0

/-- Item 1 of R178: recompute the terms and mirror them (R172); the sources that fell are recorded for the demotions of the next
slot. While the gate is not ACCEPTED the mirrors stay. [log entry 57 DEDUCED] -/
def admRecompute (d : Dev) : Dev :=
  if !accepted d then d
  else
    let rcap := rCapMode d (rd d F.GLB_STAT_MODE)
    let changed := !(rcap == rd d F.ADM_RCAP_RCAP)
    let d1 := wrs { d with adm := { d.adm with causes := fallen d } } [(F.ADM_RMODE_RMODE, modeCeiling (rd d F.GLB_STAT_MODE)),
      (F.ADM_RMEDIA_RMEDIA, rMedia d), (F.ADM_RCRYPTO_RCRYPTO, rCryptoOf (cipherDomains d) (rd d F.CRY_STAT_LEVEL)),
      (F.ADM_RCAP_RCAP, rcap), (F.ADM_DCEIL_DCEIL, dCeilBytes d / 1024), (F.ADM_FREE_FREE, freeMiB d),
      (F.ADM_NLUN_NLUN, nLunHealthy d), (F.ADM_NLUN_W, rd d F.MEDIA_BATW_W)]
    bounds (admSums (if changed then raise d1 0x13 8 else d1))

/-- What the admission unit keeps for one slot begins anew. -/
def admSlot (d : Dev) : Dev :=
  { d with adm := { d.adm with causes := [], ended := [], safe := [], crossed := [] }, stk := { d.stk with follow := [] } }

/-- Item 2 of R178 at a slot boundary: the streams with a FOLLOW_ERR or a safe value first (R62, R210), then the ladder over the streams that
remain; all with the lowest DCAUSE of the sources that changed since the previous slot (R184). [log entry 57 DEDUCED] -/
def admDemote (d : Dev) : Dev :=
  if !accepted d then admSlot d
  else
    let follow := d.stk.follow.filter (fun i => (contracted d).contains i)
    let safe := d.adm.safe.filter (fun i => (contracted d).contains i)
    let cause := lowestCause (d.adm.causes ++ (if follow.isEmpty then [] else [5]) ++ (if safe.isEmpty then [] else [6]))
    let d1 := (follow ++ safe.filter (fun i => !follow.contains i)).foldl (fun d i => demote d i cause) (admSlot d)
    bounds (admSums (demoteLoop 64 d1 cause))

/-! ### Policing (R169, R170) -/

def strmOf (d : Dev) (i : Nat) : Strm := d.adm.strm.read (fun _ => {}) i
def setStrm (d : Dev) (i : Nat) (s : Strm) : Dev :=
  { d with adm := { d.adm with strm := d.adm.strm.put (fun _ => {}) i s } }

/-- Depth of a stream's bucket in bytes (R169). -/
def bucketDepth (d : Dev) (i : Nat) : Nat := (rd d (F.STRM_BURST_BURST i) + rd d (F.STRM_CONTRACT_SMAX i)) * 2 ^ 20

/-- Set a bucket level and its mirror in KiB. -/
def setTokens (d : Dev) (i n : Nat) : Dev :=
  wr (setStrm d i { strmOf d i with tokens := n }) (F.STRM_TOKEN_KIB i) (n / 1024)

/-- Course portions of a range of blocks (R140). -/
def portionCount (lba len : Nat) : Nat := if len == 0 then 0 else (lba + len - 1) / 256 - lba / 256 + 1

/-- First block and block count of portion `k` of a range. -/
def portionBlk (lba k : Nat) : Nat := if k == 0 then lba else (lba / 256 + k) * 256
def portionLen (lba len k : Nat) : Nat := min (lba + len) ((lba / 256 + k + 1) * 256) - portionBlk lba k

/-- The bucket test at check 9 of a stream write (R169): the write is within contract, or OVER_CONTRACT is set and counted. -/
def takeTokens (d : Dev) (c : Cmd) : Dev × Bool :=
  if (cOpc c == opWRITE || cOpc c == opGATHER) && cSv c then
    let i := cSid c
    let s := strmOf d i
    if cLen c * 4096 ≤ rd d (F.STRM_CONTRACT_SMAX i) * 2 ^ 20 && cLen c * 4096 ≤ s.tokens then
      (setTokens d i (s.tokens - cLen c * 4096), false)
    else (satAdd d (F.STRM_OVER_COUNT i) 1, true)
  else (d, false)

/-- A write that passed every check joins its stream's line: a within-contract write counts in the horizon, in order of acceptance
(R185). -/
def joinLine (d : Dev) (c : Cmd) : Dev :=
  if (cOpc c == opWRITE || cOpc c == opGATHER) && cSv c && !c.outside then
    let s := strmOf d (cSid c)
    let parts := (List.range (portionCount (cLba c) (cLen c))).map
      (fun k => ⟨c.seq, k, portionLen (cLba c) (cLen c) k * 4096, false⟩)
    setStrm d (cSid c) { s with line := s.line ++ parts }
  else d

/-- TOKEN_FILL (R169): RATE × 10 bytes for each stream, up to the depth. -/
def execTokenFill (s : State) : Host.Outcome State Fault Refusal :=
  let d := s.dev
  finish s (guardDev (serving d) d
    ((openStreams d).foldl (fun d i =>
      setTokens d i (min (bucketDepth d i) ((strmOf d i).tokens + rd d (F.STRM_CONTRACT_RATE i) * 10))) d))

/-! ### The commit horizon (R185, R186) -/

/-- Bytes at the head of the line that are Committed, and the rest. -/
def lineHead : List HorPart → Nat × List HorPart
  | [] => (0, [])
  | p :: l => if p.committed then ((lineHead l).1 + p.bytes, (lineHead l).2) else (0, p :: l)

/-- Advance STRM_HORIZON over committed portions and raise COMMIT when it crosses a multiple of 2^(CGRAN+19), once in a slot. -/
def advanceHorizon (d : Dev) (i : Nat) : Dev :=
  let s := strmOf d i
  let h := lineHead s.line
  if h.1 == 0 then d
  else
    let old := rd64 d (F.STRM_HORIZON i)
    let new := old + h.1
    let n := rd d (F.STRM_CTL_CGRAN i)
    let d1 := wr64 (setStrm d i { s with line := h.2 }) (F.STRM_HORIZON i) new
    if 1 ≤ n && n ≤ 24 && !(old / 2 ^ (n + 19) == new / 2 ^ (n + 19)) && !d.adm.crossed.contains i then
      raise { d1 with adm := { d1.adm with crossed := nins i d1.adm.crossed } } (strmPage i) (8 + i % 16)
    else d1

/-- A portion of a command became Committed. -/
def horizonCommit (d : Dev) (i cmd k : Nat) : Dev :=
  let s := strmOf d i
  advanceHorizon (setStrm d i { s with
    line := updWhere (fun p => p.cmd == cmd && p.portion == k) (fun p => { p with committed := true }) s.line }) i

/-- Portions of a command from `k` on will never be written: they leave the line. -/
def horizonDrop (d : Dev) (i cmd k : Nat) : Dev :=
  let s := strmOf d i
  advanceHorizon (setStrm d i { s with line := s.line.filter (fun p => !(p.cmd == cmd && k ≤ p.portion)) }) i

/-! ### Admission and the end of a stream -/

/-- What the streams that ended in this slot still hold, for the requests judged in it (R178 item 4): the sum of one of their terms. -/
def endedSum (d : Dev) (f : Ended → Nat) : Nat := sumOver (d.adm.ended.map Prod.fst) (fun i => f ((d.adm.ended.get? i).getD {}))

/-- Σ R_s that a STREAM_OPEN and a mode check are judged with (R178 items 3 and 4). -/
def judgedRates (d : Dev) : Nat := sumRates d + endedSum d Ended.rate

/-- Stream numbers in use: open, or of a stream that ended in this slot. -/
def numbersUsed (d : Dev) : List Nat := openStreams d ++ (d.adm.ended.map Prod.fst).filter (fun i => !(openStreams d).contains i)

/-- First failing admission condition of a request, 0 for none (R176, R178). -/
def admitTest (d : Dev) (seat rate smax burst tmin : Nat) : Nat :=
  let l := ((seatOf? d seat).map (fun s => s.fn / 128)).getD 8
  if (numbersUsed d).length ≥ 64 then 4
  else if judgedRates d + rate > rCapCheck d (rd d F.GLB_STAT_MODE) then 1
  else if linkRates d l + endedSum d (fun e => if e.link == l then e.rate else 0) + rate > portRate d l then 1
  else if bSum d + endedSum d Ended.term + bufTerm (tHold d) rate smax burst > dCeilBytes d / 1024 then 2
  else if tSumMiB (tSumRs d + endedSum d Ended.rtmin + rate * tmin) > freeMiB d then 3 else 0

/-- The contract words of a stream are written: their three copies agree (R60). -/
def contractTaken (d : Dev) (i : Nat) : Dev :=
  let b := 0x14000 + 0x1000 * (i / 16) + 0x100 * (i % 16)
  foldUpto 4 (fun k d => tvTaken d (b + 0x40 + 4 * k) false) d

/-- Admit a stream (R167, R188, R189). -/
def admitStream (d : Dev) (i seat vol prio rate smax burst tmin : Nat) : Dev :=
  let d0 := contractTaken d i
  let d1 := { d0 with adm := { d.adm with aseq := d.adm.aseq + 1 } }
  let d2 := wrs d1 [(F.STRM_STAT_OPEN i, 1), (F.STRM_STAT_DEMOTED i, 0), (F.STRM_STAT_DCAUSE i, 0),
    (F.STRM_STAT_PRIO i, prio), (F.STRM_STAT_VOL i, vol), (F.STRM_STAT_SEAT i, seat),
    (F.STRM_CONTRACT_SMAX i, smax), (F.STRM_CONTRACT_RATE i, rate), (F.STRM_BURST_BURST i, burst),
    (F.STRM_TMIN_TMIN i, tmin), (F.STRM_CTL_CGRAN i, 0), (F.STRM_ADMT_T i, now32 d), (F.STRM_ASEQ_SEQ i, d1.adm.aseq)]
  let d3 := setTokens (setStrm d2 i {}) i ((burst + smax) * 2 ^ 20)
  bounds (admSums (raise (loopOpen d3 i rate) (strmPage i) 25))

/-- Clear a stream's slot (R189). -/
def clearSlot (d : Dev) (i : Nat) : Dev :=
  let b := 0x14000 + 0x1000 * (i / 16) + 0x100 * (i % 16)
  foldUpto 16 (fun k d => setActW d (b + 0x40 + 4 * k) 0) (contractTaken d i)

/-- What a stream holds of the admission sums: nothing when it is demoted (R176). -/
def endedOf (d : Dev) (i : Nat) : Ended :=
  if rdB d (F.STRM_STAT_DEMOTED i) then {}
  else { link := strmLink d i, rate := rd d (F.STRM_CONTRACT_RATE i), term := strmTerm d i,
         rtmin := rd d (F.STRM_CONTRACT_RATE i) * rd d (F.STRM_TMIN_TMIN i) }

/-- A stream ends (R189, R190): a STREAM_CLOSE that waited for it completes (R152), its slot is cleared, CLOSE and END are raised,
ADM_ENDED and ADM_ENDLAST name it. It makes no room for requests of the same slot (R178). Causes: 1 STREAM_CLOSE, 2 release, 3 reap,
4 REOPEN. -/
def streamEnd (d : Dev) (i cause : Nat) : Dev :=
  if !rdB d (F.STRM_STAT_OPEN i) then d
  else
    let seat := rd d (F.STRM_STAT_SEAT i)
    let dem := rd d (F.STRM_STAT_DEMOTED i)
    let dc := (d.cmds.list.filter (fun c => cOpc c == opCLOSE && (c.stage == .wait || c.stage == .ready) && cSid c == i)).foldl
      (fun d c => succeed d c) d
    let d0 := { dc with med := { dc.med with ring := dc.med.ring.mapV (fun _ r => if r.stream == some i then { r with stream := none } else r) }
                        adm := { dc.adm with ended := dc.adm.ended.set i (endedOf d i) } }
    let d1 := clearSlot (setStrm (loopClose d0 i) i {}) i
    let d2 := wrs (setBit d1 (F.ADM_ENDED (i / 32)) (i % 32) true) [(F.ADM_ENDLAST_VALID, 1), (F.ADM_ENDLAST_CAUSE, cause),
      (F.ADM_ENDLAST_SEAT, seat), (F.ADM_ENDLAST_DEM, dem), (F.ADM_ENDLAST_STREAM, i)]
    bounds (admSums (raise (raise d2 (strmPage i) 26) 0x13 12))

end Sys2Proof.Machine
end

