-- ==== Sys2Proof/Machine/UpdateOps.lean ====
section
/-!
DEFINITION. Update refusals and the state of a field update (R396, R400, R405, R409, R412, R416).
-/
namespace Sys2Proof.Machine

/-- FWU_STATE codes (R416). -/
def fuEMPTY : Nat := 0
def fuLOADING : Nat := 1
def fuLOADED : Nat := 2
def fuCOMMITTED : Nat := 3
def fuACTIVATING : Nat := 4

def fwuState (d : Dev) : Nat := rd d F.FWU_STATE_STATE

/-- The inactive bank. -/
def targetBank (d : Dev) : Nat := rd d F.FWU_STATE_TARGET

/-- Record a refusal in FWU_REFUSE and raise REFUSED (R405, R416). -/
def updRefused (d : Dev) (opc cause : Nat) : Dev :=
  raise (wrs d [(F.FWU_REFUSE_VALID, 1), (F.FWU_REFUSE_OPC, opc), (F.FWU_REFUSE_CAUSE, cause)]) 0xD 12

/-- A completion with UPDATE_REFUSED records its cause. -/
def noteRefusal (d : Dev) (c : Cmd) (st r : Nat) : Dev := if st == stUPDATE then updRefused d (cOpc c) r else d

/-- Refuse an update command with a cause (R405). [log entry 93 DEDUCED] -/
def updFail (d : Dev) (c : Cmd) (cause : Nat) : Dev := complete (updRefused d (cOpc c) cause) c stUPDATE cause

/-- Causes 1 to 3 of R405. -/
def updCause (d : Dev) : Option Nat :=
  if !(openStreams d).isEmpty then some 1
  else if d.sys.pfailLow || rd d F.PFL_EHOLD_MJ < rd d F.FWU_EMIN_MJ then some 2
  else if rdB d F.GLB_UPDLOCK_LOCK || bankLocked d (targetBank d) then some 3 else none

/-- Cause of the code UPDATE of a raw program or erase (R396). -/
def rawCause (d : Dev) : Option Nat :=
  if !(openStreams d).isEmpty then some 1
  else if d.sys.pfailLow then some 2
  else if rdB d F.GLB_UPDLOCK_LOCK then some 3 else none

/-- A load, commit or activation state of the inactive bank ends (R396, R414). -/
def fwuEmpty (d : Dev) : Dev :=
  wrs d [(F.FWU_STATE_STATE, fuEMPTY), (F.FWU_KEYIDX_VALID, 0)]

/-- A pending migration is set while the running FVER is above the media's format version (R412). [log entry 69 DEDUCED] -/
def setMigpend (d : Dev) : Dev :=
  let h := bankHdr d (rd d F.FWA_BANK_EXEC)
  let pend := rd d F.FWU_MFVER_FVER < h.fver
  wrs d [(F.FWU_STATE_MIGPEND, b2n pend), (F.FWU_MIGT_MS, if pend then h.migms else 0)]

end Sys2Proof.Machine
end

