-- ==== Sys2Proof/Machine/AdminOps.lean ====
section
/-!
DEFINITION. Administration shared by the command checks and the engines: check 8 of R144, and the work that blocks other work
(R104, R107, R110, R153, R426 to R430).
-/
namespace Sys2Proof.Machine

/-- ADMIN_PROG.OP codes: 1 and 2 sanitise, 3 format, 4 media initialisation. -/
def adminOp (d : Dev) : Nat := rd d F.ADMIN_PROG_OP
def adminBusy (d : Dev) : Bool := rdB d F.ADMIN_PROG_BUSY
def sanitising (d : Dev) : Bool := adminBusy d && (adminOp d == 1 || adminOp d == 2)
def formatting (d : Dev) : Bool := adminBusy d && adminOp d == 3

/-- An HBM hard repair burns its fuse (R385). -/
def hardRepairing (d : Dev) : Bool := match d.mem.repair with
  | some (_, k) => k == 1
  | none => false

/-- SANITISE, HBM hard repair or firmware activation runs (R107, R110). -/
def maintainWork (d : Dev) : Bool := sanitising d || hardRepairing d || d.cmds.activating

/-- Accepted with NEWMEDIA 1 and no media record: the media wait for the first FORMAT (R430). -/
def newMedia (d : Dev) : Bool := accepted d && rdB d F.CFG_CTRL_NEWMEDIA && !d.med.nand.formatted

/-- Field check of LOG_READ (R433, R435). -/
def logFieldBad (c : Cmd) : Option Nat :=
  let sel := bitsOf (cOp c 0) 0 4
  if sel ≥ 2 then some 0x28
  else if sel == 1 && !(cLba c == 0) then some 0x08
  else if sel == 1 && !(cLen c == 1 || cLen c == 0) then some 0x10
  else none

/-- Mode MAINTAIN is in force. -/
def inMaintain (d : Dev) : Bool := rd d F.GLB_STAT_MODE == 4

/-- MODE_REFUSED conditions on an opcode while an administrative operation runs or the media wait (R153, R428 to R430). -/
def adminRefuses (d : Dev) (c : Cmd) : Bool :=
  let o := cOpc c
  let range := isReadKind c || isWriteKind c
  (sanitising d && (range || o == opOPEN || o == opKEYLOAD || o == opVOLSET || o == opFORMAT || o == opSANITISE))
    || (formatting d && (((range || o == opOPEN || o == opVOLSET) && cVol c == rd d F.ADMIN_PROG_VOL) || o == opFORMAT || o == opSANITISE))
    || ((newMedia d || (adminBusy d && adminOp d == 4)) && !(o == opFWLOAD || o == opLOG || (o == opFORMAT && !adminBusy d)))
    || (d.admin.noMedia && o < 0x40)

/-- Conditions of R153 on the mode and on streams. -/
def modeRefuses (d : Dev) (c : Cmd) : Bool :=
  let o := cOpc c
  if o == opSANITISE || o == opFWACT then !inMaintain d || !(openStreams d).isEmpty
  else if o == opFORMAT then inRecover d || (openStreams d).any (fun i => rd d (F.STRM_STAT_VOL i) == cVol c)
  else if o == opVOLSET then inRecover d
  else false

/-- Check 8 of R144: the status and RESULT of the failing condition. -/
def adminCheck (d : Dev) (c : Cmd) : Option (Nat × Nat) :=
  let o := cOpc c
  if adminRefuses d c || modeRefuses d c then some (stMODE, 0)
  else if o == opFWLOAD || o == opFWCOMMIT || o == opFWACT then (updCause d).map (fun k => (stUPDATE, k))
  else none

end Sys2Proof.Machine
end

