-- ==== Sys2Proof/Machine/NandCmds.lean ====
section
/-!
DEFINITION. What the controller issues on the NAND interface and what it programs into a page (R294 to R296, R302, R304, R309, R310, R313,
R316). The order of cycles within an operation follows the opcode table of R296; that of a vendor-defined operation is its opcodes only.
[log entry 156 DEDUCED]
-/
namespace Sys2Proof.Machine

/-- Cycles are issued to a LUN. -/
def nandOut (d : Dev) (l : Nat) (c : List NandCyc) : Dev := if c.isEmpty then d else emit d (.nand l c)

/-! ### Pages (R309, R310, R316) -/

/-- A codeword as it is stored at a place: the scrambled payload and its parity. [log entries 120 DESIGN CHOICE; 157 DESIGN CHOICE] -/
def cwStored (lun plane block page k : Nat) (payload : List Nat) : List Nat :=
  let x := scramble (scrambleSeed lun plane block page k) payload
  x ++ (List.range 448).map (fun i => Config.ldpcParity x i)

/-- The bytes of a page with its spare bytes: four codewords, then 0xFF. -/
def pageImage (d : Dev) (lun plane block page : Nat) (payloads : List (List Nat)) : List Nat :=
  (payloads.zipIdx.flatMap (fun e => cwStored lun plane block page e.2 e.1)) ++ List.replicate (rd d F.MEDIA_GEOM2_SPARE - 2048) 0xFF

/-- Ciphertext of a block of an extent (R335). [log entry 9 DESIGN CHOICE] -/
def cipherBytes (e : Extent) (i : Nat) : List Nat :=
  let ctr := if e.tag.blkSeal then e.tag.ctr + i else e.tag.ctr
  leBytes 4096 (Config.cipherBlock e.tag.key (gcmNonce e.tag.salt ctr) (if e.tag.blkSeal then 0 else i) (e.data.getD i 0)).toNat

/-- Codewords of a chunk that lie before a part of it. -/
def partBefore (c : Chunk) (p : Nat × Nat × Nat) : Nat := ((c.parts.takeWhile (fun x => !(x == p))).map (fun x => x.2.2)).foldl (· + ·) 0

/-- The 4,096 data bytes of a data codeword of a batten: of a chunk, of an extent, of a pad. -/
def cwBytes (d : Dev) (b off : Nat) : List Nat :=
  match (d.med.nand.chunks ++ d.med.chunkNow.toList).findSome? (fun c =>
      (c.parts.find? (fun p => p.1 == b && p.2.1 ≤ off && off < p.2.1 + p.2.2)).map (fun p => (c, p))) with
  | some (c, p) =>
    let l := ((chunkBytes d c c.crc).drop ((partBefore c p + (off - p.2.1)) * 4096)).take 4096
    l ++ List.replicate (4096 - l.length) 0
  | none => match extOver? d b off with
    | some (o, e) => if off - o < e.tag.n then cipherBytes e (off - o) else List.replicate 4096 0
    | none => List.replicate 4096 0

/-- Payload of a data codeword of a batten: data and tag. -/
def cwPayload (d : Dev) (b off : Nat) : List Nat := cwBytes d b off ++ tagBytes (tagAt d b off)

/-- First data codeword of the unit at a data position of a stripe. -/
def unitFirst (d : Dev) (stripe pos : Nat) : Nat :=
  (stripe * (batW d - 1) + (if pos < stripe % batW d then pos else pos - 1)) * cuOf d

/-- Slot `q` of a stripe's accumulator: the XOR of codeword `q` of the stripe's data and pad units that were placed; a failed unit is
taken as zero (R316, R318). -/
def accSlot (d : Dev) (b stripe q : Nat) : List Nat :=
  ridgePayload (((List.range (batW d)).filter (fun p => !(p == stripe % batW d) && ((batOf d b).wseq.get? (64 * stripe + p)).isSome
    && !(batOf d b).failed.contains (stripe, p))).map (fun p => cwPayload d b (unitFirst d stripe p + q)))

/-- Payload of codeword `q` of a unit: of a data unit, or, at the ridge position, of the accumulator, whose tags are the XOR of the tags it
covers. -/
def unitPayload (d : Dev) (b stripe pos q : Nat) : List Nat :=
  if pos == stripe % batW d then accSlot d b stripe q else cwPayload d b (unitFirst d stripe pos + q)

/-! ### Operations (R296) -/

/-- READ STATUS ENHANCED, with which the end of every operation is found. -/
def statusCyc (plane block page : Nat) : List NandCyc := [.cmd 0x78, .row plane block page]

/-- A multi-plane sequence over the planes of a LUN: what starts each plane, and its last cycle but for the last plane, and of that one. -/
def overPlanes (d : Dev) (start : Nat → List NandCyc) (more end_ : Nat) : List NandCyc :=
  (List.range (rd d F.MEDIA_GEOM0_Q)).flatMap (fun p => start p ++ [.cmd (if p + 1 == rd d F.MEDIA_GEOM0_Q then end_ else more)])

/-- BLOCK ERASE of a member; in SLC mode with the prefix. -/
def eraseCyc (d : Dev) (slc : Bool) (block : Nat) : List NandCyc :=
  (if slc then [.cmd (rd d F.MEDIA_OPC1_SLCP)] else []) ++ overPlanes d (fun p => [.cmd 0x60, .row p block 0]) 0xD1 0xD0 ++ statusCyc 0 block 0

/-- PAGE PROGRAM of a program unit over all planes. -/
def progCyc (d : Dev) (b stripe pos : Nat) : List NandCyc :=
  let m := memberAt d b pos
  let q := rd d F.MEDIA_GEOM0_Q
  (List.range (rd d F.MEDIA_GEOM0_L)).flatMap (fun i =>
    let page := stripe * rd d F.MEDIA_GEOM0_L + i
    overPlanes d (fun p => [.cmd 0x80, .row p m.2 page,
      .data (pageImage d m.1 p m.2 page ((List.range 4).map (fun k => unitPayload d b stripe pos (4 * (i * q + p) + k))))]) 0x11 0x10)
    ++ statusCyc 0 m.2 (stripe * rd d F.MEDIA_GEOM0_L)

/-- PAGE PROGRAM of one page in SLC mode. -/
def slcCyc (d : Dev) (lun block page : Nat) (payloads : List (List Nat)) : List NandCyc :=
  let p := page % max 1 (rd d F.MEDIA_GEOM0_Q)
  let n := page / max 1 (rd d F.MEDIA_GEOM0_Q)
  [.cmd (rd d F.MEDIA_OPC1_SLCP), .cmd 0x80, .row p block n, .data (pageImage d lun p block n payloads), .cmd 0x10] ++ statusCyc p block n

/-- Set a feature of a LUN. -/
def featCyc (addr v : Nat) : List NandCyc := [.cmd 0xD5, .feat addr v]

/-- Where a program unit lies: its batten's mode, its block, its stripe. -/
structure UnitAt where
  slc : Bool
  block : Nat
  stripe : Nat

def unitAt (d : Dev) (b stripe pos : Nat) : UnitAt := ⟨(batOf d b).role == .system, (memberAt d b pos).2, stripe⟩

/-- Plane, page and codeword of codeword `q` of a unit. -/
def cwPlace (d : Dev) (u : UnitAt) (q : Nat) : Nat × Nat × Nat :=
  (q / 4 % rd d F.MEDIA_GEOM0_Q, u.stripe * (if u.slc then 1 else rd d F.MEDIA_GEOM0_L) + q / 4 / rd d F.MEDIA_GEOM0_Q, q % 4)

/-- The pages of a unit that hold wanted codewords, by page number. -/
def pagesWanted (d : Dev) (u : UnitAt) (qs : List Nat) : List Nat :=
  qs.foldl (fun acc q => nins (cwPlace d u q).2.1 acc) []

/-- Select each wanted codeword of a page (CHANGE READ COLUMN ENHANCED). -/
def columnCyc (d : Dev) (u : UnitAt) (page : Nat) (qs : List Nat) : List NandCyc :=
  (qs.filter (fun q => (cwPlace d u q).2.1 == page)).flatMap (fun q =>
    [.cmd 0x06, .row (cwPlace d u q).1 u.block page, .col (4608 * (q % 4)), .cmd 0xE0])

/-- PAGE READ of the wanted codewords of a unit, multi-plane; with `cache`, its consecutive pages by CACHE READ. -/
def readCyc (d : Dev) (u : UnitAt) (qs : List Nat) (cache : Bool) : List NandCyc :=
  let ps := pagesWanted d u qs
  let planes := fun (page : Nat) => (qs.filter (fun q => (cwPlace d u q).2.1 == page)).foldl (fun acc q => nins (cwPlace d u q).1 acc) []
  let fetch := fun (page : Nat) => (if u.slc then [NandCyc.cmd (rd d F.MEDIA_OPC1_SLCP)] else []) ++ (planes page).zipIdx.flatMap (fun e =>
    [NandCyc.cmd 0x00, .row e.1 u.block page, .cmd (if e.2 + 1 == (planes page).length then 0x30 else 0x32)]) ++ statusCyc 0 u.block page
  if cache && ps.length > 1 then
    fetch (ps.headD 0) ++ ps.zipIdx.flatMap (fun e => [NandCyc.cmd (if e.2 + 1 == ps.length then 0x3F else 0x31)] ++ columnCyc d u e.1 qs)
  else ps.flatMap (fun page => fetch page ++ columnCyc d u page qs)

/-- One LUN of a target. -/
def targetLun (c t : Nat) : Nat := 64 * c + 4 * t

/-- The steps of a training up to step `upto`, on the targets of a map; from SWITCH on, on those that pass (R302). -/
def trainCyc (d : Dev) (c t upto rate : Nat) (passed : Bool) : List NandCyc :=
  let step := fun (n : Nat) (l : List NandCyc) => if n ≤ upto && (n ≤ 3 || passed) then l else []
  step 1 [.cmd 0xFF] ++ step 2 [.cmd 0xE1, .vol (t % 4), .cmd 0xF9] ++ step 3 [.cmd 0xE1, .vol (t % 4), .cmd 0x90, .cmd 0xEC]
    ++ step 4 ([.cmd 0xEF] ++ (if rate ≥ 9 then [.feat (rd d F.MEDIA_OPC2_XTFA) rate] else [.feat (rd d F.MEDIA_OPC2_TMFA) rate])
      ++ [.cmd 0xEF, .feat 0x10 (rd d (F.CHN_DRV_NDRV c)), .cmd 0xE2, .feat 0 (rd d (F.CHN_DRV_NODT c)), .cmd 0xEE])
    ++ step 5 [.cmd 0x62] ++ step 6 [.cmd 0x63, .cmd 0x64]

/-- The cycles of a training go to every target of the map. -/
def trainOut (d : Dev) (c upto rate passed : Nat) : Dev :=
  ((List.range 16).filter (fun t => bitOf (rd d (F.CHN_MAP_TGT c)) t)).foldl (fun d t =>
    nandOut d (targetLun c t) (trainCyc d c t upto rate (bitOf passed t))) d

end Sys2Proof.Machine
end

