-- ==== Sys2Proof/Machine/WriteOps.lean ====
section
/-!
DEFINITION. The write path: reservation of ring space, sealing, SEQ and the map, assembly of units into open battens, and the
commit (R26 to R30, R146, R240 to R247, R264, R271, R273).
-/
namespace Sys2Proof.Machine

/-! ### The dirty count (R171, R221) -/

/-- Bytes of a portion of a command. -/
def portBytes (c : Cmd) (k : Nat) : Nat := portLen (cLba c) (cLen c) k * 4096

/-- The command is a within-contract write of a contracted stream now. -/
def contractWrite (d : Dev) (c : Cmd) : Bool :=
  (cOpc c == opWRITE || cOpc c == opGATHER) && cSv c && !c.outside && rdB d (F.STRM_STAT_OPEN (cSid c))
    && !rdB d (F.STRM_STAT_DEMOTED (cSid c))

/-- Portions of a command that are issued and not sealed. -/
def openPortions (c : Cmd) : List Nat := (List.range (c.prog.issued - c.prog.done)).map (· + c.prog.done)

/-- Bytes a command has reserved and not sealed: of the portions being pulled or sealed, or of the course a DISCARD rewrites (R221,
R259). -/
def reservedBytes (c : Cmd) : Nat :=
  if isDataWrite c then sumOver (openPortions c) (portBytes c)
  else if c.prog.issued > c.prog.done && cOpc c == opDISCARD then 1048576 else 0

/-- A ring slot holds data of a contracted stream. -/
def slotContracted (d : Dev) (r : RingSlot) : Bool :=
  match r.stream with
  | some i => rdB d (F.STRM_STAT_OPEN i) && !rdB d (F.STRM_STAT_DEMOTED i)
  | none => false

/-- Dirty bytes of the ring that a test selects. -/
def ringDirty (d : Dev) (p : RingSlot → Bool) : Nat :=
  ((d.med.ring.filter (fun e => p e.2)).map (fun e => e.2.ext.tag.n * 4096)).foldl (· + ·) 0

/-- The dirty count (R221). Slots of a fold in progress are not dirty (R232): they are not ring slots in the model. -/
def dirtyBytes (d : Dev) : Nat := ringDirty d (fun _ => true) + (d.cmds.list.map reservedBytes).foldl (· + ·) 0

/-- Dirty bytes of one contracted stream. -/
def streamDirty (d : Dev) (i : Nat) : Nat :=
  ringDirty d (fun r => slotContracted d r && r.stream == some i)
    + ((d.cmds.list.filter (fun c => contractWrite d c && cSid c == i)).map reservedBytes).foldl (· + ·) 0

/-- Dirty bytes that count against the bulk part (R171). -/
def bulkDirty (d : Dev) : Nat :=
  let own := sumOver (contracted d) (fun i => min (streamDirty d i) (strmTerm d i * 1024))
  dirtyBytes d - own

/-- Ring space for a further reservation (R27, R171, R221). -/
def roomFor (d : Dev) (c : Cmd) (bytes : Nat) : Bool :=
  let all := dirtyBytes d + bytes ≤ dCeilBytes d
  if contractWrite d c then all
  else all && bulkDirty d + bytes ≤ dCeilBytes d - bSum d * 1024

/-! ### Data -/

/-- A block of the pattern of WRITE_FILL (R149). -/
def fillBlock (op0 op1 : Nat) : Block :=
  let p := op0 + 2 ^ 32 * op1
  BitVec.ofNat 32768 ((2 ^ 32768 - 1) / (2 ^ 64 - 1) * p)

/-- Course key, first block and length of portion `k`. -/
def portKey (c : Cmd) (k : Nat) : Nat := courseKey (cVol c) (cLba c / 256 + k)
def portFirst (c : Cmd) (k : Nat) : Nat := if k == 0 then cLba c % 256 else 0

/-- The portion is a whole course. -/
def wholePort (c : Cmd) (k : Nat) : Bool := portLen (cLba c) (cLen c) k == 256

/-! ### Issue and pause of a transfer -/

/-- The course has no fine block. -/
def lacksFine (d : Dev) (key : Nat) : Bool :=
  match mapEnt d.med.m key with
  | .fine _ => false
  | _ => true

/-- Sub-course portions whose pull is issued and that are not sealed: the command and the portion. -/
def patchIssued (d : Dev) : List (Cmd × Nat) :=
  (d.cmds.list.filter isDataWrite).flatMap (fun c => ((openPortions c).filter (fun k => !wholePort c k)).map (fun k => (c, k)))

/-- Patch extents of the ring that are not in a patch batten yet. -/
def patchRing (d : Dev) : List RingSlot := (d.med.ring.filter (fun e => e.2.ext.tag.patch && !e.2.placed)).map Prod.snd

/-- Blocks of patch data on their way to the patch area. -/
def patchPending (d : Dev) : Nat :=
  ((patchIssued d).map (fun e => portLen (cLba e.1) (cLen e.1) e.2)).foldl (· + ·) 0 + ((patchRing d).map (fun r => r.ext.tag.n)).foldl (· + ·) 0

/-- Courses that portions admitted before will give a fine block. -/
def finePending (d : Dev) : List Nat :=
  (((patchIssued d).map (fun e => portKey e.1 e.2)) ++ ((patchRing d).filter (fun r => !r.live)).map
    (fun r => courseKey r.ext.tag.vol r.ext.tag.course)).foldl (fun acc k => if lacksFine d k then nins k acc else acc) []

/-- A sub-course portion has to wait for the patch area (R241): with what is admitted before it, its extent would exceed MAP_PLIM, or
no fine block would be left. -/
def patchWait (d : Dev) (c : Cmd) (k : Nat) : Bool :=
  let key := portKey c k
  !wholePort c k && (patchBlocks d + patchPending d + portLen (cLba c) (cLen c) k > mapPlim d * 256
    || (lacksFine d key && !(finePending d).contains key && fineUsed d + (finePending d).length ≥ fineTotal d))

/-- The portion of a DISCARD has to be rewritten: the fine map is absent and a part of a mapped course is discarded (R259). -/
def discardRewrites (d : Dev) (c : Cmd) (k : Nat) : Bool :=
  fineAbsent d && !wholePort c k && !(mapEnt d.med.m (portKey c k) == .un)

/-- Fine blocks that the portions of a DISCARD from `k` on need and do not have, at most two. -/
def fineNeed (d : Dev) (c : Cmd) (k : Nat) : Nat :=
  ((List.range (cPortions c)).filter (fun i => k ≤ i && (cLen c ≤ 256 || i == k) && !fineAbsent d && !wholePort c i
    && !(mapEnt d.med.m (portKey c i) == .un) && lacksFine d (portKey c i))).length

/-- A DISCARD waits for fine blocks (R241, R259). -/
def fineWait (d : Dev) (c : Cmd) (k : Nat) : Bool := fineNeed d c k > 0 && fineUsed d + (finePending d).length + fineNeed d c k > fineTotal d

/-- A command begins to wait: PFULL for the patch area, PAUSE for a transfer (R27, R234, R241). -/
def pauseCmd (d : Dev) (c : Cmd) (patch transfer : Bool) : Dev :=
  let d1 := modCmd d c.seq (fun x => { x with stage := .paused })
  let d2 := if patch && !rdB d1 F.MAP_STAT_PFULL then raise (wr d1 F.MAP_STAT_PFULL 1) 0x20 8 else d1
  if transfer && !(c.stage == .paused) then raise (wr d2 F.BUF_STAT_PAUSE 1) 0x1F 9 else d2

/-- Issue the pull of the next portion, or pause (R27, R221, R241): one pull of a command at a time, while the portions before it are
sealed (R26). WRITE_FILL makes its data at once, a portion after the seal of the one before. A larger write that is to end pulls nothing
further (R163). A command that has not started does not start while an activation or a REOPEN holds commands (R165). [log entry 45
DEDUCED] -/
def issueNext (d : Dev) (seq : Nat) : Dev :=
  match cmdOf? d seq with
  | none => d
  | some c =>
    let k := c.prog.issued
    let reaping := ((seatOf? d c.seat).bind Seat.reapAt).isSome || c.orphan
    let held := c.prog.issued == 0 && (d.cmds.activating || d.cmds.reopening)
    let busy := k > c.prog.pulled || (cOpc c == opFILL && k > c.prog.done) || (cLen c > 256 && c.ending.isSome)
    if busy || k ≥ cPortions c || reaping || held then d
    else if patchWait d c k then pauseCmd d c true true
    else if roomFor d c (portBytes c k) then
      let fill := cOpc c == opFILL
      modCmd d seq (fun x => { x with
        stage := .run
        prog := { x.prog with issued := k + 1, pulled := if fill then k + 1 else x.prog.pulled,
                              data := if fill then List.replicate (portLen (cLba c) (cLen c) k) (fillBlock (cOp c 0) (cOp c 1)) else x.prog.data } })
    else pauseCmd d c false true

/-- BUF_STAT.PAUSE and MAP_STAT.PFULL follow the commands that wait: a DISCARD transfers nothing (R234, R241). -/
def pauseFlags (d : Dev) : Dev :=
  let waiting := d.cmds.list.filter (fun c => c.stage == .paused)
  let d1 := wr d F.BUF_STAT_PAUSE (b2n (waiting.any isDataWrite))
  if waiting.any (fun c => if isDataWrite c then patchWait d c c.prog.issued else fineWait d c c.prog.done) then d1
  else wr d1 F.MAP_STAT_PFULL 0

/-! ### Open battens (R271 to R273) -/

/-- Open battens a writer may hold (R271). -/
def openLimit (d : Dev) (w : Writer) : Nat :=
  let per := 9 * (batW d - 1) * rd d F.MEDIA_RPROG_MBS
  match w with
  | .stream s => if per == 0 then 1 else max 1 (ceilDiv (rd d (F.STRM_CONTRACT_RATE s) * 100) per)
  | .bulk => if per == 0 then 1 else max 1 (ceilDiv ((rd d F.ADM_RMODE_RMODE - rd d F.ADM_SUMR_SUMR) * 100) per)
  | _ => 1

/-- Open battens of a writer that take further extents. -/
def openOf (d : Dev) (w : Writer) : List Nat := batsWhere d (fun _ v => v.st == .opened && v.role == w && !v.sealed)

/-- User blocks of extents assigned to codewords [lo, hi) of a batten. -/
def userCw (d : Dev) (b lo hi : Nat) : Nat :=
  let part := fun (bat off n : Nat) => if bat == b then min hi (off + n) - max lo off else 0
  (d.med.ring.map (fun e => part e.2.batten e.2.off e.2.ext.tag.n)).foldl (· + ·) 0
    + (d.med.reloc.map (fun e => part e.2.batten e.2.off e.2.ext.tag.n)).foldl (· + ·) 0

/-- Units completed by moving the write pointer from `lo` to `hi` go to the work list, with the ridge after the last data unit
of each stripe (R197, R264). [log entry 61 DEDUCED] -/
def emitUnits (d : Dev) (b lo hi cls : Nat) : Dev :=
  let cu := cuOf d
  if cu == 0 || batW d ≤ 1 then d
  else
    let w := (batOf d b).role
    let units := (List.range (hi / cu - lo / cu)).map (· + lo / cu)
    let ws := units.flatMap (fun u =>
      let s := u / (batW d - 1)
      let m := u % (batW d - 1)
      let unit : Work := { w := w, cls := cls, batten := b, stripe := s, pos := posOf (batW d) s m,
                           bytes := userCw d b (u * cu) ((u + 1) * cu) * 4096 }
      if m + 1 == batW d - 1 then
        [unit, { w := w, cls := cls, batten := b, stripe := s, pos := s % batW d, bytes := 0, ridge := true }]
      else [unit])
    { d with med := { d.med with work := d.med.work ++ ws } }

/-- Fill a batten with pad pages up to the next multiple of `n` codewords; they are counted (R29, R196, R273). [log entry 62 DEDUCED] -/
def padTo (d : Dev) (b n cls : Nat) : Dev :=
  let v := batOf d b
  if n == 0 || v.wptr % n == 0 then d
  else
    let upto := (v.wptr / n + 1) * n
    let d1 := satAdd (modBat d b (fun v => { v with wptr := upto, sealed := v.sealed || upto ≥ batCw d })) F.GC_PADP_COUNT ((upto - v.wptr) / 4)
    emitUnits d1 b v.wptr upto cls

/-- Close the current stripe of a batten with pad pages, or only the current unit. -/
def padClose (d : Dev) (b cls : Nat) : Dev := padTo d b (stripeCw d) cls
def padUnit (d : Dev) (b cls : Nat) : Dev := padTo d b (cuOf d) cls

/-- A sealed batten with every unit of its stripes passed or failed becomes CLOSED, or a victim when it has a cause. -/
def settleBat (d : Dev) (b : Nat) : Dev :=
  let v := batOf d b
  let n := stripeCw d
  let need := if n == 0 then 0 else v.wptr / n * batW d
  if v.st == .opened && v.sealed && (n == 0 || v.wptr % n == 0) && v.passed.length + v.failed.length ≥ need then
    sysPut (modBat d b (fun v => { v with st := if v.vcls == 0 then .closed else .victim, passed := [], cseq := rd64 d F.MAP_WSEQ })) [recKey 3 b]
  else d

/-- Close a batten early (R273). -/
def closeBat (d : Dev) (b cls : Nat) : Dev :=
  if (batOf d b).st == .opened then settleBat (modBat (padClose d b cls) b (fun v => { v with sealed := true })) b else d

/-- Close every open batten of a writer. -/
def closeWriter (d : Dev) (w : Writer) (cls : Nat) : Dev := (openOf d w).foldl (fun d b => closeBat d b cls) d

/-- The open batten a writer places `cw` codewords on: a new one while it holds fewer than its share and the window has one,
else the one with the lowest write pointer. Battens without room close. -/
def batFor (d : Dev) (w : Writer) (cw cls : Nat) : Option (Dev × Nat) :=
  let d1 := ((openOf d w).filter (fun b => (batOf d b).wptr + cw > batCw d)).foldl (fun d b => closeBat d b cls) d
  let have_ := openOf d1 w
  let best := have_.foldl (fun acc b => match acc with
    | none => some b
    | some a => if (batOf d1 b).wptr < (batOf d1 a).wptr then some b else some a) none
  if have_.length < openLimit d1 w then
    match openBatten d1 w with
    | some r => some r
    | none => best.map (fun b => (d1, b))
  else best.map (fun b => (d1, b))

/-- Append an extent to a batten: its offset, the write pointer moves, complete units become work. [log entry 61 DEDUCED] -/
def appendExt (d : Dev) (b n cls : Nat) (assign : Dev → Nat → Dev) : Dev :=
  let v := batOf d b
  let upto := v.wptr + extCw n
  let d1 := assign (modBat d b (fun v => { v with wptr := upto, sealed := v.sealed || upto ≥ batCw d, idleAt := none })) v.wptr
  emitUnits d1 b v.wptr upto cls

/-- Writer and class of a ring slot's data: its stream while that is contracted, else patch or bulk (R271, R170). -/
def slotWriter (d : Dev) (r : RingSlot) : Writer × Nat :=
  match r.stream with
  | some s => if slotContracted d r then (.stream s, 2) else (.bulk, 4)
  | none => (if r.ext.tag.patch then .patch else .bulk, 4)

/-- Assign a live ring slot to its writer's open batten; it waits when no batten can open. [log entry 61 DEDUCED] -/
def placeSlot (d : Dev) (id cls0 : Nat) : Dev :=
  match d.med.ring.get? id with
  | none => d
  | some r =>
    let wc := slotWriter d r
    let cls := if cls0 == 0 then wc.2 else cls0
    match batFor d wc.1 (extCw r.ext.tag.n) cls with
    | none => { d with med := { d.med with waitOpen := if d.med.waitOpen.contains id then d.med.waitOpen else d.med.waitOpen ++ [id] } }
    | some (d1, b) =>
      appendExt { d1 with med := { d1.med with waitOpen := ndel id d1.med.waitOpen } } b r.ext.tag.n cls
        (fun d off => { d with med := { d.med with ring := d.med.ring.set id { r with batten := b, off := off, placed := false, cls := cls } } })

/-- Class that the data of a ring slot is placed in now: a stream that is no longer contracted has class 4 (R196). -/
def slotCls (d : Dev) (r : RingSlot) : Nat := if r.cls == 2 && !slotContracted d r then 4 else r.cls

/-- Class of the data that pad pages close: the highest class in the current stripe of a batten (R197). -/
def padClass (d : Dev) (b : Nat) : Nat :=
  let v := batOf d b
  let s := offStripe d v.wptr
  let rs := (d.med.ring.filter (fun e => e.2.batten == b && offStripe d (e.2.off + extCw e.2.ext.tag.n - 1) == s)).map (fun e => slotCls d e.2)
  let gs := (d.med.reloc.filter (fun e => e.2.batten == b && offStripe d (e.2.off + extCw e.2.ext.tag.n - 1) == s)).map (fun e => e.2.cls)
  let least := match v.role with
    | .stream i => if (contracted d).contains i then 2 else 4
    | .gc => 3
    | .journal => 1
    | .system => 1
    | _ => 4
  match rs ++ gs with
  | [] => least
  | c :: l => l.foldl min c

/-- Assign a relocation slot to a GC batten, in its class. -/
def placeReloc (d : Dev) (id : Nat) : Dev :=
  match d.med.reloc.get? id with
  | none => d
  | some r =>
    match batFor d .gc (extCw r.ext.tag.n) r.cls with
    | none => { d with med := { d.med with waitReloc := if d.med.waitReloc.contains id then d.med.waitReloc else d.med.waitReloc ++ [id] } }
    | some (d1, b) =>
      appendExt { d1 with med := { d1.med with waitReloc := ndel id d1.med.waitReloc } } b r.ext.tag.n r.cls
        (fun d off => { d with med := { d.med with reloc := d.med.reloc.set id { r with batten := b, off := off } } })

/-- Extents that waited for an open batten are tried again. -/
def placeWaiting (d : Dev) : Dev :=
  d.med.waitReloc.foldl placeReloc (d.med.waitOpen.foldl (fun d i => placeSlot d i 0) d)

/-! ### Map updates (R239, R240, R244) -/

/-- Lowest fine-block index not in use. -/
def freeFine (m : MapSt) : Nat :=
  let used := m.map.filterMap (fun e => match e.2 with
    | .fine i => some i
    | _ => none)
  ((List.range (used.length + 1)).find? (fun i => !used.contains i)).getD 0

/-- Fine entries that a course entry stands for. -/
def spreadEnt (e : MapEnt) : SMap FineEnt :=
  match e with
  | .course b o k bs _ => (List.range 256).map (fun i => (i, .loc false b o i k bs))
  | .ring s k => (List.range 256).map (fun i => (i, .ring s i k))
  | _ => []

/-- Give a course a fine block, filled from its entry (R240). -/
def ensureFine (m : MapSt) (k : Nat) : MapSt :=
  match mapEnt m k with
  | .fine _ => m
  | e => { map := m.map.set k (.fine (freeFine m)), fine := m.fine.put (fun _ => []) k (spreadEnt e) }

/-- Set a course entry that is not FINE, freeing its fine block. -/
def setCourse (m : MapSt) (k : Nat) (e : MapEnt) : MapSt :=
  { map := m.map.put (fun _ => .un) k e, fine := m.fine.erase k }

/-- A course whose fine block is all UNMAPPED becomes UNMAPPED (R259). -/
def tidyFine (m : MapSt) (k : Nat) : MapSt :=
  match mapEnt m k with
  | .fine _ => if (fineOf m k).isEmpty then setCourse m k .un else m
  | _ => m

/-- Write fine entries of blocks `blk` to `blk + n − 1`. -/
def setFine (m : MapSt) (k blk n : Nat) (f : Nat → FineEnt) : MapSt :=
  let m1 := ensureFine m k
  { m1 with fine := m1.fine.put (fun _ => [])  k (foldUpto n (fun i l => l.put (fun _ => FineEnt.un) (blk + i) (f i)) (fineOf m1 k)) }

/-- The entries of an extent become RING (R244). -/
def setRing (m : MapSt) (t : ExtTag) (slot : Nat) : MapSt :=
  let k := courseKey t.vol t.course
  if t.patch then setFine m k t.blk t.n (fun i => .ring slot i t.kgen) else setCourse m k (.ring slot t.kgen)

/-- The blocks of an extent whose entries still name a ring slot. -/
def ringBlocks (m : MapSt) (t : ExtTag) (slot : Nat) : List Nat :=
  let k := courseKey t.vol t.course
  match mapEnt m k with
  | .ring s _ => if s == slot then (List.range t.n).map (· + t.blk) else []
  | .fine _ => (fineOf m k).filterMap (fun e => match e.2 with
      | .ring s _ _ => if s == slot then some e.1 else none
      | _ => none)
  | _ => []

/-! ### SEQ, protection and completion (R243, R244) -/

/-- The flash entry that a ring slot keeps for a block of its course. -/
def keptFor (r : RingSlot) (i : Nat) : FineEnt :=
  match r.wasEnt with
  | .course b o k bs _ => .loc false b o i k bs
  | _ => r.wasFine.read (fun _ => .un) i

/-- A fine entry with a RING entry carried back to the last one that had a flash location. -/
def lastFlash (d : Dev) (i : Nat) : FineEnt → FineEnt
  | .ring s _ _ => ((d.med.ring.get? s).map (fun r => keptFor r i)).getD .un
  | e => e

/-- What the RING entries of an extent replace (R244). -/
def replacedBy (d : Dev) (t : ExtTag) : MapEnt × SMap FineEnt :=
  let k := courseKey t.vol t.course
  let byBlock := fun (f : Nat → FineEnt) => (List.range t.n).foldl (fun (m : SMap FineEnt) i => m.put (fun _ => .un) (t.blk + i) (f (t.blk + i))) []
  match mapEnt d.med.m k with
  | .un => (.un, [])
  | .course b o kg bs mv => if t.patch then (.un, byBlock (fun i => .loc false b o i kg bs)) else (.course b o kg bs mv, [])
  | .ring s _ => match d.med.ring.get? s with
    | none => (.un, [])
    | some r => if t.patch then (.un, byBlock (keptFor r)) else (r.wasEnt, r.wasFine)
  | .fine _ => (.un, byBlock (fun i => lastFlash d i (fineEnt d.med.m k i)))

/-- A batten holds data that a RING entry hides: it stays until the new version is Committed (R244, R260). -/
def hiddenIn (d : Dev) (b : Nat) : Bool :=
  d.med.ring.any (fun e => e.2.live && ((match e.2.wasEnt with
    | .course b0 _ _ _ _ => b0 == b
    | _ => false) || e.2.wasFine.any (fun f => match f.2 with
    | .loc _ b0 _ _ _ _ => b0 == b
    | _ => false)))

/-- A command's SEQ order within its seat: no earlier uncompleted write-kind command of the seat overlaps (R244). -/
def seatOrderOk (d : Dev) (c : Cmd) (k : Nat) : Bool :=
  let lo := (cLba c / 256 + k) * 256 + portFirst c k
  let hi := lo + portLen (cLba c) (cLen c) k
  !(d.cmds.list.any (fun x => x.seat == c.seat && x.seq < c.seq && isWriteKind x && !x.orphan && cVol x == cVol c
    && (x.stage == .run || x.stage == .paused || x.stage == .ready || x.stage == .wait)
    && (let a := if cLen x ≤ 256 || x.prog.done == 0 then cLba x else (cLba x / 256 + x.prog.done) * 256
        a < hi && lo < cLba x + cLen x)))

/-- Ring slots of a command, in portion order. -/
def slotsOf (d : Dev) (seq : Nat) : List Nat := (d.med.ring.filter (fun e => e.2.cmd == seq && !e.2.live)).map Prod.fst

/-- Take SEQ for ring slots and enter them into the map: one SEQ for all, or one per block in RECOVER (R243, R247). -/
def takeSeq (d : Dev) (ids : List Nat) (perBlock : Bool) : Dev :=
  let step := fun (d : Dev) (id : Nat) =>
    match d.med.ring.get? id with
    | none => d
    | some r =>
      let t := { r.ext.tag with seq := rd64 d F.MAP_SEQ }
      let was := replacedBy d t
      let d1 := { d with med := { d.med with
        ring := d.med.ring.set id { r with ext := { r.ext with tag := t }, live := true, wasEnt := was.1, wasFine := was.2 }
        m := setRing d.med.m t id } }
      if perBlock then add64 d1 F.MAP_SEQ t.n else d1
  let d1 := ids.foldl step d
  let d2 := if perBlock then d1 else add64 d1 F.MAP_SEQ 1
  ids.foldl (fun d id => placeSlot d id 0) d2

/-- Bytes of a stream write that completes count in STRM_DONE (R188). -/
def streamDone (d : Dev) (c : Cmd) (bytes : Nat) : Dev :=
  if cSv c && (cOpc c == opWRITE || cOpc c == opGATHER) && rdB d (F.STRM_STAT_OPEN (cSid c)) then add64 d (F.STRM_DONE (cSid c)) bytes else d

/-- Drop ring slots that never took SEQ (R244, R260). -/
def dropSlots (d : Dev) (seq : Nat) : Dev :=
  { d with med := { d.med with ring := d.med.ring.filter (fun e => !(e.2.cmd == seq && !e.2.live)) } }

/-- Portions from `k` on leave the stream's line. -/
def dropLine (d : Dev) (c : Cmd) (k : Nat) : Dev :=
  if cSv c && !c.outside && rdB d (F.STRM_STAT_OPEN (cSid c)) then horizonDrop d (cSid c) c.seq k else d

/-- Course portions of a command that took effect (R160, R161). [log entry 46 DEDUCED] -/
def coursesDone (c : Cmd) : Nat := c.prog.eff

/-- End a started data write with a status: the prefix stands, the rest is dropped (R143, R160). [log entry 48 DEDUCED] -/
def endWriteAt (d : Dev) (seq st result : Nat) : Dev :=
  match cmdOf? d seq with
  | none => d
  | some c =>
    let d1 := dropLine (dropSlots d seq) c (coursesDone c)
    complete (streamDone d1 c (coursesDone c * 1048576)) c st result (coursesDone c) true

/-- Pull outstanding ends at a reap: the portion that is partly pulled is dropped (R133). -/
def dropPull (d : Dev) (seq : Nat) : Dev :=
  modCmd d seq (fun x => { x with prog := { x.prog with issued := min x.prog.issued (max x.prog.pulled x.prog.done) } })

/-- What a reaped command had not protected leaves with it (R134). -/
def dropPending (d : Dev) (seq : Nat) : Dev :=
  match cmdOf? d seq with
  | none => d
  | some c => if isDataWrite c then dropLine (dropSlots d seq) c (coursesDone c) else d

/-- An ABORT or a reset ends a larger write at its portion boundary (R163): at once when no portion is being pulled. -/
def tryEndWrite (d : Dev) (seq : Nat) : Dev :=
  match cmdOf? d seq with
  | none => d
  | some c =>
    match c.ending with
    | none => d
    | some st => if cLen c > 256 && c.prog.issued == c.prog.done then endWriteAt d seq st 0 else d

/-- Check 11 of R144. -/
def capacityOk (d : Dev) (c : Cmd) : Bool :=
  mappedBlocks d + unmappedIn d (cVol c) (cLba c) (cLen c) ≤ cUse d * 256

/-! ### FLUSH (R159) -/

/-- A ring slot, by its number, is covered by a waiting FLUSH: for device scope also one that was Protected before the FLUSH was fetched
while its command had not taken its SEQ yet. -/
def flushCovers (f : Cmd) (id : Nat) (r : RingSlot) : Bool :=
  (r.live && ((r.seat == f.seat && r.cmd < f.seq) || (cScope f && r.ext.tag.seq < f.coverSeq)))
    || (cScope f && f.coverSlots.contains id)

/-- A discard's delta is covered by a waiting FLUSH. -/
def flushCoversDelta (f : Cmd) (x : Delta) : Bool :=
  x.kind == 2 && ((x.seat == f.seat && x.cmd < f.seq) || (cScope f && x.seq < f.coverSeq))

/-- Deltas of the chunk being written. -/
def chunkDeltas (d : Dev) : List Delta := (d.med.chunkNow.map Chunk.deltas).getD []

/-- FLUSH commands that wait. -/
def flushes (d : Dev) : List Cmd := d.cmds.list.filter (fun c => cOpc c == opFLUSH && c.stage == .wait)

/-- Stripes that hold covered courses are closed with pad pages (R159). -/
def flushPush (d : Dev) : Dev :=
  (flushes d).foldl (fun d f =>
    (d.med.ring.filter (fun e => flushCovers f e.1 e.2 && !(e.2.batten == 0x1000000))).foldl (fun d e =>
      let b := e.2.batten
      if (batOf d b).st == .opened && !((batOf d b).wptr % stripeCw d == 0)
          && (e.2.off + extCw e.2.ext.tag.n - 1) / stripeCw d == (batOf d b).wptr / stripeCw d then
        modBat (padClose d b (padClass d b)) b (fun v => { v with idleAt := some d.sys.time })
      else d) d) d

/-- The conditions of FLUSH hold: covered commands completed, covered portions Committed, covered discards durable. -/
def flushDone (d : Dev) (f : Cmd) : Bool :=
  !(d.cmds.list.any (fun c => isWriteKind c && c.seat == f.seat && c.seq < f.seq && !c.orphan))
    && !(d.med.ring.any (fun e => flushCovers f e.1 e.2))
    && !((chunkDeltas d ++ d.med.deltas).any (flushCoversDelta f))

/-- Complete the FLUSH commands whose conditions hold. -/
def flushTry (d : Dev) : Dev := (flushes d).foldl (fun d f => if flushDone d f then succeed d f else d) d

/-- A stream ends: its open battens close (R273). -/
def endStream (d : Dev) (i cause : Nat) : Dev := closeWriter (streamEnd d i cause) (.stream i) 4

/-- STREAM_CLOSE completes after every earlier write of its stream has completed (R152). -/
def closeTry (d : Dev) : Dev :=
  (d.cmds.list.filter (fun c => cOpc c == opCLOSE && c.stage == .wait)).foldl (fun d c =>
    if d.cmds.list.any (fun x => isDataWrite x && cSv x && cSid x == cSid c && x.seat == c.seat && x.seq < c.seq && !x.orphan) then d
    else endStream d (cSid c) 1) d

/-- After commands completed or took effect: FLUSH, STREAM_CLOSE and the pause flags. -/
def afterWork (d : Dev) : Dev := pauseFlags (closeTry (flushTry (flushPush d)))

/-! ### Sealing (R26 steps 4 to 6) -/

/-- Reserve the invocations of the next portion of a larger write (R146). -/
def reserveNext (d : Dev) (c : Cmd) (k : Nat) : Except Nat Dev :=
  let v := cVol c
  match reserveFail d v (volSlot d v) (portionInv d c k) with
  | some st => .error st
  | none => .ok (modCmd d c.seq (fun x => { x with kslot := volSlot d v, kres := portionInv d c k }))

/-- A started write goes on after its portion `k − 1` is Protected. [log entry 45 DEDUCED] -/
def writeNext (d : Dev) (seq : Nat) : Dev :=
  match cmdOf? d seq with
  | none => d
  | some c =>
    let k := c.prog.done
    if cLen c ≤ 256 then
      if k ≥ cPortions c then
        complete (streamDone d c (cLen c * 4096)) c (c.ending.getD stSUCCESS) 0 (cPortions c) c.ending.isSome
      else issueNext d seq
    else match (if c.prog.issued > k then none else c.ending) with
      | some st => endWriteAt d seq st 0
      | none =>
        if k ≥ cPortions c then complete (streamDone d c (cLen c * 4096)) c stSUCCESS 0 k false
        else match reserveNext d c k with
          | .error st => endWriteAt d seq st 0
          | .ok d1 => issueNext d1 seq

/-- Seal portion `prog.done` of a command: the extent goes to the ring under the slot that reserved it. -/
def sealPortion (d : Dev) (c : Cmd) : Dev :=
  let k := c.prog.done
  let rec_ := inRecover d
  let n := portLen (cLba c) (cLen c) k
  let inv := portionInv d c k
  let ctr := rd64 d (F.KEY_CNT c.kslot)
  let t : ExtTag := { patch := !wholePort c k, blkSeal := rec_, vol := cVol c, course := cLba c / 256 + k, blk := portFirst c k, n := n,
                      kgen := rd d (F.KEY_STAT_KGEN c.kslot), txid := c.txn.getD 0,
                      txord := (if rec_ then (cLba c / 256 + k) * 256 + portFirst c k - cLba c else k),
                      txnp := (if rec_ then 3 else if cLen c > 256 then 0 else if cPortions c == 2 then 2 else 1),
                      ctr := ctr, salt := rd d (F.KEY_SALT_SALT c.kslot), key := (keySlot d c.kslot).mat }
  let slot : RingSlot := { ext := ⟨t, c.prog.data.take n, []⟩, seat := c.seat, cmd := c.seq, portion := k,
                           stream := if (cOpc c == opWRITE || cOpc c == opGATHER) && cSv c && !c.outside then some (cSid c) else none }
  let id := d.med.nextSlot
  let d1 := takeCtr d c.kslot inv
  let d2 := { d1 with med := { d1.med with ring := d1.med.ring.set id slot, nextSlot := (id + 1) % 2 ^ 32 } }
  let d3 := modCmd d2 c.seq (fun x => { x with kres := x.kres - inv
                                               prog := { x.prog with
      done := k + 1, data := x.prog.data.drop n
      eff := if cLen c > 256 || rec_ || k + 1 ≥ cPortions c then k + 1 else x.prog.eff } })
  let d4 := if contractWrite d c then
      { d3 with stk := { d3.stk with arr := d3.stk.arr.set (cSid c) (d3.stk.arr.getD (cSid c) 0 + n * 4096) } } else d3
  if cLen c > 256 || rec_ then takeSeq d4 [id] rec_
  else if k + 1 ≥ cPortions c then takeSeq d4 (slotsOf d4 c.seq) false
  else d4

/-! ### Loss of keys (R62, R349) -/

/-- A command meets the loss of the keys it needs (R349): a write ends at the portion boundary, up to 1 MiB all old, with
PARTIAL_COURSES when it had started; a DISCARD that must seal ends the same way; a read completes with KEY_ABSENT, but one whose zeroing runs ends with it (R352). [log entry 88 DEDUCED] -/
def cmdKeysLost (d : Dev) (seq : Nat) : Dev :=
  match cmdOf? d seq with
  | none => d
  | some c =>
    if c.orphan || c.stage == .held then d
    else if isDataWrite c then
      if c.prog.issued == 0 then complete (dropLine d c 0) c stKEYABS 0 else endWriteAt d seq stKEYABS 0
    else if cOpc c == opDISCARD && !(c.kres == 0) then
      complete (dropSlots d seq) c stKEYABS 0 (coursesDone c) (c.prog.done > 0 || c.prog.issued > 0)
    else if isReadKind c then (if c.prog.bad then d else complete d c stKEYABS 0)
    else d

/-- KEY_RETIRE commands that wait for a slot that is gone complete (R334). -/
def retireWaiters (d : Dev) (p : Nat → Bool) : Dev :=
  (d.cmds.list.filter (fun c => cOpc c == opKEYRET && c.stage == .wait && p (cOp c 0 % 64))).foldl (fun d c => succeed d c) d

/-- The command seals under a slot, or reads what only the slot opens. -/
def usesSlot (d : Dev) (n : Nat) (c : Cmd) : Bool :=
  (isWriteKind c && c.kslot == n && !(c.kres == 0)) || (isDataWrite c && volSlot d (cVol c) == n)
    || (isReadKind c && (gensIn d (cVol c) (cLba c) (cLen c)).any (fun g => slotOfGen? d (cVol c) g == some n))

/-- One slot becomes LOST with its material erased (R62): its commands resolve as after a tamper alarm. -/
def slotLost (d : Dev) (n : Nat) : Dev :=
  let seqs := (d.cmds.list.filter (fun c => slotLoaded d n && usesSlot d n c)).map Cmd.seq
  let d1 := slotLeave (descLost d (· == n)) n ksLOST
  if serving d1 then afterWork (retireWaiters (seqs.foldl cmdKeysLost d1) (fun m => m == n)) else d1

/-! ### Commit (R26 steps 8 to 10, R244, R245) -/

/-- Deltas that give the listed blocks of an extent their entries at a place: one record when all of them take it, else one a block
(R252). -/
def placeDeltas (kind : Nat) (t : ExtTag) (batten off : Nat) (blocks : List Nat) (whole : Bool) : List Delta :=
  let base : Delta := { kind := kind, vol := t.vol, course := t.course, blk := t.blk, count := t.n, seq := lastSeq t, fineE := !whole,
                        patch := t.patch, batten := batten, off := off, kgen := t.kgen, blkSeal := t.blkSeal, txid := t.txid,
                        txnp := t.txnp, ord := t.txord }
  if blocks.length == t.n then [base]
  else blocks.map (fun i => { base with blk := i, count := 1, idx := i - t.blk, seq := blkSeq t (i - t.blk), fineE := true })

/-- The entry of a course is not FINE. -/
def plainCourse (m : MapSt) (key : Nat) : Bool := match mapEnt m key with
  | .fine _ => false
  | _ => true

/-- Deltas of the surviving blocks of a committed extent. -/
def commitDeltas (m : MapSt) (r : RingSlot) (blocks : List Nat) : List Delta :=
  (placeDeltas 1 r.ext.tag r.batten r.off blocks (plainCourse m (courseKey r.ext.tag.vol r.ext.tag.course))).map
    (fun x => { x with seat := r.seat, cmd := r.cmd })

/-- The entries that still name a ring slot take the flash location (R244). -/
def commitMap (m : MapSt) (r : RingSlot) (slot : Nat) : MapSt :=
  let t := r.ext.tag
  let k := courseKey t.vol t.course
  match mapEnt m k with
  | .ring s _ => if s == slot then setCourse m k (.course r.batten r.off t.kgen t.blkSeal false) else m
  | .fine _ => { m with fine := m.fine.put (fun _ => []) k ((fineOf m k).mapV (fun i e => match e with
      | .ring s idx kg => if s == slot then .loc t.patch r.batten r.off (i - t.blk) kg t.blkSeal else .ring s idx kg
      | x => x)) }
  | _ => m

/-- A portion becomes Committed: its entries, its deltas, its ring space, its stream's horizon. -/
def commitSlot (d : Dev) (id : Nat) : Dev :=
  match d.med.ring.get? id with
  | none => d
  | some r =>
    let blocks := ringBlocks d.med.m r.ext.tag id
    let d1 := { d with med := { d.med with
      m := commitMap d.med.m r id
      deltas := d.med.deltas ++ commitDeltas d.med.m r blocks
      ring := d.med.ring.erase id } }
    match r.stream with
    | some s => if rdB d1 (F.STRM_STAT_OPEN s) then horizonCommit d1 s r.cmd r.portion else d1
    | none => d1

end Sys2Proof.Machine
end

