-- ==== Sys2Proof/Machine/MediaOps.lean ====
section
/-!
DEFINITION. Media management shared by channels, LUNs and the scheduler: units that are lost, victims, LUNs that leave service,
retirement of blocks (R267, R273 to R281, R306, R322).
-/
namespace Sys2Proof.Machine

/-! ### LUNs and read jobs -/

def lunOf (d : Dev) (l : Nat) : LunSt := d.cox.luns.read (fun _ => {}) l
def setLun (d : Dev) (l : Nat) (v : LunSt) : Dev := { d with cox := { d.cox with luns := d.cox.luns.put (fun _ => {}) l v } }
def modLun (d : Dev) (l : Nat) (f : LunSt → LunSt) : Dev := setLun d l (f (lunOf d l))

def jobOf? (d : Dev) (id : Nat) : Option ReadJob := d.med.jobs.find? (fun j => j.id == id)
def modJob (d : Dev) (id : Nat) (f : ReadJob → ReadJob) : Dev :=
  { d with med := { d.med with jobs := updWhere (fun j => j.id == id) f d.med.jobs } }

/-- Change the unit of a job at a place. -/
def modUnit (d : Dev) (id b stripe pos : Nat) (f : ReadUnit → ReadUnit) : Dev :=
  modJob d id (fun j => { j with units := updWhere (fun u => u.batten == b && u.stripe == stripe && u.pos == pos) f j.units })

/-- The channel groups that a unit of a read has to be read from next: that of its member, or, for a reconstruction, those of the other
positions of its stripe but the failed ones (R319). -/
def unitGroups (d : Dev) (u : ReadUnit) : List Nat :=
  if u.st == .todo || u.st == .reread then [lunChn (memberLun d u.batten u.pos) / 4]
  else if u.st == .ridge then
    (((List.range d.med.nand.w).filter (fun p => !(p == u.pos) && !(batOf d u.batten).failed.contains (u.stripe, p)
      && lunAvail d (memberLun d u.batten p))).map (fun p => lunChn (memberLun d u.batten p) / 4))
  else []

/-! ### Units (R264, R265) -/

/-- The position holds the ridge of its stripe. -/
def isRidge (w stripe pos : Nat) : Bool := pos == stripe % w

/-- Data-unit index in the batten of a member position. -/
def unitIdx (w stripe pos : Nat) : Nat := stripe * (w - 1) + (if pos < stripe % w then pos else pos - 1)

/-- An extent of `n` blocks at an offset has codewords in a unit. -/
def inUnit (d : Dev) (off n stripe pos : Nat) : Bool :=
  let u := unitIdx (batW d) stripe pos * cuOf d
  !isRidge (batW d) stripe pos && off < u + cuOf d && u < off + extCw n

/-- Place the data of a unit again from its HBM copies, in class 1 (R280, R318, R322). -/
def placeAgain (d : Dev) (b stripe pos : Nat) : Dev :=
  let rs := d.med.ring.filter (fun e => e.2.batten == b && !e.2.placed && inUnit d e.2.off e.2.ext.tag.n stripe pos)
  let gs := d.med.reloc.filter (fun e => e.2.batten == b && inUnit d e.2.off e.2.ext.tag.n stripe pos)
  gs.foldl (fun d e => placeReloc { d with med := { d.med with reloc := d.med.reloc.set e.1 { e.2 with cls := 1 } } } e.1)
    (rs.foldl (fun d e => placeSlot d e.1 1) d)

/-- Place again what a lost position leaves without its program: the data of the unit, or, of a ridge, the data units of its stripe, which
have no parity (R280, R318). -/
def againAt (d : Dev) (b stripe pos : Nat) : Dev :=
  if isRidge (batW d) stripe pos then
    ((List.range (batW d)).filter (fun p => !(p == pos))).foldl (fun d p => placeAgain d b stripe p) d
  else placeAgain d b stripe pos

/-- A position whose program is lost is recorded; its block is FAILING after a failed status (R275, R280). -/
def markLost (d : Dev) (b stripe pos : Nat) (failing : Bool) : Dev :=
  modBat d b (fun v => { v with
    failed := if v.failed.contains (stripe, pos) then v.failed else v.failed ++ [(stripe, pos)]
    failing := if failing then nins pos v.failing else v.failing })

/-- No further program is placed on a FAILING block: its units that wait are lost with it (R280). -/
def dropMember (d : Dev) (b pos : Nat) : Dev :=
  let ws := d.med.work.filter (fun w => w.batten == b && w.pos == pos)
  let d1 : Dev := { d with med := { d.med with work := d.med.work.filter (fun w => !(w.batten == b && w.pos == pos)) } }
  ws.foldl (fun d w => againAt (markLost d b w.stripe pos true) b w.stripe pos) d1

/-- A batten becomes a relocation victim: at once when CLOSED, with its close when OPEN; of two causes the higher class stands
(R274, R282). Classes: 1 urgent, 6 patrol. -/
def makeVictim (d : Dev) (b cls cause : Nat) : Dev :=
  let v := batOf d b
  if v.st == .closed then setBat d b { v with st := .victim, vcls := cls, vcause := cause }
  else if v.st == .opened || v.st == .victim then
    (if v.vcls == 0 || cls < v.vcls then setBat d b { v with vcls := cls, vcause := cause } else d)
  else d

/-- The chunk being written lost a program on a batten: JFAIL, and it is placed again (R250). -/
def chunkLost (d : Dev) (b : Nat) : Dev :=
  match d.med.chunkNow with
  | some c => if c.parts.any (fun p => p.1 == b) then raise { d with med := { d.med with chunkNow := some { c with parts := [] } } } 0x21 9 else d
  | none => d

/-- A program unit, data or ridge, is lost to a failed status (`failing`) or to a LUN that left service: its position is recorded, the
batten closes and becomes a victim in class 1, the data it leaves is placed again (R280, R281, R306, R318, R322). Cause 0, a host
isolation, makes no victim. -/
def unitLost (d : Dev) (b stripe pos cause : Nat) (failing : Bool) : Dev :=
  let d1 := markLost d b stripe pos failing
  let d2 := closeBat (if cause == 0 then d1 else makeVictim d1 b 1 cause) b 1
  let d3 := againAt d2 b stripe pos
  chunkLost (settleBat (if failing then dropMember d3 b pos else d3) b) b

/-- Stripe a batten's write pointer stands in. -/
def curStripe (d : Dev) (b : Nat) : Nat := if stripeCw d == 0 then 0 else (batOf d b).wptr / stripeCw d

/-- The ridge of a stripe is lost with its accumulator (R318, R381). -/
def ridgeLost (d : Dev) (b stripe : Nat) (failing : Bool) : Dev := unitLost d b stripe (stripe % batW d) 2 failing

/-! ### Valid data (R276) -/

/-- Blocks of a course whose entries name an extent on flash. -/
def namingBlocks (m : MapSt) (b off : Nat) (t : ExtTag) : List Nat :=
  let k := courseKey t.vol t.course
  match mapEnt m k with
  | .course b0 o0 _ _ _ => if b0 == b && o0 == off then (List.range t.n).map (· + t.blk) else []
  | .fine _ => (fineOf m k).filterMap (fun x => match x.2 with
      | .loc _ b0 o0 _ _ _ => if b0 == b && o0 == off then some x.1 else none
      | _ => none)
  | _ => []

/-- Blocks of an extent on flash that the map still names. -/
def extValid (m : MapSt) (b off : Nat) (e : Extent) : Nat := (namingBlocks m b off e.tag).length

/-- Extents on a batten, by codeword offset. -/
def batExts (d : Dev) (b : Nat) : List (Nat × Extent) :=
  (d.med.nand.flash.filter (fun e => e.1 / 2 ^ 21 == b)).map (fun e => (e.1 % 2 ^ 21, e.2))

/-- Valid blocks of a batten. -/
def batValid (d : Dev) (b : Nat) : Nat := ((batExts d b).map (fun e => extValid d.med.m b e.1 e.2)).foldl (· + ·) 0

/-! ### Retirement (R267, R275) -/

/-- Blocks left in a LUN's spare pool (WEAR_LINFO.SPARE). -/
def spareLeft (d : Dev) (l : Nat) : Nat :=
  let r := lunRecOf d l
  sparePool d.med.nand l + r.spareBack.length - r.spareTaken

/-- Record a retirement: BAD_TOTAL, BAD_LAST and RETIRE (R270, R292); SPARELOW when the pool runs low (R290). [log entry 66 DEDUCED] -/
def retireBlock (d : Dev) (l block cause : Nat) : Dev :=
  let r := lunRecOf d l
  if (r.retired.get? block).isSome then d
  else
    let d1 := setLunRec d l { r with retired := r.retired.set block cause, spareBack := ndel block r.spareBack }
    let d2 := wrs (wrapAdd (modNand (sysPut d1 [recKey 5 l]) (fun n => { n with retiredTotal := n.retiredTotal + 1 })) F.BAD_TOTAL_COUNT 1)
      [(F.BAD_LAST_VALID, 1), (F.BAD_LAST_CAUSE, cause), (F.BAD_LAST_LUN, l), (F.BAD_LAST_BLOCK, block)]
    raise d2 0x25 8

/-- Take a block from a spare pool: a returned block first, else the next block of the pool as it was formed. -/
def takeSpare (d : Dev) (l : Nat) : Option (Dev × Nat) :=
  if spareLeft d l == 0 then none
  else
    let r := lunRecOf d l
    let d1 := match r.spareBack with
      | _ :: rest => setLunRec d l { r with spareBack := rest }
      | [] => setLunRec d l { r with spareTaken := r.spareTaken + 1 }
    let blk := match r.spareBack with
      | b :: _ => b
      | [] => nthGood d.med.nand l (memberPool d.med.nand l + r.spareTaken)
    let d2 := if spareLeft d1 l < 4 && spareLeft d l ≥ 4 then raise (raise d1 0x23 9) 0x25 10 else d1
    some (d2, blk)

/-! ### The eave reserve (R228, R275) -/

/-- Erased eave blocks that kept LUN number `i` of `n` has to hold out of `total`. -/
def eaveShare (n total i : Nat) : Nat :=
  if n == 0 then 0 else total / n + (if i < total % n then 1 else 0)

/-- Eave blocks of a LUN, erased or not. -/
def eaveHave (r : LunRec) : Nat := r.eave.length + r.eaveDirty.length

/-- LUNs that hold eave blocks, and the blocks they hold. -/
def eaveLuns (d : Dev) : List Nat := (declaredLuns d).filter (lunKept d)

/-- The channel of a LUN waits to be isolated by the host (R306). -/
def chnLeaving (d : Dev) (l : Nat) : Bool := (d.chn.read (fun _ => {}) (lunChn l)).isolating

/-- LUNs that the reserve is spread over: those of a channel about to be isolated are replaced on the others (R442). -/
def eaveHolders (d : Dev) : List Nat := (eaveLuns d).filter (fun l => !chnLeaving d l)
def eaveSum (d : Dev) : Nat := ((eaveHolders d).map (fun l => eaveHave (lunRecOf d l))).foldl (· + ·) 0

/-- A block of the spare pool joins the reserve: it is erased before it counts. -/
def eaveTake (d : Dev) (l : Nat) : Dev :=
  match takeSpare d l with
  | none => d
  | some (d1, b) => setLunRec d1 l { lunRecOf d1 l with eaveDirty := nins b (lunRecOf d1 l).eaveDirty }

/-- The erase of an eave block is placed on its LUN. -/
def eaveErasing (d : Dev) (l b : Nat) : Bool :=
  let v := lunOf d l
  (v.exec.toList ++ v.asleep.toList ++ v.q).any (fun o => o.kind == .erase && o.eave && o.off == b)

/-- A block of the reserve returns to the spare pool: one that no erase is placed for, first those that are not erased. -/
def eaveDrop (d : Dev) (l : Nat) : Dev :=
  let r := lunRecOf d l
  match r.eaveDirty.find? (fun b => !eaveErasing d l b), r.eave with
  | some b, _ => setLunRec d l { r with eaveDirty := ndel b r.eaveDirty, spareBack := r.spareBack ++ [b] }
  | none, b :: rest => setLunRec d l { r with eave := rest, spareBack := r.spareBack ++ [b] }
  | none, [] => d

/-- An eave block has been erased: the wear of its erase is counted (R228). -/
def eaveErased (r : LunRec) (b : Nat) : LunRec :=
  { r with eave := if r.eaveDirty.contains b then nins b r.eave else r.eave, eaveDirty := ndel b r.eaveDirty, wear := r.wear.set b (r.wear.getD b 0 + 1) }

/-- The LUN of the reserve with the fullest spare pool. -/
def eaveDonor (d : Dev) : Option Nat :=
  ((eaveHolders d).filter (fun l => spareLeft d l > 0)).foldl (fun acc l => match acc with
    | none => some l
    | some a => if spareLeft d a < spareLeft d l then some l else some a) none

/-- The reserve grows to n_eave blocks: each LUN to its share from its own spare pool, what is missing then from the pools of
others (R228). -/
def eaveGrow (d : Dev) : Dev :=
  let n := (eaveHolders d).length
  let total := nEave d
  let d1 := (eaveHolders d).zipIdx.foldl (fun a e =>
    foldUpto (eaveShare n total e.2 - eaveHave (lunRecOf a e.1)) (fun _ a => eaveTake a e.1) a) d
  foldUpto (total - eaveSum d1) (fun _ a => match eaveDonor a with
    | some l => eaveTake a l
    | none => a) d1

/-- A reserve above n_eave blocks shrinks: LUNs above their share give blocks back (R266, R275). -/
def eaveShrink (d : Dev) : Dev :=
  let n := (eaveHolders d).length
  let total := nEave d
  (eaveHolders d).zipIdx.foldl (fun a e =>
    foldUpto (min (eaveHave (lunRecOf a e.1) - eaveShare n total e.2) (eaveSum a - total)) (fun _ a => eaveDrop a e.1) a) d

/-- The reserve follows n_eave; blocks that join it wait for their erase. -/
def eavePump (d : Dev) : Dev := eaveShrink (eaveGrow d)

/-- An erase of a block failed (R280, R292): it is counted and the block is retired with a cause. -/
def eraseFailed (d : Dev) (l block cause : Nat) : Dev :=
  retireBlock (wrapAdd (modNand d (fun n => { n with eraseFails := n.eraseFails + 1 })) F.BAD_EFAIL_COUNT 1) l block cause

/-- Every block of the reserve that is not erased is erased; `failed` are the blocks whose erase fails: they are retired. -/
def eaveEraseAll (failed : List (Nat × Nat)) (d : Dev) : Dev :=
  (eaveLuns d).foldl (fun a l => (lunRecOf a l).eaveDirty.foldl (fun a b =>
    if failed.contains (l, b) then eraseFailed (setLunRec a l { lunRecOf a l with eaveDirty := ndel b (lunRecOf a l).eaveDirty }) l b 5
    else setLunRec a l (eaveErased (lunRecOf a l) b)) a) d

/-- The reserve is rebuilt: it follows n_eave and every block of it is erased, replacements of failed ones too. [log entry 70 DEDUCED] -/
def eaveRebuild (d : Dev) (failed : List (Nat × Nat)) : Dev :=
  foldUpto (failed.length + 1) (fun _ a => eaveEraseAll failed (eavePump a)) d

/-- The LUN that gives the replacement of a member (R267): its own LUN, else the fullest pool on a channel no other member uses. -/
def spareFrom (d : Dev) (b pos : Nat) : Option Nat :=
  let own := memberLun d b pos
  if lunHealthy d own && spareLeft d own > 0 then some own
  else
    let used := ((List.range d.med.nand.w).filter (fun p => !(p == pos))).map (fun p => lunChn (memberLun d b p))
    (d.med.nand.luns.filter (fun l => lunHealthy d l && spareLeft d l > 0 && !used.contains (lunChn l))).foldl
      (fun acc l => match acc with
        | none => some l
        | some a => if spareLeft d a < spareLeft d l then some l else some a) none

/-- The erase of a member of a batten runs or sleeps on its LUN. -/
def eraseRuns (d : Dev) (b pos : Nat) : Bool :=
  let v := lunOf d (memberLun d b pos)
  (v.exec.toList ++ v.asleep.toList).any (fun o => o.kind == .erase && !o.eave && o.batten == b && o.pos == pos)

/-- A block that leaves a batten returns to its LUN's spare pool with its erase count, unless it is retired or lost (R267, R275, R283, R306). -/
def giveBack (d : Dev) (v : Batten) (pos : Nat) (m : Nat × Nat) : Dev :=
  let r := lunRecOf d m.1
  if r.failedB || (r.retired.get? m.2).isSome then d
  else setLunRec d m.1 { r with spareBack := r.spareBack ++ [m.2], wear := r.wear.put (fun _ => 0) m.2 (memberWear d.med.nand v pos) }

/-- Dissolve a batten: its good blocks return to the spare pools, one whose erase runs when that ends; queued erases are dropped; DISSOLVE
is raised (R267). -/
def dissolve (d : Dev) (b : Nat) : Dev :=
  let v := batOf d b
  let d1 := ((List.range d.med.nand.w).filter (fun p => !eraseRuns d b p)).foldl (fun d p => giveBack d v p (memberAt d b p)) d
  let d2 := { d1 with cox := { d1.cox with luns := d1.cox.luns.mapV (fun _ x =>
    { x with q := x.q.filter (fun o => !(o.kind == .erase && !o.eave && o.batten == b)) }) } }
  raise (sysPut (setBat d2 b { batOf d2 b with st := .dissolved, toErase := [] }) [recKey 3 b]) 0x22 9

/-- Every replacement eave block for a channel about to be isolated is erased (R442). -/
def eaveReady (d : Dev) : Bool := (eaveHolders (eavePump d)).all (fun l => (lunRecOf (eavePump d) l).eaveDirty.isEmpty)

/-- Replace a member of a batten, or dissolve it (R267). A replacement keeps its own erase count (R283); the block it replaces, unless it is
retired or lost, returns to its LUN's spare pool (R306). -/
def replaceMember (d : Dev) (b pos : Nat) : Dev :=
  match spareFrom d b pos with
  | none => dissolve d b
  | some l => match takeSpare d l with
    | none => dissolve d b
    | some (d1, blk) =>
      let wear : Int := ((lunRecOf d1 l).wear.getD blk 0 : Nat)
      let d2 := giveBack d1 (batOf d b) pos (memberAt d b pos)
      modBat (sysPut d2 [recKey 3 b]) b (fun v => { v with repl := v.repl.set pos (l, blk), adj := v.adj.set pos (wear - d2.med.nand.ec0 - v.ec) })

/-! ### LUNs that leave service (R306, R322) -/

/-- A unit whose member cannot be read goes on to step 4 with what has not decoded (R304, R320, R324). -/
def toRidge (u : ReadUnit) : ReadUnit :=
  if u.st == .todo || u.st == .placed || u.st == .reread || u.st == .soft then
    { u with st := .ridge, soft := [], rid := if u.soft.isEmpty && u.rid.isEmpty then u.cws else u.soft.map Prod.fst ++ u.rid }
  else u

/-- Units of every read on a LUN set: none is read or soft-decoded any more (R320, R324). -/
def unitsOut (d : Dev) (p : Nat → Bool) : Dev :=
  { d with med := { d.med with jobs := d.med.jobs.map (fun j => { j with units := j.units.map (fun u =>
    if p (memberLun d u.batten u.pos) then toRidge u else u) }) } }

/-- End one operation of a LUN that leaves service. -/
def opLost (d : Dev) (cause : Nat) (o : FOp) : Dev :=
  match o.kind with
  | .prog => unitLost d o.batten o.stripe o.pos cause false
  | _ => d

/-- Every operation and every waiting unit of a LUN set is ended; open battens with a member on it close early (R273, R281,
R306). `p` selects the LUNs. -/
def lunsOut (d : Dev) (p : Nat → Bool) (cause : Nat) : Dev :=
  let open_ := batsWhere d (fun b v => v.st == .opened && !(v.role == .system) && (memberLuns d b).any p)
  let d1 := open_.foldl (fun d b => modBat d b (fun v => { v with sealed := true })) d
  let gone := d1.cox.luns.filter (fun e => p e.1)
  let d2 := unitsOut (gone.foldl (fun d e => setLun d e.1 { e.2 with exec := none, asleep := none, asking := false, q := [] }) d1) p
  let d3 := gone.foldl (fun d e =>
    (e.2.exec.toList ++ e.2.asleep.toList ++ e.2.q).foldl (fun d o => opLost d cause o) d) d2
  let d4 := open_.foldl (fun d b => settleBat (padClose d b 1) b) d3
  let lost := d4.med.work.filter (fun w => p (memberLun d4 w.batten w.pos))
  let d5 := { d4 with med := { d4.med with work := d4.med.work.filter (fun w => !p (memberLun d4 w.batten w.pos)) } }
  lost.foldl (fun d w => unitLost d w.batten w.stripe w.pos cause false) d5

/-- Battens with a member on a LUN of the set become relocation victims in class 1, OPEN ones with their close (R281, R306). -/
def victimsOf (d : Dev) (p : Nat → Bool) (cause : Nat) : Dev :=
  (batsWhere d (fun b v => (v.st == .closed || v.st == .opened || v.st == .victim) && (memberLuns d b).any p)).foldl
    (fun d b => makeVictim d b 1 cause) d

/-- What follows a change of the healthy LUNs: flush terms, journal bounds, admission with its cause (R184, R223, R257). -/
def lunsChanged (d : Dev) : Dev := admRecompute (journalBounds (flushTerms d))

/-- Declare a LUN failed (R322). -/
def lunFail (d : Dev) (l : Nat) : Dev :=
  if (lunRecOf d l).failedB then d
  else
    let d1 := sysPut (setLunRec d l { lunRecOf d l with failedB := true }) [recKey 5 l]
    let d2 := raise (wrs (satAdd d1 F.BAD_LFAIL_COUNT 1)
      [(F.BAD_LAST_VALID, 1), (F.BAD_LAST_CAUSE, 4), (F.BAD_LAST_LUN, l), (F.BAD_LAST_BLOCK, 0)]) 0x25 9
    let d3 := victimsOf (lunsOut d2 (· == l) 3) (· == l) 3
    lunsChanged { d3 with adm := { d3.adm with causes := 1 :: d3.adm.causes } }

/-- Records of a LUN within a window, with one more; those with distinct members (R322). -/
def within (now span : Nat) (l : List (Nat × Nat)) : List (Nat × Nat) := l.filter (fun e => now < e.1 + span)
def distinctKeys (l : List (Nat × Nat)) : Nat := (l.foldl (fun acc e => nins e.2 acc) []).length

/-- A status failure counts towards the failure of the LUN: 8 distinct members within 60 s (R322). [log entry 73 DEDUCED] -/
def statusFailed (d0 : Dev) (l member : Nat) : Dev :=
  let d := satAdd d0 (F.CHN_HSTAT_COUNT (lunChn l)) 1
  if !(chnState d (lunChn l) == chSERVE) then d
  else
    let v := lunOf d l
    let fs := within d.sys.time 60000000000 v.fails ++ [(d.sys.time, member)]
    let d1 := setLun d l { v with fails := fs }
    if distinctKeys fs ≥ 8 then lunFail d1 l else d1

end Sys2Proof.Machine
end

