-- ==== Sys2Proof/Machine/PageChecks.lean ====
section
/-!
DEFINITION. What each page checks before its shadows apply, what applying them does, and the safe values of triple-voted fields
(R56, R62, R110, R111, R202, R213, R214, R220, R261, R262, R289 to R293, R299, R300, R325, R326, R328, R357, R389, R422, R425).
-/
namespace Sys2Proof.Machine

/-- Offsets on a page whose shadowed bits may differ from reset in the active or the shadow store. -/
def pageKeys (d : Dev) (p : Nat) : List Nat :=
  ((d.hub.act.map Prod.fst) ++ (d.hub.shd.map Prod.fst)).filter (fun o => pageOf o == p && !(shMask o == 0))

/-- The lowest offset whose shadow differs from its active value, in a page. -/
def firstDiffer (d : Dev) (p : Nat) : Option Nat :=
  ((pageKeys d p).filter (fun o => !((actW d o &&& shMask o) == shdW d o))).foldl (fun acc o => match acc with
    | none => some (inPage o)
    | some a => some (min a (inPage o))) none

/-- Signed value of a field of `n` bits. -/
def sgn (n v : Nat) : Int := if v ≥ 2 ^ (n - 1) then (v : Int) - 2 ^ n else v

/-- Maximum junction temperature of the variant in °C (R2). -/
def maxTj (d : Dev) : Int := if d.sys.fuse.variant == 1 then 105 else 95

/-- The first failing word of a list of (offset, bad) pairs, with CAUSE 0x80. -/
def firstBad (l : List (Nat × Bool)) : Option (Nat × Nat) := (l.find? (fun e => e.2)).map (fun e => (e.1, 0x80))

/-- Memory numbers of a MEMx page that exist (R389). -/
def memSlots (p : Nat) : List Nat := (List.range 32).filter (fun j => 32 * (p - 8) + j ≤ 110)

/-- The check of page GLB (R110). -/
def modeCheck (d : Dev) : Option (Nat × Nat) :=
  let m := rdShd d F.GLB_MODE_MODE
  if m == rd d F.GLB_MODE_MODE then none
  else if m == 0 || m ≥ 6 then some (0x80, 0x80)
  else if recovering d then some (0x80, 0x13)
  else if rd d F.GLB_STAT_MODE == 4 && maintainWork d then some (0x80, 0x82)
  else if judgedRates d > rCapCheck d m then some (0x80, 0x0E)
  else none

/-- The check of an STKL page (R214). -/
def stklCheck (d : Dev) (p : Nat) : Option (Nat × Nat) :=
  let s32 := fun (f : Fld) => sgn 32 (rdShd d f)
  firstBad (((List.range 17).filter (fun j => 17 * (p - 0x1A) + j ≤ 65)).flatMap (fun j =>
    let l := 17 * (p - 0x1A) + j
    let o := 0x40 + 0x80 * j
    [(o + 0xC, l == 65 && s32 (F.STKL_SETPT_SP l) > maxTj d * 65536),
     (o + 0x10, s32 (F.STKL_IMIN_IMIN l) > s32 (F.STKL_IMAX_IMAX l)),
     (o + 0x18, l ≥ 64 && (s32 (F.STKL_UMIN_UMIN l) > s32 (F.STKL_UMAX_UMAX l) || s32 (F.STKL_UMIN_UMIN l) < 0)),
     (o + 0x20, s32 (F.STKL_ELIM_ELIM l) ≤ 0),
     (o + 0x24, rdShd d (F.STKL_TFE_TFE l) == 0)]))

/-- The ranges of page MEDIA (R297, R299). -/
def mediaCheck (d : Dev) : Option (Nat × Nat) :=
  let q := rdShd d F.MEDIA_GEOM0_Q
  let l := rdShd d F.MEDIA_GEOM0_L
  let nu := rdShd d F.MEDIA_GEOM0_NU
  let bpp := rdShd d F.MEDIA_GEOM1_BPP
  let w := rdShd d F.MEDIA_BATW_W
  firstBad [
    (0x40, q == 0 || q > 8 || l == 0 || l > 4 || nu == 0 || (w - 1) * nu * (4 * q * l) > 2 ^ 21),
    (0x44, rdShd d F.MEDIA_GEOM1_NUSLC == 0 || bpp < 16 || (!(w == 0) && 4096 * bpp / w > 16777215)),
    (0x48, rdShd d F.MEDIA_GEOM2_BBM > 2 || rdShd d F.MEDIA_GEOM2_PRULE > 1 || rdShd d F.MEDIA_GEOM2_SPARE < 2048),
    (0x58, rdShd d F.MEDIA_TPROG_US == 0 || rdShd d F.MEDIA_TPROG_US > 1800),
    (0x5C, rdShd d F.MEDIA_TR_US == 0),
    (0x60, rdShd d F.MEDIA_TBERS_US == 0),
    (0x64, rdShd d F.MEDIA_TESUS_ESMAX == 0),
    (0x6C, rdShd d F.MEDIA_RPROG_MBS == 0),
    (0x70, rdShd d F.MEDIA_RSLC_MBS == 0),
    (0x74, rdShd d F.MEDIA_EM_PJ == 0),
    (0x7C, rdShd d F.MEDIA_OPSET_SET == 0),
    (0x90, rdShd d F.MEDIA_TPSLC_US == 0 || rdShd d F.MEDIA_TPSLC_US > 900)]

/-- The check of a CHN page (R300). -/
def chnCheck (d : Dev) (c : Nat) : Option (Nat × Nat) :=
  if accepted d && !(rdShd d (F.CHN_MAP_TGT c) == rd d (F.CHN_MAP_TGT c)) then some (0x40, 0x83)
  else firstBad [
    (0x44, rdShd d (F.CHN_TSET_RATE c) == 0 || rdShd d (F.CHN_TSET_RATE c) > 11),
    (0x4C, rdShd d (F.CHN_DRV_CADRV c) == 3 || rdShd d (F.CHN_DRV_DQDRV c) == 3 || rdShd d (F.CHN_DRV_NODT c) > 4
        || rdShd d (F.CHN_DRV_CODT c) > 4),
    (0x54, rdShd d (F.CHN_ZQ_PER c) == 0)]

/-- A page whose fields may not change after acceptance (R220, R293, R299). -/
def fixedCheck (d : Dev) (p : Nat) : Option (Nat × Nat) :=
  if accepted d then (firstDiffer d p).map (fun o => (o, 0x83)) else none

/-- The spread-spectrum codes of a word, three bits each. -/
def sscBad (d : Dev) (off n : Nat) : Bool := (List.range n).any (fun i => bitsOf (shdW d off).toNat (3 * i) 3 > 4)

/-- The check of a page: page offset of the first refused word, and the cause; none when the page applies. [log entry 29 DEDUCED] -/
def pageCheck (d : Dev) (p : Nat) : Option (Nat × Nat) :=
  let r := rdShd d
  if p == 0 then modeCheck d
  else if p == 2 then
    firstBad [(0x5C, r F.PWR_IDLE1_US == 0), (0x60, r F.PWR_IDLE2_MS == 0 || r F.PWR_IDLE2_MS * 1000 ≤ r F.PWR_IDLE1_US),
      (0x64, r F.PWR_IDLE3_MS == 0 || r F.PWR_IDLE3_MS ≤ r F.PWR_IDLE2_MS)]
  else if p == 3 then firstBad [(0x40, sscBad d 0x3040 5), (0x44, sscBad d 0x3044 10), (0x48, sscBad d 0x3048 6)]
  else if p == 4 then
    firstBad [(0x74, sgn 16 (r F.THM_TRIP_T) ≤ sgn 16 (r F.THM_WARN_T) || sgn 16 (r F.THM_TRIP_T) > (maxTj d + 10) * 16)]
  else if p == 5 then firstBad [(0x44, r F.PFL_CTL_FILT > 4)]
  else if p == 6 then firstBad [(0x44, r F.ALM_CTL_TFILT > 4)]
  else if 8 ≤ p && p ≤ 0xB then
    firstBad ((memSlots p).flatMap (fun j =>
      let m := 32 * (p - 8) + j
      [(0x40 + 0x20 * j, r (F.MEMx_BKT_INC m) == 0 || r (F.MEMx_BKT_THR m) == 0), (0x44 + 0x20 * j, r (F.MEMx_LEAK_MS m) == 0)]))
  else if p == 0x18 then
    firstBad [(0x40, r F.COX_POLICY_GCSH > 16 || r F.COX_POLICY_PTSH > 4 || r F.COX_POLICY_GCSH + r F.COX_POLICY_PTSH > 16),
      (0x44, r F.COX_DCAP_DCAP == 0 || r F.COX_DCAP_DCAP > 1024)]
  else if p == 0x19 then
    firstBad [(0x40, r F.STK_TS_TS < 5 || r F.STK_TS_TS > 200), (0x44, r F.STK_PCAP_MW < 20000 || r F.STK_PCAP_MW > 68000),
      (0x48, r F.STK_PUB_HOLD == 0)]
  else if 0x1A ≤ p && p ≤ 0x1D then stklCheck d p
  else if p == 0x1F || p == 0x27 then fixedCheck d p
  else if p == 0x20 then
    firstBad [(0x40, r F.MAP_PATCH_FOLD < 50 || r F.MAP_PATCH_FOLD > 95 || r F.MAP_PATCH_LIM == 0 || r F.MAP_PATCH_LIM > 10)]
  else if p == 0x21 then firstBad [(0x40, r F.JNL_TJ_TJ < 10 || r F.JNL_TJ_TJ > 200)]
  else if p == 0x22 then firstBad [(0x40, r F.GC_OP_OP < 20 || r F.GC_OP_OP > 250)]
  else if p == 0x23 then
    firstBad [(0x54, r F.WEAR_RDTH_KREADS == 0), (0x58, r F.WEAR_EOL_PCT < 50 || r F.WEAR_EOL_PCT > 100)]
  else if p == 0x24 then
    firstBad [(0x40, r F.PTL_PERIOD_DAYS == 0 || r F.PTL_PERIOD_DAYS > 30),
      (0x44, r F.PTL_THR_RELOC == 0 || r F.PTL_THR_RELOC ≥ r F.PTL_THR_URG)]
  else if p == 0x26 then if accepted d then fixedCheck d p else mediaCheck d
  else if p == 0x28 then
    firstBad [(0x40, r F.LDPC_CFG_SOFTN == 0 || r F.LDPC_CFG_SOFTN > 5 || r F.LDPC_CFG_RRMAX == 0)]
  else if p == 0x29 then firstBad [(0x40, r F.RDG_CTL_RBSH == 0 || r F.RDG_CTL_RBSH > 20)]
  else if 0x30 ≤ p && p ≤ 0x6F then chnCheck d (p - 0x30)
  else if p == 0x70 then firstBad [(0x40, r F.CRY_MASK_LEVEL == 0 || r F.CRY_MASK_LEVEL == 3)]
  else none

/-! ### What applying a page does -/

/-- The effects of the last accepted mode are in place: TRANS clears, GLB_MODET is written, MODECHG is raised (R111). -/
def transClear (d : Dev) : Dev :=
  raise (wrs d [(F.GLB_STAT_TRANS, 0), (F.GLB_MODET_T, now32 d)]) 0 8

/-- A mode takes effect (R111): ceilings at once; out of DRIFT the device first returns to P0. [log entry 28 DEDUCED] -/
def modeTakes (d : Dev) (mode : Nat) : Dev :=
  let old := rd d F.GLB_STAT_MODE
  let d1 := wrs d [(F.GLB_STAT_MODE, mode), (F.GLB_STAT_TRANS, 1)]
  let d2 := if old == 5 then wake d1 4 else d1
  let asleep := !(rd d2 F.PWR_PSTAT_STATE == 0) || rdB d2 F.PWR_PSTAT_ENTERING || rdB d2 F.PWR_PSTAT_EXITING
  admRecompute (if asleep then d2 else transClear d2)

/-- Effects of a page whose shadows have become active, given the device before: a mode change (R111), a masking level (R328), the
patch limit (R241), the journal window (R262), power states and t_X (R180). [log entry 89 DEDUCED] -/
def pageApplied (dNew dOld : Dev) (p : Nat) : Dev :=
  if p == 0 then
    if rd dNew F.GLB_MODE_MODE == rd dOld F.GLB_MODE_MODE then dNew else modeTakes dNew (rd dNew F.GLB_MODE_MODE)
  else if p == 0x70 then
    if rd dNew F.CRY_MASK_LEVEL == rd dOld F.CRY_MASK_LEVEL then dNew
    else admRecompute (raise (wr dNew F.CRY_STAT_LEVEL (rd dNew F.CRY_MASK_LEVEL)) 0x70 13)
  else if p == 0x20 then wr dNew F.MAP_PLIM_MIB (mapPlim dNew)
  else if p == 0x21 then journalBounds dNew
  else if p == 2 then bounds dNew
  else if p == 0x22 then admRecompute dNew
  else if p == 0x19 then admRecompute (strokeEnables dNew)
  else if p == 0x1D then
    { dNew with stk := { dNew.stk with safeMax := dNew.stk.safeMax.filter (fun l => rd dNew (F.STKL_UMAX_UMAX l) == 0) } }
  else dNew

/-! ### Safe values (R62) -/

/-- A contracted stream whose contract or loop limits took a safe value is demoted at the next slot boundary (R62, R184). -/
def safeDemote (d : Dev) (i : Nat) : Dev :=
  if rdB d (F.STRM_STAT_OPEN i) && !rdB d (F.STRM_STAT_DEMOTED i) then { d with adm := { d.adm with safe := nins i d.adm.safe } } else d

/-- A stream loses its contract fields: they read 0, and it is demoted. -/
def strmSafe (d : Dev) (i : Nat) : Dev :=
  let d1 := safeDemote d i
  admRecompute (wrs (contractTaken d1 i) [(F.STRM_STAT_PRIO i, 0), (F.STRM_STAT_VOL i, 0), (F.STRM_CONTRACT_SMAX i, 0), (F.STRM_CONTRACT_RATE i, 0),
    (F.STRM_BURST_BURST i, 0), (F.STRM_TMIN_TMIN i, 0)])

/-- A Stroke limit takes its safe value: the reset value for a drain loop, with the stream's demotion; STKL_UMIN of a drain loop, for
which neither R62 nor R214 gives one, is reset to 0 with no demotion; for loops 64 and 65 the value that most restricts activity (0
for a clamp, 1 for ELIM and TFE), and UMAX limits R_power even at 0. [log entry 27 DESIGN CHOICE] -/
def stklSafe (d : Dev) (off : Nat) : Dev :=
  let l := 17 * (pageOf off - 0x1A) + (inPage off - 0x40) / 0x80
  let o := (inPage off - 0x40) % 0x80
  if l < 64 then
    let d1 := setShdW (setActW d off (resetWord off)) off (resetWord off &&& shMask off)
    if o == 0x18 then d1 else safeDemote d1 l
  else
    let v : Word := if o ≥ 0x20 then 1 else 0
    let d1 := setShdW (setActW d off v) off v
    if o == 0x1C then { d1 with stk := { d1.stk with safeMax := nins l d1.stk.safeMax } } else d1

/-- All three active copies of a field differ: it takes its safe value in active and shadow copies. [log entries 27 DESIGN CHOICE; 28 DEDUCED] -/
def tvSafe (d : Dev) (off lo : Nat) : Dev :=
  let p := pageOf off
  if off == 0x80 then
    let d1 := wrBoth d F.GLB_MODE_MODE 4
    if recovering d then { d1 with hub := { d1.hub with safeMode := true } }
    else
      if accepted d then modeTakes { d1 with adm := { d1.adm with causes := 7 :: d1.adm.causes } } 4 else d1
  else if off == 0x160 then wr d F.GLB_UPDLOCK_LOCK 1
  else if off == 0x5040 then admRecompute (flushTerms (wr d F.PFL_EHOLD_MJ 0))
  else if off == 0x19044 then wrBoth d F.STK_PCAP_MW 20000
  else if 0x1A ≤ p && p ≤ 0x1D then stklSafe d off
  else if 0x14 ≤ p && p ≤ 0x17 then
    if lo ≤ 31 then strmSafe d (16 * (p - 0x14) + inPage off / 0x100) else d
  else if p == 0x71 then slotLost d ((inPage off - 0x40) / 16)
  else d

end Sys2Proof.Machine
end

