-- ==== Sys2Proof/Machine/Catch.lean ====
section
/-!
DEFINITION. Catches, shadows and triple-voted fields (chapter Register Model, R52 to R63).
-/
namespace Sys2Proof.Machine

/-- Copy the shadow bits of a word into its active copy. -/
def applyWord (d : Dev) (off : Nat) : Dev :=
  setActW (tvTaken d off false) off ((actW d off &&& ~~~ shMask off) ||| shdW d off)

/-- Copy the active bits of a word into its shadow. -/
def revertWord (d : Dev) (off : Nat) : Dev := setShdW (tvTaken d off true) off (actW d off &&& shMask off)

/-- The shadows of a page become active. -/
def applyPage (d : Dev) (p : Nat) : Dev := (pageKeys d p).foldl applyWord d

/-- PAGE_CTRL.DISCARD: the active values go into the shadows and PEND clears (R45); no write of the page is left pending (R57, R59). -/
def discardPage (d : Dev) (p : Nat) : Dev :=
  let d1 := (pageKeys d p).foldl revertWord d
  setHdr d1 p { hdrOf d1 p with pend := false, late := false }

/-- Record a refusal on a page (R56, R59). -/
def refusePage (d : Dev) (p whr cause : Nat) : Dev :=
  raise (setHdr d p { hdrOf d p with refused := true, whr := whr, cause := cause }) p 3

/-- A page has values a Catch would change: a pending write, or a shadow that differs from its active value (R55, R62). -/
def catchNew (d : Dev) (p : Nat) : Bool := (hdrOf d p).pend || (firstDiffer d p).isSome

/-- Step 4 of R55 on one page: a page with new values is checked, then applied or refused (R56); a page without applies trivially. The
pages of a gated island take no part (R55 step 3, R58). -/
def catchPage (d : Dev) (p : Nat) : Dev :=
  let h := hdrOf d p
  if !answers d p then d
  else if catchNew d p then
    match pageCheck d p with
    | some (whr, cause) => refusePage d p whr cause
    | none =>
      let d1 := pageApplied (applyPage d p) d p
      setHdr d1 p { hdrOf d1 p with applied := true, refused := false }
  else setHdr d p { h with applied := true, refused := false }

/-! ### Triple-voted fields (R60 to R63) -/

/-- The triple-voted fields of a word, as (lowest bit, width): a vote is taken on whole fields. -/
def tvFields (off : Nat) : List (Nat × Nat) :=
  let p := pageOf off
  if off == 0x80 then [(0, 3)] else if off == 0x160 then [(0, 1)] else if off == 0x5040 then [(0, 20)]
  else if off == 0x19044 then [(0, 17)]
  else if 0x1A ≤ p && p ≤ 0x1D then
    if tvMask off == 0 then [] else if (inPage off - 0x40) % 0x80 == 0x24 then [(0, 24)] else [(0, 32)]
  else if 0x14 ≤ p && p ≤ 0x17 then
    let o := inPage off % 0x100
    if o == 0x40 then [(24, 3), (16, 6)] else if o == 0x44 then [(16, 8), (0, 16)] else if o == 0x48 then [(0, 24)]
    else if o == 0x4C then [(0, 16)] else []
  else if p == 0x71 && 0x40 ≤ inPage off && inPage off < 0x440 && (inPage off - 0x40) % 16 == 0 then [(29, 3)] else []

/-- Record a disagreement in VOTE_STAT (R63). -/
def voteStat (d : Dev) (off : Nat) (tripleB : Bool) : Dev :=
  let p := pageOf off
  let h := hdrOf d p
  if tripleB then
    raise (setHdr d p { h with triple := true, vWhere := inPage off }) p 2
  else raise (setHdr d p { h with single := true, scount := min 255 (h.scount + 1), vWhere := inPage off }) p 1

/-- The vote on one field of a word whose copies are `c` (R61, R62): nothing, the majority value with VFIX, or the loss of the
value. -/
def voteField (off : Nat) (shadow : Bool) (c : Copies) (d : Dev) (f : Nat × Nat) : Dev :=
  let v := fun x : Word => bitsOf ((if shadow then shdW d off else actW d off) ^^^ x).toNat f.1 f.2
  let put := fun (d : Dev) (n : Nat) =>
    if shadow then setShdW d off (putBits (shdW d off) f.1 f.2 n) else setActW d off (putBits (actW d off) f.1 f.2 n)
  if v c.x0 == v c.x1 && v c.x1 == v c.x2 then put d (v c.x0)
  else if v c.x0 == v c.x1 || v c.x0 == v c.x2 then voteStat (put d (v c.x0)) off false
  else if v c.x1 == v c.x2 then voteStat (put d (v c.x1)) off false
  else
    let d1 := voteStat d off true
    if shadow then
      let d2 := put d1 (bitsOf (actW d1 off).toNat f.1 f.2)
      let p := pageOf off
      setHdr d2 p { hdrOf d2 p with pend := false, late := false }
    else tvSafe d1 off f.1

/-- The vote on a word, by its key in the store of differing copies: the three copies are made equal and every triple-voted field
of the word is judged. -/
def voteWord (d : Dev) (k : Nat) : Dev :=
  match d.hub.tv.get? k with
  | none => d
  | some c =>
    let off := k / 2
    let sh := k % 2 == 1
    (tvFields off).foldl (voteField off sh c) (tvTaken d off sh)

/-- The vote when a word is read (R60): the shadow copies are resolved first (R62). -/
def voteAt (d : Dev) (off : Nat) : Dev := if tvMask off == 0 then d else voteWord (voteWord d (2 * off + 1)) (2 * off)

/-- The vote on every word whose copies differ, shadow copies first: the scrubber, and the hardware that uses the fields (R60). [log entry 26 DEDUCED] -/
def voteAll (d : Dev) : Dev :=
  (d.hub.tv.map (fun e => e.1 / 2)).foldl voteAt d

/-- An upset changes copies of a word. The word itself stays the value that at least two copies hold, where two agree. [log entry 26 DEDUCED] -/
def upsetLand (d : Dev) (u : Upset) : Dev :=
  let m := if u.shadow then tvMask u.off &&& shMask u.off else tvMask u.off
  let k := 2 * u.off + b2n u.shadow
  let c := d.hub.tv.read (fun _ => {}) k
  let c1 : Copies := ⟨c.x0 ^^^ (u.x0 &&& m), c.x1 ^^^ (u.x1 &&& m), c.x2 ^^^ (u.x2 &&& m)⟩
  let w := if u.shadow then shdW d u.off else actW d u.off
  let w1 := (tvFields u.off).foldl (fun (acc : Word) f =>
    let v := fun x : Word => bitsOf (w ^^^ x).toNat f.1 f.2
    if v c1.x0 == v c1.x1 || v c1.x0 == v c1.x2 then putBits acc f.1 f.2 (v c1.x0)
    else if v c1.x1 == v c1.x2 then putBits acc f.1 f.2 (v c1.x1) else acc) w
  let t := w ^^^ w1
  let d1 := if u.shadow then setShdW d u.off w1 else setActW d u.off w1
  { d1 with hub := { d1.hub with tv := d1.hub.tv.put (fun _ => {}) k ⟨c1.x0 ^^^ t, c1.x1 ^^^ t, c1.x2 ^^^ t⟩ } }

/-! ### Catches (R54 to R57) -/

/-- Pages of a Catch group. -/
def groupPages (d : Dev) (g : Nat) : List Nat := allPages.filter (fun p => (hdrOf d p).group == g)

/-- A Catch of a group starts: snapshot, DONE cleared, CBUSY set, the checks and applications of step 4 (R55). -/
def catchStart (d : Dev) (g : Nat) : Dev :=
  let d1 := setBit d F.GLB_CATCH_DONE_DONE g false
  let d2 := (groupPages d1 g).foldl (fun d p => setHdr d p { hdrOf d p with cbusy := true, applied := false }) d1
  (groupPages d2 g).foldl catchPage d2

/-- Fire the groups of a mask (R54, R55, R57): ignored while the gate is not ACCEPTED; a group whose Catch is in progress is
queued. A Catch is a wake event where R420 says so. -/
def catchFire (d0 : Dev) (mask : Nat) : Dev :=
  let d := voteAll d0
  if !accepted d0 then d0
  else foldUpto 8 (fun g d =>
    if bitOf mask g then
      (if bitOf (rd d F.GLB_CATCH_DONE_DONE) g then catchStart d g else setBit d F.GLB_CATCH_DONE_QUEUED g true)
    else d) d

/-- Step 5 of R55 on one page. -/
def catchDonePage (d : Dev) (p : Nat) : Dev :=
  let h := hdrOf d p
  setHdr d p { h with cbusy := false, cseq := (h.cseq + 1) % 256, pend := h.pend && !h.applied, applied := false }

/-- Step 5 of R55: DONE set, CBUSY cleared, CSEQ advanced, PEND cleared on the pages that applied; a queued Catch starts. -/
def catchFinish (d : Dev) (g : Nat) : Dev :=
  let d1 := (groupPages d g).foldl catchDonePage (setBit d F.GLB_CATCH_DONE_DONE g true)
  if bitOf (rd d1 F.GLB_CATCH_DONE_QUEUED) g then catchStart (setBit d1 F.GLB_CATCH_DONE_QUEUED g false) g else d1

/-! ### The scrubber -/

/-- TV_SCRUB: the scrubber votes every field (R60); the operand is what upsets the copies before its next visit. [log entry 26 DEDUCED] -/
def execTvScrub (upsets : List Upset) (s : State) : Host.Outcome State Fault Refusal :=
  finish s (guardDev (alive s.dev) s.dev (upsets.foldl upsetLand (voteAll s.dev)))

end Sys2Proof.Machine
end

