-- ==== Sys2Proof/Machine/ChannelOps.lean ====
section
/-!
DEFINITION. Isolation of channels and their return to reset (R305 to R308).
-/
namespace Sys2Proof.Machine

/-- CHN_STAT.ICAUSE codes: 1 host, 2 training, 3 timeouts, 4 eye, 5 group PLL. -/
def icHOST : Nat := 1
def icTRAIN : Nat := 2
def icTOUT : Nat := 3
def icEYE : Nat := 4
def icPLL : Nat := 5

/-- Hidden state of a channel. -/
def chOf (d : Dev) (c : Nat) : Chn := d.chn.read (fun _ => {}) c
def setCh (d : Dev) (c : Nat) (v : Chn) : Dev := { d with chn := d.chn.put (fun _ => {}) c v }

/-- Page of a channel. -/
def chnPage (c : Nat) : Nat := 0x30 + c

/-- STATE becomes ISOLATED with its cause; ISO is raised (R306). -/
def setIsolated (d : Dev) (c cause : Nat) : Dev :=
  raise (wrs (setCh d c { chOf d c with isolating := false, touts := [], low := 0 })
    [(F.CHN_STAT_STATE c, chISO), (F.CHN_STAT_ICAUSE c, cause), (F.CHN_STAT_RATE c, 0)]) (chnPage c) 10

/-- The LUNs of a channel. -/
def onChn (c l : Nat) : Bool := lunChn l == c

/-- A fault isolates a channel that trains or serves (R306): work in flight is abandoned and placed again, its battens close or
become relocation victims, N_LUN_healthy falls at once. A channel ISOLATED already takes the ICAUSE of a PLL fault. [log entry 139 DESIGN CHOICE] -/
def chanFaultIsolate (d : Dev) (c cause : Nat) : Dev :=
  let st := chnState d c
  if st == chTRAIN then (let d1 := setIsolated d c cause; if inRecover d && rd d F.GLB_STAT_RSTAGE < 6 then d1 else victimsOf d1 (onChn c) 3)
  else if st == chSERVE || st == chGATED then
    let d1 := setIsolated d c cause
    let d2 := victimsOf (lunsOut d1 (onChn c) 3) (onChn c) 3
    lunsChanged { d2 with adm := { d2.adm with causes := 1 :: d2.adm.causes } }
  else if st == chISO && cause == icPLL then wr d (F.CHN_STAT_ICAUSE c) icPLL
  else d

/-- Every channel returns to RESET (R308); what its last training and its last refusal left stays. -/
def chansReset (d : Dev) : Dev :=
  let d1 := foldUpto 64 (fun c d => wrs d [(F.CHN_STAT_STATE c, chRESET), (F.CHN_STAT_ICAUSE c, 0), (F.CHN_STAT_RATE c, 0)]) d
  { d1 with chn := [] }

/-- The NAND as the next start finds it: allocation windows and half-done work are gone (R274). Open battens keep what they hold
until SCAN closes them. -/
def restBattens (n : Nand) : Nand :=
  { n with bats := (n.bats.mapV (fun _ v =>
      if v.st == .window then { v with st := .free }
      else if v.st == .victim then { v with st := .closed, vcls := 0, vcause := 0 }
      else if v.st == .erasing then { v with st := .reclaimed, toErase := [] }
      else v)) }

/-- The media service stops: channels in reset, nothing volatile is left, no ceiling while MODE is NONE (R105, R107, R187). -/
def leaveAccepted (d : Dev) : Dev :=
  let d0 := chansReset (strokeEnd d)
  let d1 := wrs (if rd d F.ADM_RCAP_RCAP == 0 then d0 else raise d0 0x13 8)
    [(F.ADM_RMODE_RMODE, 0), (F.ADM_RCAP_RCAP, 0), (F.JNL_STAT_BUSY, 0), (F.JNL_STAT_WIN, 0)]
  let spent := if recovering d && rd d F.GLB_STAT_RSTAGE ≤ 5 then d.med.ptlSpent else d.sys.time - d.med.ptlStart
  { d1 with med := { nand := restBattens d1.med.nand, ptlSpent := spent, eolDone := d.med.eolDone }, cox := {} }

end Sys2Proof.Machine
end

