-- ==== Sys2Proof/Machine/JournalOps.lean ====
section
/-!
DEFINITION. The journal as a record of the map: deltas, chunks, the allocation window, and what recovery admits (R245, R246, R250 to
R257, R272).
-/
namespace Sys2Proof.Machine

/-! ### Applying deltas (R252) -/

/-- Place of an extent as one number: 2^21 × batten + offset. -/
def placeKey (b off : Nat) : Nat := 2 ^ 21 * b + off

/-- The entries of a course that name an extent take a new place (R244, MOVE). -/
def moveMap (m : MapSt) (k src b off : Nat) : MapSt :=
  match mapEnt m k with
  | .course b0 o0 kg bs mv => if placeKey b0 o0 == src then setCourse m k (.course b off kg bs false) else setCourse m k (.course b0 o0 kg bs mv)
  | .fine _ => { m with fine := m.fine.put (fun _ => []) k ((fineOf m k).mapV (fun _ e => match e with
      | .loc pt b0 o0 idx kg bs => if placeKey b0 o0 == src then .loc pt b off idx kg bs else .loc pt b0 o0 idx kg bs
      | x => x)) }
  | _ => m

/-- Blocks of a course become UNMAPPED (R259). -/
def unmapBlocks (m : MapSt) (k blk n : Nat) : MapSt :=
  if n ≥ 256 then setCourse m k .un
  else match mapEnt m k with
    | .un => m
    | _ => tidyFine (setFine m k blk n (fun _ => .un)) k

/-- Apply one delta: the entries of its blocks take ENTRY, IDX rising by 1 a block. -/
def applyDelta (m : MapSt) (x : Delta) : MapSt :=
  let k := courseKey x.vol x.course
  if x.kind == 2 then unmapBlocks m k x.blk x.count
  else if x.fineE then setFine m k x.blk x.count (fun i => .loc x.patch x.batten x.off (x.idx + i) x.kgen x.blkSeal)
  else setCourse m k (.course x.batten x.off x.kgen x.blkSeal false)

/-! ### What may be journalled (R245) -/

/-- Live ring slots of a transaction. -/
def liveOf (d : Dev) (tx : Nat) : List RingSlot := (d.med.ring.filter (fun e => e.2.live && e.2.ext.tag.txid == tx)).map Prod.snd

/-- Two deltas change a block in common. -/
def deltaMeets (x y : Delta) : Bool :=
  x.vol == y.vol && x.course == y.course && x.blk < y.blk + y.count && y.blk < x.blk + x.count

/-- The rule of its transaction lets a delta into the chunk that starts; a relocation's delta waits for the changes of its blocks that
wait. -/
def eligible (d : Dev) (left : List Delta) (x : Delta) : Bool :=
  if x.kind ≥ 3 then !left.any (deltaMeets x)
  else if x.txnp == 2 then (liveOf d x.txid).isEmpty
  else if x.txnp == 0 || x.txnp == 3 then !((liveOf d x.txid).any (fun r => r.ext.tag.txord < x.ord))
  else true

/-- A waiting delta keeps the blocks that a newer one does not change. -/
def trimDelta (x y : Delta) : List Delta :=
  if !deltaMeets x y then [y]
  else ((List.range y.count).filter (fun i => !(x.blk ≤ y.blk + i && y.blk + i < x.blk + x.count))).map
    (fun i => { y with blk := y.blk + i, count := 1, idx := y.idx + i, fineE := y.fineE || !(y.kind == 2) })

/-- The deltas that go into the chunk that starts, in order, and those that wait: a newer change of a block leaves no older one behind
it in the journal. -/
def pickDeltas (d : Dev) (l : List Delta) : List Delta × List Delta :=
  l.foldl (fun a x => if eligible d a.2 x then (a.1 ++ [x], a.2.flatMap (trimDelta x)) else (a.1, a.2 ++ [x])) ([], [])

/-- Fine entries of a course that gets its fine block with a delta: the entries the block is filled with are changes too (R240, R245). -/
def fillFor (m : MapSt) (x : Delta) : List Delta :=
  match mapEnt m (courseKey x.vol x.course) with
  | .course b o kg bs _ =>
    if (x.kind == 2 && x.count < 256) || (!(x.kind == 2) && x.fineE) then
      [{ kind := 1, vol := x.vol, course := x.course, blk := 0, count := 256, seq := 0, fineE := true, batten := b, off := o, kgen := kg, blkSeal := bs }]
    else []
  | _ => []

/-- Deltas with the fills they need, over the map of the journal. -/
def withFills (m : MapSt) (l : List Delta) : List Delta :=
  (l.foldl (fun (a : MapSt × List Delta) x =>
    let xs := fillFor a.1 x ++ [x]
    (xs.foldl applyDelta a.1, a.2 ++ xs)) (m, [])).2

/-- Lowest SEQ a delta of a host change stands for. -/
def deltaFirst (x : Delta) : Nat := if x.blkSeal then x.seq - (x.count - 1) else x.seq

/-- Highest SEQ below which every change is journalled or superseded (R251, CMARK). -/
def cmarkOf (d : Dev) (left : List Delta) : Nat :=
  let open_ := ((d.med.ring.filter (fun e => e.2.live)).map (fun e => e.2.ext.tag.seq)) ++ (left.filter (fun x => x.kind ≤ 2)).map deltaFirst
  open_.foldl min (rd64 d F.MAP_SEQ) - 1

/-! ### The allocation window (R253, R272) -/

/-- Take free battens for the window: groups in rotation. The fuel is the number to take. -/
def pickWindow : Nat → Dev → List Nat → Dev × List Nat
  | 0, d, acc => (d, acc)
  | n + 1, d, acc =>
    let g := groupsOf d.med.nand
    match (List.range g).findSome? (fun i => (pickFree d ((d.med.rot + i) % g)).map (fun b => (i, b))) with
    | none => (d, acc)
    | some (i, b) =>
      let d1 := modBat d b (fun v => { v with st := .window })
      pickWindow n { d1 with med := { d1.med with rot := (d.med.rot + i + 1) % g } } (acc ++ [b])

/-- Window battens with a member on an isolated channel or failed LUN return to FREE (R306, R322). -/
def windowPrune (d : Dev) : Dev :=
  let out := batsWhere d (fun b v => v.st == .window && !(memberLuns d b).all (lunAvail d))
  let d1 := out.foldl (fun d b => modBat d b (fun v => { v with st := .free })) d
  putWindow d1 (d1.med.window.filter (fun b => !out.contains b))

/-- The window takes the listed battens that are still in it. -/
def setWindow (d : Dev) (l : List Nat) : Dev := putWindow d (l.filter (fun b => (batOf d b).st == .window))

/-- The window lists as many battens as the bound of R253 asks for. -/
def windowFill (d0 : Dev) : Dev :=
  let d := windowPrune d0
  let r := pickWindow (windowSize d - d.med.window.length) d []
  setWindow r.1 (d.med.window ++ r.2)

/-! ### Window records (R253, R256) -/

/-- Stripe from which SCAN has to read a batten: its next stripe, or the first one with a page of an extent whose change is not
journalled. [log entry 125 DEDUCED] -/
def scanStripe (d : Dev) (left : List Delta) (b : Nat) : Nat :=
  let s := stripeCw d
  let offs := (d.med.ring.filter (fun e => e.2.batten == b)).map (fun e => e.2.off) ++ (left.filter (fun x => x.kind == 1 && x.batten == b)).map Delta.off
  if s == 0 then 0 else (offs.map (· / s)).foldl min ((batOf d b).wptr / s)

/-- Window records of a chunk: the open battens and those with changes that wait, each with its stripe, then the battens that will be
opened next, in order. -/
def windowRecs (d : Dev) (left : List Delta) (next : List Nat) : List (Nat × Nat) :=
  (batsWhere d (fun b v => (v.st == .opened && !(v.role == .system)) || left.any (fun x => x.kind == 1 && x.batten == b))).map (fun b => (b, scanStripe d left b))
    ++ next.map (fun b => (b, 0))

/-! ### Chunks (R250, R251, R253) -/

/-- Segments copied by a chunk: those of the rotation, and `extra` ones. -/
def chunkSegs (d : Dev) (m : MapSt) (num : Nat) (extra : List Nat) : List Segment :=
  let s := segCount d
  let turn := (List.range (ceilDiv s 64)).map (fun i => (num * ceilDiv s 64 + i) % s)
  (turn ++ extra.filter (fun i => !turn.contains i)).map (segmentOf d m)

/-- Segments a FORMAT of a volume affects (R429). -/
def volSegs (d : Dev) (v : Nat) : List Nat :=
  let lo := coursesBelow d v
  let hi := lo + volBlocks d v / 256
  (List.range (segCount d)).filter (fun i => if i < mapSegs d then lo < (i + 1) * 131072 && i * 131072 < hi
    else d.med.jmap.map.any (fun e => e.1 / 2 ^ 32 == v && (match e.2 with
      | .fine k => k / 512 + mapSegs d == i
      | _ => false)))

/-- The next chunk, with deltas and window records. [log entry 122 DESIGN CHOICE] -/
def chunkOf (d : Dev) (xs0 : List Delta) (cmark : Nat) (wins : List (Nat × Nat)) (early clean : Bool) (extra : List Nat := []) : Chunk :=
  let xs := withFills d.med.jmap xs0
  let num := d.med.nand.chunk + 1
  let c : Chunk := { fver := d.med.nand.fver, early := early, clean := clean, num := num, cmark := cmark, wseq0 := rd64 d F.MAP_WSEQ, deltas := xs,
                     segs := chunkSegs d (xs.foldl applyDelta d.med.jmap) num extra, wins := wins, time := d.sys.time, next := Config.chunkPlace (num + 1) }
  { c with crc := chunkCrc d c }

/-- Room for a chunk in the open journal batten and its successors: the parts it takes. The fuel bounds the parts. -/
def journalRoom : Nat → Dev → Nat → List (Nat × Nat × Nat) → Dev × List (Nat × Nat × Nat)
  | 0, d, _, acc => (d, acc)
  | n + 1, d, cw, acc =>
    let k := min cw (batCw d)
    if k == 0 then (d, acc)
    else match batFor d .journal (extCw k) 1 with
      | none => (d, acc)
      | some (d1, b) =>
        let off := (batOf d1 b).wptr
        journalRoom n (padClose (appendExt d1 b k 1 (fun d _ => d)) b 1) (cw - k) (acc ++ [(b, off, extCw k)])

/-- A unit of a batten has passed: of an open batten as recorded, of any other one unless its program failed. -/
def unitDone (d : Dev) (b stripe pos : Nat) : Bool :=
  let v := batOf d b
  if v.st == .opened then v.passed.contains (64 * stripe + pos) else !v.failed.contains (stripe, pos)

/-- Every part of a chunk is programmed, with its ridges (R251, R264). -/
def chunkPassed (d : Dev) (c : Chunk) : Bool :=
  !c.parts.isEmpty && c.parts.all (fun p =>
    let n := stripeCw d
    let lo := if n == 0 then 0 else p.2.1 / n
    let hi := if n == 0 then 0 else (p.2.1 + p.2.2 - 1) / n
    !(n == 0) && (List.range (hi + 1 - lo)).all (fun i => (List.range (batW d)).all (fun k => unitDone d p.1 (lo + i) k)))

/-- The chunk being written is placed in class 1; it waits when no journal batten can open. -/
def placeChunk (d : Dev) : Dev :=
  match d.med.chunkNow with
  | none => d
  | some c =>
    let cw := ceilDiv (chunkLen c) 4096
    let r := journalRoom (ceilDiv cw (max 1 (batCw d))) d cw []
    if (r.2.map (fun p => p.2.2)).foldl (· + ·) 0 < cw then d
    else { r.1 with med := { r.1.med with chunkNow := some { c with parts := r.2 } } }

/-- The erase batch is written (R270). -/
def eraseBatchPut (d : Dev) : Dev :=
  if d.med.eraseBatch.isEmpty then d
  else sysPut (modNand { d with med := { d.med with eraseBatch := [] } } (fun n => { n with batchNo := n.batchNo + 1 })) [recKey 4 d.med.nand.batchNo]

/-- A chunk is durable: it joins the chain, of which the last 64 chunks are kept, the journal root follows. -/
def chunkTo (d : Dev) (c : Chunk) : Dev :=
  let d1 := modNand d (fun n =>
    let l := n.chunks ++ [c]
    let kept := l.drop (l.length - 64)
    { n with chunk := c.num, cmark := max n.cmark c.cmark, chunks := kept
             root := ((kept.head?).bind (fun c => c.parts.head?)).map (fun p => placeKey p.1 p.2.1) })
  let d1r := if d1.med.nand.root == d.med.nand.root then d1 else sysPut d1 [recKey 6 0]
  let d2 := { d1r with med := { d1r.med with jmap := c.deltas.foldl applyDelta d.med.jmap } }
  wr64 (wr64 (wr d2 F.JNL_LASTT_T (now32 d)) 0x21048 c.num) 0x21050 d2.med.nand.cmark

/-- The newest chunk of the chain takes the place of the one being written once it is programmed whole, with or without its report. -/
def chunkLands (d : Dev) : Dev :=
  match d.med.chunkNow with
  | none => d
  | some c => if chunkPassed d c then chunkTo { d with med := { d.med with chunkNow := none } } c else d

/-- Units of a batten that hold codewords [lo, hi) of whole stripes are programmed at once, ridges included, with their WSEQ: work of a
stage that the table gives no operations of its own. [log entry 70 DEDUCED] -/
def unitsWritten (d : Dev) (b lo hi : Nat) : Dev :=
  let n := stripeCw d
  if n == 0 then d
  else ((List.range (hi / n - lo / n)).flatMap (fun i => (List.range (batW d)).map (fun p => 64 * (lo / n + i) + p))).foldl (fun d u =>
    add64 (modBat d b (fun v => { v with passed := if v.st == .opened then nins u v.passed else v.passed, wseq := v.wseq.set u (rd64 d F.MAP_WSEQ) })) F.MAP_WSEQ (unitPages d)) d


/-- Room for a chunk that is written at once. The fuel bounds the parts. -/
def directRoom : Nat → Dev → Nat → List (Nat × Nat × Nat) → Dev × List (Nat × Nat × Nat)
  | 0, d, _, acc => (d, acc)
  | n + 1, d, cw, acc =>
    let k := min cw (batCw d)
    let n' := stripeCw d
    if k == 0 || n' == 0 then (d, acc)
    else
      let full := (openOf d .journal).filter (fun b => (batOf d b).wptr + k > batCw d)
      let d1 := full.foldl (fun d b => modBat d b (fun v => { v with st := .closed, sealed := true, passed := [] })) d
      let b? : Option (Dev × Nat) := match (openOf d1 .journal).head? with
        | some b => some (d1, b)
        | none => openBatten d1 .journal
      match b? with
      | none => (d, acc)
      | some (d2, b) =>
        let off := (batOf d2 b).wptr
        let upto := ceilDiv (off + k) n' * n'
        let d3 := unitsWritten (modBat d2 b (fun v => { v with wptr := upto })) b off upto
        directRoom n d3 (cw - k) (acc ++ [(b, off, extCw k)])

/-- A chunk with a CMARK is written at once; the window it lists is in force. [log entry 70 DEDUCED] -/
def chunkWrite (d0 : Dev) (xs : List Delta) (cmark : Nat) (clean : Bool) (extra : List Nat) : Dev :=
  let d := eraseBatchPut (windowFill d0)
  let c := chunkOf d xs cmark (windowRecs d [] (d.med.window)) false clean extra
  let cw := ceilDiv (chunkLen c) 4096
  let r := directRoom (ceilDiv cw (max 1 (batCw d))) d cw []
  chunkTo r.1 { c with parts := r.2 }

/-- The chunk after which every change is journalled: with CLEAN at a REOPEN (R107, R250), or as the last checkpoint of FOLD (R232). -/
def chunkDirect (d : Dev) (xs : List Delta) (clean : Bool) (extra : List Nat := []) : Dev :=
  chunkWrite d xs (rd64 d F.MAP_SEQ - 1) clean extra

/-- The journal is flushed with CLEAN set (R107, R250). -/
def journalClean (d : Dev) : Dev :=
  let xs := chunkDeltas d ++ d.med.deltas
  chunkDirect (wr { d with med := { d.med with deltas := [], chunkNow := none } } F.JNL_STAT_BUSY 0) xs true

/-! ### REPLAY (R255) -/

/-- What waits for an open batten is tried again: a chunk first. -/
def placeWaits (d : Dev) : Dev :=
  placeWaiting (if d.med.chunkNow.any (fun c => c.parts.isEmpty) then placeChunk d else d)

/-- Chunks of the chain up to the last one whose CRC passes; `bad` are chunks that do not read. -/
def goodChain (d : Dev) (bad : List Nat) : List Chunk :=
  d.med.nand.chunks.takeWhile (fun c => c.crc == chunkCrc d c && !bad.contains c.num)

/-- A course without a FINE entry has no fine block. -/
def dropFine (m : MapSt) (p : Nat → Bool) : MapSt := { m with fine := m.fine.filter (fun e => !p e.1 || !plainCourse m e.1) }

/-- A segment copy takes the place of what the segment held. -/
def loadSeg (d : Dev) (m : MapSt) (s : Segment) : MapSt :=
  if s.idx < mapSegs d then
    let mine := fun (k : Nat) => entIndex d k / 131072 == s.idx
    dropFine { m with map := s.ents.foldl (fun (a : SMap MapEnt) e => SMap.set a e.1 e.2) (m.map.filter (fun e => !mine e.1)) } mine
  else { m with fine := s.fine.foldl (fun (f : SMap (SMap FineEnt)) e => f.put (fun _ => []) e.2.1 e.2.2) m.fine }

/-- Every course has a fine block of its own: a FIDX that an earlier course has is replaced. [log entry 124 DEDUCED] -/
def ownFine (m : MapSt) : MapSt :=
  (m.map.foldl (fun (a : MapSt × List Nat) e => match e.2 with
    | .fine i => if a.2.contains i then
        let j := freeFine a.1
        ({ a.1 with map := a.1.map.set e.1 (.fine j) }, j :: a.2)
      else (a.1, i :: a.2)
    | _ => a) (m, [])).1

/-- The map after the chunks: each chunk's deltas, then its segment copies, which reflect them; so each segment has its newest copy and
the deltas after it (R253, R255). -/
def replayChunks (d : Dev) (l : List Chunk) : MapSt :=
  ownFine (dropFine (l.foldl (fun m c => c.segs.foldl (loadSeg d) (c.deltas.foldl applyDelta m)) {}) (fun _ => true))

/-! ### Recovery of transactions (R246, R256) -/

/-- Insert by ascending key. -/
def seqIns {α : Type} (f : α → Nat) (x : α) : List α → List α
  | [] => [x]
  | y :: l => if f x < f y then x :: y :: l else y :: seqIns f x l

def seqSort {α : Type} (f : α → Nat) (l : List α) : List α := l.foldr (seqIns f) []

/-- Valid flush sets that are not folded, in ascending number (R232). -/
def openSets (n : Nand) : List EaveSet := seqSort EaveSet.num (n.eaves.filter (fun e => e.valid && !e.folded))

/-- An extent that recovery finds, at its place, with the pages of it that are present (R246). -/
structure Piece where
  at_ : Nat
  tag : ExtTag
  pages : List Nat
  deriving DecidableEq, Repr

/-- Every page of the piece is present. -/
def Piece.whole (p : Piece) : Bool := p.pages.length == extPages p.tag

/-- Window records of the last chunk. -/
def lastWins (n : Nand) : List (Nat × Nat) := ((n.chunks.getLast?).map Chunk.wins).getD []

/-- A unit of a batten is programmed, its status passed or failed. -/
def unitProgd (d : Dev) (b stripe pos : Nat) : Bool :=
  let v := batOf d b
  if v.st == .opened then v.passed.contains (64 * stripe + pos) || v.failed.contains (stripe, pos)
  else !(stripeCw d == 0) && stripe < v.wptr / stripeCw d

/-- SCAN reads the page at a codeword offset: from the recorded stripe on, before the first erased page of its member (R256). -/
def scanReads (d : Dev) (b off : Nat) : Bool :=
  match (lastWins d.med.nand).find? (fun w => w.1 == b) with
  | none => false
  | some w =>
    let s := offStripe d off
    w.2 ≤ s && (List.range (s + 1 - w.2)).all (fun i => unitProgd d b (w.2 + i) (offPos d off))

/-- A page that SCAN reads is present: its first codeword decodes and its tag passes (R246, R249). -/
def pagePresent (d : Dev) (b off : Nat) : Bool :=
  scanReads d b off && !(batOf d b).failed.contains (offStripe d off, offPos d off) && !d.med.scanBad.contains (placeKey b off)

/-- What SCAN finds of the extents that no relocation wrote. -/
def scanPieces (d : Dev) : List Piece :=
  (d.med.nand.flash.filter (fun e => !e.2.tag.reloc)).filterMap (fun e =>
    let b := e.1 / 2 ^ 21
    let ps := (List.range (extPages e.2.tag)).filter (fun j => !e.2.miss.contains j && pagePresent d b (e.1 % 2 ^ 21 + 4 * j))
    if ps.isEmpty then none else some ⟨e.1, e.2.tag, ps⟩)

/-- Pages SCAN reads: the programmed pages of the listed battens, data and ridge (JNL_SCANPG). [log entry 125 DEDUCED] -/
def scanCount (d : Dev) : Nat :=
  ((lastWins d.med.nand).map (fun w =>
    ((List.range (nUnits d - w.2)).flatMap (fun i => (List.range (batW d)).filter (fun p =>
      (List.range (i + 1)).all (fun k => unitProgd d w.1 (w.2 + k) p)))).length * unitPages d)).foldl (· + ·) 0

/-- The extents of flush sets, at the places FOLD gave them: every page is present. -/
def setPieces (l : List (Nat × Extent)) : List Piece := l.map (fun e => ⟨e.1, e.2.tag, List.range (extPages e.2.tag)⟩)

/-- What recovery knows beside the pages: the deltas that REPLAY kept and found in the sets, and the open transaction records. -/
structure Known where
  deltas : List Delta
  txns : List (Nat × Nat)
  deriving DecidableEq, Repr

def knownOf (d : Dev) : Known :=
  ⟨d.med.jrecent ++ (openSets d.med.nand).flatMap EaveSet.deltas, (openSets d.med.nand).flatMap EaveSet.txns⟩

/-- A delta of a transaction's id lies in the SEQ range of a tag of it that stands for portion `o` (R246): the portions of a command of up to
1 MiB share their SEQ, those of a larger one rise. [log entry 126 DEDUCED] -/
def sameRange (x : Delta) (t : ExtTag) (o : Nat) : Bool :=
  if t.txnp == 2 then x.seq == t.seq else if o ≤ t.txord then x.seq ≤ lastSeq t else t.seq ≤ x.seq

/-- Portion `o` of the transaction of a tag is complete: all its pages are present, or the journal or a transaction record says so. [log entry 126 DEDUCED] -/
def portionDone (kn : Known) (l : List Piece) (t : ExtTag) (o : Nat) : Bool :=
  l.any (fun p => p.tag.txid == t.txid && p.tag.txnp == t.txnp && p.tag.txord == o && p.whole)
    || kn.txns.any (fun r => r.1 == t.txid && o < r.2)
    || kn.deltas.any (fun x => x.txid == t.txid && x.txnp == t.txnp && x.vol == t.vol && x.course + t.txord == t.course + o && x.ord == o
      && sameRange x t o)

/-- Block ordinal `o` of a transaction under TXNP 3 is present. -/
def ordDone (kn : Known) (l : List Piece) (t : ExtTag) (o : Nat) : Bool :=
  l.any (fun p => p.tag.txid == t.txid && p.tag.txnp == 3
      && p.pages.any (fun j => pageOrd p.tag j ≤ o && o < pageOrd p.tag j + pageBlks p.tag j))
    || kn.txns.any (fun r => r.1 == t.txid && o < r.2)
    || kn.deltas.any (fun x => x.txid == t.txid && x.txnp == 3 && x.vol == t.vol && x.seq ≤ lastSeq t
      && 256 * x.course + x.blk + t.txord ≤ 256 * t.course + t.blk + o && 256 * t.course + t.blk + o < 256 * x.course + x.blk + x.count + t.txord)

/-- Recovery admits page `j` of an extent (R246). -/
def txAdmits (kn : Known) (l : List Piece) (t : ExtTag) (j : Nat) : Bool :=
  if t.txnp == 1 then l.any (fun p => p.tag == t && p.whole)
  else if t.txnp == 2 then portionDone kn l t 0 && portionDone kn l t 1
  else if t.txnp == 0 then (List.range (t.txord + 1)).all (portionDone kn l t)
  else (List.range (pageOrd t j)).all (ordDone kn l t)

/-- A delta of equal or higher SEQ covers the block. -/
def coveredBy (xs : List Delta) (k blk sq : Nat) : Bool :=
  xs.any (fun x => courseKey x.vol x.course == k && x.blk ≤ blk && blk < x.blk + x.count && x.seq ≥ sq)

/-- Blocks of a piece that take effect: above CMARK, on admitted pages, under no delta of equal or higher SEQ. -/
def takenBlocks (kn : Known) (cmark : Nat) (known : List Delta) (l : List Piece) (p : Piece) : List Nat :=
  let k := courseKey p.tag.vol p.tag.course
  ((p.pages.filter (txAdmits kn l p.tag)).flatMap (fun j => (List.range (pageBlks p.tag j)).map (fun i => 4 * j + i))).filterMap (fun i =>
    if blkSeq p.tag i > cmark && !coveredBy known k (p.tag.blk + i) (blkSeq p.tag i) then some (p.tag.blk + i) else none)

/-- The changes that the candidates make, in SEQ order (R256). -/
def candDeltas (kn : Known) (cmark : Nat) (l : List Piece) : List Delta :=
  (seqSort (fun (p : Piece) => p.tag.seq) l).foldl (fun acc p =>
    acc ++ placeDeltas 1 p.tag (p.at_ / 2 ^ 21) (p.at_ % 2 ^ 21) (takenBlocks kn cmark (kn.deltas ++ acc) l p) (!p.tag.patch)) []

/-- Transactions with a candidate page that no rule admits (R246). -/
def dropped (kn : Known) (cmark : Nat) (l : List Piece) : List Nat :=
  (l.filter (fun p => lastSeq p.tag > cmark && p.pages.any (fun j => !txAdmits kn l p.tag j))).foldl (fun acc p => nins p.tag.txid acc) []

/-- The counters restart above the highest SEQ and WSEQ found (R243). -/
def raiseSeq (d : Dev) (l : List Nat) : Dev := wr64 d F.MAP_SEQ (l.foldl max (rd64 d F.MAP_SEQ - 1) + 1)
def raiseWseq (d : Dev) (l : List Nat) : Dev := wr64 d F.MAP_WSEQ (l.foldl max (rd64 d F.MAP_WSEQ - 1) + 1)

/-! ### Administrative records and the unmapping of a volume (R270 TYPE 7, R429, R431) -/

/-- Change the progress record; the time the operation has run goes with it. [log entry 65 DESIGN CHOICE] -/
def putProg (d : Dev) (p : Progress) : Dev :=
  let ns := ((d.med.nand.prog.map Progress.ns).getD 0) + (d.sys.time - d.admin.start)
  sysPut (modNand { d with admin := { d.admin with start := d.sys.time } } (fun n => { n with prog := some { p with ns := ns } })) [recKey 7 p.op]

/-- Mapped courses of a volume. -/
def volCourses (m : MapSt) (v : Nat) : List Nat := (m.map.filter (fun e => e.1 / 2 ^ 32 == v)).map Prod.fst

/-- One map update unmaps every course of a volume: the UNMAP deltas share its SEQ. [log entry 101 DEDUCED] -/
def formatUnmap (d : Dev) (v : Nat) (recordOk : Bool) : Dev :=
  let ks := volCourses d.med.m v
  let sq := rd64 d F.MAP_SEQ
  let xs := ks.map (fun k => ({ kind := 2, vol := v, course := k % 2 ^ 32, blk := 0, count := 256, seq := sq } : Delta))
  let d1 := { d with
    med := { d.med with m := ks.foldl (fun m k => setCourse m k .un) d.med.m, deltas := d.med.deltas ++ xs }
    admin := { d.admin with fmtChunk := false, fmtOk := recordOk } }
  putProg (add64 d1 F.MAP_SEQ 1) { op := 2, vol := v }

end Sys2Proof.Machine
end

