-- ==== Sys2Proof/Machine/FlushOps.lean ====
section
/-!
DEFINITION. What a loss of power keeps, and the emergency flush (R78, R108, R225, R229 to R231, R233, R395).
-/
namespace Sys2Proof.Machine

/-! ### Erases in doubt (R229, R275) -/

/-- Block that an erase concerns, as 2^20 × LUN + block. -/
def eraseBlock (d : Dev) (l : Nat) (o : FOp) : Nat := 2 ^ 20 * l + (if o.eave then o.off else (memberAt d o.batten o.pos).2)

/-- The erases under way, executing or suspended, are erases in doubt. [log entries 13 DESIGN CHOICE; 14 DESIGN CHOICE; 31 DEDUCED] -/
def doubtOf (d : Dev) : List Nat :=
  (d.cox.luns.flatMap (fun e => ((e.2.exec.toList ++ e.2.asleep.toList).filter (fun o => o.kind == .erase)).map (eraseBlock d e.1))).foldl
    (fun acc k => nins k acc) d.med.nand.doubt

/-! ### Eave pages (R228 to R230) -/


/-- Blocks of a LUN's spare pool that are erased since the pool was formed (R266, R430). -/
def freshSpares (d : Dev) (l : Nat) : List Nat :=
  let n := d.med.nand
  let r := lunRecOf d l
  (List.range (sparePool n l - r.spareTaken)).map (fun i => nthGood n l (memberPool n l + r.spareTaken + i))

/-- Member blocks of a LUN that are erased: those of its FREE battens (R231). -/
def freeMembers (d : Dev) (l : Nat) : List Nat :=
  let n := d.med.nand
  ((List.range (batTotal n)).filter (fun b => (batOf d b).st == .free)).filterMap (fun b =>
    ((List.range n.w).find? (fun p => (memberAt d b p).1 == l)).map (fun p => (memberAt d b p).2))

/-- Page places over blocks by LUN: page by page over the LUNs. [log entry 39 DEDUCED] -/
def pagesOver (d : Dev) (blocks : Nat → List Nat) : List EavePlace :=
  let luns := (eaveLuns d).map (fun l => (l, blocks l))
  let rows := (luns.map (fun e => e.2.length)).foldl max 0 * slcPages d
  (List.range rows).flatMap (fun r => luns.filterMap (fun e =>
    (e.2[r / slcPages d]?).map (fun b => (⟨e.1, b, r % slcPages d⟩ : EavePlace))))

/-- Page places in the order the flush takes them, as many as `n` where there are: those of the erased eave blocks, then, with the margin
spent, of any erased block: of the spare pools, and of FREE battens (R231, R310). [log entry 39 DEDUCED] -/
def eavePlaces (d : Dev) (n : Nat) : List EavePlace :=
  let a := pagesOver d (fun l => (lunRecOf d l).eave)
  if a.length ≥ n then a
  else
    let b := a ++ pagesOver d (freshSpares d)
    if b.length ≥ n then b else b ++ pagesOver d (freeMembers d)

/-- Pages of the sealed extents of the ring: a page holds codewords of one extent only. -/
def eavePageCount (d : Dev) : Nat := (d.med.ring.map (fun e => ceilDiv e.2.ext.tag.n 4)).foldl (· + ·) 0

/-- Bytes of META: the deltas as R252 has them, the open transaction records (TXID, TXORD), the counters (slot, role, volume,
generation, counter) and the doubt list (LUN, block). [log entry 39 DEDUCED] -/
def metaBytes (s : EaveSet) : List Nat :=
  s.deltas.flatMap deltaBytes ++ s.txns.flatMap (fun e => leBytes 4 e.1 ++ leBytes 4 e.2)
    ++ s.counters.flatMap (fun c => leBytes 1 c.slot ++ leBytes 1 c.role ++ leBytes 1 c.vol ++ leBytes 1 c.kgen ++ leBytes 4 0 ++ leBytes 8 c.ctr)
    ++ s.doubt.flatMap (fun k => leBytes 2 (k / 2 ^ 20) ++ leBytes 2 (k % 2 ^ 20))

/-- Pages of META. [log entry 39 DEDUCED] -/
def metaPageCount (s : EaveSet) : Nat := max 1 (ceilDiv (metaBytes s).length 16384)

/-- Tags of the codewords of an extent in eave pages: type EAVE, the place unset (R229, R248, R249). -/
def eaveTags (e : Extent) (wseq : Nat) : List PageTag := (List.range e.tag.n).map (fun i => extTag .eave e.tag i 0xFFFFFFFF (wseq + i / 4))

/-- Open transactions: those with sealed portions that are not Committed, and the TXORD below which every portion is (R229, R246). -/
def openTxns (d : Dev) : List (Nat × Nat) :=
  let live := (d.med.ring.filter (fun e => e.2.live)).map (fun e => e.2.ext.tag)
  (live.foldl (fun (m : SMap Nat) t => SMap.set m t.txid (min t.txord (m.getD t.txid t.txord))) [])

/-- Places of failed programs and of failed LUNs are replaced by the next places on other LUNs (R229, R231). -/
def redirect : List EavePlace → List (EavePlace × Bool) → List EavePlace
  | _, [] => []
  | pool, (p, false) :: l => p :: redirect pool l
  | pool, (p, true) :: l => match takeFirst (fun q => !(q.lun == p.lun)) pool with
    | some (q, rest) => q :: redirect rest l
    | none => redirect pool l

/-- `n` pairs of places, each pair on two channels. -/
def placePairs : Nat → List EavePlace → List EavePlace
  | 0, _ => []
  | _, [] => []
  | n + 1, p :: rest => match takeFirst (fun q => !(lunChn q.lun == lunChn p.lun)) rest with
    | some (q, rest') => p :: q :: placePairs n rest'
    | none => [p]

/-- Bytes of an eave record: the fields of R230 as little-endian words, then the places. [log entry 39 DEDUCED] -/
def eaveRecordBytes (s : EaveSet) : List Nat :=
  let ws := [s.num, s.gen, s.pages.length, s.metas.length, s.bytes, s.bytes / 2 ^ 32, s.t0, s.t0 / 2 ^ 32, s.t1, s.t1 / 2 ^ 32]
    ++ (s.pages ++ s.metas).flatMap (fun p => [p.lun + 2 ^ 16 * p.page, p.block])
  ws.flatMap (fun w => (List.range 4).map (fun i => bitsOf w (8 * i) 8))

/-- CRC-32C over the record (R230). -/
def eaveRecordCrc (s : EaveSet) : Nat := crc32c (eaveRecordBytes s)

/-- Codewords that fill a number of pages: pieces of 4,096 bytes with a tag each. [log entry 39 DEDUCED] -/
def eaveFill (l : List Nat) (pages wseq : Nat) : List (List (List Nat)) :=
  let tag := tagBytes { typ := .eave, wseq := wseq, batten := 0xFFFFFFFF }
  (List.range pages).map (fun i => (List.range 4).map (fun k =>
    let x := (l.drop (16384 * i + 4096 * k)).take 4096
    x ++ List.replicate (4096 - x.length) 0 ++ tag))

/-- Payloads of the eave data pages of a set, in the order of its places: the ciphertext of each extent with its tags (R229). -/
def eaveData (s : EaveSet) : List (List (List Nat)) :=
  (s.exts.foldl (fun (a : List (List (List Nat)) × Nat) r =>
    let n := ceilDiv r.ext.tag.n 4
    let cw := fun (i : Nat) => if i < r.ext.tag.n then cipherBytes r.ext i ++ tagBytes (extTag .eave r.ext.tag i 0xFFFFFFFF (a.2 + i / 4))
      else List.replicate 4096 0 ++ tagBytes (padTag 0xFFFFFFFF (a.2 + i / 4))
    (a.1 ++ (List.range n).map (fun j => (List.range 4).map (fun k => cw (4 * j + k))), a.2 + n)) ([], s.wseq0)).1

/-- Page programs of the flush go out, in SLC mode (R296). -/
def eaveOut (d : Dev) (ps : List EavePlace) (pages : List (List (List Nat))) : Dev :=
  (ps.zip pages).foldl (fun d e => nandOut d e.1.lun (slcCyc d e.1.lun e.1.block e.1.page e.2)) d

/-- Each page of a list, twice: the two copies of META and of the record. -/
def twice {α : Type} (l : List α) : List α := l.flatMap (fun x => [x, x])

/-- A flush set is valid: a copy of its record passes its CRC, and every page it lists reads; `bad` are places that do not read
with a valid tag (R230). -/
def eaveReads (bad : List EavePlace) (s : EaveSet) : Bool :=
  s.recs.any (fun r => r.crc == eaveRecordCrc s && !bad.contains r.at_) && (s.pages ++ s.metas).all (fun p => !bad.contains p)

/-- Blocks that the flush has written are not erased any more: those of the reserve (R228), and those of the spare pool, which join it, wait
for the erase of step 4 (R232); a batten whose member was used is erased again. -/
def useBlock (d : Dev) (l blk : Nat) : Dev :=
  let r := lunRecOf d l
  if r.eaveDirty.contains blk then d
  else if r.eave.contains blk then setLunRec d l { r with eave := ndel blk r.eave, eaveDirty := nins blk r.eaveDirty }
  else match (freshSpares d l).findIdx? (· == blk) with
    | some k => setLunRec d l { r with spareTaken := r.spareTaken + k + 1, spareBack := r.spareBack ++ (freshSpares d l).take k,
                                       eaveDirty := nins blk r.eaveDirty }
    | none => match (List.range (batTotal d.med.nand)).find? (fun b => (batOf d b).st == .free
          && (List.range d.med.nand.w).any (fun p => memberAt d b p == (l, blk))) with
      | some b => modBat d b (fun v => { v with st := .reclaimed })
      | none => d

/-- The blocks of a set, those with failed programs among them, are used. -/
def usePlaces (d : Dev) (s : EaveSet) : Dev :=
  (((s.pages ++ s.metas).map (fun p => (p.lun, p.block)) ++ s.recs.map (fun r => (r.at_.lun, r.at_.block)) ++ s.retire).foldl
    (fun acc x => if acc.contains x then acc else acc ++ [x]) []).foldl (fun d x => useBlock d x.1 x.2) d

/-- Places not used by the set, on LUNs that still work, as many as `n` where there are. -/
def placesLeft (d : Dev) (s : EaveSet) (n : Nat) : List EavePlace :=
  (eavePlaces d ((s.pages ++ s.metas).length + (s.retire.length + 1) * slcPages d + n)).filter (fun p => !(s.pages ++ s.metas).contains p
    && !s.retire.contains (p.lun, p.block) && !s.lost.contains p.lun)

/-- The flush set that step WRITE starts (R229, R230): the sealed extents, the changes not journalled, the counters of every LOADED
slot, the erases in doubt. [log entry 39 DEDUCED] -/
def eaveSetOf (d : Dev) : EaveSet :=
  let live := (d.med.ring.filter (fun e => e.2.live)).map (fun e => e.2)
  { num := ((d.med.nand.eaves.filter (fun e => e.folded || !e.recs.isEmpty)).map EaveSet.num).foldl max 0 + 1, gen := d.med.nand.gen,
    t0 := d.med.t0, t1 := d.sys.time,
    bytes := dirtyBytes d, exts := live, deltas := chunkDeltas d ++ d.med.deltas, txns := openTxns d, wseq0 := rd64 d F.MAP_WSEQ,
    counters := (List.range 64).filterMap (fun n => if rd d (F.KEY_STAT_STATE n) == ksLOADED then
      some ⟨n, rd d (F.KEY_STAT_ROLE n), rd d (F.KEY_STAT_VOL n), rd d (F.KEY_STAT_KGEN n), rd64 d (F.KEY_CNT n)⟩ else none),
    doubt := d.med.nand.doubt, pages := (eavePlaces d (eavePageCount d)).take (eavePageCount d), folded := false, valid := false }

/-- The newest flush set, and a change of it. -/
def lastSet? (d : Dev) : Option EaveSet := d.med.nand.eaves.getLast?
def modSet (d : Dev) (f : EaveSet → EaveSet) : Dev :=
  modNand d (fun n => { n with eaves := n.eaves.dropLast ++ (n.eaves.getLast?.map f).toList })

/-- Power or a needed rail fails before the record stands: the pages that are programmed stay, and no record will name them (R231, R233). -/
def cutWrite (d : Dev) : Dev :=
  let st := rd d F.PFL_STAT_STATE
  if d.sys.flushLost then d
  else if st == 3 then
    let s := eaveSetOf d
    let done : EaveSet := { s with pages := s.pages.take (Config.eaveDone d.free % (s.pages.length + 1)), exts := [], deltas := [], counters := [], doubt := [] }
    let d1 := tick (usePlaces d done)
    if done.pages.isEmpty then d1 else modNand d1 (fun n => { n with eaves := n.eaves ++ [done] })
  else if st == 4 || st == 5 then
    (match lastSet? d with
      | some s => usePlaces (modSet d (fun e => { e with exts := [], deltas := [], counters := [], doubt := [] })) s
      | none => d)
  else d

/-- Extents that are programmed in part when power goes: what is programmed of them stays on the battens (R246, R247). -/
def partExts (d : Dev) : List (Nat × Extent) :=
  ((d.med.ring.map (fun e => (e.2.batten, e.2.off, e.2.ext))) ++ (d.med.reloc.map (fun e => (e.2.batten, e.2.off, e.2.ext)))).filterMap (fun x =>
    let miss := (List.range (extPages x.2.2.tag)).filter (fun j =>
      let off := x.2.1 + 4 * j
      !(batOf d x.1).passed.contains (64 * offStripe d off + offPos d off))
    if x.1 == 0x1000000 || miss.length == extPages x.2.2.tag || (d.med.nand.flash.get? (placeKey x.1 x.2.1)).isSome then none
    else some (placeKey x.1 x.2.1, { x.2.2 with miss := miss }))

/-- What the media hold once power is gone: the extents programmed in part, the chunk whose last page passed, and erase counts as they
were last recorded (R251, R270). -/
def mediaCut (d0 : Dev) : Nand :=
  let d := chunkLands d0
  let n := restBattens d.med.nand
  { n with doubt := doubtOf d
           flash := (partExts d).foldl (fun f e => SMap.set f e.1 e.2) n.flash
           bats := d.med.eraseBatch.foldl (fun m e => m.put (fun _ => {}) e.1 { m.read (fun _ => ({} : Batten)) e.1 with ec := e.2 }) n.bats }

/-- Only the media, the firmware array, the persistent log, the fuses and the life counters outlive a start. `cold` clears what
lasts until PWRGD_AON rises again (R398, R433). [log entries 31 DEDUCED; 32 DEDUCED] -/
def mediaOnly (d0 : Dev) (cold : Bool) : Dev :=
  let d := cutWrite d0
  let regs := d.array.regs.mapV (fun _ r => { r with opened := false, wrong := if cold then 0 else r.wrong })
  { ({} : Dev) with
    med := { nand := mediaCut d }
    array := { blocks := (arrAbandon d).array.blocks, regs := regs.filter (fun e => !(e.2 == {})) }
    log := { saved := d.log.saved }
    mem := { burned := d.mem.burned }
    admin := { powered := d.admin.powered + (if cold then d.sys.time / 1000000000 else 0) }
    free := d.free }

/-! ### The steps (R229) -/

/-- The flush has nothing to write (R108): before REPLAY of the first RECOVER, in FOLD (R233), or in P2 and P3 (R438).
[log entry 37 DEDUCED] -/
def flushEmpty (d : Dev) : Bool :=
  !accepted d || (recovering d && (rd d F.GLB_STAT_RSTAGE ≤ 2 || rd d F.GLB_STAT_RSTAGE == 5)) || rd d F.PWR_PSTAT_STATE ≥ 2

/-- The switched domains are off, with their PLLs and the links, until the warm restart (R84, R90). -/
def flushOff (d : Dev) : Dev :=
  let d1 := wrs (chansReset d) [(F.PWR_DOMSTAT_ON, 0), (F.CLK_STAT_LOCK, rd d F.CLK_STAT_LOCK % 2)]
  let d2 := foldUpto 8 (fun i d =>
    let b := 0x10000 + 0x1000 * (i / 4) + 4 * (i % 4)
    setActW (setActW d (b + 0x50) 0) (b + 0x60) 0) d1
  { d2 with hub := { d2.hub with hdr := d2.hub.hdr.map (fun e => (e.1, if domainOf e.1 < 30 then { e.2 with on := false } else e.2)) } }

/-- Step DONE. -/
def flushEnd (d : Dev) : Dev := wr (flushOff d) F.PFL_STAT_STATE 6

/-- Rails the flush uses (R78). -/
def flushRails : List Nat := [1, 2, 5, 6, 7, 8, 9, 10, 11, 13]
def flushPowered (d : Dev) : Bool := flushRails.all (bitOf d.sys.rails)

/-- The flush cannot complete: what was Protected and not Committed is lost, and the warm restart follows (R78, R90, R231). -/
def flushAbort (d : Dev) : Dev :=
  let d1 := cutWrite d
  flushOff { d1 with sys := { d1.sys with flushLost := true } }

/-- The program in flight on a LUN, a suspended one resumed, which the flush lets end (R225). -/
def progInFlight (v : LunSt) : Option FOp :=
  (v.exec.toList ++ v.asleep.toList).find? (fun o => o.kind == .prog)

/-- Step STOP (R229): operations not issued are dropped, programs in flight go on, erases are in doubt, reads and copies end, the array
stops (R395). A hard memory repair in progress is abandoned (R385); a soft one completes (R387). -/
def flushStop (d : Dev) : Dev :=
  let d1 := modNand d (fun n => { n with doubt := doubtOf d })
  let luns := d.cox.luns.filterMap (fun e => (progInFlight e.2).map (fun o => (e.1, ({ exec := some o } : LunSt))))
  let out := (d.cox.luns.filter (fun e => e.2.exec.any (fun o => o.kind == .erase))).foldl (fun d e => nandOut d e.1 [.cmd 0xFA, .row 0 0 0]) d1
  let d2 := arrAbandon { out with
    cox := { luns := luns }
    med := { d1.med with work := [], jobs := [], reloc := [], waitReloc := [], gcv := none, folding := [] } }
  match d2.mem.repair with
  | some (row, 1) =>
    { d2 with mem := { d2.mem with repair := none, burned := if Config.burnTook d2.free then d2.mem.burned ++ [row] else d2.mem.burned }
              free := d2.free + 1 }
  | _ => d2

/-- Channel groups gated by host request or by a power state are ungated for the flush (R438, R444). -/
def flushUngate (d : Dev) : Dev :=
  foldUpto 16 (fun k d =>
    if domOn d k then d
    else
      let d1 := setBit (setBit d F.PWR_DOMSTAT_ON k true) F.PWR_DOMSTAT_ON (22 + k / 4) true
      let d2 := pllFollow (pllFollow d1 k) (22 + k / 4)
      foldUpto 4 (fun i d => if chnState d (4 * k + i) == chGATED then wr d (F.CHN_STAT_STATE (4 * k + i)) chSERVE else d) d2) d

/-- The emergency flush starts (R229); a second trigger is ignored (R231), and in STAGE FAIL, which only a cold start leaves, none
runs (R88). `cause` is the code the warm restart will report. With a rail it needs missing it cannot complete (R78). The fields the flush
uses are voted (R60). [log entries 37 DEDUCED; 40 DEDUCED] -/
def flushBegin (d0 : Dev) (cause : Nat) : Dev :=
  if flushing d0 || rd d0 F.GLB_BOOT_STAGE == 0xF then d0
  else
    let d := voteAll d0
    let d1 := { d with sys := { d.sys with restartCause := cause, flushed := false } }
    if flushEmpty d1 then flushEnd (flushStop d1)
    else if !flushPowered d1 then flushAbort (wr (flushStop d1) F.PFL_STAT_STATE 1)
    else wr (flushStop { (flushUngate d1) with med := { d1.med with t0 := d.sys.time } }) F.PFL_STAT_STATE 2

/-- A step of the flush is in progress. -/
def inFlush (d : Dev) (step : Nat) : Bool := alive d && rd d F.PFL_STAT_STATE == step && !d.sys.flushLost

/-- A program in flight when the flush started ends: its unit is recorded as programmed or failed, nothing else follows (R225). -/
def flushProgEnd (d : Dev) (l : Nat) (o : FOp) (ok : Bool) : Dev :=
  modBat (setLun d l {}) o.batten (fun v =>
    if ok then { v with passed := if v.st == .opened then nins (64 * o.stripe + o.pos) v.passed else v.passed }
    else { v with failed := if v.failed.contains (o.stripe, o.pos) then v.failed else v.failed ++ [(o.stripe, o.pos)]
                  failing := nins o.pos v.failing })

/-- Keys are gone: nothing further is sealed (R229, R349). -/
def keysGone (d : Dev) : Bool := !(rd d F.ALM_LATCH_SRC == 0)

/-- Seal what can be sealed, portion by portion: within-contract writes first (R329), a write of a seat after the earlier ones of it that
overlap and can be sealed too (R244). The fuel is the number of portions. -/
def flushSealOn : Nat → Dev → Dev
  | 0, d => d
  | n + 1, d =>
    let can := d.cmds.list.filter (fun c => isDataWrite c && c.prog.pulled > c.prog.done && canSeal d c.kslot (portionInv d c c.prog.done))
    let free := can.filter (fun c => seatOrderOk { d with cmds := { d.cmds with list := can } } c c.prog.done)
    match (free.find? (contractWrite d)).orElse (fun _ => free.head?) with
    | some c => flushSealOn n (sealPortion d c)
    | none => d

/-- Step SEAL (R229): the portions whose data has arrived are sealed, every other reservation is released. -/
def flushSeal (d : Dev) : Dev :=
  let d1 := if keysGone d then d else flushSealOn ((d.cmds.list.map (fun c => c.prog.pulled - c.prog.done)).foldl (· + ·) 0) d
  modCmds d1 (fun l => l.map (fun c => { c with prog := { c.prog with issued := c.prog.done, pulled := c.prog.done, data := [] } }))

/-- FLUSH_SEAL_DONE. -/
def execFlushSealDone (s : State) : Host.Outcome State Fault Refusal :=
  let d := s.dev
  finish s (guardDev (inFlush d 2) d (wr (flushSeal d) F.PFL_STAT_STATE 3))

/-- The set after step WRITE: data pages whose program failed, by their order, and pages of LUNs that failed are written again
elsewhere; the blocks of failed programs are retired at the next start (R229, R231). -/
def eaveWritten (d : Dev) (failed dead : List Nat) : EaveSet :=
  let s := eaveSetOf d
  let bad := failed.filterMap (fun i => s.pages[i]?)
  let again := s.pages.zipIdx.map (fun e => (e.1, failed.contains e.2 || dead.contains e.1.lun))
  let ok := fun (p : EavePlace) => !dead.contains p.lun && !bad.any (fun q => q.lun == p.lun && q.block == p.block)
  let need := (again.filter Prod.snd).length
  let some_ := ((eavePlaces d (s.pages.length + need)).drop s.pages.length).filter ok
  let pool := if some_.length ≥ need then some_ else ((eavePlaces d (2 ^ 64)).drop s.pages.length).filter ok
  { s with pages := redirect pool again
           lost := dead
           retire := (bad.map (fun p => (p.lun, p.block))).foldl (fun acc x => if acc.contains x then acc else acc ++ [x]) [] }

/-- FLUSH_EAVE_WRITE_DONE: it waits for the programs in flight at t0, whose LUNs take eave pages only after them (R225). -/
def execFlushEaveWriteDone (failed dead : List Nat) (s : State) : Host.Outcome State Fault Refusal :=
  let d := s.dev
  finish s (guardDev (inFlush d 3 && d.cox.luns.all (fun e => e.2.exec.isNone)) d
    (let x := eaveWritten d failed dead
     let d1 := add64 (modNand (eaveOut d x.pages (eaveData x)) (fun n => { n with eaves := n.eaves ++ [x] })) F.MAP_WSEQ x.pages.length
     if x.pages.length < eavePageCount d then flushAbort (wr d1 F.PFL_STAT_STATE 4) else wr d1 F.PFL_STAT_STATE 4))

/-- Places of META: on a LUN of its own each, as long as there are LUNs (R229). -/
def metaPlaces (d : Dev) (x : EaveSet) : List EavePlace :=
  let all := placesLeft d x (2 * metaPageCount x)
  let firsts := (all.foldl (fun (a : List Nat × List EavePlace) p => if a.1.contains p.lun then a else (p.lun :: a.1, a.2 ++ [p])) ([], [])).2
  placePairs (metaPageCount x) (firsts ++ all.filter (fun p => !firsts.contains p))

/-- Step WRITE, META or RECORD that finds no place left cannot be completed: the flush ends without a valid record (R231).
FLUSH_META_DONE: META stands in two copies whose pages lie on different channels. -/
def execFlushMetaDone (s : State) : Host.Outcome State Fault Refusal :=
  let d := s.dev
  finish s (guardDev (inFlush d 4) d (match lastSet? d with
    | none => d
    | some x =>
      let ps := metaPlaces d x
      let out := eaveOut d ps (twice (eaveFill (metaBytes x) (metaPageCount x) (rd64 d F.MAP_WSEQ)))
      let d1 := wr (add64 (modSet out (fun e => { e with metas := ps })) F.MAP_WSEQ ps.length) F.PFL_STAT_STATE 5
      if ps.length < 2 * metaPageCount x then flushAbort d1 else d1))

/-- FLUSH_RECORD_DONE: the set has its record in two copies, FLUSHED will be reported, the channels are held in reset. -/
def execFlushRecordDone (s : State) : Host.Outcome State Fault Refusal :=
  let d := s.dev
  finish s (guardDev (inFlush d 5) d (match lastSet? d with
    | none => d
    | some x =>
      let y := { x with t1 := d.sys.time }
      let ps := placePairs 1 (placesLeft d x 2)
      let z : EaveSet := { y with valid := true, recs := ps.map (fun p => ⟨p, eaveRecordCrc y⟩) }
      let out := eaveOut d ps (twice (eaveFill (eaveRecordBytes y ++ leBytes 4 (eaveRecordCrc y)) 1 (rd64 d F.MAP_WSEQ)))
      let d1 := usePlaces (modSet out (fun _ => z)) z
      if ps.length < 2 then flushAbort d else flushEnd { d1 with sys := { d1.sys with flushed := true } }))

end Sys2Proof.Machine
end

