-- ==== Sys2Proof/Machine/AlarmOps.lean ====
section
/-!
DEFINITION. The alarm response (R349, R350) and the DRBG (R348).
-/
namespace Sys2Proof.Machine

/-- Bits of ALM_STAT and ALM_LATCH (R357). -/
def almTAMPER : Nat := 0
def almVOLT : Nat := 1
def almCLOCK : Nat := 2
def almTEMP : Nat := 3
def almMESH : Nat := 4
def almENTROPY : Nat := 5

/-- All 64 slots become LOST and lose their material (R333). [log entry 88 DEDUCED] -/
def loseKeys (d : Dev) : Dev :=
  let d1 := foldUpto 64 (fun n d => wr (setKeySlot (tvTaken d (0x71040 + 16 * n) false) n {}) (F.KEY_STAT_STATE n) ksLOST)
    (descLost d (fun n => slotIs d n roleSERVICE))
  if (List.range 64).any (fun n => slotLoaded d n) then raise d1 0x71 10 else d1

/-- Detector `src` fires: keys, DRBG state and staged plaintext are erased, the latch, the time and the count are written, ALARM is
raised, commands resolve. [log entry 88 DEDUCED] -/
def alarmFire (d : Dev) (src : Nat) : Dev :=
  if src == almTAMPER && !rdB d F.ALM_TAMPEN_EN then d
  else
    let d1 := wr (loseKeys d) F.TRNG_STAT_SEEDED 0
    let d2 := { d1 with keys := { d1.keys with requests := 0 } }
    let d3 := raise (satAdd (wr64 (setBit d2 F.ALM_LATCH_SRC src true) 0x6050 d.sys.time) F.ALM_COUNT_COUNT 1) 6 8
    if serving d3 then
      afterWork (retireWaiters ((d3.cmds.list.map Cmd.seq).foldl cmdKeysLost d3) (fun _ => true))
    else d3

/-- Conditions that last stay visible in ALM_STAT.LIVE (R351). [log entry 79 DEDUCED] -/
def almLive (d : Dev) (src : Nat) (on : Bool) : Dev := setBit d F.ALM_STAT_LIVE src on

end Sys2Proof.Machine
end

