-- ==== Sys2Proof/Machine/AlarmRows.lean ====
section
/-!
DEFINITION. Alarms and the random generator as they happen (R327, R348 to R351, R356).
-/
namespace Sys2Proof.Machine

/-- ALARM (R349): a detector fires. TAMPER# that ALM_TAMPEN disables is no condition. [log entry 106 DESIGN CHOICE] -/
def execAlarm (src : Nat) (s : State) : Host.Outcome State Fault Refusal :=
  let d := s.dev
  let d0 : Dev := if src == almTAMPER then { d with sys := { d.sys with tamperLow := true } } else d
  finish s (guardDev (d.sys.aon && src ≤ almENTROPY) d
    (if src == almTAMPER && !rdB d F.ALM_TAMPEN_EN then d0
     else alarmFire (if src == almVOLT || src == almCLOCK then d0 else almLive d0 src true) src))

/-- TAMPER_DEASSERT (R351). -/
def execTamperDeassert (s : State) : Host.Outcome State Fault Refusal :=
  let d := s.dev
  finish s (if d.sys.aon then almLive { d with sys := { d.sys with tamperLow := false } } almTAMPER false
    else { d with sys := { d.sys with tamperLow := false } })

/-- A W1C write of ALM_LATCH clears the bits whose condition has ended (R351). -/
def almLatchWrite (d : Dev) (v : Word) : Dev :=
  let live := rd d F.ALM_STAT_LIVE
  foldUpto 6 (fun i d => if bitOf v.toNat i && !bitOf live i then setBit d F.ALM_LATCH_SRC i false else d) d

/-- ENTROPY_STOP (R348): after a health failure the DRBG stops at its limit of requests. -/
def execEntropyStop (s : State) : Host.Outcome State Fault Refusal :=
  let d := s.dev
  finish s (guardDev (d.sys.aon && rdB d F.TRNG_STAT_SEEDED && rdB d F.TRNG_STAT_FAIL) d
    (alarmFire (almLive d almENTROPY true) almENTROPY))

/-- DRBG_RESEED (R348): the 100 ms timer; a failed health test raises HFAIL, and reseeds wait for the start-up tests. -/
def execDrbgReseed (healthy : Bool) (s : State) : Host.Outcome State Fault Refusal :=
  let d := s.dev
  finish s (guardDev (d.sys.aon && rdB d F.TRNG_STAT_SEEDED) d
    (if !healthy then raise (satAdd (wr d F.TRNG_STAT_FAIL 1) F.TRNG_STAT_HFAILS 1) 0x73 8
     else if rdB d F.TRNG_STAT_FAIL then d
     else add64 { d with keys := { d.keys with requests := 0 } } 0x73044 1))

/-- DRBG_SEEDED (R348): the source passes its start-up tests and the DRBG is seeded from it. -/
def execDrbgSeeded (s : State) : Host.Outcome State Fault Refusal :=
  let d := s.dev
  finish s (guardDev (alive d && d.sys.portsFree && (!rdB d F.TRNG_STAT_SEEDED || rdB d F.TRNG_STAT_FAIL)) d
    (add64 (almLive (wrs { d with keys := { d.keys with requests := 0 } } [(F.TRNG_STAT_SEEDED, 1), (F.TRNG_STAT_FAIL, 0)]) almENTROPY false)
      0x73044 1))

/-- MASKING_RESEED (R327): each cipher domain that is on draws from the DRBG. -/
def execMaskingReseed (s : State) : Host.Outcome State Fault Refusal :=
  let d := s.dev
  finish s (guardDev (alive d && rdB d F.TRNG_STAT_SEEDED) d
    (((List.range 4).filter (fun i => domOn d (18 + i))).foldl maskSeed d))

/-- The data of a read of TRNG_RAND (R356): the request is counted. [log entry 8 DESIGN CHOICE] -/
def trngRead (d : Dev) : Dev × Word :=
  if rdB d F.TRNG_STAT_SEEDED then
    (tick { d with keys := { d.keys with requests := d.keys.requests + 1 } }, Config.drbg d.free)
  else (d, 0)

end Sys2Proof.Machine
end

