-- ==== Sys2Proof/Machine/Array.lean ====
section
/-!
DEFINITION. Raw operations and owner operations of the firmware array (R393 to R399): what a write of FWA_OPCMD or FWA_PCMD and an
access to FWA_DATA do, and how the operations end.
-/
namespace Sys2Proof.Machine

/-! ### Raw operations (R393, R394, R396, R397) -/

/-- Codes of FWA_OPSTAT (R415). -/
def faOK : Nat := 0
def faNOTERASED : Nat := 1
def faORDER : Nat := 2
def faEXEC : Nat := 3
def faLOCKED : Nat := 4
def faBUSY : Nat := 5
def faUPDATE : Nat := 6
def faFAIL : Nat := 7
def faBADOP : Nat := 8

/-- FWA_OPSTAT shows the operations that run or wait. -/
def opsShow (d : Dev) : Dev :=
  wrs d [(F.FWA_OPSTAT_BUSY, b2n (!d.array.ops.isEmpty)), (F.FWA_OPSTAT_SUSP, b2n (d.array.ops.any ArrOp.susp))]

/-- A page goes to the page buffer; OPDONE is raised. The content of a block in doubt is a free value. -/
def readToBuf (d : Dev) (bank block page : Nat) : Dev :=
  let b := arrPage d bank block page
  let ws := ((List.range 1024).map (fun i => (i, BitVec.ofNat 32 (blkWord b i)))).filter (fun (e : Nat × Word) => !(e.2 == 0))
  let d1 := setArr d { d.array with buf := ws }
  raise (wr (tick d1) F.FWA_OPSTAT_CODE faOK) 0xC 8

/-- Serve the reads of a bank that wait, in order. -/
def serveReads (d : Dev) (bank : Nat) (l : List (Nat × Nat)) : Dev := l.foldl (fun d p => readToBuf d bank p.1 p.2) d

def opOfBank? (d : Dev) (bank : Nat) : Option ArrOp := d.array.ops.find? (fun o => o.bank == bank)

def modOp (d : Dev) (bank : Nat) (f : ArrOp → ArrOp) : Dev :=
  setArr d { d.array with ops := updWhere (fun o => o.bank == bank) f d.array.ops }

/-- A page is read (R394): a busy bank suspends its operation, or the read waits for the minimum run. [log entry 97 DEDUCED] -/
def arrRead (d : Dev) (bank block page : Nat) : Dev :=
  match opOfBank? d bank with
  | none => readToBuf d bank block page
  | some o =>
    if o.minRun then opsShow (modOp d bank (fun o => { o with wants := true, reads := o.reads ++ [(block, page)] }))
    else opsShow (readToBuf (modOp d bank (fun o => { o with susp := true })) bank block page)

/-- The first check of R393 that refuses a program (OP 1) or an erase (OP 2). While an activation starts the new image, the processors may
fetch from either bank (R13, R409). [log entry 130 DEDUCED] -/
def arrRefuse (d : Dev) (bank block page op : Nat) : Option Nat :=
  if (opOfBank? d bank).isSome then some faBUSY
  else if execBank? d == some bank || d.upd.step == 3 then some faEXEC
  else if block ≥ 1022 || regShut (regOf d (regionOf bank block)) then some faLOCKED
  else if op == 1 && pageProgrammed d bank block page then some faNOTERASED
  else if op == 1 && (List.range 64).any (fun p => p > page && pageProgrammed d bank block p) then some faORDER
  else none

/-- Content of the page buffer. -/
def bufBlock (d : Dev) : Block := blkOfWords ((List.range 1024).map (fun i => (d.array.buf.getD i 0).toNat)) 0

/-- The update refusals of a raw program or erase come first (R396), then the checks of the array; then it runs, and any load,
commit or activation state of the inactive bank ends. [log entry 96 DEDUCED] -/
def arrWrite (d : Dev) (bank block page op : Nat) : Dev :=
  match rawCause d with
  | some k => wr (updRefused d 0 k) F.FWA_OPSTAT_CODE faUPDATE
  | none =>
    match arrRefuse d bank block page op with
    | some c => wr (if c == faLOCKED then woViol d 0xC058 else d) F.FWA_OPSTAT_CODE c
    | none =>
      let o : ArrOp := { bank := bank, block := block, page := page, op := op, data := if op == 1 then bufBlock d else 0 }
      opsShow (wr (fwuEmpty (setArr d { d.array with ops := d.array.ops ++ [o] })) F.FWA_OPSTAT_CODE faOK)

/-- A write of FWA_OPCMD (R396): OP is kept, GO starts it. [log entry 96 DEDUCED] -/
def opcmdWrite (d : Dev) (v : Nat) : Dev :=
  let d1 := wr d F.FWA_OPCMD_OP v
  if !bitOf v 31 then d1
  else
    let bank := rd d1 F.FWA_OPADDR_BANK
    let block := rd d1 F.FWA_OPADDR_BLOCK
    let page := rd d1 F.FWA_OPADDR_PAGE
    let op := v % 4
    if op == 3 then wr d1 F.FWA_OPSTAT_CODE faBADOP
    else if op == 0 then arrRead d1 bank block page
    else arrWrite d1 bank block page op

/-- An access to FWA_DATA: the value read, and the state after it (R396). -/
def dataAccess (d : Dev) (write : Option Word) : Word × Dev :=
  let i := rd d F.FWA_DIDX_IDX
  let d1 := match write with
    | some w => setArr d { d.array with buf := d.array.buf.put (fun _ => 0) i w }
    | none => d
  (d.array.buf.getD i 0, wr d1 F.FWA_DIDX_IDX (i + 1))

/-- A program or erase takes effect, or fails its internal verify (R393). [log entry 96 DEDUCED] -/
def opEnd (d : Dev) (o : ArrOp) (ok : Bool) : Dev :=
  let d1 := if o.op == 1 then arrProgram d o.bank o.block o.page o.data else arrErase d o.bank o.block
  let d2 := if ok then d1 else arrFail d1 o.bank o.block (if o.op == 1 then some o.page else none)
  let d3 := if o.block == 1020 || o.block == 1021 then recShow d2 else d2
  raise (wr d3 F.FWA_OPSTAT_CODE (if ok then faOK else faFAIL)) 0xC 8

/-- The array runs its operations, in STAGE FAIL too (R397); a flush has abandoned them (R395). -/
def arrRuns (d : Dev) : Bool := alive d && !flushing d

/-- FWA_OP_DONE: the operation that has run longest and is not suspended ends; reads that waited for it are served. [log entry 97 DEDUCED] -/
def execFwaOpDone (ok : Bool) (s : State) : Host.Outcome State Fault Refusal :=
  let d := s.dev
  finish s (match d.array.ops.find? (fun o => !o.susp) with
    | none => d
    | some o => guardDev (arrRuns d) d
      (opsShow (serveReads (opEnd (setArr d { d.array with ops := d.array.ops.filter (fun x => !(x.bank == o.bank)) }) o ok) o.bank o.reads)))

/-- FWA_RESUME_TIMER: the suspended operation resumes and runs for at least 500 µs. -/
def execFwaResumeTimer (bank : Nat) (s : State) : Host.Outcome State Fault Refusal :=
  let d := s.dev
  finish s (guardDev (arrRuns d && d.array.ops.any (fun o => o.bank == bank && o.susp)) d
    (opsShow (modOp d bank (fun o => { o with susp := false, minRun := true }))))

/-- FWA_MINIMUM_RUN_ELAPSED: a waiting read suspends the operation again. -/
def execFwaMinimumRunElapsed (bank : Nat) (s : State) : Host.Outcome State Fault Refusal :=
  let d := s.dev
  finish s (match opOfBank? d bank with
    | none => d
    | some o => guardDev (arrRuns d && o.minRun) d
      (opsShow (serveReads (modOp d bank (fun x => { x with minRun := false, wants := false, susp := o.wants, reads := [] })) bank o.reads)))

/-! ### Owner operations (R398, R399) -/

/-- The 64-bit password in the latch. -/
def latchPwd (d : Dev) : Nat :=
  ((List.range 4).map (fun i => d.array.pwd.getD i 0 * 2 ^ (16 * i))).foldl (· + ·) 0

/-- A write of FWA_PWD0 to FWA_PWD3: the bits written 1 are set in the password latch (kind W1S). [log entry 98 DEDUCED] -/
def pwdWrite (d : Dev) (i v : Nat) : Dev :=
  setArr d { d.array with pwd := d.array.pwd.put (fun _ => 0) i (d.array.pwd.getD i 0 ||| v % 2 ^ 16) }

/-- A password is tried on a region: what it opens, or the wrong password is counted. -/
def tryPwd (d : Dev) (k : Nat) (r : OwnReg) (p : Nat) (good : Dev → Dev) : Dev :=
  if r.pwd == some p then good (setReg d k { r with wrong := 0 })
  else raise (wr (regShow (setReg d k { r with wrong := r.wrong + 1 })) F.FWA_PSTAT_RESULT 1) 0xC 9

/-- An owner operation whose GO was written (R399). [log entry 98 DEDUCED] -/
def ownerGo (d : Dev) (k op pwd : Nat) : Dev :=
  let r := regOf d k
  let res := fun (n : Nat) => wr d F.FWA_PSTAT_RESULT n
  let later := fun (d : Dev) => wr (setArr d { d.array with owner := some (k, op, pwd) }) F.FWA_PSTAT_BUSY 1
  if op == 0 || op > 4 then res 5
  else if regBlocked r then res 4
  else if op == 1 then if r.pwd.isSome then res 2 else later d
  else if r.pwd.isNone then res 3
  else if op == 2 then
    if r.opened then res 3
    else tryPwd d k r pwd (fun d => regShow (wr (setReg d k { regOf d k with opened := true }) F.FWA_PSTAT_RESULT 0))
  else if op == 3 then
    if r.opened then regShow (wr (setReg d k { r with opened := false }) F.FWA_PSTAT_RESULT 0) else res 2
  else tryPwd d k r pwd later

/-- A write of FWA_PCMD: its fields are kept, GO starts the operation and clears the password latch. While an operation runs a GO
starts nothing. [log entry 98 DEDUCED] -/
def pcmdWrite (d : Dev) (v : Nat) : Dev :=
  let d1 := wrs d [(F.FWA_PCMD_REGION, bitsOf v 8 4), (F.FWA_PCMD_BANK, bitsOf v 6 1), (F.FWA_PCMD_OP, bitsOf v 0 3)]
  if !bitOf v 31 then d1
  else
    let pwd := latchPwd d1
    let d2 := setArr d1 { d1.array with pwd := [] }
    if d.array.owner.isSome then d2 else ownerGo d2 (16 * bitsOf v 6 1 + bitsOf v 8 4) (bitsOf v 0 3) pwd

/-- FWA_OWNER_OP_DONE: SET or CLEAR has written its configuration row. -/
def execFwaOwnerOpDone (s : State) : Host.Outcome State Fault Refusal :=
  let d := s.dev
  finish s (match d.array.owner with
    | none => d
    | some (k, op, pwd) => guardDev (arrRuns d) d
      (let d1 := setArr d { d.array with owner := none }
       let d2 := setReg d1 k (if op == 1 then { pwd := some pwd } else {})
       wrs (regShow d2) [(F.FWA_PSTAT_BUSY, 0), (F.FWA_PSTAT_RESULT, 0)]))

end Sys2Proof.Machine
end

