-- ==== Sys2Proof/Machine/ReadOps.lean ====
section
/-!
DEFINITION. Read jobs: where the blocks of a course lie, the program units a read needs, the seal check of an extent (R31, R239, R265,
R313, R320, R335).
-/
namespace Sys2Proof.Machine

/-- Where a block of a course lies: in the ring or on flash, the slot or flash place, the index in the extent; none when it is
unmapped. -/
def pieceAt (m : MapSt) (key i : Nat) : Option (Bool × Nat × Nat) :=
  match mapEnt m key with
  | .un => none
  | .course b o _ _ _ => some (false, placeKey b o, i)
  | .ring s _ => some (true, s, i)
  | .fine _ => match fineEnt m key i with
    | .un => none
    | .loc _ b o idx _ _ => some (false, placeKey b o, idx)
    | .ring s idx _ => some (true, s, idx)

/-- The extent at a place; a place that holds none reads as one whose check fails. -/
def extentAt (d : Dev) (p : Bool × Nat) : Extent :=
  let lost : Extent := { tag := { dmg := true } }
  if p.1 then ((d.med.ring.get? p.2).map RingSlot.ext).getD lost else (d.med.nand.flash.get? p.2).getD lost

/-- Generation that the map gives for a block of a course. -/
def genAt (m : MapSt) (key i : Nat) : Option Nat :=
  match mapEnt m key with
  | .fine _ => (fineGen (fineEnt m key i)).map Prod.fst
  | x => entGen x

/-- Places of the mapped blocks among `n` blocks from `lo`, without repeats, and each block's place number and index. -/
def piecesOf (m : MapSt) (key lo n : Nat) : List (Bool × Nat) × List (Nat × Nat × Nat) :=
  (List.range n).foldl (fun acc i =>
    match pieceAt m key (lo + i) with
    | none => acc
    | some (r, p, idx) =>
      match acc.1.findIdx? (· == (r, p)) with
      | some k => (acc.1, acc.2 ++ [(lo + i, k, idx)])
      | none => (acc.1 ++ [(r, p)], acc.2 ++ [(lo + i, acc.1.length, idx)])) ([], [])

/-- The extent at place number `k` of a read of a course. The additional data of its check comes from the place that the map names: an
extent sealed for another volume, course, block or generation reads as one whose check fails (R335). -/
def extentFor (d : Dev) (key : Nat) (blks : List (Nat × Nat × Nat)) (k : Nat) (p : Bool × Nat) : Extent :=
  let e := extentAt d p
  let fits := e.tag.vol == key / 2 ^ 32 && e.tag.course == key % 2 ^ 32
    && (blks.filter (fun x => x.2.1 == k)).all (fun x => e.tag.blk + x.2.2 == x.1 && x.2.2 < e.tag.n && genAt d.med.m key x.1 == some e.tag.kgen)
  if fits then e else
    let t : ExtTag := { e.tag with dmg := true }
    { e with tag := t }

/-- Program units that hold codewords of an extent on flash (R265). A member that is unavailable goes to the ridge (R320). -/
def unitsOf (d : Dev) (place : Nat) (idxs : List Nat) : List ReadUnit :=
  let b := place / 2 ^ 21
  let off := place % 2 ^ 21
  idxs.foldl (fun acc i =>
    let stripe := offStripe d (off + i)
    let pos := offPos d (off + i)
    let same := fun (u : ReadUnit) => u.stripe == stripe && u.pos == pos
    let q := (off + i) % cuOf d
    if acc.any same then updWhere same (fun u => { u with bytes := u.bytes + 4096, cws := u.cws ++ [q], rid := if u.st == .ridge then u.rid ++ [q] else u.rid }) acc
    else
      let ok := lunAvail d (memberLun d b pos)
      acc ++ [{ batten := b, stripe := stripe, pos := pos, off := off, bytes := 4096, cws := [q],
                st := if ok then .todo else .ridge, rid := if ok then [] else [q] }]) []

/-- Codewords of an extent that a read needs: all of it for a seal over the whole, else the wanted blocks. -/
def wantedIdx (e : Extent) (k : Nat) (blks : List (Nat × Nat × Nat)) : List Nat :=
  if e.tag.blkSeal then (blks.filter (fun x => x.2.1 == k)).map (fun x => x.2.2) else List.range e.tag.n

/-- Start a read job over pieces of a course; a copy, which opens no seal, takes its extent as it stands (R258). [log entry 49 DESIGN CHOICE] -/
def newJob (d : Dev) (why : ReadFor) (cls key : Nat) (src : List (Bool × Nat)) (blks : List (Nat × Nat × Nat)) : Dev :=
  let exts := match why with
    | .move _ => src.map (extentAt d)
    | _ => src.zipIdx.map (fun e => extentFor d key blks e.2 e.1)
  let units := (src.zipIdx).flatMap (fun (e : (Bool × Nat) × Nat) =>
    if e.1.1 then [] else unitsOf d e.1.2 (wantedIdx (extentAt d e.1) e.2 blks))
  { d with med := { d.med with
    jobs := d.med.jobs ++ [{ id := d.med.nextJob, why := why, cls := cls, units := units, exts := exts, src := src, blks := blks }]
    nextJob := d.med.nextJob + 1 } }

def dropJob (d : Dev) (id : Nat) : Dev := { d with med := { d.med with jobs := d.med.jobs.filter (fun j => !(j.id == id)) } }

/-- Every unit of a job has been decoded or given up. -/
def jobRead (j : ReadJob) : Bool := j.units.all (fun u => u.st == .done || u.st == .unreadable)
def jobUnreadable (j : ReadJob) : Bool := j.units.any (fun u => u.st == .unreadable)

/-- The slot that opens an extent. [log entry 9 DESIGN CHOICE] -/
def openSlot? (d : Dev) (e : Extent) : Option Nat := slotOfGen? d e.tag.vol e.tag.kgen

/-- The tag check of an extent passes under a slot (R335, R336): the key and salt that sealed it, bytes that are intact, and the place that
it was sealed for. [log entry 9 DESIGN CHOICE] -/
def sealOk (d : Dev) (n : Nat) (e : Extent) : Bool :=
  (keySlot d n).mat == e.tag.key && rd d (F.KEY_SALT_SALT n) == e.tag.salt && !e.tag.dmg

/-- Block `i` of an extent as the decryption gives it (R343). [log entry 9 DESIGN CHOICE] -/
def openBlock (d : Dev) (e : Extent) (i : Nat) (good : Bool) : Block :=
  let b := e.data.getD i 0
  if good then b
  else Config.garbled (((openSlot? d e).map (fun n => (keySlot d n).mat)).getD 0) (((openSlot? d e).map (fun n => rd d (F.KEY_SALT_SALT n))).getD 0)
    e.tag.ctr i b

end Sys2Proof.Machine
end

