-- ==== Sys2Proof/Machine/Seat.lean ====
section
/-!
DEFINITION. Seats and links (chapter Host Links and Seats): attach, release, reset, doorbells, reaping, link state, and the
commands of that family that do not go through the register hub.
-/
namespace Sys2Proof.Machine

/-- Page numbers of PRTA and PRTB (R41). -/
def prtPage (port : Nat) : Nat := 0x10 + port

/-! ### Links (R116 to R119) -/

/-- SPEED code to tenths of GT/s (R117). -/
def speedTenths (code : Nat) : Nat :=
  if code == 1 then 25 else if code == 2 then 50 else if code == 3 then 80
  else if code == 4 then 160 else if code == 5 then 320 else if code == 6 then 640 else 0

/-- RATE in units of 10 MB/s (R118). -/
def linkRate (c : LinkCfg) : Nat :=
  let k := if c.flit then 12100 else if c.speed ≤ 2 then 9300 else 11400
  let rate := c.width * speedTenths c.speed * k / 10240
  if c.mps == 0 then rate * 7 / 8 else rate

/-- PRTx_LINKCFG in force on a port (R116). -/
def linkCfgOf (d : Dev) (port : Nat) : Nat := if port == 0 then d.pci.cfgA.toNat else d.pci.cfgB.toNat

/-- The links the bifurcation in force gives a port (R116). -/
def linkExists (d : Dev) (port link : Nat) : Bool :=
  let nb := bitsOf (linkCfgOf d port) 0 2
  if nb == 1 then link ≤ 1 else if nb == 2 then link ≤ 3 else link == 0

/-- Lanes a link may use under the bifurcation in force (R116). -/
def linkLanes (d : Dev) (port : Nat) : Nat :=
  let nb := bitsOf (linkCfgOf d port) 0 2
  if nb == 1 then 8 else if nb == 2 then 4 else 16

/-- Take PRTx_LINKCFG into force, as at a rising edge of PERST# (R116). -/
def takeLinkCfg (d : Dev) (port : Nat) : Dev :=
  let w := actW d (0x10040 + 0x1000 * port)
  if port == 0 then { d with pci := { d.pci with cfgA := w } } else { d with pci := { d.pci with cfgB := w } }

/-- The port can train: its PERST# is high, its REFCLK is present, the PCIe rails are good, its domain is on, its PLL is locked
and step 4 of the power-on sequence has ended (R82, R85, R86, R91). -/
def portCanTrain (d : Dev) (port : Nat) : Bool :=
  alive d && d.sys.portsFree && !d.sys.perstLow.contains port && d.sys.refPresent.contains port
    && !d.sys.pcieRailLost && domOn d (16 + port) && bitOf (rd d F.CLK_STAT_LOCK) (21 + port)

/-- The link carries an attached class D seat whose IDLE is 0: the controller keeps it out of L1 and L0p (R119). -/
def linkBusy (d : Dev) (port link : Nat) : Bool :=
  d.seats.any (fun e => e.2.fn / 128 == 4 * port + link && e.2.classD && !e.2.idle)

/-- Messages held in the PBA whose function and vector are no longer masked are sent (R132, the PCIe rules). -/
def pbaDrain (d : Dev) : Dev :=
  (d.pci.pba.filter (fun k => msixLive d (k / 2048) && vecOpen d (k / 2048) (k % 2048))).foldl
    (fun d k => emit { d with pci := { d.pci with pba := ndel k d.pci.pba } } (.msix (k / 2048) (k % 2048))) d

/-- A cause of a vector stands (R132): a completion the partner has not taken, an event routed to the port whose vector it is, an event of
a software channel with the vector. -/
def vecCause (d : Dev) (fn vec : Nat) : Bool :=
  d.seats.any (fun e => e.2.fn == fn && e.2.vec == vec && !(e.2.cqh == e.2.cqt))
    || [0, 1].any (fun p => fn == mgmtFn p && rd d (F.PRT_EVTVEC_VEC p) == vec && routedOr d p)
    || (List.range 32).any (fun ch => rd d (F.DMC_FN_FNA ch) == fn && rd d (F.DMC_VEC_VEC ch) == vec
        && bitOf (hdrOf d (dmcPage ch)).evtRaw.toNat (8 + ch % 8))

/-- The Pending bit of a masked vector clears once its cause is satisfied (R132, the PCIe rules). [log entry 146 DEDUCED] -/
def pbaSettle (d : Dev) : Dev :=
  { d with pci := { d.pci with pba := d.pci.pba.filter (fun k => vecCause d (k / 2048) (k % 2048)) } }

/-- A vector's own mask is cleared or set (R132). -/
def vecMask (d : Dev) (fn vec : Nat) (masked : Bool) : Dev :=
  let k := 2048 * fn + vec
  pbaDrain { d with pci := { d.pci with vecOn := if masked then ndel k d.pci.vecOn else nins k d.pci.vecOn } }

/-- Write the link state words (R117) and the configuration-space state that goes with them. -/
def setLink (d : Dev) (port link : Nat) (c : LinkCfg) : Dev :=
  let base := 512 * port + 128 * link
  let mine := fun f : Nat => f / 128 == base / 128
  let d1 := wrs d [(F.PRT_LSTAT_UP port link, 1), (F.PRT_LSTAT_FLIT port link, b2n c.flit),
    (F.PRT_LSTAT_L0P port link, b2n c.l0p), (F.PRT_LSTAT_VFS port link, c.vfs), (F.PRT_LSTAT_MPS port link, c.mps),
    (F.PRT_LSTAT_SPEED port link, c.speed), (F.PRT_LSTAT_WIDTH port link, c.width),
    (F.PRT_RATE_RATE port link, linkRate c)]
  let keep := fun (l : List Nat) (on : List Nat) =>
    on.foldl (fun acc v => if v ≤ c.vfs then nins (base + v) acc else acc) (l.filter (fun f => !mine f))
  pbaDrain { d1 with pci := { d1.pci with
      bme := keep d1.pci.bme c.bme, mse := keep d1.pci.mse c.mse,
      msixEn := keep d1.pci.msixEn c.msixEn, msixFm := keep d1.pci.msixFm c.msixFm,
      devCtl := foldUpto (c.vfs + 1) (fun v m => m.put (fun _ => {}) (base + v) c.dev) (d1.pci.devCtl.keep (fun f _ => !mine f)),
      aspm := if c.aspmL1 then nins (4 * port + link) d1.pci.aspm else ndel (4 * port + link) d1.pci.aspm,
      ltr := if c.ltr then nins (4 * port + link) d1.pci.ltr else ndel (4 * port + link) d1.pci.ltr } }

/-! ### Ending commands (R163, R165) -/

/-- End a started command as an ABORT or a seat reset does: `status` is ABORTED or ABORTED_BY_RESET. Stream and management
commands run to their own completion. -/
def endStarted (d : Dev) (c : Cmd) (status : Nat) : Dev :=
  if cOpc c == opFLUSH then complete d c status 0
  else if isDataWrite c then
    tryEndWrite (modCmd d c.seq (fun x => { x with ending := some (x.ending.getD status) })) c.seq
  else if isReadKind c then modCmd d c.seq (fun x => { x with ending := some (x.ending.getD status) })
  else if cOpc c == opDISCARD then
    modCmd d c.seq (fun x => { x with ending := some (x.ending.getD status) })
  else d

/-- The command is in progress or waits to go on: its checks and its turn have come. -/
def underWay (c : Cmd) : Bool := c.stage == .run || c.stage == .paused || c.stage == .wait

/-- The command has begun its action (R164): one that waits before its first transfer or update has not. -/
def isStarted (c : Cmd) : Bool := underWay c && !(c.stage == .paused && c.prog.issued == 0 && c.prog.done == 0)

/-- End a command that has not started: it changed nothing, and leaves its stream's line (R163, R165, R185). -/
def endUnstarted (d : Dev) (c : Cmd) (status : Nat) : Dev := complete (dropLine d c 0) c status 0

/-- A seat reset ends the seat's commands (R130, R165): those not started with ABORTED_BY_RESET, the others as an ABORT does. -/
def seatResetEnds (d : Dev) (sn : Nat) : Dev :=
  ((d.cmds.list.filter (fun c => c.seat == sn && !c.orphan)).map Cmd.seq).foldl (fun d q => match cmdOf? d q with
    | none => d
    | some c => if isStarted c then endStarted d c stRESET else endUnstarted d c stRESET) d

/-- A RESET is written (R130): RESETTING is set, SQERR clears, the tail is captured. The commands end at once, or after a firmware
activation (R166). On a seat that is being reaped it does the same, as the rules do not exempt one. [log entry 113 DESIGN CHOICE] -/
def seatResetStart (d : Dev) (sn : Nat) : Dev :=
  match seatOf? d sn with
  | none => d
  | some s =>
    if s.resetting then d
    else
      let d1 := setSeat d sn { s with resetting := true, sqerr := false, badPhase := 0, resetTail := some s.sqt,
                                      resetLater := d.cmds.activating }
      if d.cmds.activating then d1 else seatResetEnds d1 sn

/-- After an activation the resets asked for during it are carried out (R166). -/
def seatResetsLater (d : Dev) : Dev :=
  (d.seats.filter (fun e => e.2.resetLater)).foldl
    (fun d e => seatResetEnds (modSeat d e.1 (fun s => { s with resetLater := false })) e.1) d

/-! ### Reaping (R133, R134) -/

/-- Step 1 of a reap of one seat: REAPING is set, fetching stops, outstanding pulls end and a partly pulled portion is
dropped. `kicked` marks a forced detach. -/
def reapSeat (d : Dev) (sn : Nat) (kicked : Bool) : Dev :=
  match seatOf? d sn with
  | none => d
  | some s =>
    if s.reapAt.isSome then d
    else
      let d1 := setSeat d sn { s with reapAt := some d.sys.time, kicked := kicked, resetting := false, resetTail := none, resetLater := false }
      (d1.cmds.list.filter (fun c => c.seat == sn && !c.orphan)).foldl (fun d c => dropPull d c.seq) d1

/-- Reap every seat of the functions that satisfy a test, and detach their data-mover channels (R133, R372). -/
def reapFns (d : Dev) (p : Nat → Bool) : Dev :=
  let d1 := (d.seats.filter (fun e => p e.2.fn)).foldl (fun d e => reapSeat d e.1 false) d
  moverDetach d1 p

/-- The function's PCIe reset state: configuration space, MSI-X table and PBA (R91, R133). [log entry 36 DEDUCED] -/
def fnConfigReset (d : Dev) (p : Nat → Bool) : Dev :=
  { d with pci := { d.pci with
      bme := d.pci.bme.filter (fun f => !p f), mse := d.pci.mse.filter (fun f => !p f),
      msixEn := d.pci.msixEn.filter (fun f => !p f), msixFm := d.pci.msixFm.filter (fun f => !p f),
      devCtl := d.pci.devCtl.keep (fun f _ => !p f), msixTab := d.pci.msixTab.keep (fun k _ => !p (k / 8192)),
      vecOn := d.pci.vecOn.filter (fun k => !p (k / 2048)), pba := d.pci.pba.filter (fun k => !p (k / 2048)) } }

/-- A reset of the functions with their BAR2 control pages, as by FLR or PERST# (R122). -/
def fnReset (d : Dev) (p : Nat → Bool) : Dev :=
  let d1 := fnConfigReset d p
  { d1 with pci := { d1.pci with ctl := d1.pci.ctl.keep (fun f _ => !p f) } }

/-- A link goes down: its words read 0, LINKDN is raised, its functions lose their enables and its seats are reaped. [log entry 36 DEDUCED] -/
def linkDown (d : Dev) (port link : Nat) : Dev :=
  if linkUpB d port link then
    let d1 := setActW (setActW d (0x10050 + 0x1000 * port + 4 * link) 0) (0x10060 + 0x1000 * port + 4 * link) 0
    let mine := fun f : Nat => f / 128 == 4 * port + link
    fnConfigReset (reapFns (raise d1 (prtPage port) 9) mine) mine
  else d

/-- Every link of a port goes down. [log entries 36 DEDUCED; 40 DEDUCED] -/
def portDown (d : Dev) (port : Nat) : Dev := foldUpto 4 (fun n d => linkDown d port n) d

/-- PERST# low on a port: links down, functions and control pages reset, seats reaped (R91). -/
def portReset (d : Dev) (port : Nat) : Dev :=
  let mine := fun f : Nat => f / 512 == port
  fnReset (reapFns (portDown d port) mine) mine

/-- Free a seat: its streams close as by STREAM_CLOSE, with the cause code of ADM_ENDLAST (R190). -/
def freeSeat (d : Dev) (sn cause : Nat) : Dev :=
  let d1 := foldUpto 64 (fun i d =>
    if rdB d (F.STRM_STAT_OPEN i) && rd d (F.STRM_STAT_SEAT i) == sn then endStream d i cause else d) d
  { d1 with seats := d1.seats.erase sn }

/-- End one command of a reaped seat: with DETACHED when the ring is reachable, otherwise it is discarded; its seat, tag, opcode and
count of new courses are logged. Started management commands run on without a seat, and their tags are logged (R133, R134, R165).
[log entry 47 DEDUCED] -/
def reapCmd (d : Dev) (reachable : Bool) (c : Cmd) : Dev :=
  if isStarted c && cOpc c ≥ 0x40 then logNote (modCmd d c.seq (fun x => { x with orphan := true })) 0xFF05 [c.seat, c.tag, cOpc c, 0]
  else
    let n := coursesDone c
    let d1 := logNote (dropPending d c.seq) 0xFF05 [c.seat, c.tag, cOpc c, n]
    if reachable then completeOne d1 c stDETACHED 0 n (isWriteKind c && isStarted c)
    else modCmds d1 (fun l => l.filter (fun x => !(x.seq == c.seq)))

/-! ### The commands -/

/-- SEAT_REQ (R122 to R124): the checks in order, then the grant. While an accepted REOPEN drains the gate is still ACCEPTED, so any
seat may be granted, and it stays attached in STAGED. [log entry 109 DESIGN CHOICE] -/
def seatReqStatus (d : Dev) (fn : Nat) (v : Nat) : Nat :=
  let c := ctlOf d fn
  let mgmt := bitOf v 18
  let cls := bitOf v 17
  let idle := bitOf v 16
  let mine := d.seats.filter (fun e => e.2.fn == fn)
  let mseat := if fnPort fn == 0 then 0 else 1
  if !stageReady d then 1
  else if !(c.sqb % 2048 == 0) || !(c.cqb % 512 == 0) || (mgmt && !isMgmt fn) || (cls && mgmt) || (idle && !cls) then 2
  else if !bmeOn d fn || !mseOn d fn then 3
  else if !mgmt && !accepted d then 4
  else if mgmt && (seatOf? d mseat).isSome then 5
  else if mine.any (fun e => e.2.reapAt.isSome) then 6
  else if mine.length ≥ 32 then 7
  else if !mgmt && (d.seats.filter (fun e => e.1 ≥ 2)).length ≥ 510 then 8
  else 0

/-- Lowest number from `lo` below `hi` that satisfies a test. -/
def lowest (lo hi : Nat) (p : Nat → Bool) : Nat := ((List.range (hi - lo)).map (· + lo)).find? p |>.getD hi

/-- The seat and window a granted request receives (R123). -/
def seatGrant (d : Dev) (fn v : Nat) : Dev :=
  let c := ctlOf d fn
  let sn := if bitOf v 18 then (if fnPort fn == 0 then 0 else 1) else lowest 2 512 (fun n => (seatOf? d n).isNone)
  let win := lowest 0 32 (fun k => (seatAt? d fn k).isNone)
  let s : Seat := { fn := fn, win := win, classD := bitOf v 17, idle := bitOf v 16, vec := bitsOf v 0 11,
                    sqb := c.sqb, cqb := c.cqb }
  let d1 := setCtl (setSeat d sn s) fn
    { c with req := v % 2 ^ 31, rspDone := true, rspStatus := 0, rspWin := win, rspSeat := sn }
  raise d1 0x12 8

/-- A write of SEAT_REQ. A refusal leaves WIN and SEAT of SEAT_RSP 0. [log entry 114 DESIGN CHOICE] -/
def seatReqWrite (d : Dev) (fn v : Nat) : Dev :=
  let c := ctlOf d fn
  if bitOf v 31 then
    let st := seatReqStatus d fn v
    if st == 0 then seatGrant d fn v
    else setCtl d fn { c with req := v % 2 ^ 31, rspDone := true, rspStatus := st, rspWin := 0, rspSeat := 0 }
  else setCtl d fn { c with req := v % 2 ^ 31 }

/-- Bits of SEAT_REQ, SEAT_REL, SEAT_CTL and SEAT_CQINT that are not reserved (R122, R127). -/
def seatReqMask : Word := 0x800707FF
def seatRelMask : Word := 0x8000001F
def seatCtlMask : Word := 0x101
def seatCqintMask : Word := 0x1FFF

/-- SEAT_REQ. A write of 1 to a reserved bit is refused (R9). -/
def execSeatReq (fn : Nat) (v : Word) (s : State) : Host.Outcome State Fault Refusal :=
  if barOk s.dev fn && !(v &&& ~~~ seatReqMask == 0) then .refused .reservedBitChanged
  else finish s (guardDev (barOk s.dev fn && serving s.dev) s.dev (wake (seatReqWrite s.dev fn v.toNat) 1))

/-- A write of SEAT_REL (R122, R131). A reset that already runs serves the release. [log entry 135 DESIGN CHOICE] -/
def seatRelWrite (d : Dev) (fn v : Nat) : Dev :=
  let c := ctlOf d fn
  let win := bitsOf v 0 5
  if !bitOf v 31 then setCtl d fn { c with relWin := win }
  else if !c.relDone then d
  else
    match seatAt? d fn win with
    | none => setCtl d fn { c with relWin := win, relDone := true, relStatus := 1 }
    | some sn =>
      if ((seatOf? d sn).bind Seat.reapAt).isSome then
        setCtl d fn { c with relWin := win, relDone := true, relStatus := 2 }
      else
        let d1 := setCtl d fn { c with relWin := win, relDone := false, relStatus := 0 }
        seatResetStart (modSeat d1 sn (fun s => { s with releasing := true })) sn

/-- SEAT_REL. -/
def execSeatRel (fn : Nat) (v : Word) (s : State) : Host.Outcome State Fault Refusal :=
  if barOk s.dev fn && !(v &&& ~~~ seatRelMask == 0) then .refused .reservedBitChanged
  else finish s (guardDev (barOk s.dev fn && serving s.dev) s.dev (wake (seatRelWrite s.dev fn v.toNat) 1))

/-- No command of the seat is uncompleted (R11): none runs, and no completion waits for the ring. -/
def seatQuiet (d : Dev) (sn : Nat) : Bool :=
  !(d.cmds.list.any (fun c => c.seat == sn && !c.orphan)) && (((seatOf? d sn).map (fun s => s.waiting.isEmpty)).getD true)

/-- SEAT_RESET_COMPLETE (R130): entries up to the captured tail are fetched, every affected command has completed. After SQERR nothing more is fetched, and the reset does not end. [log entry 135 DESIGN CHOICE] -/
def execSeatResetComplete (seat : Nat) (s : State) : Host.Outcome State Fault Refusal :=
  let d := s.dev
  finish s (match seatOf? d seat with
    | none => d
    | some v =>
      guardDev (serving d && v.resetting && !v.resetLater && v.resetTail == some v.sqh && seatQuiet d seat) d
        (setSeat d seat { v with resetting := false, resetTail := none }))

/-- SEAT_RELEASE_COMPLETE (R131). -/
def execSeatReleaseComplete (seat : Nat) (s : State) : Host.Outcome State Fault Refusal :=
  let d := s.dev
  finish s (match seatOf? d seat with
    | none => d
    | some v =>
      guardDev (serving d && v.releasing && !v.resetting && v.reapAt.isNone && seatQuiet d seat) d
        (let d1 := freeSeat d seat 2
         raise (setCtl d1 v.fn { ctlOf d1 v.fn with relDone := true, relStatus := 0 }) 0x12 9))

/-- SEAT_SQT_DOORBELL (R126, R127). A BAR2 write is a wake event (R420). -/
def execSeatSqtDoorbell (fn win tail : Nat) (s : State) : Host.Outcome State Fault Refusal :=
  let d := s.dev
  finish s (guardDev (barOk d fn) d (match seatAt? d fn win with
    | none => wake d 1
    | some sn => wake (modSeat d sn (fun v => { v with sqt := tail % 32 })) 1))

/-- SEAT_CQH_DOORBELL (R127, R128): the released slots take held completions. -/
def execSeatCqhDoorbell (fn win head : Nat) (s : State) : Host.Outcome State Fault Refusal :=
  let d := s.dev
  finish s (guardDev (barOk d fn) d (match seatAt? d fn win with
    | none => wake d 1
    | some sn =>
      let d1 := modSeat d sn (fun v => { v with cqh := head % 32 })
      wake (pbaSettle (if flushing d then d1 else drainCq 32 d1 sn)) 1))

/-- A write of SEAT_CTL (R127): IEN, and RESET when it is 1. -/
def seatCtlWrite (d : Dev) (sn v : Nat) : Dev :=
  let d1 := modSeat d sn (fun x => { x with ien := bitOf v 8, unsig := if bitOf v 8 == x.ien then x.unsig else 0 })
  if bitOf v 0 then seatResetStart d1 sn else d1

/-- SEAT_RESET. -/
def execSeatReset (fn win : Nat) (v : Word) (s : State) : Host.Outcome State Fault Refusal :=
  let d := s.dev
  if barOk d fn && (seatAt? d fn win).isSome && !(v &&& ~~~ seatCtlMask == 0) then .refused .reservedBitChanged
  else finish s (guardDev (barOk d fn && serving d && bitOf v.toNat 0) d (match seatAt? d fn win with
    | none => wake d 1
    | some sn => wake (seatCtlWrite d sn v.toNat) 1))

/-- SEAT_CQINT_TIMER (R128): the TIME condition of SEAT_CQINT. -/
def execSeatCqintTimer (seat : Nat) (s : State) : Host.Outcome State Fault Refusal :=
  let d := s.dev
  finish s (match seatOf? d seat with
    | none => d
    | some v =>
      guardDev (serving d && v.ien && !(v.unsig == 0) && !(bitsOf v.cqint 0 8 == 0)) d
        (setSeat (sendMsix d v.fn v.vec) seat { v with unsig := 0 }))

/-- Step 3 of a reap (R133): commands end, completions the ring cannot take are discarded and logged, streams close, the seat is
freed, REAP is raised and logged; a release in progress completes with STATUS 2 (R131). The entry of the seat itself names it in
P1. [log entry 47 DEDUCED] -/
def reapDone (d : Dev) (seat : Nat) (v : Seat) : Dev :=
  let reachable := v.kicked && fnReachable d v.fn
  let seqs := (d.cmds.list.filter (fun c => c.seat == seat && !c.orphan)).map Cmd.seq
  let d1 := seqs.foldl (fun d q => match cmdOf? d q with
    | none => d
    | some c => reapCmd d reachable c) d
  let d2 := ((seatOf? d1 seat).map Seat.waiting).getD [] |>.foldl
    (fun d q => logNote d 0xFF05 [seat, q.tag, q.opc, q.courses]) d1
  let d3 := freeSeat d2 seat 3
  let d4 := if v.releasing && !(ctlOf d3 v.fn).relDone then
      setCtl d3 v.fn { ctlOf d3 v.fn with relDone := true, relStatus := 2 } else d3
  raiseArgs d4 0x12 10 [BitVec.ofNat 32 seat]

/-- On a forced detach with the ring reachable, a READ whose course portion is in release finishes its tag check and zeroing before
the reap ends it (R165). -/
def reapHolds (d : Dev) (seat : Nat) (v : Seat) : Bool :=
  v.kicked && fnReachable d v.fn
    && d.cmds.list.any (fun c => c.seat == seat && !c.orphan && cOpc c == opREAD && c.prog.bad)

/-- REAP_COMPLETE. -/
def execReapComplete (seat : Nat) (s : State) : Host.Outcome State Fault Refusal :=
  let d := s.dev
  finish s (match seatOf? d seat with
    | none => d
    | some v => guardDev (serving d && v.reapAt.isSome && !reapHolds d seat v) d (reapDone d seat v))

/-- The width and the rate lie within the bifurcation and MAXSPD in force (R116). -/
def linkFits (d : Dev) (port : Nat) (cfg : LinkCfg) : Bool :=
  cfg.width ≤ linkLanes d port && cfg.speed + bitsOf (linkCfgOf d port) 12 2 ≤ 6

/-- LINK_UP (R117, R118). -/
def execLinkUp (port link : Nat) (cfg : LinkCfg) (s : State) : Host.Outcome State Fault Refusal :=
  let d := s.dev
  finish s (guardDev (port ≤ 1 && portCanTrain d port && linkExists d port link && !linkUpB d port link && linkFits d port cfg) d
    (raise (setLink d port link cfg) (prtPage port) 8))

/-- Functions of a link that a new configuration takes away or whose Bus Master Enable it clears: their seats are reaped, with those
of the functions below (R133, R136). -/
def cfgLoses (d : Dev) (port link : Nat) (c : LinkCfg) (f : Nat) : Bool :=
  let base := 512 * port + 128 * link
  let off := fun v : Nat => bmeOn d (base + v) && (v > c.vfs || !c.bme.contains v)
  f / 128 == base / 128 && (off (f % 128) || off 0 || (f % 128 > c.vfs && f % 128 ≤ rd d (F.PRT_LSTAT_VFS port link)))

/-- RATECHG (R117, R118): the event is raised when RATE changed while UP stayed 1. The controller itself does not narrow a link with a
class D seat of IDLE 0 by L0p; the link partner may (R119). -/
def execRatechg (port link : Nat) (cfg : LinkCfg) (s : State) : Host.Outcome State Fault Refusal :=
  let d := s.dev
  finish s (guardDev (alive d && linkUpB d port link && linkFits d port cfg && !(cfg.l0p && !cfg.partner && linkBusy d port link)) d
    (let d0 := reapFns d (cfgLoses d port link cfg)
     let d1 := fnReset (setLink d0 port link cfg) (fun f => f / 128 == 4 * port + link && f % 128 > cfg.vfs)
     if rd d1 (F.PRT_RATE_RATE port link) == rd d (F.PRT_RATE_RATE port link) then d1
     else raise d1 (prtPage port) 10))

/-- DL_DOWN (R133). -/
def execDlDown (port link : Nat) (s : State) : Host.Outcome State Fault Refusal :=
  finish s (guardDev (alive s.dev) s.dev (linkDown s.dev port link))

/-- LINK_L1_IDLE (R119). -/
def execLinkL1Idle (port link : Nat) (s : State) : Host.Outcome State Fault Refusal :=
  let d := s.dev
  finish s (guardDev (alive d && linkUpB d port link && d.pci.aspm.contains (4 * port + link) && !linkBusy d port link) d
    (wr d (F.PRT_LSTAT_L1 port link) 1))

/-- LINK_L1_EXIT (R119, R420): the link leaves L1, which is a wake event. -/
def execLinkL1Exit (port link : Nat) (s : State) : Host.Outcome State Fault Refusal :=
  let d := s.dev
  finish s (guardDev (alive d && rdB d (F.PRT_LSTAT_L1 port link)) d (wake (wr d (F.PRT_LSTAT_L1 port link) 0) 2))

/-- The function itself and, for a PF, the virtual functions below it (R133). [log entry 36 DEDUCED] -/
def fnAndBelow (fn : Nat) (f : Nat) : Bool := f == fn || (fnVf fn == 0 && f / 128 == fn / 128)

/-- FLR (R122, R133): the function and, on a PF, its VFs are reset and reaped, and VF Enable is cleared. -/
def execFlr (fn : Nat) (s : State) : Host.Outcome State Fault Refusal :=
  let d := s.dev
  finish s (guardDev (alive d && linkUpB d (fnPort fn) (fnLink fn)) d
    (let d1 := fnReset (reapFns d (fnAndBelow fn)) (fnAndBelow fn)
     if fnVf fn == 0 then wr d1 (F.PRT_LSTAT_VFS (fnPort fn) (fnLink fn)) 0 else d1))

/-- BUS_MASTER_DISABLE (R133): Bus Master Enable of a function, or VF Enable of a PF, is cleared. -/
def execBusMasterDisable (fn : Nat) (vfEnable : Bool) (s : State) : Host.Outcome State Fault Refusal :=
  let d := s.dev
  let below := fun f : Nat => fnVf fn == 0 && f / 128 == fn / 128 && !(f == fn)
  finish s (guardDev (alive d && linkUpB d (fnPort fn) (fnLink fn)) d
    (if vfEnable then wr (fnReset (reapFns d below) below) (F.PRT_LSTAT_VFS (fnPort fn) (fnLink fn)) 0
     else
       let d1 := reapFns d (fnAndBelow fn)
       { d1 with pci := { d1.pci with bme := ndel fn d1.pci.bme } }))

/-- A BAR register of a function is part of an implemented BAR: each is 64-bit, and only a management PF has BAR0/1 (R121). -/
def barExists (fn bar : Nat) : Bool := bar < 6 && (bar ≥ 2 || isMgmt fn)

/-- BAR_DECODE_DISABLED (R121): a read completes as Unsupported Request, a write is reported as one; nothing is recorded. [log entry 54 DEDUCED] -/
def execBarDecodeDisabled (fn bar : Nat) (write : Bool) (s : State) : Host.Outcome State Fault Refusal :=
  let d := s.dev
  finish s (guardDev (alive d && linkUpB d (fnPort fn) (fnLink fn) && !mseOn d fn && barExists fn bar) d
    (if write then raise (emit d (.aer fn)) (prtPage (fnPort fn)) 11 else emit d (.ur fn)))

/-- BAR2_INVALID_ACCESS (R122, R457): a read returns 0, a write is dropped, the directory logs the function and offset. -/
def execBar2InvalidAccess (fn off : Nat) (write : Bool) (s : State) : Host.Outcome State Fault Refusal :=
  let d := s.dev
  finish s (guardDev (barOk d fn) d
    (let d1 := { d with pci := { d.pci with bar2Log := (fn, off) :: d.pci.bar2Log } }
     if write then wake d1 1 else emit d1 (.bar2 fn 0)))

/-- PASID_TLP (R12): the TLP completes as Unsupported Request and is reported through AER. -/
def execPasidTlp (fn : Nat) (s : State) : Host.Outcome State Fault Refusal :=
  let d := s.dev
  finish s (guardDev (alive d && linkUpB d (fnPort fn) (fnLink fn)) d
    (raise (emit (emit d (.ur fn)) (.aer fn)) (prtPage (fnPort fn)) 11))

/-- A write of the MSI-X table in BAR4 (R121, R132): address and data words are held, the Mask bit of a Vector Control word masks or
unmasks the vector. The PBA and the bytes behind it are not written. -/
def bar4Write (d : Dev) (fn off : Nat) (v : Word) : Dev :=
  if off ≥ 0x8000 then d
  else if off / 4 % 4 == 3 then vecMask d fn (off / 16) (bitOf v.toNat 0)
  else { d with pci := { d.pci with msixTab := d.pci.msixTab.put (fun _ => 0) (8192 * fn + off / 4) v } }

/-- MSIX_VECTOR_UNMASK (R132, the PCIe rules): the vector is unmasked and a message held in the PBA is sent. -/
def execMsixVectorUnmask (fn vec : Nat) (s : State) : Host.Outcome State Fault Refusal :=
  let d := s.dev
  finish s (guardDev (barOk d fn && vec < 2048) d (vecMask d fn vec false))

/-- PERST_ASSERT (R91): a port gated by host request ignores it until it is ungated. [log entry 106 DESIGN CHOICE] -/
def execPerstAssert (port : Nat) (s : State) : Host.Outcome State Fault Refusal :=
  let d := { s.dev with sys := { s.dev.sys with perstLow := nins port s.dev.sys.perstLow } }
  finish s (guardDev (alive d && !bitOf (rd d F.PWR_DOMHOST_HOST) (16 + port)) d (portReset d port))

/-- PERST_DEASSERT (R91, R116): the link configuration register comes into force and the links may train. -/
def execPerstDeassert (port : Nat) (s : State) : Host.Outcome State Fault Refusal :=
  let d := { s.dev with sys := { s.dev.sys with perstLow := ndel port s.dev.sys.perstLow } }
  finish s (guardDev (alive d && !bitOf (rd d F.PWR_DOMHOST_HOST) (16 + port)) d (takeLinkCfg d port))

end Sys2Proof.Machine
end

