-- ==== Sys2Proof/Machine/Command.lean ====
section
/-!
DEFINITION. Fetching and checking command entries (R126, R137 to R145, R152 to R156), and the pump that starts held
commands.
-/
namespace Sys2Proof.Machine

/-! ### Field checks: check 4 of R144 -/

/-- A field of the command entry: word, lowest bit, width, and a name used by `usesField` (R137). Reserved bits have name 0. -/
structure EField where
  w : Nat
  lo : Nat
  wd : Nat
  name : Nat
  deriving DecidableEq, Repr

/-- The fields of DW0 to DW9 in ascending byte offset. Names: 1 VOL, 2 HOLD, 3 SCOPE, 4 SID, 5 SV, 6 DTYPE, 7 LBA, 8 LEN,
9 NSEG, 10 DPTR, 11 APTR. -/
def entryFields : List EField := [
  ⟨0, 13, 3, 0⟩, ⟨0, 16, 6, 1⟩, ⟨0, 22, 9, 0⟩, ⟨1, 0, 1, 2⟩, ⟨1, 1, 1, 3⟩, ⟨1, 2, 6, 0⟩, ⟨1, 8, 6, 4⟩, ⟨1, 14, 1, 0⟩,
  ⟨1, 15, 1, 5⟩, ⟨1, 16, 2, 6⟩, ⟨1, 18, 14, 0⟩, ⟨2, 0, 32, 7⟩, ⟨3, 0, 16, 7⟩, ⟨3, 16, 16, 0⟩, ⟨4, 0, 24, 8⟩, ⟨4, 24, 8, 0⟩,
  ⟨5, 0, 24, 9⟩, ⟨5, 24, 8, 0⟩, ⟨6, 0, 32, 10⟩, ⟨7, 0, 32, 10⟩, ⟨8, 0, 32, 11⟩, ⟨9, 0, 32, 11⟩]

/-- Byte offset that names a field in RESULT: a 64-bit pointer and LBA are named by their first byte. -/
def fieldByte (f : EField) : Nat :=
  if f.name == 7 then 0x08 else if f.name == 10 then 0x18 else if f.name == 11 then 0x20 else 4 * f.w + f.lo / 8

/-- The opcode moves data through DPTR with DTYPE and a length (R139, R153). -/
def usesBuffer (o : Nat) : Bool :=
  o == opWRITE || o == opREAD || o == opVERIFY || o == opGATHER || o == opFWLOAD || o == opLOG

/-- The opcode uses LEN (R155). -/
def usesLen (o : Nat) : Bool := usesBuffer o || o == opDISCARD || o == opFILL

/-- The opcode names a range of a volume. -/
def usesRange (o : Nat) : Bool :=
  o == opWRITE || o == opREAD || o == opVERIFY || o == opGATHER || o == opDISCARD || o == opFILL

/-- The opcode uses VOL. -/
def usesVol (o : Nat) : Bool := usesRange o || o == opOPEN || o == opFORMAT || o == opVOLSET

/-- A command uses a field (R138): NSEG only with DTYPE 1, SID only with SV 1. -/
def usesField (c : Cmd) (name : Nat) : Bool :=
  let o := cOpc c
  if name == 1 then usesVol o
  else if name == 2 then o == opREAD
  else if name == 3 then o == opFLUSH
  else if name == 4 then cSv c && (o == opWRITE || o == opGATHER || o == opCLOSE || o == opQUERY)
  else if name == 5 then o == opWRITE || o == opGATHER || o == opCLOSE || o == opQUERY
  else if name == 6 then usesBuffer o
  else if name == 7 then usesRange o || o == opFWLOAD || o == opLOG
  else if name == 8 then usesLen o
  else if name == 9 then usesBuffer o && cDtype c == 1
  else if name == 10 then usesBuffer o || o == opQUERY || o == opKEYLOAD
  else if name == 11 then o == opGATHER
  else false

/-- Mask of the bits of OP0 to OP5 an opcode uses (R149, R150, R152 to R154). -/
def opMask (o i : Nat) : Nat :=
  if o == opFILL then if i ≤ 1 then 0xFFFFFFFF else 0
  else if o == opGATHER then if i == 0 then 0xFFFFFF else if i == 1 then 0xFFFFFFFF else 0
  else if o == opABORT then if i == 0 then 0x1F else 0
  else if o == opOPEN then if i == 0 then 0x7FFFFFF else if i == 1 then 0xFFFFFF else if i == 2 then 0xFFFF else 0
  else if o == opSANITISE then if i == 0 then 0x7 else 0
  else if o == opLOG then if i == 0 then 0xF else 0
  else if o == opKEYLOAD then if i == 0 then 0x33F else if i == 1 then 0xFFFFFFFF else 0
  else if o == opKEYRET then if i == 0 then 0x3F else 0
  else if o == opVOLSET then if i == 0 then 0x13F else 0
  else 0

/-- Index of the lowest set bit of a word below 2^32. [log entry 44 DEDUCED] -/
def lowBit (v : Nat) : Nat := ((List.range 32).find? (fun i => bitOf v i)).getD 0

/-- Lowest bit of the reserved field that holds bit `b`: the run of bits outside the mask down from `b`. -/
def fieldLow (mask : Nat) : Nat → Nat
  | 0 => 0
  | b + 1 => if bitOf mask b then b + 1 else fieldLow mask b

/-- First reserved or unused field of an OP word that is not 0, as its byte offset (R138, R144). [log entry 44 DEDUCED] -/
def opBad (c : Cmd) : Option Nat :=
  (List.range 6).findSome? (fun i =>
    let bad := (BitVec.ofNat 32 (cOp c i) &&& ~~~ BitVec.ofNat 32 (opMask (cOpc c) i)).toNat
    if bad == 0 then none else some (0x28 + 4 * i + fieldLow (opMask (cOpc c) i) (lowBit bad) / 8))

/-- First reserved or unused field of DW0 to DW9 that is not 0 (R138). [log entry 44 DEDUCED] -/
def fieldBad (c : Cmd) : Option Nat :=
  (entryFields.find? (fun f => !(bitsOf (dw c f.w) f.lo f.wd == 0) && (f.name == 0 || !usesField c f.name))).map fieldByte

/-- A fault of the data pointer or of the segment list (R139, R155). [log entry 44 DEDUCED] -/
def pointerBad (c : Cmd) : Option Nat :=
  let o := cOpc c
  if o == opQUERY || o == opKEYLOAD then if cDptr c % 64 == 0 then none else some 0x18
  else if !usesBuffer o then none
  else if cDtype c ≥ 2 then some 0x06
  else if o == opGATHER then
    if cDtype c == 1 then some 0x06
    else if !(cDptr c % 4 == 0) then some 0x18
    else if !(cAptr c % 4 == 0) then some 0x20
    else if cOp c 1 == 0 then if cLen c == 0 then none else some 0x2C
    else if bitsOf (cOp c 0) 0 24 == 0 || !(bitsOf (cOp c 0) 0 24 % 4 == 0) then some 0x28
    else if bitsOf (cOp c 0) 0 24 * cOp c 1 == cLen c * 4096 then none else some 0x2C
  else if cDtype c == 0 then if cDptr c % 4 == 0 then none else some 0x18
  else if !(cDptr c % 16 == 0) then some 0x18
  else if cNseg c == 0 then if cLen c == 0 then none else some 0x14
  else
    match c.segs with
    | .list l =>
      match (l.zipIdx.findSome? (fun e =>
          if !(e.1.addr.toNat % 4 == 0) then some (256 * e.2)
          else if e.1.len == 0 || !(e.1.len % 4 == 0) then some (256 * e.2 + 8)
          else if !(e.1.rsv == 0) then some (256 * e.2 + 12) else none)) with
      | some r => some r
      | none => if (l.map Seg.len).foldl (· + ·) 0 == cLen c * 4096 then none else some 0x10
    | _ => none

/-- The command is a stream write that names a stream open on its seat. -/
def ownStream (d : Dev) (c : Cmd) : Bool :=
  rdB d (F.STRM_STAT_OPEN (cSid c)) && rd d (F.STRM_STAT_SEAT (cSid c)) == c.seat

/-- Range checks of the opcodes' own fields (R142, R145, R152, R153, R219). [log entry 44 DEDUCED] -/
def rangeBad (d : Dev) (cls : Bool) (c : Cmd) : Option Nat :=
  let o := cOpc c
  if o == opWRITE || o == opGATHER then
    if cSv c && !cls then some 0x05
    else if cSv c && cls && ownStream d c && !(cVol c == rd d (F.STRM_STAT_VOL (cSid c))) then some 0x02
    else if cSv c && cls && !(cLba c % 256 == 0) then some 0x08
    else if cSv c && cls && !(cLen c % 256 == 0) then some 0x10
    else if fineAbsent d && !(cLba c % 256 == 0) then some 0x08
    else if fineAbsent d && !(cLen c % 256 == 0) then some 0x10
    else none
  else if o == opFILL then
    if fineAbsent d && !(cLba c % 256 == 0) then some 0x08
    else if fineAbsent d && !(cLen c % 256 == 0) then some 0x10 else none
  else if o == opOPEN then
    if bitsOf (cOp c 0) 0 16 == 0 then some 0x28
    else if bitsOf (cOp c 0) 16 8 == 0 || bitsOf (cOp c 0) 16 8 > 16 then some 0x2A else none
  else if o == opCLOSE || o == opQUERY then if cSv c then none else some 0x05
  else if o == opSANITISE then
    if bitsOf (cOp c 0) 0 2 == 1 || bitsOf (cOp c 0) 0 2 == 2 then none else some 0x28
  else if o == opFWLOAD then if !(cLba c % 16 == 0) then some 0x08 else if !(cLen c % 16 == 0) then some 0x10 else none
  else if o == opLOG then logFieldBad c
  else if o == opKEYLOAD then keyFieldBad c
  else none

/-- The smallest of several faults, by byte offset; a fault of a segment entry counts after the command's own fields. -/
def firstFault (l : List (Option Nat)) : Option Nat :=
  l.foldl (fun acc x => match acc, x with
    | none, x => x
    | some a, none => some a
    | some a, some b => if b % 256 < a % 256 && b < 256 then some b else some a) none

/-- Check 4 of R144. [log entry 44 DEDUCED] -/
def check4 (d : Dev) (cls : Bool) (c : Cmd) : Option Nat :=
  firstFault [fieldBad c, opBad c, pointerBad c, rangeBad d cls c]

/-! ### The other checks of R144 -/

/-- The opcode is defined and permitted on this seat and class (check 3, R142, R153). WRITE_FILL on a class D seat is
NOT_ADMITTED under check 9. -/
def opcodeOk (cls : Bool) (seat o : Nat) : Bool :=
  (1 ≤ o && o ≤ 8) || (cls && 0x10 ≤ o && o ≤ 0x12) || (seat ≤ 1 && 0x40 ≤ o && o ≤ 0x48)

/-- The conditions of R104 on commands during RECOVER (check 7). -/
def busyRecover (d : Dev) (c : Cmd) : Bool :=
  let stage := rd d F.GLB_STAT_RSTAGE
  if !inRecover d then false
  else if cOpc c == opOPEN then true
  else if rdB d F.GLB_STAT_RECOVERED then false
  else if usesRange (cOpc c) then
    stage ≤ 6 || (stage == 7 && rdB d F.ADMIN_PROG_BUSY && (rd d F.ADMIN_PROG_OP == 1 || rd d F.ADMIN_PROG_OP == 2 || rd d F.ADMIN_PROG_VOL == cVol c))
  else false

/-- Check 9: the stream rules of R145 and R152. -/
def streamRuleBad (d : Dev) (cls : Bool) (c : Cmd) : Bool :=
  let o := cOpc c
  if o == opWRITE || o == opGATHER then cls && (!cSv c || !ownStream d c)
  else if o == opFILL then cls
  else if o == opCLOSE || o == opQUERY then !ownStream d c
  else false

/-- A completion with the tag waits for the seat's ring: its command has not completed (R11, R126, R128). -/
def tagWaits (d : Dev) (seat tag : Nat) : Bool := ((seatOf? d seat).map (fun s => s.waiting.any (fun q => q.tag == tag))).getD false

/-- Checks 1 to 6 of R144 in order: the status and RESULT of the first failure. `earlier` are the seat's uncompleted commands
fetched before this one. [log entry 43 DESIGN CHOICE] -/
def checks1to6 (d : Dev) (cls : Bool) (earlier : List Cmd) (c : Cmd) : Option (Nat × Nat) :=
  let o := cOpc c
  if earlier.any (fun x => x.seat == c.seat && x.tag == c.tag && !x.orphan) || tagWaits d c.seat c.tag then some (stINVFLD, 0)
  else if !accepted d && !(o == opFWLOAD || o == opLOG) then some (stMODE, 0)
  else if !opcodeOk cls c.seat o then some (stINVOPC, 0)
  else match check4 d cls c with
    | some r => some (stINVFLD, r)
    | none =>
      if usesVol o && (volEntry? d (cVol c)).isNone then some (stINVFLD, 2)
      else if usesRange o && cLba c + cLen c > volBlocks d (cVol c) then some (stLBA, 0)
      else none

/-- The command waits, before its checks, for VERIFY to end (R104, R153). -/
def waitsForVerify (d : Dev) (c : Cmd) : Bool :=
  cOpc c == opKEYLOAD && accepted d && recovering d && rd d F.GLB_STAT_RSTAGE ≤ 2

/-- Commands are held before their checks: an activation, a REOPEN, or a power state that is not P0 (R107, R166, R420). -/
def holding (d : Dev) : Bool :=
  d.cmds.activating || d.cmds.reopening || !(rd d F.PWR_PSTAT_STATE == 0)
    || rdB d F.PWR_PSTAT_ENTERING || rdB d F.PWR_PSTAT_EXITING

/-- Run the checks of R144 on a fetched command; when they pass the command is ready to start, with its tokens taken and its
invocations reserved. A command of length 0 completes at once after check 6 (R155). A failed fetch of the segment list ends the
command after check 6 and before check 7: the rules give it no place. [log entries 43 DESIGN CHOICE; 119 DESIGN CHOICE] -/
def judge (d : Dev) (seq : Nat) : Dev :=
  match cmdOf? d seq with
  | none => d
  | some c =>
    let cls := ((seatOf? d c.seat).map Seat.classD).getD false
    let earlier := d.cmds.list.filter (fun x => x.seq < seq)
    match checks1to6 d cls earlier c with
    | some (st, r) => complete d c st r
    | none =>
      if usesLen (cOpc c) && cLen c == 0 then succeed d c
      else if waitsForVerify d c || (cOpc c == opOPEN && hardRepairing d) then d
      else if c.segs == .failed then complete d c stBUS 6
      else if busyRecover d c then complete d c stBUSYREC 0
      else match adminCheck d c with
        | some (st, r) => complete (noteRefusal d c st r) c st r
        | none =>
          if streamRuleBad d cls c then complete d c stNOTADM 0
          else
            let (d1, outside) := takeTokens d c
            match keyCheck d1 c with
            | .error st => complete d1 { c with outside := outside } st 0
            | .ok (d2, slot, n) =>
              if isDataWrite c && !capacityOk d2 c then complete (keyUnreserve d2 slot n) { c with outside := outside } stCAPACITY 0
              else modCmd (joinLine d2 { c with outside := outside }) seq
                (fun x => { x with stage := .ready, outside := outside, kslot := slot, kres := n })

/-- A fetched entry becomes a command (R126, R138, R166): aborted while the seat resets, held, or judged. The checks use triple-voted
fields, which are voted (R60). -/
def queueEntry (d0 : Dev) (sn : Nat) (s : Seat) (entry : List Word) (segs : SegList) : Dev :=
  let d := voteAll d0
  let seq := d.cmds.nextSeq
  let entering := (!(rd d F.PWR_PSTAT_STATE == 0) || rdB d F.PWR_PSTAT_ENTERING || rdB d F.PWR_PSTAT_EXITING) && !s.classD
  let c : Cmd := { seat := sn, tag := cTag entry, seq := seq, entry := entry, segs := segs, exitDelayed := entering,
                   coverSeq := rd64 d F.MAP_SEQ, coverSlots := (d.med.ring.filter (fun e => !e.2.live)).map Prod.fst }
  let d1 := { d with cmds := { d.cmds with list := d.cmds.list ++ [c], nextSeq := seq + 1 } }
  if s.resetting && !s.resetLater then complete d1 c stRESET 0
  else if holding d1 then d1
  else judge d1 seq

/-- The seat may fetch (R126, R130, R131, R133): its function can be reached, and neither a reap, the tail of a reset nor the end of a
release's reset stops it. -/
def mayFetch (d : Dev) (s : Seat) : Bool :=
  running d && !s.sqerr && s.reapAt.isNone && !(s.sqh == s.sqt) && fnReachable d s.fn
    && (if s.resetting then !(s.resetTail == some s.sqh) else !s.releasing)

/-- One fetch of the entry at the head: with the right phase the head advances and the entry becomes a command; a wrong phase
is counted, and the fourth stops the seat (R126). [log entry 43 DESIGN CHOICE] -/
def fetchEntry (d0 : Dev) (sn : Nat) (s : Seat) (entry : List Word) (segs : SegList) : Dev :=
  let d := emit d0 (.fetch s.fn (sqAddr s))
  if bitOf (entry.getD 0 0).toNat 31 == s.sqPhase then
    let s1 := { s with sqh := (s.sqh + 1) % 32, sqPhase := (if s.sqh == 31 then !s.sqPhase else s.sqPhase), badPhase := 0 }
    queueEntry (setSeat d sn s1) sn s1 entry segs
  else if s.badPhase ≥ 3 then
    raise (setSeat d sn { s with badPhase := 0, sqerr := true }) 0x12 11
  else setSeat d sn { s with badPhase := s.badPhase + 1 }

/-- ENTRY_FETCHED. -/
def execEntryFetched (seat : Nat) (entry : List Word) (segs : SegList) (s : State) : Host.Outcome State Fault Refusal :=
  let d := s.dev
  finish s (match seatOf? d seat with
    | none => d
    | some v => guardDev (mayFetch d v && v.badPhase == 0) d (fetchEntry d seat v entry segs))

/-- ENTRY_REFETCH: the fetch 2 µs after a wrong phase (R126). -/
def execEntryRefetch (seat : Nat) (entry : List Word) (segs : SegList) (s : State) : Host.Outcome State Fault Refusal :=
  let d := s.dev
  finish s (match seatOf? d seat with
    | none => d
    | some v => guardDev (mayFetch d v && !(v.badPhase == 0)) d (fetchEntry d seat v entry segs))

/-- ENTRY_FETCH_FAILED (R126): the head stays, the seat stops fetching, SQERR is raised, and no AERUNC. [log entries 52 DEDUCED;
111 DESIGN CHOICE] -/
def execEntryFetchFailed (seat : Nat) (s : State) : Host.Outcome State Fault Refusal :=
  let d := s.dev
  finish s (match seatOf? d seat with
    | none => d
    | some v => guardDev (mayFetch d v) d
        (raiseArgs (setSeat (emit d (.fetch v.fn (sqAddr v))) seat { v with sqerr := true, badPhase := 0 }) 0x12 11
          [BitVec.ofNat 32 seat, BitVec.ofNat 32 v.sqh]))

/-- The commands of a seat start in fetch order (R164, R166): an earlier one of the seat that is ready starts first. An ABORT waits for
none, and none waits for it. [log entry 43 DESIGN CHOICE] -/
def startTurn (d : Dev) (c : Cmd) : Bool :=
  cOpc c == opABORT || !(d.cmds.list.any (fun x => x.seat == c.seat && !x.orphan && x.seq < c.seq && x.stage == .ready && !(cOpc x == opABORT)))

/-- The seat of a command is being reaped: no new command starts (R133). -/
def seatReaps (d : Dev) (c : Cmd) : Bool := ((seatOf? d c.seat).bind Seat.reapAt).isSome

/-- The command a row names by seat and tag, when it is ready to start and is of the opcode. [log entry 43 DESIGN CHOICE] -/
def readyCmd? (d : Dev) (seat tag opc : Nat) : Option Cmd :=
  if !running d || (opc ≥ 0x40 && clockHeld d 1) || d.cmds.activating || d.cmds.reopening then none
  else match cmdAt? d seat tag with
    | some c => if c.stage == .ready && cOpc c == opc && startTurn d c && !seatReaps d c then some c else none
    | none => none

/-! ### ABORT (R154, R162, R163) -/

/-- The target of an ABORT: the same seat's command with the tag, fetched before the ABORT. -/
def abortTarget? (d : Dev) (a : Cmd) : Option Cmd :=
  d.cmds.list.find? (fun c => c.seat == a.seat && c.tag == cOp a 0 % 32 && c.seq < a.seq && !c.orphan)

/-- What the arbiter does with an ABORT (R163). -/
def abortRun (d : Dev) (a : Cmd) : Dev :=
  if cOp a 0 % 32 == a.tag then complete d a stINVFLD 0x28
  else match abortTarget? d a with
    | none => complete d a stTOOLATE 0
    | some t =>
      if cOpc t == opABORT then complete d a stINVFLD 0x28
      else if !isStarted t then succeed (endUnstarted d t stABORTED) a
      else if cOpc t == opFLUSH then succeed (complete d t stABORTED 0) a
      else if isWriteKind t || isReadKind t then
        let d1 := modCmd (modCmd d t.seq (fun x => { x with aborts := x.aborts ++ [a.seq] })) a.seq
          (fun x => { x with stage := .wait })
        endStarted d1 t stABORTED
      else complete d a stTOOLATE 0

/-- Judge every held command, in fetch order, once nothing holds it (R166, R420, R104). An ABORT held together with its target acts
before the target starts (R166). The fields the checks use are voted (R60). [log entry 94 DEDUCED] -/
def releaseHeld (d : Dev) : Dev :=
  if holding d then d
  else
    let held := (d.cmds.list.filter (fun c => c.stage == .held)).map Cmd.seq
    let d1 := held.foldl judge (voteAll d)
    held.foldl (fun d q => match cmdOf? d q with
      | none => d
      | some a => if a.stage == .ready && cOpc a == opABORT && ((abortTarget? d a).map (fun t => held.contains t.seq)).getD false
          then abortRun d a else d) d1

/-- ABORT. -/
def execAbort (seat tag : Nat) (s : State) : Host.Outcome State Fault Refusal :=
  let d := s.dev
  finish s (match readyCmd? d seat tag opABORT with
    | none => d
    | some a => abortRun d a)

/-! ### The end of an activation (R13, R166, R396, R409) -/

/-- The hold ends: the seat resets asked for meanwhile end their commands, the other held commands are judged. [log entry 94 DEDUCED] -/
def activationEnd (d : Dev) : Dev :=
  releaseHeld (seatResetsLater { d with cmds := { d.cmds with activating := false }, upd := { d.upd with step := 0 } })

/-- Complete the FW_ACTIVATE with UPDATE_REFUSED. [log entry 93 DEDUCED] -/
def activationFail (d : Dev) (cause : Nat) : Dev :=
  match cmdOf? d d.upd.cmd with
  | some c => updFail d c cause
  | none => updRefused d opFWACT cause

/-- A raw operation on the committed bank ends its activation before the switch (R13, R396): FW_ACTIVATE is refused for the state, the
held commands go on. [log entry 130 DEDUCED] -/
def activationLost (d : Dev) : Dev :=
  if (d.upd.step == 1 || d.upd.step == 2) && fwuState d == fuEMPTY then activationEnd (activationFail d 4) else d

end Sys2Proof.Machine
end

