-- ==== Sys2Proof/Machine/ImageChecks.lean ====
section
/-!
DEFINITION. The configuration image and the image checks of a commit (R97, R98, R101, R219, R226, R293, R299).
-/
namespace Sys2Proof.Machine

/-! ### The image (R97, R98) -/

/-- Rows of a page with their page offsets, slot by slot on the slotted pages; reserved slots have none. -/
def pageWords (p : Nat) : List (Nat × RegRow) :=
  let slots := fun (js : List Nat) (step : Nat) (rows : Nat → List RegRow) =>
    js.flatMap (fun j => (rows j).map (fun r => (0x40 + step * j + r.off, r)))
  if 8 ≤ p && p ≤ 0xB then slots (memSlots p) 0x20 (fun _ => Rows.memx)
  else if 0x1A ≤ p && p ≤ 0x1D then
    slots ((List.range 17).filter (fun j => 17 * (p - 0x1A) + j ≤ 65)) 0x80 (fun j =>
      let l := 17 * (p - 0x1A) + j
      if l ≤ 63 then Rows.stkld else if l == 64 then Rows.stklp else Rows.stklt)
  else if p == 0x27 then slots (List.range 64) 16 (fun _ => Rows.vol)
  else (pageRows p).map (fun r => (r.off, r))

/-- Bits of a word that count in the image: SH and TV fields that are not RO. -/
def imageMask (r : RegRow) : Word := (r.sh ||| r.tv) &&& ~~~ r.ro

/-- Pages that contribute to the image: not STRM, not KEY. -/
def imagePage (p : Nat) : Bool := !(0x14 ≤ p && p ≤ 0x17) && !(p == 0x71)

/-- The configuration words, ascending, with their masks. GLB_MODE is none. -/
def configWords : List (Nat × RegRow) :=
  (allPages.filter imagePage).flatMap (fun p =>
    ((pageWords p).filter (fun e => !(imageMask e.2 == 0) && !(p == 0 && e.1 == 0x80))).map (fun e => (0x1000 * p + e.1, e.2)))

/-- Masked value of a configuration word: the shadow where there is one, else the voted value. -/
def imageValue (d : Dev) (off : Nat) (r : RegRow) : Word :=
  (shdW d off &&& r.sh &&& imageMask r) ||| (actW d off &&& ~~~ r.sh &&& imageMask r)

/-- The four bytes of a word, least significant first. -/
def wordBytes (w : Word) : List Nat := (List.range 4).map (fun i => bitsOf w.toNat (8 * i) 8)

/-- CRC-32C of the image of a device state. -/
def imageCrc (d : Dev) : Nat :=
  configWords.foldl (fun acc e => crc32cFrom acc (wordBytes (imageValue d e.1 e.2))) 0xFFFFFFFF ^^^ 0xFFFFFFFF

/-! ### The checks (R101) -/

/-- The first page whose block check fails (code 0x0A). GLB_MODE is no configuration word, so page GLB takes no part. -/
def imagePageFault (d : Dev) : Option (Nat × Nat × Nat) :=
  allPages.findSome? (fun p => if p == 0 then none else (pageCheck d p).map (fun r => (p, r.1, r.2)))

/-- Installed HBM in units of 64 MiB (R2). -/
def hbmUnits (d : Dev) : Nat := if d.sys.fuse.variant == 2 then 192 else 384

/-- Maximum user capacity in blocks (R2). -/
def maxBlocks (d : Dev) : Nat := if d.sys.fuse.variant == 2 then 2 ^ 37 else 2 ^ 38

def bufBase (d : Dev) (r : Nat) : Nat := rd d (F.BUF_BASE r)
def bufSize (d : Dev) (r : Nat) : Nat := rd d (F.BUF_SIZE r)

/-- Code 0x0B. -/
def chkHbm (d : Dev) : Option (Nat × Nat) :=
  if ((List.range 6).map (bufSize d)).foldl (· + ·) 0 > hbmUnits d then some (0x0B, 0x1F06C)
  else ((List.range 6).find? (fun r => bufBase d r + bufSize d r > hbmUnits d)).map (fun r => (0x0B, 0x1F044 + 8 * r))

/-- Code 0x03: two regions overlap; the region of the higher number is named. [log entry 29 DEDUCED] -/
def chkOverlap (d : Dev) : Option (Nat × Nat) :=
  ((List.range 6).find? (fun j => (List.range j).any (fun i =>
    bufSize d i > 0 && bufSize d j > 0 && bufBase d i < bufBase d j + bufSize d j && bufBase d j < bufBase d i + bufSize d i))).map
      (fun j => (0x03, 0x1F040 + 8 * j))

/-- Battens that can be open at once: a_max, none where the divisor is 0 (R317). -/
def aMax (d : Dev) : Option Nat :=
  let per := 9 * (batW d - 1) * rd d F.MEDIA_RPROG_MBS
  if per == 0 then none else some (70 + 2 * ceilDiv 2000000 per)

/-- The parity and journal staging region of a size in bytes holds the journal staging and the ridge accumulators (R317). -/
def pjstHolds (d : Dev) (bytes : Nat) : Bool :=
  match aMax d with
  | none => false
  | some a => bytes ≥ 268435456 + a * cuOf d * 4160

/-- Code 0x04: sizes below the minimum of R219, staging below the need of R317. -/
def chkSizes (d : Dev) : Option (Nat × Nat) :=
  let least := fun r => if r == 1 || r == 3 then 4 else if r == 4 then 8 else if r == 0 then 1 else 16
  let small := fun r => bufSize d r < least r || (r == 0 && !mapHolds d (bufSize d r * 0x4000000))
    || (r == 4 && !pjstHolds d (bufSize d r * 0x4000000))
  ((List.range 6).find? (fun r => if r == 1 && bufSize d r == 0 then false else small r)).map
    (fun r => (0x04, 0x1F044 + 8 * r))

/-- Code 0x05: the energy term with every declared LUN counted. -/
def chkEnergy (d : Dev) : Option (Nat × Nat) :=
  if energyTerm (energyDeclared d) < 16777216 then some (0x05, 0x5040) else none

/-- Code 0x06. -/
def chkOpset (d : Dev) : Option (Nat × Nat) :=
  if rd d F.MEDIA_OPSET_SET > rd d F.MEDIA_OPSUP_MAX then some (0x06, 0x2607C) else none

/-- Defined entries of the volume table. -/
def volEntries (d : Dev) : List Nat := (List.range 64).filter (fun n => rdB d (F.VOL_ID_EN n))

/-- Code 0x0C (R293). [log entry 29 DEDUCED] -/
def chkVolumes (d : Dev) : Option (Nat × Nat) :=
  (volEntries d).findSome? (fun n =>
    let before := (volEntries d).filter (fun m => m < n)
    if entryBlocks d n == 0 || !(entryBlocks d n % 256 == 0) then some (0x0C, 0x27040 + 16 * n)
    else if before.any (fun m => rd d (F.VOL_ID_VOL m) == rd d (F.VOL_ID_VOL n) || rd d (F.VOL_ID_SLOT m) == rd d (F.VOL_ID_SLOT n)) then
      some (0x0C, 0x27048 + 16 * n)
    else none)

/-- Code 0x09: the entry or channel at which a running total passes the limit. -/
def chkLimits (d : Dev) : Option (Nat × Nat) :=
  match (volEntries d).find? (fun n =>
      (((volEntries d).filter (fun m => m ≤ n)).map (entryBlocks d)).foldl (· + ·) 0 > maxBlocks d) with
  | some n => some (0x09, 0x27040 + 16 * n)
  | none =>
    ((List.range 64).find? (fun c => ((declaredLuns d).filter (fun l => lunChn l ≤ c)).length > 4096)).map
      (fun c => (0x09, 0x30040 + 0x1000 * c))

/-- Code 0x0D. -/
def chkWidth (d : Dev) : Option (Nat × Nat) :=
  let w := batW d
  let chans := ((List.range 64).filter (fun c => !(rd d (F.CHN_MAP_TGT c) == 0))).length
  if w < 4 || w > 32 || w > chans then some (0x0D, 0x26054) else none

/-- The image checks after the page checks, in the order of R101. The state given has the snapshot active. [log entry 29 DEDUCED] -/
def imageFault (d : Dev) : Option (Nat × Nat) :=
  [chkHbm, chkOverlap, chkSizes, chkEnergy, chkOpset, chkVolumes, chkLimits, chkWidth].findSome? (fun f => f d)

end Sys2Proof.Machine
end

