-- ==== Sys2Proof/Machine/Domain.lean ====
section
/-!
DEFINITION. Gating and ungating of the switched domains by host request (R23 to R25, R58, R92 to R95).
-/
namespace Sys2Proof.Machine

/-- Rails a domain needs (R73). -/
def domRails (n : Nat) : List Nat :=
  if n ≤ 15 then [1, 2, 5 + n / 4] else if n ≤ 17 then [1, 2, 3, 4] else if n == 26 then [1, 2, 9, 10, 11]
  else if n == 27 then [1, 2, 13] else [1, 2]

/-- PAGE_STAT.ON of the pages of a domain. -/
def setPagesOn (d : Dev) (dom : Nat) (on : Bool) : Dev :=
  (allPages.filter (fun p => domainOf p == dom)).foldl (fun d p => setHdr d p { hdrOf d p with on := on }) d

/-- CRY_STAT.DOM: cipher domains that are on. -/
def showCipher (d : Dev) : Dev :=
  wr d F.CRY_STAT_DOM (((List.range 4).filter (fun i => domOn d (18 + i))).foldl (fun a i => a + 2 ^ i) 0)

/-- Channels of a group that are in one state take another. -/
def groupState (d : Dev) (k st0 st1 : Nat) : Dev :=
  foldUpto 4 (fun i d => if chnState d (4 * k + i) == st0 then wr d (F.CHN_STAT_STATE (4 * k + i)) st1 else d) d

/-- The LUN lies in a channel group. -/
def inGroup (k l : Nat) : Bool := lunChn l / 4 == k

/-- The status fields of a group's CHN pages that restart with the group: R300 excepts the training results, R304 the health
counters (R68). [log entry 104 DEDUCED] -/
def groupRestart (d : Dev) (k : Nat) : Dev :=
  foldUpto 4 (fun i d => wrs d [(F.CHN_STAT_IREF (4 * k + i), 0), (F.CHN_STAT_FSTEP (4 * k + i), 0), (F.CHN_TTRN_US (4 * k + i), 0)]) d

/-- Domain of a memory (R376): 0xFE the fabric, 0xFF the AON domain. -/
def memDomain (m : Nat) : Nat :=
  if m < 32 then 26 else if m < 96 then (m - 32) / 4 else if m < 100 then 22 + (m - 96) else if m < 104 then 18 + (m - 100)
  else if m == 104 then 28 else if m == 106 then 29 else if m == 108 then 16 else if m == 109 then 17
  else if m == 110 then 0xFF else 0xFE

/-- Power a domain on (R24, R94): a cipher domain reseeds its masking generator (R327), the zero-fill of its SRAMs replaces what an injection left there (R379), its PLL locks, a channel group serves again with its stored training. A port whose PERST# is low is
reset as soon as it is ungated (R91). [log entry 104 DEDUCED] -/
def powerOn (d : Dev) (dom : Nat) : Dev :=
  if domOn d dom then d
  else
    let d0 := { d with mem := { d.mem with planted := d.mem.planted.filter (fun e => e.1 < 32 || !(memDomain e.1 == dom)) } }
    let d1 := pllFollow (setBit d0 F.PWR_DOMSTAT_ON dom true) dom
    let d2 := if stageReady d then setPagesOn d1 dom true else d1
    if dom ≤ 15 then groupState (groupRestart d2 dom) dom chGATED chSERVE
    else if dom ≤ 17 then (if d.sys.perstLow.contains (dom - 16) then portReset d2 (dom - 16) else d2)
    else if dom ≤ 21 then showCipher (maskSeed d2 (dom - 18)) else d2

/-- Power a domain off. [log entry 104 DEDUCED] -/
def powerOff (d : Dev) (dom : Nat) : Dev :=
  let d1 := setPagesOn (pllFollow (setBit d F.PWR_DOMSTAT_ON dom false) dom) dom false
  if dom ≤ 15 then groupState d1 dom chSERVE chGATED
  else if dom == 16 || dom == 17 then portDown d1 (dom - 16)
  else if 18 ≤ dom && dom ≤ 21 then showCipher (maskLost d1 (dom - 18)) else d1

/-- Ungate a domain: its host request ends (R92, R94, R95). -/
def ungateNow (d : Dev) (dom : Nat) : Dev :=
  let d0 := if dom ≤ 15 then setBit (powerOn d (22 + dom / 4)) F.PWR_DOMHOST_HOST (22 + dom / 4) false else d
  let d1 := setBit (powerOn d0 dom) F.PWR_DOMHOST_HOST dom false
  { d1 with sys := { d1.sys with readOpen := ndel dom d1.sys.readOpen } }

/-- Units not yet placed, or queued, on the LUNs of a group that is gated: their battens close early and their data is placed
again elsewhere. The source is silent on open battens of a gated group; see the assumption log. [log entry 35 DESIGN CHOICE] -/
def groupOut (d : Dev) (k : Nat) : Dev :=
  let open_ := batsWhere d (fun b v => v.st == .opened && !(v.role == .system) && (memberLuns d b).any (inGroup k))
  let d1 := open_.foldl (fun d b => settleBat (modBat (padClose d b 4) b (fun v => { v with sealed := true })) b) d
  let mine := d1.cox.luns.filter (fun e => inGroup k e.1)
  let lostQ := mine.flatMap (fun e => (e.2.q.filter (fun o => o.kind == .prog)).map (fun o => (o.batten, o.stripe, o.pos)))
  let lostW := (d1.med.work.filter (fun w => inGroup k (memberLun d1 w.batten w.pos))).map (fun w => (w.batten, w.stripe, w.pos))
  let d2 := mine.foldl (fun d e => setLun d e.1 { e.2 with q := e.2.q.filter (fun o => !(o.kind == .prog)) }) d1
  let d3 := { d2 with med := { d2.med with work := d2.med.work.filter (fun w => !inGroup k (memberLun d2 w.batten w.pos)) } }
  (lostQ ++ lostW).foldl (fun d u =>
    settleBat (againAt (markLost d u.1 u.2.1 u.2.2 false) u.1 u.2.1 u.2.2) u.1) d3

/-- The gating would lower R_media or R_crypto below the rates of the admitted streams (R25). -/
def gateShort (d : Dev) (dom : Nat) : Bool :=
  if dom ≤ 15 then
    rMediaOf (((healthyLuns d).filter (fun l => !lunLeaving d l && !inGroup dom l)).length) (rd d F.MEDIA_RPROG_MBS) (batW d) - d.med.rung1Cut < judgedRates d
  else if 18 ≤ dom && dom ≤ 21 then rCryptoOf (cipherDomains d - 1) (rd d F.CRY_STAT_LEVEL) < judgedRates d
  else false

/-- A page of the domain has pending shadows (R58). -/
def domPend (d : Dev) (dom : Nat) : Bool := allPages.any (fun p => domainOf p == dom && (hdrOf d p).pend)

/-- Cause of a refusal of a GO, 0 when it is accepted (R93): a request for domain 26 to 29 is refused in either direction. A domain that
only a power state gates is judged as one that is on: the request outlives the power state. [log entry 34 DEDUCED] -/
def domCause (d : Dev) (port dom : Nat) (gate : Bool) : Nat :=
  if rdB d F.PWR_DOMCMD_BUSY then 8
  else if dom > 29 then 7
  else if dom ≥ 26 then 6
  else if gate && !hostOff d dom then
    (if 22 ≤ dom && dom ≤ 25 && (List.range 4).any (fun i => domOn d (4 * (dom - 22) + i) || !hostOff d (4 * (dom - 22) + i)) then 1
     else if (dom == 16 || dom == 17) && d.seats.any (fun e => fnPort e.2.fn == dom - 16) then 2
     else if 18 ≤ dom && dom ≤ 21 && accepted d && cipherDomains d == 1 then 3
     else if gateShort d dom then 4
     else if domPend d dom then 5
     else if dom == 16 + port then 0xA else 0)
  else if !gate && !domOn d dom && (domRails dom).any (fun r => !bitOf d.sys.rails r) then 9
  else 0

/-- A power-state transition is in progress. -/
def inTransition (d : Dev) : Bool := rdB d F.PWR_PSTAT_ENTERING || rdB d F.PWR_PSTAT_EXITING

/-- What follows a change of the domains gated by host request: the capacity terms (R25, R94). -/
def domChanged (d : Dev) : Dev := if accepted d then lunsChanged d else d

/-- A GO that is evaluated now (R93): refused with its cause; done at once when the domain is already gated, or already on, and only
the host request changes; else started. [log entry 34 DEDUCED] -/
def domEval (d : Dev) (o : DomOp) : Dev :=
  let c := domCause d o.port o.dom o.gate
  if !(c == 0) then raise (wrs d [(F.PWR_DOMERR_VALID, 1), (F.PWR_DOMERR_DOMAIN, o.dom), (F.PWR_DOMERR_CAUSE, c)]) 2 9
  else if o.gate && hostOff d o.dom then raise d 2 8
  else if o.gate && !domOn d o.dom then raise (domChanged (setBit d F.PWR_DOMHOST_HOST o.dom true)) 2 8
  else if !o.gate && domOn d o.dom then raise (domChanged (ungateNow d o.dom)) 2 8
  else wr { d with sys := { d.sys with domOp := some o } } F.PWR_DOMCMD_BUSY 1

/-- A GO of PWR_DOMCMD (R92, R93): during a power-state transition it waits for its end. [log entry 34 DEDUCED] -/
def domGo (d : Dev) (port dom : Nat) (gate : Bool) : Dev :=
  let d0 := wrs d [(F.PWR_DOMCMD_OP, b2n gate), (F.PWR_DOMCMD_DOMAIN, dom)]
  if inTransition d then { d0 with sys := { d0.sys with domHeld := d0.sys.domHeld ++ [⟨dom, gate, port⟩] } }
  else domEval d0 ⟨dom, gate, port⟩

/-- The GOs held by a power-state transition are evaluated in their order when it ends. [log entry 34 DEDUCED] -/
def domRelease (d : Dev) : Dev := d.sys.domHeld.foldl domEval { d with sys := { d.sys with domHeld := [] } }

/-- No operation is in flight on a group's LUNs. -/
def groupQuiet (d : Dev) (k : Nat) : Bool :=
  d.cox.luns.all (fun e => !inGroup k e.1 || (e.2.exec.isNone && e.2.asleep.isNone))

/-- Finish a domain operation (R94). [log entry 35 DESIGN CHOICE] -/
def domFinish (d : Dev) (o : DomOp) : Dev :=
  let d0 := wr { d with sys := { d.sys with domOp := none } } F.PWR_DOMCMD_BUSY 0
  let d1 := if o.gate then
      setBit (powerOff (if o.dom ≤ 15 then groupOut d0 o.dom else d0) o.dom) F.PWR_DOMHOST_HOST o.dom true
    else ungateNow d0 o.dom
  raise (domChanged d1) 2 8

/-- The GO is refused after all: the domain stays on (R58, R93). -/
def domRefuse (d : Dev) (o : DomOp) (cause : Nat) : Dev :=
  raise (wrs d [(F.PWR_DOMERR_VALID, 1), (F.PWR_DOMERR_DOMAIN, o.dom), (F.PWR_DOMERR_CAUSE, cause)]) 2 9

/-- DOMDONE: a group is gated only after its last operation has completed (R94), and no operation ends within a power-state transition
(R93). A page of the domain whose shadow was written since the GO stops the gating: the operation ends as a refusal with cause 5 (R58).
[log entry 145 DESIGN CHOICE] -/
def execDomdone (s : State) : Host.Outcome State Fault Refusal :=
  let d := s.dev
  finish s (match d.sys.domOp with
    | none => d
    | some o => guardDev (serving d && !inTransition d && (!o.gate || o.dom > 15 || groupQuiet d o.dom)) d
      (if o.gate && domPend d o.dom then domRefuse (wr { d with sys := { d.sys with domOp := none } } F.PWR_DOMCMD_BUSY 0) o 5
       else domFinish d o))

/-- The host-gated groups whose LUNs a read waits for are ungated for it (R94): its member, or the others of its stripe (R319). -/
def readGroups (d : Dev) : List Nat :=
  ((d.med.jobs.flatMap ReadJob.units).flatMap (unitGroups d)).foldl (fun acc k => if hostOff d k && !domOn d k then nins k acc else acc) []

def openForRead (d : Dev) : Dev :=
  (readGroups d).foldl (fun d k =>
    let d1 := powerOn (powerOn d (22 + k / 4)) k
    { d1 with sys := { d1.sys with readOpen := nins k d1.sys.readOpen } }) d

/-- GROUP_REGATE_TIMER (R94): not while a page of the group has pending shadows (R58). An LDPC domain that host software had gated is
gated again with the last of its groups. -/
def execGroupRegateTimer (group : Nat) (s : State) : Host.Outcome State Fault Refusal :=
  let d := s.dev
  finish s (guardDev (serving d && d.sys.readOpen.contains group && groupQuiet d group && !domPend d group) d
    (let d1 := powerOff { d with sys := { d.sys with readOpen := ndel group d.sys.readOpen } } group
     let l := 22 + group / 4
     if bitOf (rd d1 F.PWR_DOMHOST_HOST) l && (List.range 4).all (fun i => !domOn d1 (4 * (group / 4) + i)) then powerOff d1 l else d1))

end Sys2Proof.Machine
end

