-- ==== Sys2Proof/Machine/Recover.lean ====
section
/-!
DEFINITION. What an acceptance sets, the training of channels, and the drain of a reopening (R103, R104, R107, R302, R308).
-/
namespace Sys2Proof.Machine

/-- Registers that follow the configuration an acceptance applies; admissions and slots are counted anew (R167, R191). -/
def acceptEffects (d : Dev) : Dev :=
  let d0 := wr64 { d with med := { nand := d.med.nand, ptlSpent := d.med.ptlSpent, eolDone := d.med.eolDone }, cox := {}, hub := { d.hub with safeMode := false }, adm := { d.adm with aseq := 0 } } 0x18050 0
  let d1 := wrs (showCipher d0) [(F.MEDIA_NLUN_COUNT, (declaredLuns d0).length), (F.MAP_FTOT_COUNT, fineTotal d0),
    (F.MAP_PLIM_MIB, mapPlim d0), (F.MAP_STAT_NOFINE, b2n (fineAbsent d0)), (F.CRY_STAT_LEVEL, rd d0 F.CRY_MASK_LEVEL),
    (F.WEAR_ENDUR_COUNT, rd d0 F.MEDIA_ENDUR_COUNT), (F.GC_VICT_ID, 0xFFFFFF), (F.JNL_STAT_BUSY, 0), (F.JNL_STAT_WIN, 0)]
  logNote (lunsChanged (strokeStart d1)) 0xFF02 []

/-! ### Training (R302, R303, R307) -/

/-- A training starts: the values of page CHN that govern a training are those in force now (R300). -/
def trainStart (d : Dev) (c : Nat) : Dev :=
  wr (setCh d c { chOf d c with tRate := rd d (F.CHN_TSET_RATE c), tNodt := rd d (F.CHN_DRV_NODT c), tFix := rdB d (F.CHN_EQ_FIX c),
                                tPost := rd d (F.CHN_EQ_POST c) }) (F.CHN_STAT_STATE c) chTRAIN

/-- Rate the PLL of a channel group has taken. [log entry 72 DEDUCED] -/
def pllRate (d : Dev) (c : Nat) : Nat := (chOf d (4 * (c / 4))).pllRate

/-- Assumptions: [log entry 72 DEDUCED] -/
def setPllRate (d : Dev) (c rate : Nat) : Dev :=
  setCh d (4 * (c / 4)) { chOf d (4 * (c / 4)) with pllRate := rate }

/-- RECOVER starts at TRAIN: every ungated channel with a declared target trains, the PLL of a group takes the rate of its lowest one (R302,
R308). The channels of a group whose PLL has failed cannot train before a restart: they are isolated (R307). [log entry 150 DEDUCED] -/
def startRecover (d : Dev) : Dev :=
  foldUpto 64 (fun c d =>
    if rd d (F.CHN_MAP_TGT c) == 0 || !domOn d (c / 4) then d
    else if pllBroken d (c / 4) then setIsolated d c icPLL
    else trainStart (if pllRate d c == 0 then setPllRate d c (rd d (F.CHN_TSET_RATE c)) else d) c) d

/-- Receive and transmit windows of a rate code in ps (R301). -/
def rxWindow (code : Nat) : Nat :=
  [0, 375, 250, 188, 150, 125, 108, 94, 84, 63, 57, 53].getD code 53
def txWindow (code : Nat) : Nat :=
  [0, 812, 541, 406, 325, 270, 232, 203, 180, 150, 136, 125].getD code 125

/-- Step SWITCH cannot succeed at the channel's rate: another rate on the group's PLL, no ODT where it is required, or no timing-mode
feature for the extended codes (R301, R302). [log entry 72 DEDUCED] -/
def switchFails (d : Dev) (c : Nat) : Bool :=
  let rate := (chOf d c).tRate
  !(pllRate d c == rate) || (rate ≥ 4 && ((chOf d c).tNodt == 0 || rd d (F.CHN_DRV_CODT c) == 0))
    || (rate ≥ 9 && rd d F.MEDIA_OPC2_XTFA == 0)

/-- Highest rate code at which a slew code of the data pads meets the transmit window (R472). -/
def slewLimit (code : Nat) : Nat := [11, 11, 8, 5].getD code 5

/-- Targets of the map that passed IDENT. -/
def trainTargets (d : Dev) (r : TrainRes) : Nat := if 1 ≤ r.fail && r.fail ≤ 3 then 0 else r.tgtOk &&& rd d (F.CHN_MAP_TGT r.chn)

/-- The step at which a training fails, 0 for none (R302): the first that reports a failure, IDENT with no target that passes, SWITCH as
above, READ and WRITE with an eye below the window of the rate, WRITE above the limit of the slew code in use. [log entry 71 DEDUCED] -/
def trainFail (d : Dev) (r : TrainRes) : Nat :=
  let rate := (chOf d r.chn).tRate
  let at_ := if r.fail == 0 then 8 else r.fail
  if at_ ≤ 3 then at_
  else if trainTargets d r == 0 then 3
  else if at_ == 4 || switchFails d r.chn then 4
  else if at_ == 5 || 2 * r.reye < rxWindow rate then 5
  else if at_ == 6 || 2 * r.weye < txWindow rate || rate > slewLimit (rd d (F.CHN_DRV_DQSLEW r.chn)) then 6
  else if r.fail == 0 then 0 else 7

/-- The end of one channel's training (R302): the values of steps READ and WRITE are those of a training that reached them. The cycles of
all its steps are issued here (R296). -/
def trainEnd (d : Dev) (r : TrainRes) : Dev :=
  let c := r.chn
  let rate := (chOf d c).tRate
  let fail := trainFail d r
  let b := 0x30000 + 0x1000 * c
  let post := if rate < 9 then 0 else if (chOf d c).tFix then (chOf d c).tPost else r.post
  let d0 := trainOut d c (if fail == 0 then 7 else fail) rate (trainTargets d r)
  let dr := if fail == 0 || fail ≥ 5 then
      wrs (setActW (setActW d0 (b + 0x60) r.dsk0) (b + 0x64) r.dsk1) [(F.CHN_TRN_RVREF c, r.rvref), (F.CHN_TRN_REYE c, r.reye)]
    else d0
  let dw := if fail == 0 || fail ≥ 6 then
      wrs (setActW (setActW dr (b + 0x68) r.dsk2) (b + 0x6C) r.dsk3) [(F.CHN_TRN_POST c, post), (F.CHN_TRN_WEYE c, r.weye)]
    else dr
  let d1 := wrs dw [(F.CHN_STAT_TGTOK c, trainTargets d r), (F.CHN_HMARG_MIN c, 0), (F.CHN_HMARG_NOW c, 0)]
  let d2 := setCh d1 c { chOf d1 c with drifted := false, tracked := false, low := 0, touts := [] }
  if fail == 0 then
    raise (satAdd (wrs (setCh d2 c { chOf d2 c with retrain := false }) [(F.CHN_STAT_STATE c, chSERVE), (F.CHN_STAT_ICAUSE c, 0), (F.CHN_STAT_RATE c, rate), (F.CHN_TTRN_US c, r.us)])
      (F.CHN_HTRN_COUNT c) 1) (chnPage c) 8
  else setIsolated (raise (wr d2 (F.CHN_STAT_FSTEP c) fail) (chnPage c) 9) c icTRAIN

/-- Insert a result by channel number. -/
def trainIns (r : TrainRes) : List TrainRes → List TrainRes
  | [] => [r]
  | x :: l => if r.chn < x.chn then r :: x :: l else x :: trainIns r l

/-- Every training of the stage ends, in channel order. -/
def trainAll (d : Dev) (l : List TrainRes) : Dev :=
  ((l.filter (fun r => r.chn < 64 && chnState d r.chn == chTRAIN)).foldr trainIns []).foldl trainEnd d

/-- Every channel that trains has its result, and the clock of its group runs (R85, R302). -/
def trainReady (d : Dev) (l : List TrainRes) : Bool :=
  (List.range 64).all (fun c => !(chnState d c == chTRAIN) || (l.any (fun r => r.chn == c) && !clockHeld d (5 + c / 4)))

/-! ### Draining (R107) -/

/-- Stripes that hold data not yet Committed are closed. -/
def reopenDrain (d : Dev) : Dev :=
  let d1 := modCmds d (updWhere (fun c => !isStarted c) (fun c => { c with stage := .held, kres := 0 }))
  (batsWhere d1 (fun _ v => v.st == .opened && !(v.role == .system))).foldl (fun d b => padClose d b 1) d1

/-- No Catch is in progress (R55). -/
def catchQuiet (d : Dev) : Bool := rd d F.GLB_CATCH_DONE_DONE == 0xFF

/-- Every started command has completed and every protected course is Committed. The gate leaves ACCEPTED with no Catch in progress:
GLB_CATCH_DONE is 0xFF from then on (R57). [log entry 144 DESIGN CHOICE] -/
def reopenDrained (d : Dev) : Bool :=
  !(d.cmds.list.any isStarted) && !(d.med.ring.any (fun e => e.2.live)) && catchQuiet d

/-! ### The end of RECOVER (R104) -/

/-- RECOVERED is set; a safe value of GLB_MODE taken meanwhile selects MAINTAIN (R62). -/
def recoverDone (d : Dev) : Dev :=
  let d1 := raise (wrs d [(F.GLB_STAT_RECOVERED, 1), (F.GLB_STAT_RSTAGE, 0)]) 0 9
  if d1.hub.safeMode then
    modeTakes (wrBoth { d1 with hub := { d1.hub with safeMode := false } } F.GLB_MODE_MODE 4) 4
  else d1

/-- The SANITISE or FORMAT to resume. -/
def resumeOp? (d : Dev) : Option Progress :=
  match d.med.nand.prog with
  | some p => if p.op == 1 || p.op == 2 then some p else none
  | none => none

/-- RESUME starts, or RECOVER ends (R431). -/
def enterResume (d : Dev) : Dev :=
  match resumeOp? d with
  | none => recoverDone d
  | some p =>
    let d1 := { d with admin := { d.admin with cmd := none, start := d.sys.time } }
    raise (wrs (if p.op == 2 then formatUnmap d1 p.vol true else d1) [(F.GLB_STAT_RSTAGE, 7), (F.ADMIN_PROG_BUSY, 1), (F.ADMIN_PROG_RESUMED, 1),
      (F.ADMIN_PROG_OP, if p.op == 2 then 3 else p.action), (F.ADMIN_PROG_REINIT, b2n p.reinit), (F.ADMIN_PROG_STEP, p.step),
      (F.ADMIN_PROG_VOL, p.vol), (F.ADMIN_PROG_PERMILLE, p.permille)]) 0x7D 9

/-- MIGRATE starts, or the next stage (R412). -/
def enterMigrate (d : Dev) : Dev :=
  if rdB d F.FWU_STATE_MIGPEND then wr d F.GLB_STAT_RSTAGE 6 else enterResume d

end Sys2Proof.Machine
end

