-- ==== Sys2Proof/Machine/Gate.lean ====
section
/-!
DEFINITION. The configuration gate (chapter Configuration Gate and Operating Modes): commit, acceptance, rejection, reopening.
-/
namespace Sys2Proof.Machine

/-- An ignored COMMIT or REOPEN (R99). -/
def gateIgnore (d : Dev) (icause : Nat) : Dev := raise (wr d F.CFG_GATE_ICAUSE icause) 1 10

/-- The descriptor declares a LUN on a channel group: a CHN_MAP shadow of the group is not 0 (R95, R295). -/
def groupDeclared (d : Dev) (k : Nat) : Bool :=
  (List.range 4).any (fun i => !(rdShd d (F.CHN_MAP_TGT (4 * k + i)) == 0))

/-- A write of CFG_GATE.COMMIT (R95, R100). -/
def gateCommit (d0 : Dev) : Dev :=
  let st := rd d0 F.CFG_GATE_STATE
  if !stageReady d0 then gateIgnore d0 1
  else if st == 2 || st == 4 then gateIgnore d0 2
  else
    let d := voteAll d0
    let d1 := { d with hub := { d.hub with
      snapShd := d.hub.shd, snapSum := actW d 0x1044, snapEhold := actW d 0x5040, snapLock := actW d 0x160,
      hdr := d.hub.hdr.map (fun e => (e.1, { e.2 with late := false })) } }
    let d2 := wr d1 F.CFG_GATE_STATE 2
    foldUpto 16 (fun k d => if groupDeclared d k then ungateNow (ungateNow d (22 + k / 4)) k else d) d2

/-- The device as the image checks see it: the snapshot in place of the shadows (R100). -/
def atSnapshot (d : Dev) : Dev :=
  setActW (setActW { d with hub := { d.hub with shd := d.hub.snapShd } } 0x5040 d.hub.snapEhold) 0x160 d.hub.snapLock

/-- A rejection (R101, R102). -/
def gateHeld (d : Dev) (code off : Nat) : Dev :=
  raise (logNote (satAdd (wrs d [(F.CFG_REASON_CODE, code), (F.CFG_WHERE_VALID, 1), (F.CFG_WHERE_OFFSET, off),
    (F.CFG_GATE_STATE, 3)]) F.CFG_REASON_COUNT 1) 0xFF03 []) 1 9

/-- The acceptance applies the snapshot to every page as one Catch (R57, R103). A page written during CHECKING keeps its later
shadows and PEND. -/
def acceptApply (d : Dev) : Dev :=
  let live := d.hub.shd
  let d1 := { d with hub := { d.hub with shd := d.hub.snapShd } }
  let d2 := allPages.foldl applyPage d1
  let d3 := { d2 with hub := { d2.hub with shd := live } }
  allPages.foldl (fun d p =>
    let h := hdrOf d p
    setHdr d p { h with cseq := (h.cseq + 1) % 256, refused := false, pend := h.late, late := false }) d3

/-- The registers of an acceptance (R103): the snapshot applies, the gate is ACCEPTED, the mode RECOVER in TRAIN. -/
def acceptGate (d : Dev) : Dev :=
  let d1 := acceptApply d
  raise (wrBoth (wrs (tvTaken (tvTaken d1 0x80 false) 0x80 true) [(F.CFG_GATE_STATE, 4), (F.CFG_ACCT_T, now32 d), (F.GLB_STAT_RECOVERED, 0),
    (F.GLB_STAT_MODE, 0), (F.GLB_STAT_RSTAGE, 1), (F.GLB_MODET_T, now32 d)]) F.GLB_MODE_MODE 0) 1 8

/-- Acceptance in one step (R103). -/
def gateAccept (d : Dev) : Dev := startRecover (acceptEffects (acceptGate d))

/-- IMAGE_CHECK_COMPLETE (R101 to R103). -/
def execImageCheckComplete (s : State) : Host.Outcome State Fault Refusal :=
  let d := s.dev
  finish s (guardDev (serving d && rd d F.CFG_GATE_STATE == 2) d
    (let v := atSnapshot d
     let crc := imageCrc v
     let d1 := wr d F.CFG_CALC_CRC crc
     if !(crc == d.hub.snapSum.toNat) then gateHeld d1 1 0x1044
     else match imagePageFault v with
       | some (p, whr, cause) => gateHeld (refusePage d1 p whr cause) 0x0A (0x1000 * p + whr)
       | none =>
         let a := allPages.foldl applyPage v
         let d2 := energyRegs d1 (energyDeclared a)
         match imageFault a with
         | some (code, off) => gateHeld d2 code off
         | none => gateAccept d2))

/-- ICAUSE of a REOPEN, 0 when it is accepted (R99, R107). -/
def reopenCause (d : Dev) : Nat :=
  if !accepted d || !rdB d F.GLB_STAT_RECOVERED then 3
  else if !(rd d F.ADM_COUNT_OPEN == 0) || (List.range 64).any (fun i => rdB d (F.STRM_STAT_OPEN i)) then 4
  else if d.seats.any (fun e => e.1 ≥ 2) then 5
  else if maintainWork d then 6 else 0

/-- A write of CFG_GATE.REOPEN (R107): commands are held from here, in-flight commands complete, the ring drains. -/
def gateReopen (d : Dev) : Dev :=
  let c := reopenCause d
  if !(c == 0) then gateIgnore d c
  else if d.cmds.reopening then d
  else reopenDrain { d with cmds := { d.cmds with reopening := true } }

/-- The gate once a drain has ended (R107): channels reset, slots EMPTY, shadows take the active values, STAGED. -/
def gateStaged (d : Dev) : Dev :=
  let d1 := allPages.foldl discardPage (leaveAccepted (emptyKeys (journalClean d)))
  wrs { d1 with cmds := { d1.cmds with reopening := false } }
    [(F.GLB_STAT_MODE, 0xF), (F.GLB_STAT_RECOVERED, 0), (F.CFG_GATE_STATE, 1), (F.GLB_STAT_RSTAGE, 0)]

/-- REOPEN_COMPLETE (R107): the commands held meanwhile are judged. The power state and GLB_STAT.TRANS stay as they are. [log entry 110 DESIGN CHOICE] -/
def execReopenComplete (s : State) : Host.Outcome State Fault Refusal :=
  let d := s.dev
  finish s (guardDev (serving d && d.cmds.reopening && reopenDrained d) d (releaseHeld (gateStaged d)))

/-- A failed media check (R105). -/
def mediaFail (d : Dev) (code off : Nat) : Dev :=
  let d1 := leaveAccepted d
  let d2 := (d1.hub.act.map Prod.fst ++ (variantWords d1.sys.fuse.variant).map Prod.fst).foldl (fun d off =>
    if shMask off == 0 then d
    else setActW (tvTaken d off false) off ((actW d off &&& ~~~ shMask off) ||| (shResetHw d off &&& shMask off))) d1
  let d2m := wrs d2 [(F.MEDIA_NLUN_COUNT, (declaredLuns d2).length), (F.WEAR_ENDUR_COUNT, rd d2 F.MEDIA_ENDUR_COUNT)]
  let d3 := (d2m.cmds.list.filter (fun c => c.seat ≤ 1 && !c.orphan)).foldl (fun d c => complete d c stMODE 0) d2m
  let d4 := (d3.seats.filter (fun e => e.1 ≥ 2)).foldl (fun d e => reapSeat d e.1 false) d3
  wrs (gateHeld d4 code off) [(F.GLB_STAT_MODE, 0xF), (F.GLB_STAT_RSTAGE, 0)]

end Sys2Proof.Machine
end

