-- ==== Sys2Proof/Machine/RecoverRows.lean ====
section
/-!
DEFINITION. The stages of RECOVER (R104, R105, R232, R233, R255, R256, R413).
-/
namespace Sys2Proof.Machine

/-! ### TRAIN and VERIFY -/

/-- A stage of RECOVER is in progress. -/
def inStage (d : Dev) (n : Nat) : Bool := cpuRuns d && recovering d && accepted d && rd d F.GLB_STAT_RSTAGE == n

/-- The next stage starts now. -/
def toStage (d : Dev) (n : Nat) : Dev := wr { d with med := { d.med with t0 := d.sys.time } } F.GLB_STAT_RSTAGE n

/-- Microseconds since the stage started, rounded up. [log entry 6 DESIGN CHOICE] -/
def stageUs (d : Dev) : Nat := ceilDiv (d.sys.time - d.med.t0) 1000

/-- TRAIN_STAGE_DONE (R104): every training has ended; VERIFY starts. -/
def execTrainStageDone (results : List TrainRes) (s : State) : Host.Outcome State Fault Refusal :=
  let d := s.dev
  finish s (guardDev (inStage d 1 && trainReady d results) d (lunsChanged (toStage (trainAll d results) 2)))

/-- First descriptor word at fault in the geometry comparison (R101, code 0x02). -/
def geomDiffers (d : Dev) : Option Nat :=
  let n := d.med.nand
  match (List.range 3).find? (fun i => !(n.geom.getD i 0 == actW d (0x26040 + 4 * i))) with
  | some i => some (0x26040 + 4 * i)
  | none =>
    if !(n.w == batW d) then some 0x26054
    else if !(n.nlun == rd d F.MEDIA_NLUN_COUNT) then some 0x26050 else none

/-- First volume-table word that differs from the volume records (R101, code 0x07): an entry without a readable record, with
another capacity or generation, or a record that no entry defines. [log entry 29 DEDUCED] -/
def volDiffers (d : Dev) (bad : List Nat) : Option Nat :=
  let n := d.med.nand
  match (volEntries d).findSome? (fun e =>
    match (if bad.contains (rd d (F.VOL_ID_VOL e)) then none else volRec? d (rd d (F.VOL_ID_VOL e))) with
    | none => some (F.VOL_ID_VOL e).off
    | some r =>
      if !(r.fgen == rd d (F.VOL_ID_FGEN e)) then some (F.VOL_ID_FGEN e).off
      else if !(r.cap == entryBlocks d e) then
        some (if r.cap % 2 ^ 32 == rd d (F.VOL_CAP_LO_BLK e) then (F.VOL_CAP_HI_BLK e).off else (F.VOL_CAP_LO_BLK e).off)
      else none) with
  | some w => some w
  | none => if n.vols.any (fun e => (volEntry? d e.1).isNone) then some (F.VOL_ID_VOL 0).off else none

/-- Format version of the media: the record's, or the target of a migration in progress (R101, R413). -/
def mediaFver (n : Nand) : Nat :=
  match n.mig with
  | some p => max n.fver p.action
  | none => n.fver

/-- The media checks of R101 in order: code and offset of the first failure. Media without a valid anchor record have no media record (R268);
one that names battens released since finds no media record copy that passes. [log entry 121 DESIGN CHOICE] -/
def mediaFault (d : Dev) (m : MediaRead) : Option (Nat × Nat) :=
  let n := d.med.nand
  let anchor := anchorUsed n m.anchorBad
  let found := n.formatted && anchor.isSome
  let new := rdB d F.CFG_CTRL_NEWMEDIA
  let ident := (List.range 64).find? (fun c => domOn d (c / 4)
    && !((rd d (F.CHN_MAP_TGT c)) &&& (rd d (F.CHN_STAT_TGTOK c)) == rd d (F.CHN_MAP_TGT c)))
  if !found && !new then some (0x11, 0x1058)
  else if found && new then some (0x10, 0x1058)
  else if found && (!m.readable || !(anchor.map Prod.snd == some n.sysPair)) then some (0x0F, 0x26040)
  else match ident with
    | some c => some (0x02, (F.CHN_MAP_TGT c).off)
    | none =>
      if !found then none
      else match geomDiffers d with
        | some w => some (0x02, w)
        | none =>
          if mediaFver n > (bankHdr d (rd d F.FWA_BANK_EXEC)).fver then some (0x08, 0x26040)
          else (volDiffers d m.volBad).map (fun w => (0x07, w))

/-- The counters of the REST slots in unfolded flush sets raise the marks of the volume records (R232). [log entry 69 DEDUCED] -/
def applyCounters (n : Nand) : Nand :=
  (openSets n).foldl (fun n s => (s.counters.filter (fun c => c.role == roleREST)).foldl (fun n c =>
    match n.vols.get? c.vol with
    | some r => { n with vols := n.vols.set c.vol (setMark r c.kgen (max (markOf r c.kgen) c.ctr)) }
    | none => n) n) n

/-- Flush sets that do not read are not valid (R230). -/
def checkSets (bad : List (Nat × Nat × Nat)) (n : Nand) : Nand :=
  { n with eaves := n.eaves.map (fun e => { e with valid := e.valid && eaveReads (bad.map (fun p => ⟨p.1, p.2.1, p.2.2⟩)) e }) }

/-- What the records on the media give the registers once the checks pass (R292, R412, R433). The start takes its number at the first
VERIFY of the power-up and keeps it (R106, R433). -/
def verified (d : Dev) (m : MediaRead) : Dev :=
  let d0 := modNand d (fun n => applyCounters (checkSets m.eaveBad { n with formatted := n.formatted && (anchorUsed n m.anchorBad).isSome }))
  let n := d0.med.nand
  let start := if rd d0 F.LOG_START_NUM == 0 then (d0.log.saved.map LogEnt.start).foldl max 0 + 1 else rd d0 F.LOG_START_NUM
  (if n.formatted then setMigpend else id) (wrs d0 [(F.FWU_MFVER_FVER, n.fver), (F.LOG_START_NUM, start), (F.LOG_HELD_COUNT, d0.log.buf.length + d0.log.saved.length),
    (F.BAD_TOTAL_COUNT, n.retiredTotal), (F.BAD_EFAIL_COUNT, n.eraseFails), (F.BAD_PFAIL_COUNT, n.progFails),
    (F.BAD_FACT_COUNT, n.bad.length), (F.BAD_LFAIL_COUNT, (n.lunRec.filter (fun e => e.2.failedB)).length),
    (F.PTL_PASS_COUNT, n.passNo)])

/-- VERIFY_DONE (R104, R105). A Catch in progress ends first (R57). [log entry 144 DESIGN CHOICE] -/
def execVerifyDone (media : MediaRead) (s : State) : Host.Outcome State Fault Refusal :=
  let d := s.dev
  finish s (guardDev (inStage d 2 && catchQuiet d) d
    (match mediaFault d media with
     | some (code, off) => mediaFail d code off
     | none => releaseHeld (toStage (lunsChanged (verified d media)) 3)))

/-! ### REPLAY and SCAN (R243, R255, R256) -/

/-- Deltas in META of the unfolded sets, in ascending order of the sets (R255). -/
def metaDeltas (n : Nand) : List Delta := (openSets n).flatMap EaveSet.deltas

/-- Highest SEQ and WSEQ values that REPLAY meets: in the journal and in the sets. -/
def replaySeqs (n : Nand) : List Nat :=
  n.cmark :: ((n.chunks.flatMap Chunk.deltas ++ metaDeltas n).map Delta.seq ++ (openSets n).flatMap (fun s => s.exts.map (fun r => lastSeq r.ext.tag)))
def replayWseqs (n : Nand) : List Nat :=
  n.chunks.map (fun c => c.wseq0 + ceilDiv (chunkLen c) 16384) ++ n.eaves.map (fun s => s.wseq0 + s.pages.length + s.metas.length + s.recs.length)

/-- REPLAY_DONE (R255): `bad` are chunks that do not read. The chain ends at the last good one. -/
def execReplayDone (bad : List Nat) (s : State) : Host.Outcome State Fault Refusal :=
  let d := s.dev
  finish s (guardDev (inStage d 3) d
    (let l := goodChain d bad
     let d1 := modNand d (fun n => { n with chunks := l, chunk := ((l.getLast?).map Chunk.num).getD 0, cmark := (l.map Chunk.cmark).foldl max 0 })
     let n := d1.med.nand
     let jm := replayChunks d1 l
     let d2 := { d1 with med := { d1.med with jmap := jm, m := (metaDeltas n).foldl applyDelta jm, jrecent := l.flatMap Chunk.deltas } }
     let d3 := raiseWseq (raiseSeq (wr64 (wr64 d2 0x21048 n.chunk) 0x21050 n.cmark) (replaySeqs n)) (replayWseqs n)
     toStage (wr d3 F.JNL_REPLAYT_US (stageUs d)) 4))

/-- WSEQ values on the pages that SCAN reads. -/
def scanWseqs (d : Dev) : List Nat :=
  (lastWins d.med.nand).flatMap (fun w => (batOf d w.1).wseq.map (fun e => e.2 + unitPages d - 1))

/-- The window is what the last chunk listed and no writer has opened (R253). -/
def scanWindow (d : Dev) : Dev :=
  let l := ((lastWins d.med.nand).map Prod.fst).filter (fun b => batExists d.med.nand b && (batOf d b).st == .free)
  setWindow (l.foldl (fun d b => modBat d b (fun v => { v with st := .window })) d) l

/-- SCAN_DONE (R256): pages with a first codeword that does not decode or a bad tag count as absent. -/
def execScanDone (bad : List Nat) (s : State) : Host.Outcome State Fault Refusal :=
  let d := s.dev
  finish s (guardDev (inStage d 4) d
    (let d0 := { d with med := { d.med with scanBad := bad } }
     let ps := scanPieces d0
     let xs := candDeltas (knownOf d0) d0.med.nand.cmark ps
     let ids := ps.map (fun p => p.tag.txid) ++ (openSets d0.med.nand).flatMap (fun s => s.exts.map (fun r => r.ext.tag.txid) ++ s.txns.map Prod.fst)
       ++ (knownOf d0).deltas.map Delta.txid
     let d1 := { d0 with med := { d0.med with m := xs.foldl applyDelta d0.med.m, deltas := xs, nextTx := ids.foldl max 0 + 1 } }
     let d2 := raiseWseq (raiseSeq d1 (ps.map (fun p => lastSeq p.tag))) (scanWseqs d1)
     let d3 := scanWindow (wrs d2 [(F.JNL_SCANPG_COUNT, scanCount d0), (F.JNL_SCANT_US, stageUs d)])
     toStage (if bad.isEmpty then d3 else raise d3 0x20 11) 5))

/-! ### FOLD (R232, R233, R318) -/

/-- Stripes of a batten that hold a programmed unit, from the first on. -/
def topStripe (v : Batten) : Nat := (v.passed.map (fun u => u / 64 + 1) ++ v.failed.map (fun (f : Nat × Nat) => f.1 + 1)).foldl max 0

/-- Units of the stripes below `top`. -/
def stripeUnits (d : Dev) (top : Nat) : List (Nat × Nat) := (List.range top).flatMap (fun s => (List.range (batW d)).map (fun p => (s, p)))

/-- A program of FOLD failed (R280, R318): its position is recorded, its block is FAILING, its batten a victim in class 1. -/
def foldFail (d : Dev) (u : Nat × Nat × Nat) : Dev :=
  let d1 := wrapAdd (modNand d (fun n => { n with progFails := n.progFails + 1 })) F.BAD_PFAIL_COUNT 1
  statusFailed (makeVictim (markLost d1 u.1 u.2.1 u.2.2 true) u.1 1 2) (memberLun d u.1 u.2.2) (64 * u.1 + u.2.2)

/-- A batten that was open at a loss of power (R271, R318): with nothing programmed it is free; with a stripe that lacks its ridge it is
closed, pad units and the ridge in the positions never programmed, those of LUNs out of service taken as failed; else it stays open at its
next stripe. `bad` are the units whose program fails. -/
def closeOpened (bad : List (Nat × Nat × Nat)) (d : Dev) (b : Nat) : Dev :=
  let v := batOf d b
  let top := topStripe v
  let todo := (stripeUnits d top).filter (fun u => !v.passed.contains (64 * u.1 + u.2) && !v.failed.contains u)
  let dead := todo.filter (fun u => !lunHealthy d (memberLun d b u.2))
  let live := todo.filter (fun u => lunHealthy d (memberLun d b u.2))
  if top == 0 then setBat d b { ec := v.ec, repl := v.repl, adj := v.adj }
  else if todo.isEmpty && !v.sealed && v.vcls == 0 && top < nUnits d then modBat d b (fun v => { v with wptr := top * stripeCw d })
  else
    let d1 := live.foldl (fun d u => add64 (modBat d b (fun v => { v with wseq := v.wseq.set (64 * u.1 + u.2) (rd64 d F.MAP_WSEQ) })) F.MAP_WSEQ (unitPages d)) d
    let d2 := satAdd d1 F.GC_PADP_COUNT ((live.filter (fun u => !isRidge (batW d) u.1 u.2)).length * unitPages d)
    let d3 := modBat d2 b (fun v => { v with st := .closed, sealed := true, wptr := top * stripeCw d, passed := [], failed := v.failed ++ dead,
                                             vcls := 0, vcause := 0, cseq := rd64 d2 F.MAP_WSEQ })
    let d4 := if dead.isEmpty then d3 else makeVictim d3 b 1 3
    sysPut ((bad.filter (fun u => u.1 == b && live.contains u.2)).foldl foldFail d4) [recKey 3 b]

/-- Every batten that was open is closed or goes on (R318). -/
def closeAll (bad : List (Nat × Nat × Nat)) (d : Dev) : Dev :=
  (batsWhere d (fun _ v => v.st == .opened && !(v.role == .system))).foldl (closeOpened bad) d

/-- The units of a batten that fail in the first stripe, of those FOLD programs, in which one does. -/
def foldBad (bad : List (Nat × Nat × Nat)) (d : Dev) (b upto : Nat) : List (Nat × Nat × Nat) :=
  let l := bad.filter (fun u => u.1 == b && u.2.2 < batW d && topStripe (batOf d b) ≤ u.2.1 && (u.2.1 + 1) * stripeCw d ≤ upto)
  l.filter (fun u => l.all (fun x => u.2.1 ≤ x.2.1))

/-- The batten folded data goes to ends: its last stripe is padded, every stripe is programmed. A program that fails closes it with its stripe
(R280). -/
def foldClose (bad : List (Nat × Nat × Nat)) (d : Dev) (cur : Option Nat) : Dev :=
  match cur with
  | none => d
  | some b =>
    let v := batOf d b
    let n := stripeCw d
    let all := if n == 0 then v.wptr else ceilDiv v.wptr n * n
    let l := foldBad bad d b all
    let upto := (l.head?.map (fun u => (u.2.1 + 1) * n)).getD all
    let d1 := satAdd (modBat d b (fun v => { v with wptr := upto })) F.GC_PADP_COUNT ((upto - v.wptr) / 4)
    let d2 := unitsWritten d1 b (topStripe v * n) upto
    if upto ≥ batCw d || !l.isEmpty then
      sysPut (l.foldl foldFail (modBat d2 b (fun v => { v with st := .closed, sealed := true, passed := [], cseq := rd64 d2 F.MAP_WSEQ }))) [recKey 3 b]
    else d2

/-- An extent that FOLD placed on a batten is not there once the batten has ended: its place was not programmed, or it has codewords in a
unit that failed or in a stripe whose ridge failed (R280, R318). -/
def foldGone (d : Dev) (b : Nat) (p : Nat × Nat × Extent) : Bool :=
  let off := p.2.1 % 2 ^ 21
  let n := p.2.2.tag.n
  p.2.1 / 2 ^ 21 == b && ((batOf d b).wptr < off + extCw n || (batOf d b).failed.any (fun f =>
    if isRidge (batW d) f.1 f.2 then off < (f.1 + 1) * stripeCw d && f.1 * stripeCw d < off + extCw n else inUnit d off n f.1 f.2))

/-- A bulk batten for folded data: an open one with room, else the next of the window, which a chunk lists first when it is empty (R253, R271). -/
def foldBatten (d : Dev) (cw : Nat) : Option (Dev × Nat) :=
  match (openOf d .bulk).find? (fun b => (batOf d b).wptr + cw ≤ batCw d) with
  | some b => some (d, b)
  | none => match openBatten d .bulk with
    | some r => some r
    | none => openBatten (chunkWrite d [] d.med.nand.cmark false []) .bulk

/-- Place one folded extent on a batten (R232, R246, R258). The copy is a relocation with a transaction of its own. -/
def foldPut (d : Dev) (b : Nat) (x : Extent) : Dev :=
  let y := { x with tag := { x.tag with reloc := true, txid := d.med.nextTx, txord := 0, txnp := 1 } }
  let off := (batOf d b).wptr
  let d1 := modNand (modBat d b (fun v => { v with wptr := off + extCw x.tag.n })) (fun n => { n with flash := n.flash.set (placeKey b off) y })
  { d1 with med := { d1.med with nextTx := (d1.med.nextTx + 1) % 2 ^ 32 } }

/-- The extents that are gone leave the flash. -/
def foldDrop (d : Dev) (gone : List (Nat × Nat × Extent)) : Dev :=
  modNand d (fun n => { n with flash := gone.foldl (fun m p => SMap.erase m p.2.1) n.flash })

/-- Place the numbered extents of the sets in order, each on the bulk batten in hand, else on another one (R271): the device, and each extent
with its number and place; none when no batten can be opened. What a failed program loses is placed again (R280). The fuel bounds the
extents placed, with those placed again, and the battens. -/
def foldPlace (bad : List (Nat × Nat × Nat)) : Nat → List (Nat × Extent) → Dev → Option Nat → List (Nat × Nat × Extent) →
    Option (Dev × List (Nat × Nat × Extent))
  | 0, _, _, _, _ => none
  | k + 1, l, d, cur, acc =>
    match cur, l with
    | none, [] => some (d, acc)
    | none, x :: _ => (foldBatten d (extCw x.2.tag.n)).bind (fun r => foldPlace bad k l r.1 (some r.2) acc)
    | some b, l =>
      match l.head?.filter (fun x => (batOf d b).wptr + extCw x.2.tag.n ≤ batCw d) with
      | some x => foldPlace bad k l.tail (foldPut d b x.2) (some b) (acc ++ [(x.1, placeKey b (batOf d b).wptr, x.2)])
      | none =>
        let d1 := foldClose bad d (some b)
        let gone := acc.filter (foldGone d1 b)
        foldPlace bad k (gone.map (fun p => (p.1, p.2.2)) ++ l) (foldDrop d1 gone) none (acc.filter (fun p => !foldGone d1 b p))

/-- The extents with their places, in the order of the sets. -/
def foldPlaced (bad : List (Nat × Nat × Nat)) (d : Dev) (exts : List Extent) : Option (Dev × List (Nat × Extent)) :=
  (foldPlace bad ((3 * exts.length + 1) * (bad.length + 1) + 1) (exts.zipIdx.map (fun p => (p.2, p.1))) (closeAll bad d) none []).map (fun r =>
    (r.1, (List.range exts.length).filterMap (fun i => (r.2.find? (fun p => p.1 == i)).map Prod.snd)))

/-- The sets are folded; only the highest number is kept for the next set (R230). [log entry 39 DEDUCED] -/
def setsFolded (n : Nand) : Nand :=
  let ls := n.eaves.filter (fun e => e.folded || !e.recs.isEmpty)
  let top := (ls.map EaveSet.num).foldl max 0
  { n with eaves := (ls.filter (fun e => e.num == top)).map (fun e =>
      { num := e.num, gen := e.gen, t0 := e.t0, t1 := e.t1, bytes := e.bytes, exts := [], deltas := [], counters := [], doubt := [], folded := true, valid := e.valid }) }

/-- The member of a batten that a block is. -/
def memberOf? (d : Dev) (l block : Nat) : Option (Nat × Nat) :=
  (batsWhere d (fun _ v => v.st == .reclaimed)).findSome? (fun b =>
    ((List.range d.med.nand.w).find? (fun p => memberAt d b p == (l, block))).map (fun p => (b, p)))

/-- Step 4 (R232, R275, R280): erases in doubt are repeated; a block that passes has its state again, a member that fails is retired and
replaced. Eave blocks among them are erased with the reserve. -/
def doubtErased (d : Dev) (failed : List (Nat × Nat)) : Dev :=
  let d1 := d.med.nand.doubt.foldl (fun d k =>
    let l := k / 2 ^ 20
    let blk := k % 2 ^ 20
    match memberOf? d l blk with
    | some (b, p) => if failed.contains (l, blk) then replaceMember (eraseFailed d l blk 1) b p else d
    | none => d) d
  modNand d1 (fun n => { n with doubt := [] })

/-- Blocks with a failed eave program leave the reserve (R231). -/
def retireEave (d : Dev) : Dev :=
  (d.med.nand.eaves.flatMap EaveSet.retire).foldl (fun d e =>
    retireBlock (setLunRec d e.1 { lunRecOf d e.1 with eave := ndel e.2 (lunRecOf d e.1).eave, eaveDirty := ndel e.2 (lunRecOf d e.1).eaveDirty,
                                                       spareBack := ndel e.2 (lunRecOf d e.1).spareBack }) e.1 e.2 5) d

/-- Every member of a CLOSED batten starts at a quarter of the read-disturb threshold, with tracked level 0 (R288, R314). -/
def startCounters (d : Dev) : Dev :=
  let n := rd d F.WEAR_RDTH_KREADS * 250
  modNand d (fun x => { x with bats := x.bats.mapV (fun _ v =>
    if v.st == .closed then { v with reads := (List.range x.w).map (fun p => (p, n)), level := [], hardRead := false } else { v with level := [] }) })

/-- The relocations that a start finds to do: battens with a member on a failed LUN, or on a channel that a fault has isolated (R306, R323). -/
def restVictims (d : Dev) : Dev :=
  victimsOf d (fun l => (lunRecOf d l).failedB || (chnState d (lunChn l) == chISO && rd d (F.CHN_STAT_ICAUSE (lunChn l)) ≥ 2)) 3

/-- What the pages and the sets give: the changes in SEQ order, and the transactions dropped (R246, R256). The pages are those SCAN found. -/
def foldXs (d : Dev) (placed : List (Nat × Extent)) : List Delta × List Nat :=
  let ps := scanPieces d ++ setPieces placed
  (candDeltas (knownOf d) d.med.nand.cmark ps, dropped (knownOf d) d.med.nand.cmark ps)

/-- What each set's checkpoint covers: its deltas and what its own extents change; the last one also the rest. -/
def foldShares : List EaveSet → List (Nat × Extent) → List Delta → List (List Delta)
  | [], _, _ => []
  | [s], _, xs => [s.deltas ++ xs]
  | s :: l, placed, xs =>
    let mine := (placed.take s.exts.length).map Prod.fst
    let own := fun (x : Delta) => mine.contains (placeKey x.batten x.off)
    (s.deltas ++ xs.filter own) :: foldShares l (placed.drop s.exts.length) (xs.filter (fun x => !own x))

/-- Steps 1 to 3 (R232): the extents of the sets are programmed, the map takes what takes effect, a checkpoint for each set covers it.
None when no batten can be opened. [log entry 70 DEDUCED] -/
def foldSets (d : Dev) (bad : List (Nat × Nat × Nat)) : Option Dev :=
  let sets := openSets d.med.nand
  (foldPlaced bad d (sets.flatMap (fun s => s.exts.map (fun r => r.ext)))).map (fun r =>
    let xs := foldXs d r.2
    let shares := foldShares sets r.2 xs.1
    let all := if sets.isEmpty then xs.1 else shares.flatten
    let d1 := { r.1 with med := { r.1.med with m := all.foldl applyDelta d.med.jmap, deltas := if sets.isEmpty then xs.1 else [], jrecent := [], scanBad := [] } }
    let d2 := wr d1 F.JNL_TXDROP_COUNT xs.2.length
    let d3 := if xs.2.isEmpty then d2 else raise d2 0x20 10
    let d4 := shares.dropLast.foldl (fun d l => chunkWrite d l d.med.nand.cmark false []) d3
    match shares.getLast? with
    | some l => chunkDirect d4 l false
    | none => d4)

/-- Pages of the sets that are not folded because their completeness cannot be shown (R233). -/
def norecPages (n : Nand) : Nat :=
  ((n.eaves.filter (fun e => !e.valid && !e.folded)).map (fun e => e.pages.length + e.metas.length)).foldl (· + ·) 0

/-- FOLD_DONE (R232, R233). -/
def foldAll (d : Dev) (progBad : List (Nat × Nat × Nat)) (failed : List (Nat × Nat)) : Option Dev :=
  let n := d.med.nand
  (foldSets d progBad).map (fun d1 =>
    let d2 := modNand (doubtErased (retireEave d1) failed) setsFolded
    let d3 := if norecPages n == 0 then d2 else raiseArgs d2 5 10 [BitVec.ofNat 32 (norecPages n)]
    let exts := (openSets n).flatMap EaveSet.exts
    let d4 := if (openSets n).isEmpty then d3
      else raise (wrs d3 [(F.PFL_FOLD_KIB, exts.foldl (fun a e => a + 4 * e.ext.tag.n) 0), (F.PFL_FOLDT_US, stageUs d)]) 5 9
    let d5 := if d4.med.window.isEmpty then chunkDirect d4 [] false else d4
    wr (lunsChanged (eaveRebuild d5 failed)) F.GC_STAT_WALK 1)

/-- FOLD_DONE (R232): bulk commands are accepted from here; MIGRATE follows. -/
def execFoldDone (progBad : List (Nat × Nat × Nat)) (failed : List (Nat × Nat)) (s : State) : Host.Outcome State Fault Refusal :=
  let d := s.dev
  finish s (guardDev (inStage d 5) d
    (match foldAll d progBad failed with
     | none => d
     | some d1 => enterMigrate (restVictims (startCounters { d1 with med := { d1.med with t0 := d.sys.time, ptlStart := d.sys.time - d.med.ptlSpent } }))))

/-! ### MIGRATE (R413) -/

/-- MIGRATE_STEP_DONE: a step ends and its progress record is written; the last step writes the media record. -/
def execMigrateStepDone (permille : Nat) (last : Bool) (s : State) : Host.Outcome State Fault Refusal :=
  let d := s.dev
  finish s (guardDev (inStage d 6) d
    (let target := (bankHdr d (rd d F.FWA_BANK_EXEC)).fver
     if last then
       let d1 := sysPut (modNand d (fun n => { n with fver := target, mig := none })) [recKey 1 0, recKey 7 4]
       let d2 := wrs d1 [(F.FWU_MFVER_FVER, target), (F.FWU_STATE_MIGPEND, 0), (F.FWU_MIGPROG_PERMILLE, 1000)]
       enterResume (raise d2 0xD 13)
     else
       let p := min permille 1000
       let step := (d.med.nand.mig.map Progress.step).getD 0 + 1
       wr (sysPut (modNand d (fun n => { n with mig := some { op := 4, step := step, permille := p, action := target } })) [recKey 7 4])
         F.FWU_MIGPROG_PERMILLE p))

end Sys2Proof.Machine
end

