-- ==== Sys2Proof/Machine/MoveOps.lean ====
section
/-!
DEFINITION. Relocation: victims, copies, folds, collection, reclaiming, the rebuild and patrol passes (R241, R242, R254, R260, R274,
R277 to R282, R286 to R288, R321, R323).
-/
namespace Sys2Proof.Machine

/-! ### What still refers to a batten -/

/-- Units of an extent: stripe and member position. -/
def extUnits (d : Dev) (off n : Nat) : List (Nat × Nat) :=
  let cu := cuOf d
  if cu == 0 then []
  else ((List.range ((off + extCw n - 1) / cu - off / cu + 1)).map (fun i => (off / cu + i) * cu)).map (fun o => (offStripe d o, offPos d o))

/-- A read job or a copy that refers to a batten (R32). -/
def batRead (d : Dev) (b : Nat) : Bool :=
  d.med.jobs.any (fun j => j.why == .move b || j.src.any (fun s => !s.1 && s.2 / 2 ^ 21 == b) || j.units.any (fun u => u.batten == b))
    || d.med.reloc.any (fun e => e.2.src / 2 ^ 21 == b || e.2.batten == b) || d.med.ring.any (fun e => e.2.batten == b)

/-- MOVE and FOLD deltas are not durable yet (R254): a fold names several sources, so it holds every batten. -/
def batOwed (d : Dev) (b : Nat) : Bool :=
  (d.med.deltas ++ chunkDeltas d).any (fun x => x.kind == 4 || (x.kind == 3 && x.src / 2 ^ 21 == b))

/-- An extent has data on a member that is unavailable. -/
def extDead (d : Dev) (b off n : Nat) : Bool := (extUnits d off n).any (fun u => !lunAvail d (memberLun d b u.2))

/-- Offsets of the extents of a batten that the map still names and that are not held: those on available members first, which need no
reconstruction (R308, R323). -/
def toMove (d : Dev) (b : Nat) : List Nat :=
  let l := (batExts d b).filter (fun e => !(extValid d.med.m b e.1 e.2 == 0) && !(batOf d b).heldBy.contains e.1)
  (l.filter (fun e => !extDead d b e.1 e.2.tag.n) ++ l.filter (fun e => extDead d b e.1 e.2.tag.n)).map Prod.fst

/-- The batten holds user data: not a journal or system batten. -/
def userBat (v : Batten) : Bool := !(v.role == .system) && !(v.role == .journal)

/-- Free battens at or below the critical count, until it is exceeded by 8 (R279). -/
def critNow (d : Dev) : Bool :=
  !inRecover d && (freeBattens d ≤ gcCrit d || (rdB d F.GC_STAT_CRIT && freeBattens d ≤ gcCrit d + 8))

/-- GC_STAT.CRIT follows, with its event. -/
def critUpdate (d : Dev) : Dev :=
  let c := critNow d
  let d1 := wr d F.GC_STAT_CRIT (b2n c)
  if c && !rdB d F.GC_STAT_CRIT then raise d1 0x22 8 else d1

/-! ### Copies (R244, R258, R278) -/

/-- MOVING of a course entry (R237). -/
def setMoving (d : Dev) (key place : Nat) (on : Bool) : Dev :=
  match mapEnt d.med.m key with
  | .course b o k bs _ =>
    if placeKey b o == place then { d with med := { d.med with m := { d.med.m with map := d.med.m.map.set key (.course b o k bs on) } } } else d
  | _ => d

/-- Start the read of an extent for its relocation. -/
def startMove (d : Dev) (b off cls : Nat) : Dev :=
  match d.med.nand.flash.get? (placeKey b off) with
  | none => d
  | some e =>
    newJob (setMoving d (courseKey e.tag.vol e.tag.course) (placeKey b off) true) (.move b) cls (courseKey e.tag.vol e.tag.course) [(false, placeKey b off)]
      ((List.range e.tag.n).map (fun i => (i, 0, i)))

/-- A copy was read: it waits in HBM for a GC batten. It takes a transaction of its own (R246) and FLAGS.RELOC. -/
def copyRead (d : Dev) (j : ReadJob) (b : Nat) : Dev :=
  match j.src with
  | (_, place) :: _ =>
    let e := j.exts.getD 0 {}
    let gc := (batOf d b).vcause == 1
    let t := { e.tag with reloc := true, txid := d.med.nextTx, txord := 0, txnp := 1 }
    let id := d.med.nextSlot
    let d1 := { d with med := { d.med with nextTx := (d.med.nextTx + 1) % 2 ^ 32, nextSlot := (id + 1) % 2 ^ 32
                                           reloc := d.med.reloc.set id { ext := { e with tag := t }, kind := 3, src := place, gc := gc, cls := j.cls } } }
    let d2 := if gc then add64 d1 F.GC_MOVED (t.n * 4096) else d1
    placeReloc d2 id
  | [] => d

/-- The extents that have unreadable codewords are held: they stay mapped and keep their battens VICTIM (R321). -/
def holdLost (d : Dev) (j : ReadJob) : Dev :=
  (j.units.filter (fun u => u.st == .unreadable)).foldl (fun d u => modBat d u.batten (fun v => { v with heldBy := nins u.off v.heldBy })) d

/-- An extent that stays unreadable is not moved: MOVING clears, it stays mapped and keeps its batten VICTIM (R321). -/
def copyLost (d : Dev) (j : ReadJob) (b : Nat) : Dev :=
  match j.src with
  | (_, place) :: _ =>
    let e := j.exts.getD 0 {}
    logNote (modBat (setMoving d (courseKey e.tag.vol e.tag.course) place false) b (fun v => { v with heldBy := nins (place % 2 ^ 21) v.heldBy })) 0xFF04 [0, 0, e.tag.vol, e.tag.course, stMEDIA]
  | [] => d

/-! ### Folds (R241, R242) -/

/-- A course may be folded: every generation it holds has a LOADED slot, and the slot bound to the volume holds its current key and can
seal (R242, R258). -/
def canFold (d : Dev) (key : Nat) : Bool :=
  let v := key / 2 ^ 32
  (fineOf d.med.m key).all (fun e => match fineGen e.2 with
    | some (g, _) => (slotOfGen? d v g).isSome
    | none => true) && canSeal d (volSlot d v) 1 && (reserveFail d v (volSlot d v) 1).isNone

/-- Start the fold of a patched course: its entries are kept for the comparison at its end. -/
def startFold (d : Dev) (key cls : Nat) : Dev :=
  let p := piecesOf d.med.m key 0 256
  let d1 := newJob { d with med := { d.med with folding := nins key d.med.folding } } (.fold (key / 2 ^ 32) (key % 2 ^ 32)) cls key p.1 p.2
  modJob d1 d.med.nextJob (fun j => { j with was := mapEnt d.med.m key, wasFine := fineOf d.med.m key })

/-- The pieces of a fold were read: merged, sealed under the current generation, the highest SEQ of the pieces kept. -/
def foldRead (d : Dev) (j : ReadJob) (vol course : Nat) : Dev :=
  let key := courseKey vol course
  let done := { d with med := { d.med with folding := ndel key d.med.folding } }
  let good := fun (e : Extent) => match openSlot? d e with
    | some n => sealOk d n e
    | none => false
  let slot := volSlot d vol
  if !j.exts.all good || !canSeal d slot 1 || (reserveFail d vol slot 1).isSome then done
  else
    let data := (List.range 256).map (fun i => match j.blks.find? (fun x => x.1 == i) with
      | none => (0 : Block)
      | some x => (j.exts.getD x.2.1 {}).data.getD x.2.2 0)
    let t : ExtTag := { reloc := true, vol := vol, course := course, n := 256, kgen := rd d (F.KEY_STAT_KGEN slot),
                        seq := (j.exts.map (fun e => lastSeq e.tag)).foldl max 0, txid := d.med.nextTx, ctr := rd64 d (F.KEY_CNT slot),
                        salt := rd d (F.KEY_SALT_SALT slot), key := (keySlot d slot).mat, txnp := 1 }
    let id := d.med.nextSlot
    let d1 := takeCtr d slot 1
    placeReloc { d1 with med := { d1.med with nextTx := (d1.med.nextTx + 1) % 2 ^ 32, nextSlot := (id + 1) % 2 ^ 32
                                              reloc := d1.med.reloc.set id { ext := ⟨t, data, []⟩, kind := 4, src := 0, was := j.was, wasFine := j.wasFine, cls := j.cls } } } id

/-! ### Applying a copy that is Committed (R242, R244, R260) -/

def applyReloc (d : Dev) (id : Nat) : Dev :=
  match d.med.reloc.get? id with
  | none => d
  | some r =>
    let t := r.ext.tag
    let key := courseKey t.vol t.course
    let d1 := { d with med := { d.med with reloc := d.med.reloc.erase id, folding := if r.kind == 4 then ndel key d.med.folding else d.med.folding } }
    let xs := fun (blocks : List Nat) (whole : Bool) =>
      (placeDeltas r.kind t r.batten r.off blocks whole).map (fun x => { x with src := r.src })
    if r.kind == 4 then
      if mapEnt d1.med.m key == r.was && fineOf d1.med.m key == r.wasFine then
        { d1 with med := { d1.med with m := setCourse d1.med.m key (.course r.batten r.off t.kgen false false)
                                       deltas := d1.med.deltas ++ xs (List.range t.n) true } }
      else d1
    else
      let blocks := namingBlocks d1.med.m (r.src / 2 ^ 21) (r.src % 2 ^ 21) r.ext.tag
      if blocks.isEmpty then d1
      else { d1 with med := { d1.med with m := moveMap d1.med.m key r.src r.batten r.off
                                          deltas := d1.med.deltas ++ xs blocks (plainCourse d1.med.m key) } }

/-! ### Victims and reclaiming (R274, R275, R278, R321) -/

/-- Members of a batten that must be replaced before its next erase: FAILING, or on a LUN that cannot be used. -/
def badMembers (d : Dev) (b : Nat) : List Nat :=
  (List.range d.med.nand.w).filter (fun p => (batOf d b).failing.contains p || !lunAvail d (memberLun d b p))

/-- A batten becomes RECLAIMED: its FAILING blocks are retired. [log entry 66 DEDUCED] -/
def reclaim (d : Dev) (b : Nat) : Dev :=
  let d1 := (batOf d b).failing.foldl (fun d p => retireBlock d (memberAt d b p).1 (memberAt d b p).2 3) d
  let d2 := modBat d1 b (fun v => { v with st := .reclaimed, vcls := 0, heldBy := [] })
  { d2 with med := { d2.med with gcv := if d2.med.gcv == some b then none else d2.med.gcv
                                 nand := { d2.med.nand with flash := d2.med.nand.flash.filter (fun e => !(e.1 / 2 ^ 21 == b)) } } }

/-- A kept chunk, or the one being written, lies in a journal batten. -/
def holdsChunk (d : Dev) (b : Nat) : Bool := (d.med.nand.chunks ++ d.med.chunkNow.toList).any (fun c => c.parts.any (fun p => p.1 == b))

/-- CLOSED battens without valid data, and victims that are done, are reclaimed when nothing refers to them; a journal batten when its
chunks lie before the last 64 (R279). -/
def reclaimAll (d : Dev) : Dev :=
  let ok := fun (d : Dev) (b : Nat) =>
    if (batOf d b).role == .journal then !holdsChunk d b else batValid d b == 0 && !batRead d b && !batOwed d b && !hiddenIn d b
  (batsWhere d (fun _ v => (v.st == .closed || v.st == .victim) && !(v.role == .system))).foldl (fun d b => if ok d b then reclaim d b else d) d

/-- System and journal battens that have to be relocated go first (R323): the newest records go to a fresh pair, the chunks to another
journal batten. [log entry 64 DEDUCED] -/
def systemMoves (d : Dev) : Dev :=
  let sys := d.med.sysWait || [d.med.nand.sysPair.1, d.med.nand.sysPair.2].any (fun b => !((batOf d b).vcls == 0))
  let d1 := if sys then sysRoll d else d
  (batsWhere d1 (fun _ v => v.st == .victim && v.role == .journal)).foldl (fun d b =>
    d.med.nand.chunks.foldl (fun d c =>
      if c.parts.any (fun p => p.1 == b) then
        let keep := c.parts.filter (fun p => !(p.1 == b))
        let need := ((c.parts.filter (fun p => p.1 == b)).map (fun p => p.2.2)).foldl (· + ·) 0
        let r := directRoom (ceilDiv need (max 1 (batCw d))) d need []
        if (r.2.map (fun p => p.2.2)).foldl (· + ·) 0 < need then d
        else modNand r.1 (fun n => { n with chunks := updWhere (fun x => x.num == c.num) (fun x => { x with parts := keep ++ r.2 }) n.chunks })
      else d) d) d1

/-- Class a victim's work is done in. -/
def victimCls (d : Dev) (b : Nat) : Nat := if (batOf d b).vcause == 1 then 3 else (batOf d b).vcls

/-- A relocation copy or read of a batten is under way. -/
def moving (d : Dev) (b : Nat) : Bool :=
  d.med.jobs.any (fun j => j.why == .move b) || d.med.reloc.any (fun e => e.2.kind == 3 && e.2.src / 2 ^ 21 == b)

/-- Start the next copy out of a victim. GC folds the courses of patch extents; other causes copy the extent as it is. -/
def victimNext (d : Dev) (b : Nat) : Dev :=
  let gc := (batOf d b).vcause == 1
  let pick := (toMove d b).find? (fun off => match d.med.nand.flash.get? (placeKey b off) with
    | none => false
    | some e => !(gc && e.tag.patch) || (let k := courseKey e.tag.vol e.tag.course; canFold d k && !d.med.folding.contains k))
  if moving d b then d
  else match pick with
    | none => d
    | some off =>
      match d.med.nand.flash.get? (placeKey b off) with
      | none => d
      | some e =>
        if gc && e.tag.patch then startFold d (courseKey e.tag.vol e.tag.course) 3
        else startMove d b off (victimCls d b)

/-! ### The rebuild (R323) -/

/-- The bytes of a copy count against the pace of the rebuild. -/
def rebuildSpend (d0 d1 : Dev) : Dev :=
  let n := ((d1.med.jobs.drop d0.med.jobs.length).flatMap ReadJob.exts).foldl (fun a e => a + 4096 * e.tag.n) 0
  { d1 with cox := { d1.cox with rbBud := d1.cox.rbBud - (n : Nat) } }

/-- Members of a batten that are unavailable. -/
def deadMembers (d : Dev) (b : Nat) : Nat := ((memberLuns d b).filter (fun l => !lunAvail d l)).length

/-- Victims the rebuild still has to move: those made for a LUN or channel that is out, and those with a member on a failed LUN that were
victims before. -/
def rebuildList (d : Dev) : List Nat :=
  batsWhere d (fun b v => (v.st == .victim || (v.st == .opened && !(v.vcls == 0)))
    && (v.vcause == 3 || (memberLuns d b).any (fun l => (lunRecOf d l).failedB)))

/-- A second member is FAILING, on an unavailable LUN, or on a LUN with a failure count. -/
def rebuildRisk (d : Dev) (b : Nat) : Bool :=
  deadMembers d b ≥ 2 || !(batOf d b).failing.isEmpty
    || (memberLuns d b).any (fun l => lunAvail d l && (let v := lunOf d l; !v.touts.isEmpty || !v.ridges.isEmpty || !v.fails.isEmpty || v.resets > 0))

/-- The batten the rebuild takes now: those at risk first, then ascending id. [log entry 64 DEDUCED] -/
def rebuildNext (d : Dev) : Option Nat :=
  let l := (rebuildList d).filter (fun b => (batOf d b).st == .victim && !(toMove d b).isEmpty)
  match l.find? (rebuildRisk d) with
  | some b => some b
  | none => l.head?

/-- The pace of the rebuild in 10 MB/s. -/
def rebuildRate (d : Dev) : Nat :=
  if batW d == 0 then 0 else nLunHealthy d * rd d F.MEDIA_RPROG_MBS * (batW d - 1) * rd d F.RDG_CTL_RBSH / (batW d * 2000)

/-- Valid bytes the rebuild has left. -/
def rebuildBytes (d : Dev) : Nat := ((rebuildList d).map (fun b => batValid d b * 4096)).foldl (· + ·) 0

/-- Part of R_media that a number of half per cents of the flash time stands for, as a fraction. -/
def rateShare (d : Dev) (num den : Nat) : Nat :=
  if batW d == 0 || den == 0 then 0 else nLunHealthy d * rd d F.MEDIA_RPROG_MBS * (batW d - 1) * num / (batW d * 2000 * den)

/-- Share of R_media that the rebuild takes beyond the tenth, by its pace (R323). -/
def rung1Of (d : Dev) : Nat := rateShare d (rd d F.COX_POLICY_GCSH + rd d F.RDG_CTL_RBSH - 20) 1

/-- Share of R_media that all rung 1 work took beyond the tenth in the last 1,000 slots: its LUN time and the reserved share of GC, against
the LUN time of the healthy LUNs (R183). [log entry 151 DEDUCED] -/
def rung1Took (d : Dev) : Nat :=
  let all := nLunHealthy d * 10000
  rateShare d (rd d F.COX_POLICY_GCSH * all + 200 * d.cox.r1Hist.foldl (· + ·) 0 - 20 * all) all

/-- RDG_STAT and its events follow the list; R_media follows the flash time taken. -/
def rebuildUpdate (d : Dev) : Dev :=
  let l := rebuildList d
  let was := rdB d F.RDG_STAT_REBUILD
  let doubles := l.filter (fun b => deadMembers d b ≥ 2 && !d.med.rebuild.contains b)
  let d1 := doubles.foldl (fun d _ => raise d 0x29 10) { d with med := { d.med with rebuild := (d.med.rebuild.filter l.contains) ++ doubles } }
  let d2 := wrs d1 [(F.RDG_STAT_REBUILD, b2n (!l.isEmpty)), (F.RDG_STAT_LEFT, l.length), (F.RDG_RBRATE_RATE, if l.isEmpty then 0 else rebuildRate d)]
  let d3 := if !l.isEmpty && !was then raise d2 0x29 8 else if l.isEmpty && was then raise d2 0x29 9 else d2
  let cut := max (if l.isEmpty then 0 else rung1Of d) (rung1Took d)
  if cut == d3.med.rung1Cut then d3 else admRecompute { d3 with med := { d3.med with rung1Cut := cut } }

/-! ### Choosing work (R201, R241, R278) -/

def modeNow (d : Dev) : Nat := rd d F.GLB_STAT_MODE
def belowFloor (d : Dev) : Bool := freeBattens d < gcFloor d

/-- GC may run in class 3, and beyond its share in class 5, in the mode (R201). -/
def gcAllowed (d : Dev) : Bool :=
  let m := modeNow d
  if m == 1 || m == 5 then belowFloor d else 2 ≤ m && m ≤ 4
def gcMore (d : Dev) : Bool := modeNow d == 3 || modeNow d == 4

/-- A member lies in a group gated by host request: GC leaves the batten alone (R94). -/
def gatedBat (d : Dev) (b : Nat) : Bool := (memberLuns d b).any (fun l => hostGated d (lunChn l))

/-- The closed batten of role stream, bulk, patch or GC with the least valid data, then the lowest WSEQ at its close, then the lowest id
(R278). -/
def gcPick (d : Dev) : Option Nat :=
  let cand := batsWhere d (fun b v => v.st == .closed && userBat v && !gatedBat d b)
  cand.foldl (fun acc b => match acc with
    | none => some b
    | some a => if batValid d b < batValid d a || (batValid d b == batValid d a && (batOf d b).cseq < (batOf d a).cseq) then some b else some a) none

/-- Choose a GC victim when none is under collection. -/
def gcChoose (d : Dev) : Dev :=
  if d.med.gcv.isSome || rdB d F.GC_STAT_WALK || inRecover d || !(gcAllowed d || critNow d) then d
  else match gcPick d with
    | none => d
    | some b =>
      let d1 := modBat d b (fun v => { v with st := .victim, vcls := 3, vcause := 1 })
      { d1 with med := { d1.med with gcv := some b } }

/-- Patched courses that may be folded now. -/
def foldable (d : Dev) : Option Nat :=
  (d.med.m.map.find? (fun e => (match e.2 with
    | .fine _ => true
    | _ => false) && !d.med.folding.contains e.1 && canFold d e.1)).map Prod.fst

/-- The patch area or the fine map reaches the background threshold (R241). -/
def foldDue (d : Dev) : Bool :=
  let pct := rd d F.MAP_PATCH_FOLD
  (patchBlocks d > 0 && patchBlocks d * 100 ≥ pct * mapPlim d * 256) || (fineUsed d > 0 && fineUsed d * 100 ≥ pct * fineTotal d)

/-- Folds under way go on in class 4, where portions have come to wait for them (R241, R260). -/
def raiseFolds (d : Dev) : Dev :=
  let isFold := fun (j : ReadJob) => match j.why with
    | .fold _ _ => j.cls == 3
    | _ => false
  let bs := (d.med.reloc.filter (fun e => e.2.kind == 4)).map (fun e => e.2.batten)
  { d with med := { d.med with
    jobs := updWhere isFold (fun j => { j with cls := 4 }) d.med.jobs
    reloc := d.med.reloc.mapV (fun _ r => if r.kind == 4 && r.cls == 3 then { r with cls := 4 } else r)
    work := updWhere (fun w => w.w == .gc && w.cls == 3 && bs.contains w.batten) (fun w => { w with cls := 4 }) d.med.work } }

/-- Patch folding: in class 4 while portions wait, else in the background. One fold at a time. -/
def foldPump (d : Dev) : Dev :=
  if inRecover d then d
  else
    let due := foldDue d
    let d1 := wr d F.MAP_STAT_FOLDING (b2n due)
    let d2 := if due && !rdB d F.MAP_STAT_FOLDING then raise d1 0x20 9 else d1
    if !d2.med.folding.isEmpty then (if rdB d2 F.MAP_STAT_PFULL then raiseFolds d2 else d2)
    else if !(due || rdB d2 F.MAP_STAT_PFULL) then d2
    else if !rdB d2 F.MAP_STAT_PFULL && !gcAllowed d2 then d2
    else match foldable d2 with
      | none => d2
      | some k => startFold d2 k (if rdB d2 F.MAP_STAT_PFULL then 4 else 3)

/-! ### Patrol (R286, R287) -/

/-- Programmed units of a batten, those of the current stripe of an open one among them, without failed positions and without members in
groups gated by host request (R94, R286). -/
def patrolUnits (d : Dev) (b : Nat) : List ReadUnit :=
  let v := batOf d b
  let slc := (batW d - 1) * (4 * rd d F.MEDIA_GEOM0_Q)
  let n := if v.role == .system then slc else stripeCw d
  let full := if n == 0 then 0 else if v.role == .system || v.st == .opened then ceilDiv v.wptr n else v.wptr / n
  let cu := if v.role == .system then 4 * rd d F.MEDIA_GEOM0_Q else cuOf d
  (List.range full).flatMap (fun s => (List.range d.med.nand.w).filterMap (fun p =>
    if v.failed.contains (s, p) || hostGated d (lunChn (memberLun d b p)) || (v.st == .opened && !(v.role == .system) && !v.passed.contains (64 * s + p)) then none
    else
      let ok := lunAvail d (memberLun d b p)
      some { batten := b, stripe := s, pos := p, off := s * ((batW d - 1) * cu), bytes := cu * 4096, cws := List.range cu,
             st := if ok then .todo else .ridge, rid := if ok then [] else List.range cu }))

/-- Battens of a pass, rising: CLOSED and OPEN ones and the system battens (R286). -/
def patrolList (d : Dev) : List Nat := batsWhere d (fun _ v => v.st == .closed || v.st == .opened)

/-- A pass ends: counted, timed, and the next one starts (R286). -/
def patrolPassEnd (d : Dev) : Dev :=
  let d1 := sysPut (modNand d (fun n => { n with passNo := n.passNo + 1, cursor := 0 })) [recKey 8 0]
  let d2 := raise (wrs d1 [(F.PTL_PASS_COUNT, d1.med.nand.passNo), (F.PTL_PASST_S, (d.sys.time - d.med.ptlStart) / 1000000000),
    (F.PTL_STAT_LATE, 0), (F.PTL_MAXC_BITS, 0)]) 0x24 8
  { d2 with med := { d2.med with ptlStart := d.sys.time } }

/-- Patrol gets flash time in the mode (R201) and no rebuild runs (R323). -/
def patrolAllowed (d : Dev) : Bool :=
  let m := modeNow d
  (m == 2 || m == 3 || m == 4) && !rdB d F.RDG_STAT_REBUILD

/-- A batten of the pass is being read. -/
def patrolBusy (d : Dev) : Bool := d.med.jobs.any (fun j => match j.why with
  | .patrol _ => true
  | _ => false)

/-- Read the next batten of the pass; its cursor is recorded at each 1 % of the battens (R286). [log entry 64 DEDUCED] -/
def patrolPump (d : Dev) : Dev :=
  if !patrolAllowed d || inRecover d || patrolBusy d then d
  else match d.med.ptlLeft with
    | b :: rest =>
      let d0 : Dev := { d with med := { d.med with ptlLeft := rest } }
      let far := b ≥ d.med.nand.cursor + max 1 (ceilDiv (batTotal d.med.nand) 100)
      let d1 := wr (if far then sysPut (modNand d0 (fun n => { n with cursor := b })) [recKey 8 0] else d0) F.PTL_STAT_CURSOR b
      let us := patrolUnits d1 b
      if us.isEmpty then (if rest.isEmpty then patrolPassEnd d1 else d1)
      else { d1 with med := { d1.med with jobs := d1.med.jobs ++ [{ id := d1.med.nextJob, why := .patrol b, cls := 6, units := us }]
                                          nextJob := d1.med.nextJob + 1 } }
    | [] =>
      let l := (patrolList d).filter (fun b => b ≥ d.med.nand.cursor)
      if l.isEmpty && d.med.nand.cursor == 0 then d
      else if l.isEmpty then patrolPassEnd d
      else { d with med := { d.med with ptlLeft := l } }

/-- The patrol job of a batten has ended: the pass ends with its last batten. [log entry 64 DEDUCED] -/
def patrolDone (d : Dev) : Dev := if d.med.ptlLeft.isEmpty then patrolPassEnd d else d

/-! ### The pump -/

/-- A writer opens what it may hold, as long as the window has battens (R271). -/
def openUp (d : Dev) (w : Writer) : Dev :=
  foldUpto (openLimit d w - (openOf d w).length) (fun _ d => match openBatten d w with
    | some r => r.1
    | none => d) d

/-- Every writer holds its open battens, and opens a replacement for each that has closed (R271). -/
def openPump (d : Dev) : Dev :=
  (([.journal, .gc, .patch] ++ (contracted d).map .stream ++ [.bulk]) : List Writer).foldl openUp d

/-- Media management between slots: window, folds, victims, patrol, the eave reserve. -/
def mediaPump (d : Dev) : Dev :=
  if recovering d && rd d F.GLB_STAT_RSTAGE < 6 then d
  else
    let d1 := gcChoose (critUpdate (rebuildUpdate (reclaimAll (systemMoves d))))
    let rb := rebuildList d1
    let vs := batsWhere d1 (fun b v => v.st == .victim && !(v.vcause == 1 && gatedBat d1 b) && (!rb.contains b || (rebuildNext d1 == some b && d1.cox.rbBud > 0)))
    eavePump (openPump (patrolPump (foldPump (vs.foldl (fun d b => if rb.contains b then rebuildSpend d (victimNext d b) else victimNext d b) d1))))

end Sys2Proof.Machine
end

