-- ==== Sys2Proof/Machine/Turn.lean ====
section
/-!
DEFINITION. Whose turn it is: the service order of pulls on a link (R129, R170, R360), and the order in which the cores of the cipher
engine take work (R329).
-/
namespace Sys2Proof.Machine

/-! ### Pulls on a link (R129, R170, R360) -/

/-- Link of a command's function, 4 × port + link; 8 when its seat is gone. -/
def cmdLink (d : Dev) (c : Cmd) : Nat := ((seatOf? d c.seat).map (fun s => s.fn / 128)).getD 8

/-- A reaped seat takes no further pushes (R133). -/
def pushable (d : Dev) (c : Cmd) : Bool := match seatOf? d c.seat with
  | some s => s.reapAt.isNone
  | none => false

/-- The data of an FW_LOAD, or the material of a KEY_LOAD, is to be pulled: the command can start (R331, R407). -/
def mgmtPull (d : Dev) (c : Cmd) : Bool :=
  c.stage == .ready && startTurn d c && !d.cmds.activating && !d.cmds.reopening
    && ((cOpc c == opFWLOAD && !(d.array.ops.any (fun o => o.bank == targetBank d))) || (cOpc c == opKEYLOAD && c.aux == 0))

/-- A transfer's pull is issued and not complete. -/
def dataPull (c : Cmd) : Bool :=
  underWay c && ((isDataWrite c && !(cOpc c == opFILL)) || cOpc c == opVERIFY) && c.prog.issued > c.prog.pulled

/-- Commands whose pull the data mover serves on a link, in fetch order. A reaped seat's pulls have ended. -/
def pullsOn (d : Dev) (link : Nat) : List Cmd :=
  d.cmds.list.filter (fun c => cmdLink d c == link && !c.orphan && pushable d c && (dataPull c || mgmtPull d c))

/-- A descriptor reads host memory: not NOP, not FILL, not of COUNT 0, and nothing BAD was found at its fetch (R364, R370). -/
def descReads (c : DescCap) : Bool := c.bad == 0 && !(dOp c.words == 0) && !(dOp c.words == 2) && !(dCount c.words == 0)

/-- Link a descriptor reads host memory on: that of the function of its source space (R359). -/
def descLink (d : Dev) (ch : Nat) (c : DescCap) : Nat :=
  (if bitsOf (dN c.words 0) 8 2 == 1 then rd d (F.DMC_FN_FNB ch) else rd d (F.DMC_FN_FNA ch)) / 128

/-- Software channels that read host memory on a link, each as class B seat 512 + channel (R360). -/
def channelsOn (d : Dev) (link : Nat) : List Nat :=
  (List.range 32).filter (fun ch => match (movOf d ch).cap with
    | c :: _ => c.clear && descReads c && descLink d ch c == link
    | [] => false)

/-- How far a class B seat stands behind the one that the link served last, in round-robin order. -/
def rrDist (d : Dev) (link seat : Nat) : Nat := (seat + 1087 - d.cmds.served.getD link 543) % 544

/-- The class B seat served next on a link. -/
def classBNext? (d : Dev) (link : Nat) : Option Nat :=
  (((pullsOn d link).map Cmd.seat) ++ (channelsOn d link).map (fun ch => 512 + ch)).foldl (fun acc x => match acc with
    | none => some x
    | some a => if rrDist d link x < rrDist d link a then some x else some a) none

/-- The pull served next on a link: of class D commands the oldest; else the oldest of the class B seat whose turn it is; none where
that seat is a software channel. [log entry 117 DEDUCED] -/
def pullNext? (d : Dev) (link : Nat) : Option Cmd :=
  let l := pullsOn d link
  match l.find? (contractWrite d) with
  | some c => some c
  | none => (classBNext? d link).bind (fun seat => l.find? (fun c => c.seat == seat))

/-- It is the command's turn on its link. -/
def pullTurn (d : Dev) (c : Cmd) : Bool := ((pullNext? d (cmdLink d c)).map Cmd.seq) == some c.seq

/-- It is a channel's turn on the link it reads on. -/
def channelTurn (d : Dev) (ch : Nat) (c : DescCap) : Bool :=
  !descReads c || (!(pullsOn d (descLink d ch c)).any (contractWrite d) && classBNext? d (descLink d ch c) == some (512 + ch))

/-- A class B seat that was served goes to the end of the round of its link. -/
def rrServed (d : Dev) (link seat : Nat) : Dev := { d with cmds := { d.cmds with served := d.cmds.served.set link seat } }

/-- The pull of a command was served. -/
def pullServed (d : Dev) (c : Cmd) : Dev := if contractWrite d c then d else rrServed d (cmdLink d c) c.seat

/-! ### Cores (R329) -/

/-- The job of a host read. -/
def hostJob? (d : Dev) (seq : Nat) : Option ReadJob := d.med.jobs.find? (fun j => j.why == .host seq)

/-- The portion of a write may be sealed: its data is here, its invocations lie below the mark, its turn for SEQ has come. -/
def sealReady (d : Dev) (c : Cmd) : Bool :=
  c.prog.pulled > c.prog.done && canSeal d c.kslot (portionInv d c c.prog.done)
    && (if cLen c > 256 || inRecover d then seatOrderOk d c c.prog.done
        else c.prog.done + 1 < cPortions c || (List.range (cPortions c)).all (seatOrderOk d c))

/-- Every source of a job was read, and none is lost. -/
def jobGood (j : ReadJob) : Bool := jobRead j && !jobUnreadable j

/-- The descriptor needs the cipher: it is not BAD, and names a mode (R346, R347). -/
def descCiphers (d : Dev) (ch : Nat) (c : DescCap) : Bool :=
  c.clear && c.bad == 0 && !(dMode c.words == 0) && (cipherBad d ch c.words).isNone

/-- Class 1: sealing for a within-contract write is waiting. -/
def contractSealWaits (d : Dev) : Bool :=
  d.cmds.list.any (fun c => isDataWrite c && underWay c && !c.orphan && contractWrite d c && sealReady d c)

/-- Service descriptors may take the engine: their share is not used up while a stream is contracted (R329). -/
def serviceOpen (d : Dev) : Bool := (contracted d).isEmpty || d.cmds.service > 0

/-- Invocations that open the extents of a job: one each, or one for each block wanted that was sealed on its own (R247). -/
def jobInv (j : ReadJob) : Nat :=
  (j.exts.zipIdx.map (fun e => if e.1.tag.blkSeal then (j.blks.filter (fun x => x.2.1 == e.2)).length else 1)).foldl (· + ·) 0

/-- A fold whose pieces are read. -/
def foldDone (j : ReadJob) : Bool := jobRead j && (match j.why with
  | .fold _ _ => true
  | _ => false)

/-- Invocations of the works that wait in a source of class 3: 0 bulk sealing, 1 decryption for reads, 2 patch folds, 3 service
descriptors. -/
def coreWork (d : Dev) (k : Nat) : List Nat :=
  if k == 0 then d.cmds.list.filterMap (fun c =>
    if !underWay c || c.orphan then none
    else if cOpc c == opDISCARD then
      (match hostJob? d c.seq with
       | some j => if jobGood j && canSeal d c.kslot 1 then some (jobInv j + 1) else none
       | none => none)
    else if isDataWrite c && !contractWrite d c && sealReady d c then some (portionInv d c c.prog.done) else none)
  else if k == 1 then d.cmds.list.filterMap (fun c =>
    if underWay c && isReadKind c && pushable d c then
      (match hostJob? d c.seq with
       | some j => if jobGood j then some (jobInv j) else none
       | none => none)
    else none)
  else if k == 2 then (d.med.jobs.filter foldDone).map (fun j => jobInv j + 1)
  else if serviceOpen d then (List.range 32).filterMap (fun ch => match (movOf d ch).cap with
    | c :: _ => if descCiphers d ch c && channelTurn d ch c then some 1 else none
    | [] => none)
  else []

/-- Place of a source in the round that follows the last one served. -/
def corePlace (d : Dev) (k : Nat) : Nat := (k + 3 - d.cmds.coreLast) % 4

/-- Rounds after which work of `n` invocations of a source ends: what it has had already counts. -/
def coreRounds (d : Dev) (k n : Nat) : Nat := max 1 (n - d.cmds.corePart.getD k 0)

/-- Work of `n` invocations of a source of class 3 is the next to end: no within-contract sealing waits, and with one invocation of each
source in a round, no work of another source ends before it. [log entry 118 DEDUCED] -/
def coreTurn (d : Dev) (k n : Nat) : Bool :=
  !clockHeld d 2 && !contractSealWaits d
    && (List.range 4).all (fun j => j == k || (coreWork d j).all (fun m =>
      coreRounds d k n < coreRounds d j m || (coreRounds d k n == coreRounds d j m && corePlace d k < corePlace d j)))

/-- Work of `n` invocations of a source ends: the works that wait in the others have had as many rounds. -/
def coreTake (d : Dev) (k n : Nat) : Dev :=
  let part := fun (j : Nat) =>
    if j == k || (coreWork d j).isEmpty then 0
    else d.cmds.corePart.getD j 0 + (if corePlace d j < corePlace d k then coreRounds d k n else coreRounds d k n - 1)
  let parts := (List.range 4).foldl (fun m j => if part j == 0 then m else SMap.set m j (part j)) ([] : SMap Nat)
  { d with cmds := { d.cmds with coreLast := k, corePart := parts } }

/-- Patch folds whose pieces are read are merged when it is their turn. The fuel bounds the jobs. -/
def coreFolds : Nat → Dev → Dev
  | 0, d => d
  | n + 1, d =>
    match d.med.jobs.find? (fun j => foldDone j && coreTurn d 2 (jobInv j + 1)) with
    | some j => (match j.why with
      | .fold v c =>
        let d0 := dropJob (coreTake d 2 (jobInv j + 1)) j.id
        coreFolds n (if jobUnreadable j then
            logNote { (holdLost d0 j) with med := { (holdLost d0 j).med with folding := ndel (courseKey v c) d0.med.folding } } 0xFF04 [0, 0, v, c, stMEDIA]
          else foldRead d0 j v c)
      | _ => d)
    | none => d

/-- The cores have ended work, and go on to folds. -/
def coreServed (d : Dev) : Dev := coreFolds d.med.jobs.length d

/-- What service descriptors may use of the engine's rate in a scheduling slot of 10 µs, in bytes: 7/32 of c_now (R174, R329). -/
def serviceGrant (d : Dev) : Nat := cipherDomains d * (if rd d F.CRY_MASK_LEVEL == 2 then 4800 else 9600) * 100 * 7 / 32

/-- The grant of a slot; what was not used does not add up. -/
def serviceRefill (d : Dev) : Dev :=
  { d with cmds := { d.cmds with service := min (serviceGrant d) (d.cmds.service + serviceGrant d) } }

end Sys2Proof.Machine
end

