-- ==== Sys2Proof/Machine/ReadPath.lean ====
section
/-!
DEFINITION. READ and VERIFY (R31, R32, R147, R148, R163, R321, R343, R344): portions are read in ascending order, decrypted, checked
and released.
-/
namespace Sys2Proof.Machine

/-- Block offset, counted from LBA, of the first block of portion `k` (R147). -/
def portOffset (c : Cmd) (k : Nat) : Nat := if k == 0 then 0 else (cLba c / 256 + k) * 256 - cLba c

/-- Course of portion `k`. -/
def portCourse (c : Cmd) (k : Nat) : Nat := cLba c / 256 + k

/-- Plaintext of the portion from the pieces of its job: zeros where it is unmapped (R31). `good` says which extents passed. -/
def portPlain (d : Dev) (c : Cmd) (k : Nat) (j : ReadJob) (good : Extent → Bool) : List Block :=
  (List.range (portLen (cLba c) (cLen c) k)).map (fun i =>
    match j.blks.find? (fun x => x.1 == portFirst c k + i) with
    | none => 0
    | some x =>
      let e := j.exts.getD x.2.1 {}
      openBlock d e x.2.2 (good e))

/-- A failing course is logged (R147, R321, R434). [log entry 48 DEDUCED] -/
def logCourse (d : Dev) (c : Cmd) (st : Nat) : Dev :=
  logNote d 0xFF04 [c.seat, c.tag, cVol c, portCourse c c.prog.done, st]

/-- First block at which two lists differ. -/
def firstDiff : List Block → List Block → Nat → Option Nat
  | a :: l, b :: m, i => if a == b then firstDiff l m (i + 1) else some i
  | _, _, _ => none

/-- Release the plaintext of the portion to the host, or compare it (R148). A difference completes the command. -/
def releasePort (d : Dev) (c : Cmd) (data : List Block) : Dev × Bool :=
  let k := c.prog.done
  let next := fun (d : Dev) => modCmd d c.seq (fun x => { x with prog := { x.prog with done := k + 1, data := [] } })
  if cOpc c == opVERIFY then
    match firstDiff c.prog.data data 0 with
    | some i => (match c.ending with
        | some st => (complete d c st 0, false)
        | none => (complete d c stMISMATCH (portOffset c k + i), false))
    | none => (next d, true)
  else (next (emit d (.push c.seat c.tag (portOffset c k) data)), true)

/-- Go on with portions of a READ or VERIFY until one needs flash, the cipher or a pull. The fuel is one more than the portions. [log entry 49 DESIGN CHOICE] -/
def readOn : Nat → Dev → Nat → Dev
  | 0, d, _ => d
  | n + 1, d, seq =>
    match cmdOf? d seq with
    | none => d
    | some c =>
      let k := c.prog.done
      match (if cOpc c == opVERIFY && c.prog.issued > k then none else c.ending) with
      | some st => complete d c st 0
      | none =>
        if k ≥ cPortions c then succeed d c
        else if cOpc c == opVERIFY && c.prog.issued ≤ k then
          modCmd d seq (fun x => { x with prog := { x.prog with issued := k + 1 } })
        else if cOpc c == opVERIFY && c.prog.pulled ≤ k then d
        else
          let p := piecesOf d.med.m (portKey c k) (portFirst c k) (portLen (cLba c) (cLen c) k)
          if p.1.isEmpty then
            let r := releasePort d c (List.replicate (portLen (cLba c) (cLen c) k) 0)
            if r.2 then readOn n r.1 seq else r.1
          else newJob d (.host seq) 4 (portKey c k) p.1 p.2

def readGo (d : Dev) (c : Cmd) : Dev := readOn (cPortions c + 1) d c.seq

/-- A portion stays unreadable: the command completes (R147, R321); a DISCARD that rewrites keeps its prefix (R143). [log entry 50 DEDUCED] -/
def readLost (d : Dev) (seq : Nat) : Dev :=
  match cmdOf? d seq with
  | none => d
  | some c =>
    if cOpc c == opDISCARD then complete (logCourse (dropSlots d seq) c stMEDIA) c stMEDIA 0 (coursesDone c) (coursesDone c > 0)
    else complete (logCourse d c stMEDIA) c stMEDIA (portOffset c c.prog.done)

/-- The tag check of the portion failed (R343, R344): plaintext released early is zeroed, and the zeroing is read back. -/
def readBad (d : Dev) (c : Cmd) (j : ReadJob) (good : Extent → Bool) : Dev :=
  let k := c.prog.done
  let d1 := logCourse (raise (satAdd d F.CRY_AUTHF_COUNT 1) 0x70 8) c stAUTH
  if cOpc c == opREAD && !cHold c then
    let n := portLen (cLba c) (cLen c) k
    let d2 := emit (emit d1 (.push c.seat c.tag (portOffset c k) (portPlain d c k j good))) (.push c.seat c.tag (portOffset c k) (List.replicate n 0))
    modCmd (satAdd d2 F.CRY_ZERO_COUNT 1) c.seq (fun x => { x with aux := portOffset c k, prog := { x.prog with bad := true } })
  else complete d1 c stAUTH (portOffset c k)

/-- Decrypt and check the portion of a job whose pieces are staged. [log entry 50 DEDUCED] -/
def decryptPort (d : Dev) (c : Cmd) (j : ReadJob) (altered : Bool) : Dev :=
  let d0 := dropJob d j.id
  if j.exts.any (fun e => (openSlot? d e).isNone && !e.tag.dmg) then complete d0 c stKEYABS 0
  else
    let good := fun (e : Extent) => !altered && (match openSlot? d e with
      | some n => sealOk d n e
      | none => false)
    if j.exts.all good then
      let r := releasePort d0 c (portPlain d c c.prog.done j good)
      if r.2 then readGo r.1 c else r.1
    else readBad d0 c j good

/-- The command a data event names: started, of a kind. -/
def runCmd? (d : Dev) (seat tag : Nat) (p : Cmd → Bool) : Option Cmd :=
  if !running d then none
  else (cmdAt? d seat tag).bind (fun c => if underWay c && p c then some c else none)

/-- READ. -/
def execRead (seat tag : Nat) (s : State) : Host.Outcome State Fault Refusal :=
  let d := s.dev
  finish s (match readyCmd? d seat tag opREAD with
    | none => d
    | some c => afterWork (readGo (modCmd d c.seq (fun x => { x with stage := .run })) c))

/-- VERIFY. -/
def execVerify (seat tag : Nat) (s : State) : Host.Outcome State Fault Refusal :=
  let d := s.dev
  finish s (match readyCmd? d seat tag opVERIFY with
    | none => d
    | some c => afterWork (readGo (modCmd d c.seq (fun x => { x with stage := .run })) c))

/-- DECRYPT_COMPLETE, in the order of R329. -/
def execDecryptComplete (seat tag : Nat) (altered : Bool) (s : State) : Host.Outcome State Fault Refusal :=
  let d := voteAll s.dev
  finish s (match runCmd? d seat tag isReadKind with
    | none => d
    | some c => match hostJob? d c.seq with
      | none => d
      | some j => guardDev (jobRead j && !jobUnreadable j && pushable d c && coreTurn d 1 (jobInv j)) d
        (afterWork (coreServed (decryptPort (coreTake d 1 (jobInv j)) c j altered))))

/-- Host address ranges of `n` bytes of a command's data from a byte offset (R137, R139). -/
def hostSpans (c : Cmd) (off n : Nat) : List (Nat × Nat) :=
  match c.segs with
  | .list l => (l.foldl (fun (acc : List (Nat × Nat) × Nat) g =>
      let lo := max off acc.2
      let hi := min (off + n) (acc.2 + g.len)
      (if lo < hi then acc.1 ++ [(g.addr.toNat + (lo - acc.2), hi - lo)] else acc.1, acc.2 + g.len)) ([], 0)).1
  | _ => [(cDptr c + off, n)]

/-- ZEROING_READ_COMPLETE (R343): the log entry of a failed zeroing holds the address range, up to three pieces of it as address and
length. [log entry 55 DEDUCED] -/
def execZeroingReadComplete (seat tag : Nat) (ok : Bool) (s : State) : Host.Outcome State Fault Refusal :=
  let d := s.dev
  finish s (match runCmd? d seat tag (fun c => c.prog.bad) with
    | none => d
    | some c =>
      let zs := hostSpans c (4096 * c.aux) (4096 * portLen (cLba c) (cLen c) c.prog.done)
      let d1 := if ok then d else raiseArgs (satAdd d F.CRY_ZFAIL_COUNT 1) 0x70 9
        ((zs.take 3).flatMap (fun z => [BitVec.ofNat 32 z.1, BitVec.ofNat 32 (z.1 / 2 ^ 32), BitVec.ofNat 32 z.2]))
      afterWork (complete d1 c stAUTH c.aux))

end Sys2Proof.Machine
end

