-- ==== Sys2Proof/Machine/LunOps.lean ====
section
/-!
DEFINITION. Operations of a LUN: issue and suspend order, passed and failed programs, decoded reads, erases, timeouts (R192, R198 to
R200, R244, R264, R280, R304, R313 to R322).
-/
namespace Sys2Proof.Machine

/-! ### Issue (R192, R198, R200) -/

/-- A host read: of a READ or VERIFY command (R194, R200). -/
def hostRead (d : Dev) (job : Nat) : Bool :=
  match (jobOf? d job).map ReadJob.why with
  | some (.host seq) => (cmdOf? d seq).any isReadKind
  | _ => false

/-- A read that may suspend a program of classes 3 to 6 (R200). -/
def urgentRead (d : Dev) (o : FOp) : Bool :=
  o.kind == .read && (o.cls == 1 || (rdB d F.COX_POLICY_RDSUSP && hostRead d o.job))

/-- A queued program of a member is behind an earlier unit of it, which goes first (R264). -/
def unitBehind (q : List FOp) (o : FOp) : Bool :=
  o.kind == .prog && q.any (fun x => x.kind == .prog && x.batten == o.batten && x.pos == o.pos && x.stripe < o.stripe)

/-- The head of a queue, in order but for a class 1 operation ahead of queued ones of classes 3 to 6 (R192). -/
def queueHead (v : LunSt) : Option (FOp × LunSt) :=
  match v.q with
  | [] => none
  | o :: rest =>
    if o.cls ≥ 3 then match takeFirst (fun x => x.cls == 1 && !unitBehind v.q x) v.q with
      | some r => some (r.1, { v with q := r.2 })
      | none => some (o, { v with q := rest })
    else some (o, { v with q := rest })

/-- The LUN is a member of an open batten of a stream (R199). -/
def inStreamBat (d : Dev) (l : Nat) : Bool :=
  !(batsWhere d (fun b t => t.st == .opened && (match t.role with
    | .stream _ => true
    | _ => false) && (memberLuns d b).contains l)).isEmpty

/-- An erase that sleeps has reached its suspend limit, and stays suspended for the stream battens (R199). -/
def eraseHeld (d : Dev) (l : Nat) (o : FOp) : Bool := o.susp ≥ rd d F.MEDIA_TESUS_ESMAX && inStreamBat d l

/-- The operation an idle LUN starts next, with what it leaves queued and asleep. A suspended program resumes unless an urgent read
waits. Before a suspended erase the queue goes on, in order, while an operation of classes 1 and 2 is in it, or while the erase is held at
its limit; then the Cox resumes the erase, and no other erase starts before it (R198, R199). [log entry 152 DEDUCED] -/
def nextOp (d : Dev) (l : Nat) (v : LunSt) : Option (FOp × LunSt) :=
  match v.asleep with
  | some a =>
    if a.kind == .erase then
      (if v.q.any (fun x => x.cls ≤ 2) || eraseHeld d l a then (queueHead v).bind (fun r => if r.1.kind == .erase then none else some r) else none)
    else match takeFirst (urgentRead d) v.q with
      | some r => some (r.1, { v with q := r.2 })
      | none => some (a, { v with asleep := none })
  | none => queueHead v

/-- A program of a contracted stream's data waits in the queue. -/
def streamQueued (v : LunSt) : Bool := v.q.any (fun o => o.kind == .prog && o.cls ≤ 2 && o.stream.isSome)

/-- Level with which step 1 reads a member (R314). -/
def stepLevel (d : Dev) (cfg b pos : Nat) : Nat := if bitOf cfg 8 then (batOf d b).level.getD pos 0 else 0

/-- The unit of a read operation. [log entry 60 DEDUCED] -/
def readUnit? (d : Dev) (o : FOp) : Option ReadUnit :=
  (jobOf? d o.job).bind (fun j => j.units.find? (fun u => u.batten == o.batten && u.stripe == o.stripe && u.pos == o.pos))

/-- Codewords in step 3 that have not been soft-read yet. -/
def softLeft (d : Dev) (job : Nat) (u : ReadUnit) : List (Nat × Nat) :=
  u.soft.filter (fun e => !d.med.soft.any (fun x => x.job == job && x.batten == u.batten && x.stripe == u.stripe && x.pos == u.pos && x.cw == e.1))

/-- Pages of a unit with the level at which they are soft-read. -/
def softPages (l : List (Nat × Nat)) : List (Nat × Nat) :=
  l.foldl (fun acc e => if acc.contains (e.1 / 4, e.2) then acc else acc ++ [(e.1 / 4, e.2)]) []

/-- A soft-read offset code: 1 to 5 (R325). -/
def softOffset (offs n : Nat) : Nat := offs / 2 ^ (8 * (n - 1)) % 256

/-- The soft reads of codewords: SOFTN reads of each page at its level, each at an offset (R313). -/
def softCyc (d : Dev) (u : ReadUnit) (l : List (Nat × Nat)) : List NandCyc :=
  (softPages l).flatMap (fun p => featCyc (rd d F.MEDIA_OPC1_RRFA) p.2 ++ (List.range (bitsOf u.cfg 0 3)).flatMap (fun n =>
    featCyc (rd d F.MEDIA_OPC1_SOFA) (softOffset u.offs (n + 1))
      ++ readCyc d (unitAt d u.batten u.stripe u.pos) ((l.filter (fun e => (e.1 / 4, e.2) == p)).map Prod.fst) false))

/-- The values of page LDPC that a read which starts decodes with (R313). -/
def withCfg (d : Dev) (u : ReadUnit) : ReadUnit :=
  { u with cfg := (actW d 0x28040).toNat, offs := (actW d 0x28044).toNat + 2 ^ 32 * (actW d 0x28048).toNat }

/-- The read of a unit goes out: at the level of step 1, or the soft reads of as many codewords as it was placed for. -/
def readStarts (d : Dev) (l : Nat) (o : FOp) : Dev :=
  match readUnit? d o with
  | none => d
  | some u =>
    if o.soft then
      let t := (softLeft d o.job u).take (o.bytes / 4096)
      modLun (nandOut d l (softCyc d u t)) l (fun v => { v with level := (t.getLastD (0, v.level)).2 })
    else
      let lvl := stepLevel d (withCfg d u).cfg u.batten u.pos
      let feat := if lvl == (lunOf d l).level then [] else featCyc (rd d F.MEDIA_OPC1_RRFA) lvl
      modLun (modUnit (nandOut d l (feat ++ readCyc d (unitAt d u.batten u.stripe u.pos) u.cws (o.cls == 3 || o.cls == 6)))
        o.job u.batten u.stripe u.pos (withCfg d)) l (fun v => { v with level := lvl })

/-- An operation goes out to its LUN (R296). -/
def opStarts (d : Dev) (l : Nat) (o : FOp) : Dev :=
  match o.kind with
  | .read => readStarts d l o
  | .prog => nandOut d l (progCyc d o.batten o.stripe o.pos)
  | .erase => nandOut d l (if o.eave then eraseCyc d true o.off else eraseCyc d ((batOf d o.batten).role == .system) (memberAt d o.batten o.pos).2)

/-- Suspend and resume of an operation (R198, R200, R296). -/
def suspendOut (d : Dev) (l : Nat) (k : OpKind) : Dev := nandOut d l [.cmd (if k == .erase then rd d F.MEDIA_OPC0_ESUS else rd d F.MEDIA_OPC0_PSUS)]
def resumeOut (d : Dev) (l : Nat) (k : OpKind) : Dev := nandOut d l [.cmd (if k == .erase then rd d F.MEDIA_OPC0_ERES else rd d F.MEDIA_OPC0_PRES)]

/-- The channel issues the next operation of an idle LUN. An erase that starts with a stream program queued behind it is asked to suspend
at once, while it may be (R26 step 7, R198, R199). -/
def issueLun (d : Dev) (l : Nat) : Dev :=
  let v := lunOf d l
  if v.exec.isSome || v.asking || !(chnState d (lunChn l) == chSERVE) then d
  else match nextOp d l v with
    | none => d
    | some (o, v1) =>
      let d1 := setLun d l { v1 with exec := some o }
      let d2 := if v.asleep == some o then resumeOut d1 l o.kind else opStarts d1 l o
      if o.kind == .erase && streamQueued v1 && o.susp < rd d F.MEDIA_TESUS_ESMAX then
        suspendOut (satAdd (modLun d2 l (fun v => { v with asking := true })) F.COX_ESUSP_COUNT 1) l .erase
      else d2

/-- The executing operation of a LUN ends. -/
def endOp (d : Dev) (l : Nat) : Dev := modLun d l (fun v => { v with exec := none, asking := false })

/-! ### Programs (R26 steps 8 to 10, R244, R280) -/

/-- Every page of the extent has passed, and every ridge page of its stripes. -/
def extPassed (d : Dev) (b off n : Nat) : Bool := (extUnits d off n).all (fun u => (batOf d b).passed.contains (64 * u.1 + u.2))
def extRidged (d : Dev) (b off n : Nat) : Bool :=
  (extUnits d off n).all (fun u => (batOf d b).passed.contains (64 * u.1 + u.1 % batW d))

/-- An extent every page of which is programmed is on flash. -/
def storeExt (d : Dev) (b off : Nat) (e : Extent) : Dev :=
  if (d.med.nand.flash.get? (placeKey b off)).isSome then d
  else modNand d (fun n => { n with flash := n.flash.set (placeKey b off) e })

/-- Extents of a batten that are complete go to flash; with their ridges they are Committed and applied. -/
def settleExts (d : Dev) (b : Nat) : Dev :=
  let rs := d.med.ring.filter (fun e => e.2.batten == b && extPassed d b e.2.off e.2.ext.tag.n)
  let gs := d.med.reloc.filter (fun e => e.2.batten == b && extPassed d b e.2.off e.2.ext.tag.n)
  let d1 := rs.foldl (fun d e =>
    let d1 := storeExt d b e.2.off e.2.ext
    if extRidged d1 b e.2.off e.2.ext.tag.n then commitSlot d1 e.1 else d1) d
  gs.foldl (fun d e =>
    let d1 := storeExt d b e.2.off e.2.ext
    if extRidged d1 b e.2.off e.2.ext.tag.n then applyReloc d1 e.1 else d1) d1

/-- A program passed status. -/
def progPassed (d : Dev) (o : FOp) : Dev :=
  let d1 := modBat d o.batten (fun v => if v.st == .opened then { v with passed := nins (64 * o.stripe + o.pos) v.passed } else v)
  let d2 := match o.stream with
    | some s => if (contracted d1).contains s then { d1 with stk := { d1.stk with drn := d1.stk.drn.set s (d1.stk.drn.getD s 0 + o.bytes) } } else d1
    | none => d1
  settleBat (settleExts d2 o.batten) o.batten

/-- A program failed (R280, R318). -/
def progFailed (d : Dev) (l : Nat) (o : FOp) : Dev :=
  let d1 := wrapAdd (modNand d (fun n => { n with progFails := n.progFails + 1 })) F.BAD_PFAIL_COUNT 1
  let d2 := unitLost d1 o.batten o.stripe o.pos 2 true
  statusFailed (settleExts d2 o.batten) l (64 * o.batten + o.pos)

/-! ### Erases (R228, R267, R274, R280) -/

/-- A batten with every member erased is FREE; its count goes into the erase batch (R270). [log entry 103 DEDUCED] -/
def freeBat (d : Dev) (b : Nat) : Dev :=
  if (batOf d b).st == .erasing && (batOf d b).toErase.isEmpty then
    let v := batOf d b
    let d1 := setBat d b { ec := v.ec + 1, repl := v.repl, adj := v.adj }
    let d2 := { d1 with med := { d1.med with eraseBatch := if d1.med.eraseBatch.any (fun e => e.1 == b) then d1.med.eraseBatch
                                                           else d1.med.eraseBatch ++ [(b, v.ec)] } }
    wearEol (sysPut (if d2.med.eraseBatch.length ≥ 2048 then eraseBatchPut d2 else d2) [recKey 3 b])
  else d

/-- An erase ended. -/
def eraseEnded (d : Dev) (l : Nat) (o : FOp) (ok : Bool) : Dev :=
  let r := lunRecOf d l
  if o.eave then
    if ok then admRecompute (flushTerms (setLunRec d l (eaveErased r o.off)))
    else
      statusFailed (eaveGrow (eraseFailed (setLunRec d l { r with eaveDirty := ndel o.off r.eaveDirty }) l o.off 5)) l (2 ^ 30 + o.off)
  else
    let b := o.batten
    if !((batOf d b).st == .erasing) then
      (if ok then giveBack d { batOf d b with ec := (batOf d b).ec + 1 } o.pos (memberAt d b o.pos)
       else statusFailed (eraseFailed d l (memberAt d b o.pos).2 1) l (64 * b + o.pos))
    else if ok then
      freeBat (modBat d b (fun v => { v with toErase := ndel o.pos v.toErase, reads := v.reads.erase o.pos, level := v.level.erase o.pos })) b
    else
      statusFailed (replaceMember (eraseFailed d l (memberAt d b o.pos).2 1) b o.pos) l (64 * b + o.pos)

/-! ### Reads (R287, R288, R313 to R321) -/

/-- A codeword reported as erased: it is not decoded (R310). -/
def cwErased (c : CwRes) : Bool := rawErased c.zeros

/-- One codeword that decoded is counted (R325); an erased one counts nowhere (R310). -/
def countCw (d : Dev) (c : CwRes) : Dev :=
  if cwErased c then d else
  let d1 := if c.step == 2 then satAdd d F.LDPC_NRETRY_COUNT 1 else d
  let d2 := if c.mis == 0 then d1 else raise (satAdd d1 F.LDPC_NMIS_COUNT c.mis) 0x28 9
  if c.step == 0 then d2
  else
    let d3 := add64 d2 F.LDPC_NCW 1
    if c.step ≤ 2 then satAdd d3 (F.LDPC_HIST (min 7 (c.bits / 40))) 1 else d3

/-- The extent of a batten that holds a codeword offset. -/
def extAt? (d : Dev) (b cw : Nat) : Option (Nat × Extent) := (batExts d b).find? (fun e => e.1 ≤ cw && cw < e.1 + extCw e.2.tag.n)

/-- Place of codeword `q` of a unit among the data codewords of its batten; a ridge codeword has none. -/
def cwOff? (d : Dev) (u : ReadUnit) (q : Nat) : Option Nat :=
  if isRidge (batW d) u.stripe u.pos then none
  else some (unitIdx (batW d) u.stripe u.pos * (if (batOf d u.batten).role == .system then 4 * rd d F.MEDIA_GEOM0_Q else cuOf d) + q)

/-- The extent that a codeword of a unit belongs to. -/
def cwExt? (d : Dev) (u : ReadUnit) (q : Nat) : Option (Nat × Extent) := (cwOff? d u q).bind (extAt? d u.batten)

/-- A copy of an extent is under way. -/
def extMoving (d : Dev) (b off : Nat) : Bool :=
  d.med.jobs.any (fun j => j.why == .move b && j.src == [(false, placeKey b off)]) || d.med.reloc.any (fun r => r.2.src == placeKey b off)

/-- What patrol does about a codeword of a unit (R287): `hard` when it needed more than the first step. A victim is skipped: its data is
already moving (R282). -/
def patrolCw (d : Dev) (u : ReadUnit) (q bits : Nat) (hard : Bool) : Dev :=
  let b := u.batten
  let d1 := if bits > rd d F.PTL_MAXC_BITS then wr d F.PTL_MAXC_BITS (min bits 65535) else d
  let v := batOf d1 b
  if v.st == .victim || !(v.vcls == 0) then d1
  else if bits > rd d F.PTL_THR_URG || hard then raise (satAdd (makeVictim d1 b 1 4) F.PTL_RELOC_COUNT 1) 0x24 10
  else if bits > rd d F.PTL_THR_RELOC then
    match cwExt? d1 u q with
    | none => d1
    | some e =>
      if extValid d1.med.m b e.1 e.2 == 0 || extMoving d1 b e.1 then d1
      else startMove (satAdd d1 F.PTL_RELOC_COUNT 1) b e.1 6
  else d1

/-- The batten's reads needed soft decode or the ridge. -/
def hardRead (d : Dev) (b : Nat) : Dev := modBat d b (fun v => { v with hardRead := true })

/-- Extents that a read has decoded hold no victim any more (R321). -/
def unhold (d : Dev) (j : ReadJob) : Dev :=
  j.src.foldl (fun d s => if s.1 then d else modBat d (s.2 / 2 ^ 21) (fun v => { v with heldBy := ndel (s.2 % 2 ^ 21) v.heldBy })) d

/-- Patrol read a batten: it is held by the extents that stayed unreadable, which are logged, and by no other (R321). -/
def patrolHeld (d : Dev) (j : ReadJob) (b : Nat) : Dev :=
  let lost := j.units.flatMap (fun u => if u.st == .unreadable then u.rid.filterMap (cwExt? d u) else [])
  lost.foldl (fun d e =>
    if (batOf d b).heldBy.contains e.1 then d
    else logNote (modBat d b (fun v => { v with heldBy := nins e.1 v.heldBy })) 0xFF04 [0, 0, e.2.tag.vol, e.2.tag.course, stMEDIA])
    (modBat d b (fun v => { v with heldBy := [] }))

/-! ### Soft decoders (R311) -/

/-- Class order of a domain's queue: class 1, class 4, then 3, 5 and 6. -/
def softRank (cls : Nat) : Nat := if cls == 1 then 0 else if cls == 4 then 1 else 2

/-- The unit of an entry, while the codeword is in step 3. -/
def softUnit? (d : Dev) (x : SoftEnt) : Option ReadUnit :=
  (jobOf? d x.job).bind (fun j => j.units.find? (fun u => u.batten == x.batten && u.stripe == x.stripe && u.pos == x.pos && u.soft.any (fun e => e.1 == x.cw)))

/-- Codewords of a domain that wait for a decoder, in order of arrival. -/
def softQueue (dom : Nat) (l : List SoftEnt) : List SoftEnt := l.filter (fun x => x.dom == dom && x.dec.isNone)

/-- A decoder that is free takes the first entry of the highest class in its domain's queue. -/
def softAssign (l : List SoftEnt) (k : Nat) : List SoftEnt :=
  if l.any (fun x => x.dec == some k) then l
  else match (softQueue (k / 2) l).foldl (fun acc x => match acc with
      | none => some x
      | some a => if softRank x.cls < softRank a.cls then some x else some a) none with
    | none => l
    | some x => updWhere (fun y => y == x) (fun y => { y with dec := some k }) l

/-- Codewords that have left step 3 are dropped, and free decoders take the next ones. [log entry 75 DEDUCED] -/
def softSettle (d : Dev) : Dev :=
  let live := d.med.soft.filter (fun x => (softUnit? d x).isSome)
  { d with med := { d.med with soft := (List.range 8).foldl softAssign live } }

/-- Room in the queue of a domain: 64 codewords, less those that wait and those whose soft reads are placed (R311). -/
def softRoom (d : Dev) (dom : Nat) : Nat :=
  let placed := ((d.cox.luns.filter (fun e => lunChn e.1 / 16 == dom)).flatMap (fun e => (e.2.exec.toList ++ e.2.q).filter FOp.soft)).map (fun o => o.bytes / 4096)
  64 - (softQueue dom d.med.soft).length - placed.foldl (· + ·) 0

/-- State of a unit in step 3 or after it: soft reads first, then decodes, then the ridge (R313). -/
def softState (d : Dev) (job : Nat) (u : ReadUnit) : RuSt :=
  if !(softLeft d job u).isEmpty then .reread else if !u.soft.isEmpty then .soft else if !u.rid.isEmpty then .ridge else .done

/-- Work of a job whose units are all decoded or given up. A host read, and a fold whose turn has not come, waits for the cipher. -/
def jobDone (d : Dev) (id : Nat) : Dev :=
  match jobOf? d id with
  | none => d
  | some j =>
    if !jobRead j then d
    else match j.why with
      | .host seq => if jobUnreadable j then readLost (dropJob d id) seq else unhold d j
      | .move b => if jobUnreadable j then copyLost (dropJob d id) j b else copyRead (dropJob d id) j b
      | .fold _ _ => coreFolds 1 d
      | .patrol b => patrolDone (dropJob (patrolHeld d j b) id)

/-- Units that have come to step 4: their codewords are counted, and the values of page LDPC taken (R313, R325). -/
def ridgeArrive (d : Dev) : Dev :=
  let new := fun (u : ReadUnit) => u.st == .ridge && u.rcfg.isNone
  let n := ((d.med.jobs.flatMap ReadJob.units).filter new).foldl (fun a u => a + u.rid.length) 0
  if n == 0 then d
  else
    let cfg := (actW d 0x28040).toNat
    satAdd { d with med := { d.med with jobs := d.med.jobs.map (fun j => { j with units := updWhere new (fun u => { u with rcfg := some cfg }) j.units }) } } F.LDPC_NRIDGE_COUNT n

/-- A host read over ring copies only is staged at once; other jobs without flash units end at once; folds whose turn has come are merged. -/
def jobsSettle (d : Dev) : Dev :=
  coreFolds d.med.jobs.length ((d.med.jobs.filter (fun j => j.units.isEmpty)).foldl (fun d j => jobDone d j.id) (ridgeArrive d))

/-! ### Steps 1 and 2 (R288, R313, R314) -/

/-- How far past the level of step 1 a level lies, wrapping from RRN to 0. -/
def levelFar (d : Dev) (cfg b pos lvl : Nat) : Nat := (lvl + (rd d F.MEDIA_OPC1_RRN + 1) - stepLevel d cfg b pos) % (rd d F.MEDIA_OPC1_RRN + 1)

/-- Most levels that step 2 tries. -/
def mostLevels (d : Dev) (cfg : Nat) : Nat := min (bitsOf cfg 16 6) (rd d F.MEDIA_OPC1_RRN)

/-- Levels that step 2 tried on a codeword. -/
def retries (d : Dev) (cfg b pos : Nat) (c : CwRes) : Nat :=
  if cwErased c || c.step == 1 then 0 else if c.step == 2 then levelFar d cfg b pos c.level else mostLevels d cfg

/-- A result that the steps can give: a level that is tried, and no miscorrection of a ridge codeword, whose tag is not checked
(R313, R315). -/
def resultOk (d : Dev) (cfg b stripe pos : Nat) (c : CwRes) : Bool :=
  let far := levelFar d cfg b pos c.level
  cwErased c || (c.step ≤ 3 && (c.step == 1 || (c.level ≤ rd d F.MEDIA_OPC1_RRN && far ≤ mostLevels d cfg && !(c.step == 2 && far == 0)))
    && (c.mis == 0 || !isRidge (batW d) stripe pos))

/-- Page reads of steps 1 and 2: each page once, and once more for each level tried on it. -/
def stepReads (d : Dev) (cfg b pos : Nat) (rs : List (Nat × CwRes)) : Nat :=
  ((rs.foldl (fun acc e => nins (e.1 / 4) acc) []).map (fun p =>
    1 + ((rs.filter (fun e => e.1 / 4 == p)).map (fun e => retries d cfg b pos e.2)).foldl max 0)).foldl (· + ·) 0

/-- Every page read of a member counts (R288). -/
def countPages (d : Dev) (b pos n : Nat) : Dev := modBat d b (fun v => { v with reads := v.reads.set pos (v.reads.getD pos 0 + n) })

/-- The member's level becomes that of the last codeword which decoded at step 2 (R314). -/
def trackLevel (d : Dev) (cfg b pos : Nat) (cws : List CwRes) : Dev :=
  let hits := cws.filter (fun c => c.step == 2 && !cwErased c)
  if bitOf cfg 8 && !hits.isEmpty then
    let far := (hits.map (fun c => levelFar d cfg b pos c.level)).foldl max 0
    modBat d b (fun v => { v with level := v.level.set pos ((stepLevel d cfg b pos + far) % (rd d F.MEDIA_OPC1_RRN + 1)) })
  else d

/-- What a codeword of a page read leaves to do: it was not decoded at the first two steps. -/
def cwLeft (c : CwRes) : Bool := !cwErased c && (c.step == 0 || c.step ≥ 3)

/-- What steps 1 and 2 on a member count and track; codewords that reached step 3 count as such (R313, R314, R325). -/
def stepsCount (d : Dev) (cfg b pos : Nat) (rs : List (Nat × CwRes)) : Dev :=
  let cws := rs.map Prod.snd
  let n := (cws.filter cwLeft).length
  trackLevel (countPages (satAdd (satAdd (cws.foldl countCw d) F.LDPC_NRETRY_COUNT n) F.LDPC_NSOFT_COUNT n) b pos (stepReads d cfg b pos rs)) cfg b pos cws

/-- The levels of step 2 go out, each for the codewords that fail still (R296, R313). -/
def retryOut (d : Dev) (l : Nat) (u : ReadUnit) (rs : List (Nat × CwRes)) : Dev :=
  let far := (rs.map (fun e => retries d u.cfg u.batten u.pos e.2)).foldl max 0
  let lvl := fun n => (stepLevel d u.cfg u.batten u.pos + n) % (rd d F.MEDIA_OPC1_RRN + 1)
  if far == 0 then d
  else modLun (nandOut d l ((List.range far).flatMap (fun n => featCyc (rd d F.MEDIA_OPC1_RRFA) (lvl (n + 1))
      ++ readCyc d (unitAt d u.batten u.stripe u.pos) ((rs.filter (fun e => retries d u.cfg u.batten u.pos e.2 ≥ n + 1)).map Prod.fst) false)))
    l (fun v => { v with level := lvl far })

/-- A codeword needs the ridge while its member is available: it counts towards the failure of the LUN (R322). -/
def ridgeNeeded (d : Dev) (l member : Nat) : Dev :=
  if !lunAvail d l then d
  else
    let v := lunOf d l
    let rs := within d.sys.time 10000000000 v.ridges ++ [(d.sys.time, member)]
    let d1 := setLun d l { v with ridges := rs }
    if distinctKeys rs ≥ 4 then lunFail d1 l else d1

/-- A job of patrol. -/
def patrolJob (d : Dev) (job : Nat) : Bool :=
  match (jobOf? d job).map ReadJob.why with
  | some (.patrol _) => true
  | _ => false

/-- A page read of a LUN gave the codewords of its unit. Those that have not decoded go on to step 3. Patrol takes an erased codeword as read;
another read, which wants its data, goes on to the ridge. [log entry 128 DEDUCED] -/
def pageRead (d : Dev) (l : Nat) (o : FOp) (u : ReadUnit) (cws : List CwRes) : Dev :=
  let rs := u.cws.zip cws
  let patrol := patrolJob d o.job
  let blank := if patrol then [] else (rs.filter (fun e => cwErased e.2)).map Prod.fst
  let soft := (rs.filter (fun e => cwLeft e.2)).map (fun e => (e.1, e.2.level))
  let d1 := stepsCount (retryOut (endOp d l) l u rs) u.cfg u.batten u.pos rs
  let d2 := if soft.isEmpty then d1 else hardRead d1 u.batten
  let d3 := modUnit d2 o.job u.batten u.stripe u.pos (fun u => { u with st := if !soft.isEmpty then .reread else if blank.isEmpty then .done else .ridge
                                                                        again := false, soft := soft, rid := blank })
  let d4 := if patrol then (rs.filter (fun e => e.2.step == 1 || e.2.step == 2)).foldl (fun d e =>
      if cwErased e.2 then d else patrolCw d u e.1 e.2.bits (e.2.step == 2)) d3
    else d3
  let d5 := if blank.isEmpty then d4 else ridgeNeeded d4 l (64 * u.batten + u.pos)
  jobDone (issueLun (softSettle d5) l) o.job

/-! ### Step 3 (R311, R313) -/

/-- The soft reads of codewords ended: each waits for a soft decoder. -/
def softRead (d : Dev) (l : Nat) (o : FOp) (u : ReadUnit) : Dev :=
  let t := (softLeft d o.job u).take (o.bytes / 4096)
  let d1 := countPages (endOp d l) u.batten u.pos (bitsOf u.cfg 0 3 * (softPages t).length)
  let d2 : Dev := { d1 with med := { d1.med with soft := d1.med.soft ++ t.map (fun e => ⟨o.job, u.batten, u.stripe, u.pos, e.1, o.cls, lunChn l / 16, none⟩) } }
  issueLun (softSettle (modUnit d2 o.job u.batten u.stripe u.pos (fun u => { u with st := softState d2 o.job u, again := false }))) l

/-- The codeword on a LUN that a soft decoder works on: that of the lowest decoder. -/
def softAt? (d : Dev) (l : Nat) : Option (ReadJob × ReadUnit × SoftEnt) :=
  (List.range 8).findSome? (fun k => (d.med.soft.find? (fun x => x.dec == some k && memberLun d x.batten x.pos == l)).bind (fun x =>
    match jobOf? d x.job, softUnit? d x with
    | some j, some u => some (j, u, x)
    | _, _ => none))

/-- The unit of a job that waits on a LUN in a state. -/
def waitUnit? (d : Dev) (l : Nat) (st : RuSt) : Option (ReadJob × ReadUnit) :=
  d.med.jobs.findSome? (fun j => (j.units.find? (fun u => u.st == st && memberLun d u.batten u.pos == l)).map (fun u => (j, u)))

/-- The soft decode of a codeword ended. -/
def softDone (d : Dev) (l : Nat) (j : ReadJob) (u : ReadUnit) (x : SoftEnt) (c : CwRes) : Dev :=
  let ok := c.step == 3
  let d1 := countCw d { c with step := if ok then 3 else 0, zeros := 36864 }
  let u1 : ReadUnit := { u with soft := u.soft.filter (fun e => !(e.1 == x.cw)), rid := if ok then u.rid else u.rid ++ [x.cw] }
  let d2 := modUnit d1 j.id u.batten u.stripe u.pos (fun _ => { u1 with st := if u.st == .placed then .placed else softState d1 j.id u1 })
  let d3 := if ok then (if patrolJob d j.id then patrolCw d2 u x.cw c.bits true else d2) else ridgeNeeded d2 l (64 * u.batten + u.pos)
  jobDone (softSettle d3) j.id

/-! ### Steps 4 and 5 (R319 to R321) -/

/-- Another position of the stripe is unavailable, counting out failed programs (R319). -/
def stripeShort (d : Dev) (u : ReadUnit) : Bool :=
  (List.range d.med.nand.w).any (fun p => !(p == u.pos) && !(batOf d u.batten).failed.contains (u.stripe, p) && !lunAvail d (memberLun d u.batten p))

/-- Positions that a reconstruction of a unit reads. -/
def ridgePos (d : Dev) (u : ReadUnit) : List Nat :=
  (List.range d.med.nand.w).filter (fun p => !(p == u.pos) && !(batOf d u.batten).failed.contains (u.stripe, p))

/-- LDPC_CFG that a reconstruction reads with. -/
def ridgeCfg (d : Dev) (u : ReadUnit) : Nat := u.rcfg.getD (actW d 0x28040).toNat

/-- Results of a reconstruction that the steps can give: none when a position is unavailable, else those of each position, and for each
codeword the check of the XOR of the payloads. -/
def reconOk (d : Dev) (u : ReadUnit) (others : List (Nat × List CwRes)) (checks : List Bool) : Bool :=
  if stripeShort d u then others.isEmpty && checks.isEmpty
  else others.map Prod.fst == ridgePos d u && checks.length == u.rid.length
    && others.all (fun e => e.2.length == u.rid.length && e.2.all (resultOk d (ridgeCfg d u) u.batten u.stripe e.1))

/-- Record the most recent unreadable codeword (R321, R325). -/
def recordUnc (d : Dev) (u : ReadUnit) (q cause : Nat) : Dev :=
  let t := ((cwExt? d u q).map (fun e => e.2.tag)).getD {}
  let p := cwPlace d (unitAt d u.batten u.stripe u.pos) q
  raise (wrs d [(F.LDPC_ULAST0_VALID, 1), (F.LDPC_ULAST0_VOL, t.vol), (F.LDPC_ULAST0_CAUSE, cause), (F.LDPC_ULAST1_COURSE, t.course),
    (F.LDPC_ULAST2_POS, u.pos), (F.LDPC_ULAST2_BATTEN, u.batten), (F.LDPC_ULAST3_LUN, memberLun d u.batten u.pos),
    (F.LDPC_ULAST3_PLANE, p.1), (F.LDPC_ULAST3_CW, p.2.2), (F.LDPC_ULAST3_PAGE, p.2.1)]) 0x28 8

/-- What the reads of one other position count: steps 1 to 3 on that member (R288, R319). -/
def reconMember (cfg : Nat) (u : ReadUnit) (d : Dev) (e : Nat × List CwRes) : Dev :=
  let rs := u.rid.zip e.2
  countPages (stepsCount d cfg u.batten e.1 rs) u.batten e.1
    (bitsOf cfg 0 3 * (softPages ((rs.filter (fun x => cwLeft x.2)).map (fun x => (x.1, x.2.level)))).length)

/-- Why codeword number `i` of a reconstruction was not rebuilt: 0 when it was. -/
def reconCause (short : Bool) (others : List (Nat × List CwRes)) (checks : List Bool) (i : Nat) : Nat :=
  if short then 2
  else if others.any (fun e => (e.2[i]?).all (fun c => cwErased c || c.step == 0)) then 1
  else if checks.getD i false then 0 else 3

/-- A reconstruction ended (R319): the codewords that it did not rebuild are unreadable. -/
def reconDone (d0 : Dev) (j : ReadJob) (u : ReadUnit) (others : List (Nat × List CwRes)) (checks : List Bool) : Dev :=
  let d := ridgeArrive d0
  let res := u.rid.zipIdx.map (fun e => (e.1, reconCause (stripeShort d u) others checks e.2))
  let bad := res.filter (fun e => !(e.2 == 0))
  let d1 := others.foldl (reconMember (ridgeCfg d u) u) (hardRead d u.batten)
  let d2 := satAdd (satAdd (satAdd d1 F.RDG_NREC_COUNT (res.length - bad.length)) F.RDG_NFAIL_COUNT bad.length) F.LDPC_NUNC_COUNT bad.length
  let d3 := bad.foldl (fun d e => recordUnc d u e.1 e.2) d2
  let d4 := modUnit d3 j.id u.batten u.stripe u.pos (fun u => { u with st := if bad.isEmpty then .done else .unreadable, rid := bad.map Prod.fst })
  let d5 := if patrolJob d j.id then u.rid.foldl (fun d q => patrolCw d u q 0 true) d4 else d4
  jobDone d5 j.id

/-! ### Timeouts (R304, R322) -/

/-- A LUN whose timeouts or failed resets reach a criterion fails. -/
def timeoutCount (d : Dev) (l : Nat) (resetOk : Bool) : Dev :=
  let v := lunOf d l
  let ts := v.touts.filter (fun t => d.sys.time < t + 1000000000) ++ [d.sys.time]
  let rs := if resetOk then 0 else v.resets + 1
  let d1 := setLun d l { v with touts := ts, resets := rs }
  if ts.length ≥ 4 || rs ≥ 2 then lunFail d1 l else d1

/-- Two distinct targets of a channel timed out within 100 ms: the channel is isolated. -/
def targetTimeout (d : Dev) (l : Nat) : Dev :=
  let c := lunChn l
  let v := chOf d c
  let ts := v.touts.filter (fun e => d.sys.time < e.2 + 100000000) ++ [(l % 64 / 4, d.sys.time)]
  let d1 := setCh d c { v with touts := ts }
  if ts.any (fun e => !(e.1 == l % 64 / 4)) then chanFaultIsolate d1 c icTOUT else d1

/-- The operation a timeout concerns ends. -/
def timeoutOp (d : Dev) (l : Nat) (o : FOp) : Dev :=
  match o.kind with
  | .prog => progFailed (endOp d l) l o
  | .erase => eraseEnded (endOp d l) l o false
  | .read =>
    match readUnit? d o with
    | none => endOp d l
    | some u =>
      if u.again then ridgeNeeded (modUnit (endOp d l) o.job u.batten u.stripe u.pos toRidge) l (64 * u.batten + u.pos)
      else opStarts (modUnit d o.job u.batten u.stripe u.pos (fun u => { u with again := true })) l o

def lunTimeout (d : Dev) (l : Nat) (o : FOp) (resetOk : Bool) : Dev :=
  let c := lunChn l
  let d1 := raise (satAdd (nandOut d l [.cmd 0xFA, .row 0 0 0]) (F.CHN_HTOUT_COUNT c) 1) (chnPage c) 12
  let d2 := timeoutOp d1 l o
  issueLun (targetTimeout (timeoutCount d2 l resetOk) l) l

end Sys2Proof.Machine
end

