-- ==== Sys2Proof/Machine/AdminRun.lean ====
section
/-!
DEFINITION. Administrative operations as they run: their records, a FORMAT from its map update to its volume record, the steps of a
SANITISE, media initialisation, the bound on the time left (R426 to R432).
-/
namespace Sys2Proof.Machine

/-! ### The log in the system area -/

/-- Buffered log entries go to the system area with the chunk (R433): the newest 1,048,576 are kept. -/
def saveLog (d : Dev) : Dev :=
  let st := rd d F.LOG_START_NUM
  wr { d with log := { buf := [], saved := (d.log.buf.map (fun (e : LogEnt) => { e with start := st }) ++ d.log.saved).take 1048576 } } F.LOG_PEND_COUNT 0

/-! ### Records (R270 TYPE 7, R431, R432) -/

/-- Milliseconds an operation has run. [log entry 102 DEDUCED] -/
def adminMs (d : Dev) : Nat := (((d.med.nand.prog.map Progress.ns).getD 0) + (d.sys.time - d.admin.start)) / 1000000

/-- An operation ends: BUSY clears, DONE is raised, the outcome is recorded and logged, the command completes. A resumed
operation ends RESUME instead. -/
def adminDone (d : Dev) (status : Nat) : Dev :=
  let op := adminOp d
  let ms := adminMs d
  let d1 := sysPut (modNand d (fun n => { n with prog := none })) [recKey 7 (if op == 3 then 2 else if op == 4 then 3 else 1)]
  let d2 := wrs d1 [(F.ADMIN_PROG_BUSY, 0), (F.ADMIN_PROG_OP, 0), (F.ADMIN_LAST_VALID, 1), (F.ADMIN_LAST_OP, op), (F.ADMIN_LAST_STATUS, status),
    (F.ADMIN_TDONE_MS, ms)]
  let d3 := logNote (raise d2 0x7D 8) 0xFF06 []
  let d4 := { d3 with admin := { d3.admin with cmd := none } }
  match d.admin.cmd with
  | some k => match cmdOf? d4 k with
    | some c => complete d4 c status 0
    | none => d4
  | none => if recovering d4 && rd d4 F.GLB_STAT_RSTAGE == 7 then recoverDone d4 else d4

/-- An operation starts. -/
def adminStart (d : Dev) (cmd : Option Nat) (op step vol : Nat) (reinit : Bool) : Dev :=
  wrs { d with admin := { d.admin with cmd := cmd, start := d.sys.time } }
    [(F.ADMIN_PROG_BUSY, 1), (F.ADMIN_PROG_RESUMED, 0), (F.ADMIN_PROG_OP, op), (F.ADMIN_PROG_REINIT, b2n reinit), (F.ADMIN_PROG_STEP, step),
     (F.ADMIN_PROG_VOL, vol), (F.ADMIN_PROG_PERMILLE, 0)]

/-! ### FORMAT (R429) -/

/-- The chunk of the unmaps is durable: the volume record is written and FGEN follows it. -/
def formatEnd (d : Dev) : Dev :=
  let v := rd d F.ADMIN_PROG_VOL
  match volRec? d v, volEntry? d v with
  | some r, some n =>
    if d.admin.fmtOk then
      let g := (r.fgen + 1) % 256
      adminDone (raise (wrBoth (writeVolRec d v { r with fgen := g }) (F.VOL_ID_FGEN n) g) 0x27 8) stSUCCESS
    else adminDone d stMEDIA
  | _, _ => adminDone d stMEDIA

/-! ### SANITISE (R427) -/

/-- No started command but the operation's own is left. [log entry 99 DEDUCED] -/
def adminAlone (d : Dev) : Bool := !(d.cmds.list.any (fun c => isStarted c && !(some c.seq == d.admin.cmd)))

/-- The record and the registers take a step. [log entry 99 DEDUCED] -/
def sanStep (d : Dev) (step permille : Nat) : Dev :=
  wrs (putProg d { op := 1, step := step, permille := permille, reinit := rdB d F.ADMIN_PROG_REINIT, action := adminOp d })
    [(F.ADMIN_PROG_STEP, step), (F.ADMIN_PROG_PERMILLE, permille)]

/-- CRYPTO: every slot EMPTY; every volume record goes to its next generation and keeps its highest mark. [log entry 100 DEDUCED] -/
def cryptoErase (d : Dev) : Dev :=
  sysPut (modNand (emptyKeys d) (fun n => { n with vols := n.vols.mapV (fun _ r =>
    { r with cur := nextGen r.cur, gens := [⟨nextGen r.cur, 1, (r.gens.map GenEnt.mark).foldl max 0⟩] }) })) (d.med.nand.vols.map (fun e => recKey 2 e.1))

/-- UNMAP: the map is empty, a chunk with every segment copy and a root say so; nothing on its way to flash or from it is left. -/
def unmapAll (d : Dev) : Dev :=
  let d1 := { d with
    cox := { d.cox with luns := d.cox.luns.mapV (fun _ l => { l with exec := none, asleep := none, asking := false, q := [] }) }
    med := { d.med with m := {}, ring := [], reloc := [], deltas := [], chunkNow := none, jmap := {}, waitOpen := [], waitReloc := [],
                        work := [], jobs := [], gcv := none, folding := [], ptlLeft := [], rebuild := [] } }
  wr (chunkDirect (modNand d1 (fun n => { n with chunks := [] })) [] false (List.range (segCount d1))) F.JNL_STAT_BUSY 0

/-- Every eave block counts as not erased. -/
def eaveDirtyAll (d : Dev) : Dev :=
  (eaveLuns d).foldl (fun d l => setLunRec d l { lunRecOf d l with eaveDirty := (lunRecOf d l).eave ++ (lunRecOf d l).eaveDirty, eave := [] }) d

/-- ERASE ends: every user batten is FREE with one erase more, every eave block is erased, the journal went with its battens. [log entry 100 DEDUCED] -/
def eraseAll (d : Dev) : Dev :=
  let bad := batsWhere d (fun _ v => !v.failing.isEmpty)
  let d1 := bad.foldl (fun d b => (batOf d b).failing.foldl (fun d p =>
    replaceMember (retireBlock d (memberAt d b p).1 (memberAt d b p).2 3) b p) d) d
  let d2 := modNand d1 (fun n => setsFolded { n with
    flash := [], doubt := [], ec0 := n.ec0 + 1, chunks := []
    bats := (n.bats.mapV (fun _ v => if v.role == .system then { v with ec := v.ec - 1 } else if v.st == .dissolved then v
      else ({ ec := v.ec, repl := v.repl, adj := v.adj } : Batten))).keep (fun _ v => !(v == {})) })
  wearEol (eaveRebuild (eaveDirtyAll { d2 with med := { d2.med with window := [], eraseBatch := [] } }) [])

/-- SYSTEM: the records go to a fresh pair with a new anchor record, the old pair is erased (R427). -/
def sysRenew (d : Dev) : Dev :=
  let old := d.med.nand.sysPair
  let d1 := sysRoll (windowFill d)
  if d1.med.nand.sysPair == old then d1
  else [old.1, old.2].foldl (fun d b => setBat d b { ec := (batOf d b).ec + 1, repl := (batOf d b).repl, adj := (batOf d b).adj }) d1

/-- A step of a sanitise ends, or one per cent of ERASE. [log entry 99 DEDUCED] -/
def sanAdvance (d : Dev) : Dev :=
  let step := rd d F.ADMIN_PROG_STEP
  if step == 1 then sanStep d (if adminOp d == 2 then 2 else 3) 0
  else if step == 2 then sanStep (cryptoErase d) 3 0
  else if step == 3 then sanStep (unmapAll d) 4 0
  else if step == 4 then
    let p := rd d F.ADMIN_PROG_PERMILLE + 10
    if p < 1000 then sanStep d 4 p else sanStep (eraseAll d) 5 1000
  else if step == 5 then
    let d1 := windowFill (lunsChanged (eaveRebuild (saveLog (sysRenew d)) []))
    if rdB d F.ADMIN_PROG_REINIT then sanStep d1 6 1000 else adminDone d1 stSUCCESS
  else
    let d1 := { d with med := { d.med with nand := { prog := d.med.nand.prog }, window := [] }
                       log := { d.log with saved := [] }
                       admin := { d.admin with noMedia := true } }
    adminDone (lunsChanged d1) stSUCCESS

/-! ### Media initialisation (R266, R268, R430) -/

/-- Member blocks of a LUN that make up no whole batten: they go to its spare pool (R266). -/
def leftOver (n : Nand) (l : Nat) : List Nat :=
  let used := match n.grp.idxOf? l with
    | some i => if groupsOf n == 0 then 0 else groupCount n (i % groupsOf n)
    | none => 0
  (List.range (memberPool n l - used)).map (fun k => nthGood n l (used + k))

/-- The media record and the pools of new media. [log entry 100 DEDUCED] -/
def initNand (d : Dev) (bad : List (Nat × Nat)) : Nand :=
  let n0 : Nand := {
    formatted := true, fver := (bankHdr d (rd d F.FWA_BANK_EXEC)).fver, gen := 1
    geom := (List.range 3).map (fun i => actW d (0x26040 + 4 * i))
    nlun := (declaredLuns d).length, w := batW d, sparePct := 2, luns := declaredLuns d, grp := groupedLuns (healthyLuns d) (batW d) (nLunHealthy d / max 1 (batW d)), bad := bad
    vols := ((List.range 64).filter (fun e => rdB d (F.VOL_ID_EN e))).foldl (fun (m : SMap VolRec) e =>
      SMap.set m (rd d (F.VOL_ID_VOL e)) { fgen := (rd d (F.VOL_ID_FGEN e) + 1) % 256, cap := entryBlocks d e }) []
    anchorGen := 1, cmark := rd64 d F.MAP_SEQ - 1 }
  { n0 with sysGen := sysKeys n0, recBase := 1
            anchorAt := (anchorBanks { d with med := { d.med with nand := n0 } }).headD 0
            anchors := [((anchorBanks { d with med := { d.med with nand := n0 } }).headD 0, [(1, 0, 1)])]
            lunRec := n0.luns.foldl (fun m l => m.put (fun _ => {}) l { spareBack := leftOver n0 l }) []
            bats := ([0, 1].filter (batExists n0)).foldl (fun (m : SMap Batten) b =>
      SMap.set m b { st := .opened, role := .system, wptr := 4 * sysPages n0 }) [] }

/-- Every FGEN of the table moves by one in both copies. -/
def initFgen (d : Dev) : Dev :=
  ((List.range 64).filter (fun e => rdB d (F.VOL_ID_EN e))).foldl (fun d e =>
    wrBoth d (F.VOL_ID_FGEN e) ((rd d (F.VOL_ID_FGEN e) + 1) % 256)) d

/-- Factory marks that lie on declared LUNs, once each. -/
def factoryBad (d : Dev) (bad : List (Nat × Nat)) : List (Nat × Nat) :=
  (bad.filter (fun e => (declaredLuns d).contains e.1 && e.2 < rd d F.MEDIA_GEOM1_BPP)).eraseDups

/-- MEDIA_INIT_DONE: the anchors are written and the first FORMAT completes. [log entry 65 DESIGN CHOICE] -/
def mediaInit (d : Dev) (marks : List (Nat × Nat)) : Dev :=
  let bad := factoryBad d marks
  let d1 := { d with med := { nand := initNand d bad, nextSlot := d.med.nextSlot, nextTx := d.med.nextTx, nextJob := d.med.nextJob }
                     log := { d.log with saved := [] } }
  let d2 := wrs (wrBoth (initFgen d1) F.CFG_CTRL_NEWMEDIA 0) [(F.BAD_FACT_COUNT, bad.length), (F.BAD_TOTAL_COUNT, 0), (F.BAD_EFAIL_COUNT, 0),
    (F.BAD_PFAIL_COUNT, 0), (F.BAD_LFAIL_COUNT, 0), (F.PTL_PASS_COUNT, 0), (F.FWU_MFVER_FVER, d1.med.nand.fver)]
  let d3 := add64 (wr64 (wr64 d2 0x21048 0) 0x21050 d1.med.nand.cmark) F.MAP_WSEQ (2 * sysPages d1.med.nand + 1)
  adminDone (windowFill (lunsChanged (eaveRebuild (raise d3 0x27 8) []))) stSUCCESS

/-! ### The bound on the time left (R427, R429, R430, R432) -/

/-- Most blocks on one LUN outside the system battens and the anchors. [log entry 102 DEDUCED] -/
def blocksMax (d : Dev) : Nat :=
  let n := d.med.nand
  let sys := batsWhere d (fun _ v => v.role == .system)
  (n.luns.map (fun l => goodBlocks n l - b2n (isAnchorLun n l) - (lunRecOf d l).retired.length
    - (sys.filter (fun b => (memberLuns d b).contains l)).length)).foldl max 0

/-- Bound of a step of a sanitise in µs, with what ERASE has done taken off. [log entry 102 DEDUCED] -/
def stepUs (d : Dev) (step : Nat) : Nat :=
  let tb := rd d F.MEDIA_TBERS_US
  if step == 1 then 100000
  else if step == 2 then (if adminOp d == 2 then 50000 else 0)
  else if step == 3 then 50000 + ceilDiv (8 * sumCourses d) 80000
  else if step == 4 then ceilDiv (blocksMax d * tb * (1000 - (if rd d F.ADMIN_PROG_STEP == 4 then rd d F.ADMIN_PROG_PERMILLE else 0))) 1000
  else if step == 5 then 200000 + 2 * tb
  else if step == 6 then (if rdB d F.ADMIN_PROG_REINIT then 3 * tb else 0)
  else 0

/-- ADMIN_TEST: the bound on the remaining time in seconds, rounded up. [log entry 102 DEDUCED] -/
def adminTest (d : Dev) : Nat :=
  if !adminBusy d then 0
  else
    let gone := (d.sys.time - d.admin.start) / 1000
    let us :=
      if sanitising d then ((List.range 7).filter (fun k => k ≥ rd d F.ADMIN_PROG_STEP)).foldl (fun a k => a + stepUs d k) 0
      else if formatting d then 50000 + ceilDiv (8 * (volBlocks d (rd d F.ADMIN_PROG_VOL) / 256)) 80000 - gone
      else 1000000 + rd d F.MEDIA_GEOM1_BPP * (2 * rd d F.MEDIA_TR_US + rd d F.MEDIA_TBERS_US) + 3 * rd d F.MEDIA_TBERS_US - gone
    ceilDiv us 1000000

end Sys2Proof.Machine
end

