-- ==== Sys2Proof/Machine/Media.lean ====
section
/-!
DEFINITION. Events of the media: programs, reads, erases, timeouts, pad closes, the valid-data walk, patrol and read disturb, journal
chunks (R29, R250 to R254, R277, R286, R288, R304, R313).
-/
namespace Sys2Proof.Machine

/-- Media events happen while the device serves an accepted configuration and no sanitise has reached UNMAP. [log entries 1 DESIGN CHOICE; 99 DEDUCED] -/
def mediaOn (d : Dev) : Bool := running d && !clockHeld d 4 && accepted d && !(sanitising d && rd d F.ADMIN_PROG_STEP ≥ 3)

/-- The executing operation of a LUN, of a kind. -/
def execOp? (d : Dev) (l : Nat) (k : OpKind) : Option FOp :=
  if mediaOn d && chnState d (lunChn l) == chSERVE && !clockHeld d (5 + lunChn l / 4) then
    match (lunOf d l).exec with
    | some o => if o.kind == k then some o else none
    | none => none
  else none

/-- What follows an operation: ring space, reserve terms, commands that waited, the terms of admission. -/
def afterMedia (d : Dev) : Dev := afterWork (jobsSettle (softSettle (placeWaits d)))

/-- The program in flight on a LUN while a flush waits for it (R225). -/
def flushProg? (d : Dev) (l : Nat) : Option FOp :=
  if inFlush d 2 || inFlush d 3 then progInFlight (lunOf d l) else none

/-- PROGRAM_COMPLETE, in service or while a flush waits for it. -/
def execProgramComplete (lun : Nat) (ok : Bool) (s : State) : Host.Outcome State Fault Refusal :=
  let d := s.dev
  finish s (match execOp? d lun .prog with
    | none => match flushProg? d lun with
      | some o => flushProgEnd d lun o ok
      | none => d
    | some o => afterMedia (issueLun (if ok then progPassed (endOp d lun) o else progFailed (endOp d lun) lun o) lun))

/-- PAGE_READ_COMPLETE: one result for each wanted codeword, or none after soft reads. A read whose command is gone ends with no result. -/
def execPageReadComplete (lun : Nat) (cws : List CwRes) (s : State) : Host.Outcome State Fault Refusal :=
  let d := s.dev
  finish s (match execOp? d lun .read with
    | none => d
    | some o => match readUnit? d o with
      | none => issueLun (endOp d lun) lun
      | some u =>
        if o.soft then guardDev cws.isEmpty d (afterMedia (softRead d lun o u))
        else guardDev (cws.length == u.cws.length && cws.all (resultOk d u.cfg u.batten u.stripe u.pos)) d (afterMedia (pageRead d lun o u cws)))

/-- SOFT_DECODE_COMPLETE: the result of one codeword that has a decoder. -/
def execSoftDecodeComplete (lun : Nat) (cw : CwRes) (s : State) : Host.Outcome State Fault Refusal :=
  let d := s.dev
  finish s (match softAt? d lun with
    | none => d
    | some (j, u, x) => guardDev (mediaOn d && !clockHeld d 3 && (cw.mis == 0 || !isRidge (batW d) u.stripe u.pos)) d (afterMedia (softDone d lun j u x cw)))

/-- RECONSTRUCTION_COMPLETE: what the reads of the other positions gave, in position order, and the check of each rebuilt codeword. -/
def execReconstructionComplete (lun : Nat) (others : List (Nat × List CwRes)) (checks : List Bool) (s : State) : Host.Outcome State Fault Refusal :=
  let d := s.dev
  finish s (match waitUnit? d lun .ridge with
    | none => d
    | some (j, u) => guardDev (mediaOn d && (unitGroups d u).all (domOn d) && reconOk d u others checks) d (afterMedia (reconDone d j u others checks)))

/-- ERASE_COMPLETE. -/
def execEraseComplete (lun : Nat) (ok : Bool) (s : State) : Host.Outcome State Fault Refusal :=
  let d := s.dev
  finish s (match execOp? d lun .erase with
    | none => d
    | some o => afterMedia (issueLun (eraseEnded (endOp d lun) lun o ok) lun))

/-- NAND_OP_TIMEOUT: the executing operation, or the one whose suspend was asked for. -/
def execNandOpTimeout (lun : Nat) (resetOk : Bool) (s : State) : Host.Outcome State Fault Refusal :=
  let d := s.dev
  finish s (guardDev (mediaOn d && chnState d (lunChn lun) == chSERVE) d (match (lunOf d lun).exec with
    | none => d
    | some o => afterMedia (lunTimeout d lun o resetOk)))

/-- Data of a writer is on its way: an extent that waits for a batten, a portion that is sealed or reserved and has no batten yet (R273). -/
def writerDue (d : Dev) (w : Writer) : Bool :=
  match w with
  | .stream i => d.med.ring.any (fun e => e.2.batten == 0x1000000 && e.2.stream == some i)
      || d.cmds.list.any (fun c => contractWrite d c && cSid c == i && reservedBytes c > 0)
  | .gc => !d.med.waitReloc.isEmpty || d.med.jobs.any (fun j => match j.why with
      | .move _ => true
      | .fold _ _ => true
      | _ => false)
  | .journal => d.med.chunkNow.any (fun c => c.parts.isEmpty)
  | .system => false
  | _ => d.med.ring.any (fun e => e.2.batten == 0x1000000 && (slotWriter d e.2).1 == w)
      || d.cmds.list.any (fun c => !contractWrite d c && reservedBytes c > 0)

/-- STRIPE_PAD_CLOSE (R29, R196): the current stripe of an open batten, or its current unit, is closed with pad pages. With no data of its
writer on its way the batten closes with its stripe (R273). [log entry 62 DEDUCED] -/
def execStripePadClose (batten : Nat) (unit : Bool) (s : State) : Host.Outcome State Fault Refusal :=
  let d := s.dev
  let cls := padClass d batten
  finish s (guardDev (mediaOn d && (batOf d batten).st == .opened && !((batOf d batten).role == .system)) d
    (afterMedia (if unit then settleBat (padUnit d batten cls) batten
      else if writerDue d (batOf d batten).role then settleBat (padClose d batten cls) batten
      else closeBat d batten cls)))

/-- VALID_WALK_DONE. -/
def execValidWalkDone (s : State) : Host.Outcome State Fault Refusal :=
  let d := s.dev
  finish s (guardDev (mediaOn d && rdB d F.GC_STAT_WALK) d (wr d F.GC_STAT_WALK 0))

/-- Pages the pass has not read yet. -/
def patrolPages (d : Dev) : Nat :=
  let l := if d.med.ptlLeft.isEmpty && !patrolBusy d then patrolList d else d.med.ptlLeft
  (l.map (fun b => (patrolUnits d b).length * unitPages d)).foldl (· + ·) 0

/-- PATROL_RATE_TICK (R286). -/
def execPatrolRateTick (s : State) : Host.Outcome State Fault Refusal :=
  let d := s.dev
  let period := rd d F.PTL_PERIOD_DAYS * 86400
  let spent := (d.sys.time - d.med.ptlStart) / 1000000000
  let left := period - spent
  finish s (guardDev (mediaOn d && !(recovering d && rd d F.GLB_STAT_RSTAGE < 6)) d
    (let d1 := wr d F.PTL_RATE_PAGES (if left == 0 then rd d F.PTL_RATE_PAGES else min 0xFFFFFFFF (ceilDiv (patrolPages d) left))
     if left == 0 && !rdB d1 F.PTL_STAT_LATE then raise (wr d1 F.PTL_STAT_LATE 1) 0x24 9 else d1))

/-- READ_DISTURB_LIMIT (R288). -/
def execReadDisturbLimit (batten : Nat) (s : State) : Host.Outcome State Fault Refusal :=
  let d := s.dev
  let v := batOf d batten
  let past := v.reads.any (fun e => e.2 > rd d F.WEAR_RDTH_KREADS * 1000)
  finish s (guardDev (mediaOn d && past && v.st == .closed) d
    (wrapAdd (makeVictim d batten (if v.hardRead then 1 else 6) 5) F.WEAR_RDREL_COUNT 1))

/-! ### Journal chunks (R250 to R254, R433) -/

/-- The journal runs: from the end of FOLD on, with no chunk being written. -/
def canChunk (d : Dev) : Bool :=
  mediaOn d && !(recovering d && rd d F.GLB_STAT_RSTAGE < 6) && !rdB d F.JNL_STAT_BUSY

/-- A chunk starts with the deltas that may be journalled; it lists the window, filled up to the bound of R253, and is placed in class 1;
the erase batch and the log are written with it (R270, R433). While staging is being copied again after its loss, no delta counts as
carried and CMARK stays (R381). [log entry 63 DEDUCED] -/
def chunkStart (d : Dev) (early : Bool) : Dev :=
  let hold := d.mem.recopy > 1
  let fmt := formatting d && !hold
  let pick := if hold then ([], d.med.deltas) else pickDeltas d d.med.deltas
  let mark := if hold then d.med.nand.cmark else cmarkOf d pick.2
  let have_ := d.med.window.filter (fun b => (memberLuns d b).all (lunAvail d))
  let r := pickWindow (windowSize d - have_.length) d []
  let c := chunkOf r.1 pick.1 mark (windowRecs r.1 pick.2 (have_ ++ r.2)) early false (if fmt then volSegs d (rd d F.ADMIN_PROG_VOL) else [])
  let d1 := { r.1 with med := { r.1.med with deltas := pick.2, chunkNow := some c }, admin := { d.admin with fmtChunk := fmt } }
  saveLog (eraseBatchPut (placeChunk (wr d1 F.JNL_STAT_BUSY 1)))

/-- JOURNAL_CHUNK_START: JNL_TJ ms after the previous one. -/
def execJournalChunkStart (s : State) : Host.Outcome State Fault Refusal :=
  let d := s.dev
  finish s (guardDev (canChunk d) d (chunkStart d false))

/-- A chunk is due early (R250): 4 MiB of deltas wait, or at most a quarter of the window is left. [log entry 129 DESIGN CHOICE] -/
def earlyDue (d : Dev) : Bool := 32 * d.med.deltas.length ≥ 4194304 || 4 * d.med.window.length ≤ windowSize d

/-- EARLY. -/
def execEarly (s : State) : Host.Outcome State Fault Refusal :=
  let d := s.dev
  finish s (guardDev (canChunk d && earlyDue d) d (raise (chunkStart d true) 0x21 8))

/-- Discards a waiting FLUSH covers have deltas to write: a chunk starts at once (R159, R250). -/
def flushChunk (d : Dev) : Dev :=
  if canChunk d && (flushes d).any (fun f => d.med.deltas.any (flushCoversDelta f)) then chunkStart d false else d

/-- A FORMAT whose unmaps this chunk carried goes on to its volume record; one that waited for the chunk starts its own (R429). -/
def formatStep (d : Dev) : Dev :=
  if !formatting d then d
  else if d.admin.fmtChunk then afterMedia (reclaimAll (formatEnd d))
  else if canChunk d then chunkStart d false else d

/-- The chunk stands: the window is what it listed and no writer has opened (R253, R306). [log entry 63 DEDUCED] -/
def chunkDone (d : Dev) (c : Chunk) : Dev :=
  let d1 := chunkTo { d with med := { d.med with chunkNow := none }, mem := { d.mem with recopy := d.mem.recopy - 1 } } c
  let d2 := setWindow (windowPrune (wr d1 F.JNL_STAT_BUSY 0)) (c.wins.map Prod.fst)
  flushChunk (formatStep (afterMedia (reclaimAll d2)))

/-- JOURNAL_CHUNK_DURABLE: every page of the chunk has passed, or a program of it failed and it is written again (JFAIL). -/
def execJournalChunkDurable (ok : Bool) (s : State) : Host.Outcome State Fault Refusal :=
  let d := s.dev
  finish s (match d.med.chunkNow with
    | none => d
    | some c =>
      let stands := chunkPassed d c
      guardDev (mediaOn d && stands == ok) d
        (if ok then chunkDone d c
         else afterMedia (raise { d with med := { d.med with chunkNow := some { c with parts := [] } } } 0x21 9)))

end Sys2Proof.Machine
end

