-- ==== Sys2Proof/Machine/MemProt.lean ====
section
/-!
DEFINITION. Memory protection: scrubbing, leaky buckets, poisoned words, error injection, HBM row repair (chapter Memory ECC, R376
to R389).
-/
namespace Sys2Proof.Machine

/-- A listed memory whose domain is on. -/
def memOn (d : Dev) (m : Nat) : Bool := m ≤ 110 && (memDomain m ≥ 30 || domOn d (memDomain m))

/-! ### Error injection (R382) -/

/-- Flipped bits of the 72-bit mask. -/
def maskBits (d : Dev) : Nat :=
  let ones := fun (v : Nat) => ((List.range 32).filter (bitOf v)).length
  ones (rd d F.MEM_FLIP0_DATA) + ones (rd d F.MEM_FLIP1_DATA) + ones (rd d F.MEM_FLIP2_CHK)

/-- A write to a word: it replaces what an injection left there, and takes an armed injection. REGION narrows HBM writes. -/
def memWrote (d : Dev) (m word region : Nat) : Dev :=
  let d0 := { d with mem := { d.mem with planted := d.mem.planted.filter (fun e => !(e.1 == m && e.2.1 == word)) } }
  if rdB d0 F.MEM_INJ_ARM && rd d0 F.MEM_INJ_MEMID == m
      && (m ≥ 32 || rd d0 F.MEM_INJ_REGION == 7 || rd d0 F.MEM_INJ_REGION == region) then
    let n := maskBits d0
    let d1 := if n == 0 then d0 else { d0 with mem := { d0.mem with planted := (m, word, n) :: d0.mem.planted } }
    raise (wrs d1 [(F.MEM_INJ_ARM, 0), (F.MEM_INJ_DONE, 1), (F.MEM_INJADDR_WORD, word)]) 7 9
  else d0

/-- A host write of MEM_INJ. [log entry 68 DEDUCED] -/
def memInjWrite (d : Dev) (v : Word) : Dev :=
  let memid := bitsOf v.toNat 0 7
  let region := bitsOf v.toNat 8 3
  let d1 := wrs d [(F.MEM_INJ_REGION, region), (F.MEM_INJ_MEMID, memid)]
  if !bitOf v.toNat 31 then d1
  else if memid ≤ 110 && !(region == 6) then wrs d1 [(F.MEM_INJ_ARM, 1), (F.MEM_INJ_DONE, 0), (F.MEM_INJ_REFUSED, 0)]
  else wr d1 F.MEM_INJ_REFUSED 1

/-! ### Corrected errors (R380) -/

/-- A corrected error: counted, recorded, added to the bucket; the overflow is signalled. The corrected word is written back. -/
def memCorrected (d : Dev) (m word row region : Nat) : Dev :=
  let d1 := wrs (satAdd d (F.MEMx_CE_COUNT m) 1) [(F.MEMx_CROW_ROW m, if m < 32 then row else 0), (F.MEMx_CADDR_WORD m, word)]
  let d2 := satAdd d1 (F.MEMx_LVL_LEVEL m) (rd d1 (F.MEMx_BKT_INC m))
  let d3 := if rd d2 (F.MEMx_LVL_LEVEL m) > rd d2 (F.MEMx_BKT_THR m) then
      raise (wr (setBit (satAdd d2 (F.MEMx_LVL_OVF m) 1) (F.MEMx_OVF_SLOT (m / 32)) (m % 32) true) (F.MEMx_LVL_LEVEL m) 0) (8 + m / 32) 8
    else d2
  memWrote d3 m word region

/-- LEAK_TICK. -/
def execLeakTick (mem : Nat) (s : State) : Host.Outcome State Fault Refusal :=
  let d := s.dev
  finish s (guardDev (alive d && mem ≤ 110) d (wr d (F.MEMx_LVL_LEVEL mem) (rd d (F.MEMx_LVL_LEVEL mem) - 1)))

/-! ### Poisoned words (R381) -/

/-- A course in the ring is committed as it stands; its tag check fails at every read. The loss is logged. -/
def poisonRing (d : Dev) (slot : Nat) : Dev :=
  match d.med.ring.get? slot with
  | none => d
  | some r =>
    let t := { r.ext.tag with dmg := true }
    logNote { d with med := { d.med with ring := d.med.ring.set slot { r with ext := { r.ext with tag := t } } } } 0xFF04
      [r.seat, ((cmdOf? d r.cmd).map Cmd.tag).getD 0, t.vol, t.course, stAUTH]

/-- A portion being pulled or sealed is pulled again. [log entry 17 DESIGN CHOICE] -/
def poisonPull (d : Dev) (seat tag : Nat) : Dev :=
  match cmdAt? d seat tag with
  | none => d
  | some c =>
    if isDataWrite c && c.prog.issued > c.prog.done then
      issueNext (modCmd d c.seq (fun x => { x with prog := { x.prog with issued := x.prog.done, pulled := x.prog.done, data := [] } })) c.seq
    else d

/-- The read-disturb counters of battens restart and their tracked levels return to 0; the valid-data walk runs again. -/
def poisonCounters (d : Dev) (bs : List Nat) : Dev :=
  let d1 := bs.foldl (fun d b => modBat d b (fun v => { v with
    reads := (List.range d.med.nand.w).map (fun p => (p, rd d F.WEAR_RDTH_KREADS * 250)), level := [] })) d
  wr d1 F.GC_STAT_WALK 1

/-- An invocation or transfer fails at its second poisoned word. -/
def failOp (d : Dev) (seat tag st result : Nat) : Dev :=
  match cmdAt? d seat tag with
  | none => d
  | some c =>
    if !isStarted c then d
    else if isDataWrite c then endWriteAt d c.seq st result
    else
      let d1 := { d with med := { d.med with jobs := d.med.jobs.filter (fun j => !(j.why == .host c.seq)) } }
      complete d1 c st result

/-- A completion entry that cannot be formed is lost, its seat stops fetching (R115). CQT stays. [log entry 51 DEDUCED] -/
def lostCompletion (d : Dev) (seat : Nat) : Dev :=
  match seatOf? d seat with
  | none => d
  | some v =>
    match v.waiting with
    | [] => d
    | q :: rest =>
      raiseArgs (setSeat d seat { v with waiting := rest, sqerr := true }) 0x12 11 [BitVec.ofNat 32 seat, BitVec.ofNat 32 q.tag]

/-- What follows by place. Repeats of an operation show nothing; REPLAY and SCAN rebuild a map segment with the content it had. [log entries 51 DEDUCED; 63 DEDUCED; 67 DEDUCED] -/
def poisonAct (d : Dev) (place : UePlace) : Dev :=
  match place with
  | .ringHeld slot => poisonRing d slot
  | .ringFilling seat tag => poisonPull d seat tag
  | .map _ => d
  | .staging job => modJob d job (fun j => { j with units := updWhere (fun u => !(u.st == .placed)) (fun u => { u with st := .todo }) j.units })
  | .parity b => if (batOf d b).st == .opened && !((batOf d b).role == .system) then ridgeLost d b (curStripe d b) false else d
  | .journal => { d with mem := { d.mem with recopy := 64 } }
  | .counters bs => poisonCounters d bs
  | .fatal => flushBegin d 5
  | .channel c second => if second then chanFaultIsolate d c icTOUT else d
  | .codec c second => if second then chanFaultIsolate d c icTOUT else d
  | .cipher seat tag second => if second then failOp (satAdd d F.CRY_AUTHF_COUNT 1) seat tag stAUTH 0 else d
  | .port seat tag second => if second then failOp (tick d) seat tag stBUS (Config.busCause d.free).toNat else d
  | .completion seat second => if second then lostCompletion d seat else d
  | .keySlot n => if n < 64 && rd d (F.KEY_STAT_STATE n) == ksLOADED then slotLost d n else d
  | .unused => d

/-- A poisoned word: counted, recorded, signalled, then handled by place. -/
def memPoisoned (d : Dev) (m word : Nat) (place : UePlace) : Dev :=
  let d1 := wrs (satAdd d (F.MEMx_UE_COUNT m) 1) [(F.MEM_UELAST_VALID, 1), (F.MEM_UELAST_MEMID, m), (F.MEM_UEADDR_WORD, word)]
  poisonAct (raise (raise d1 7 8) (8 + m / 32) 9) place

/-- MEM_SCRUB_PASS: what the scrubber and the traffic do to a word of a memory. -/
def memAccess (d : Dev) (m : Nat) (f : MemFinding) : Dev :=
  match f with
  | .clean => d
  | .wrote word region => memWrote d m word region
  | .corrected word row region => memCorrected d m word row region
  | .poisoned word place => memPoisoned d m word place
  | .planted word row region place =>
    match d.mem.planted.find? (fun e => e.1 == m && e.2.1 == word) with
    | none => d
    | some e =>
      if e.2.2 == 1 then memCorrected d m word row region else memPoisoned d m word place
  | .pass => if m < 32 then wrapAdd d F.MEM_SCRUB_PASSES 1 else d

def execMemScrubPass (mem : Nat) (finding : MemFinding) (s : State) : Host.Outcome State Fault Refusal :=
  let d := s.dev
  finish s (guardDev (alive d && memOn d mem && !(rd d F.GLB_BOOT_STAGE == 0xF)) d (memAccess d mem finding))

/-! ### Repair (R384 to R386) -/

/-- Bank of an HBM row as MEM_RPADDR lays it out: pseudo-channel, stack, bank group and bank. -/
def rowBank (r : HbmRow) : Nat := r / 2 ^ 21

/-- Hard repairs left on a pseudo-channel. -/
def hrLeft (d : Dev) (pc : Nat) : Nat := rd d (F.MEM_HRLEFT (pc / 8)) / 16 ^ (pc % 8) % 16

def setHrLeft (d : Dev) (pc n : Nat) : Dev :=
  wr d (F.MEM_HRLEFT (pc / 8)) (rd d (F.MEM_HRLEFT (pc / 8)) - hrLeft d pc * 16 ^ (pc % 8) + n * 16 ^ (pc % 8))

/-- First failing check of a GO, 0 for none (R386). -/
def repairRefused (d : Dev) (hard : Bool) (row : HbmRow) : Nat :=
  if d.mem.repair.isSome then 1
  else if rd d F.MEM_RPADDR_SID > (if d.sys.fuse.variant == 2 then 1 else 2) then 2
  else if d.sys.pfailLow || flushing d then 3
  else if !hard then (if d.mem.soft.any (fun r => rowBank r == rowBank row) then 4 else 0)
  else if !inMaintain d then 5
  else if !(openStreams d).isEmpty || d.cmds.activating || sanitising d then 6
  else if !d.mem.soft.contains row then 7
  else if hrLeft d (row / 2 ^ 27) == 0 then 8 else 0

/-- A host write of MEM_RPCMD; before STAGE READY no repair is permitted (R384) and a GO has no effect. [log entry 132 DEDUCED] -/
def memRpcmdWrite (d : Dev) (v : Word) : Dev :=
  let hard := bitOf v.toNat 0
  let d1 := wr d F.MEM_RPCMD_OP (b2n hard)
  if !bitOf v.toNat 31 || !stageReady d1 then d1
  else
    let row := (actW d1 0x7064).toNat
    let why := repairRefused d1 hard row
    if why == 0 then wr { d1 with mem := { d1.mem with repair := some (row, b2n hard) } } F.MEM_RPSTAT_BUSY 1
    else raise (wr d1 F.MEM_RPSTAT_CAUSE why) 7 11

/-- RPDONE: the repair in progress ends; STREAM_OPEN commands held by a burn go on. A repair runs on through a flush (R387), but
a burn was abandoned at its STOP. -/
def repairDone (d : Dev) : Dev :=
  match d.mem.repair with
  | none => d
  | some (row, kind) =>
    let d1 := wr { d with mem := { d.mem with repair := none } } F.MEM_RPSTAT_BUSY 0
    if kind == 0 then
      raise (wr { d1 with mem := { d1.mem with soft := d1.mem.soft ++ [row] } } F.MEM_RPSTAT_SOFT (d1.mem.soft.length + 1)) 7 10
    else
      let pc := row / 2 ^ 27
      releaseHeld (raise (setHrLeft { d1 with mem := { d1.mem with burned := d1.mem.burned ++ [row] } } pc (hrLeft d1 pc - 1)) 7 10)

def execRpdone (s : State) : Host.Outcome State Fault Refusal :=
  let d := s.dev
  finish s (guardDev (alive d) d (repairDone d))

end Sys2Proof.Machine
end

