-- ==== Sys2Proof/Machine/Stroke.lean ====
section
/-!
DEFINITION. A sample of the Stroke engine, the publication of R_power, and the trace buffers (R204 to R218).
-/
namespace Sys2Proof.Machine

/-! ### Measures (R207) -/

/-- Time in µs over which a loop measures at this sample. -/
def loopPeriod (inp : StrokeIn) (l : Nat) : Nat := ((inp.first.find? (fun e => e.1 == l)).map Prod.snd).getD inp.us

/-- Bytes over a period as GB/s in Q16.16. -/
def gbps (bytes us : Nat) : Int := (q16Sat (rndDiv (bytes * 65536) (us * 1000))).1

/-- Setpoint and measure of a loop. -/
def loopInputs (d : Dev) (inp : StrokeIn) (l : Nat) : Int × Int :=
  if l < 64 then (gbps (d.stk.arr.getD l 0) (loopPeriod inp l), gbps (d.stk.drn.getD l 0) (loopPeriod inp l))
  else if l == 64 then (rndDiv (rd d F.STK_PCAP_MW * 65536) 1000, (q16Sat (rndDiv (inp.mw * 65536) 1000)).1)
  else (q16 d (F.STKL_SETPT_SP 65), inp.temp.toInt)

/-! ### The loop law (R206) -/

/-- Values of one evaluation. -/
structure LoopRes where
  sp : Int
  m : Int
  e : Int
  p : Int
  i : Int
  u : Int
  flags : Nat
  adv : Bool
  sat : Bool
  deriving DecidableEq, Repr

/-- One evaluation; a power or thermal loop in FAULT holds its integrator at IMIN (R210). -/
def loopEval (d : Dev) (l : Nat) (sp m : Int) : LoopRes :=
  let e := q16Sat (sp - m)
  let p := q16Sat (rndDiv (rd d (F.STKL_KP_KP l) * e.1) 65536)
  let di := q16Sat (rndDiv (rd d (F.STKL_KI_KI l) * e.1 * rd d F.STK_TS_TS) (65536 * 1000))
  let raw := q16Sat (q16 d (F.STKL_ITERM_I l) + di.1)
  let imin := q16 d (F.STKL_IMIN_IMIN l)
  let i := if l ≥ 64 && rd d (F.STKL_CTL_FESTATE l) == 2 then (imin, 0)
    else q16Clamp raw.1 imin (q16 d (F.STKL_IMAX_IMAX l)) 1 2
  let s := q16Sat (p.1 + i.1)
  let umin := q16 d (F.STKL_UMIN_UMIN l)
  let umax := if l < 64 then max (q16 d (F.STKL_UMAX_UMAX l)) umin else q16 d (F.STKL_UMAX_UMAX l)
  let u := q16Clamp s.1 umin umax 4 8
  let sat := e.2 || p.2 || di.2 || raw.2 || s.2
  let elim := q16 d (F.STKL_ELIM_ELIM l)
  let adv := if l < 64 then e.1 > elim else e.1 < -elim
  ⟨sp, m, e.1, p.1, i.1, u.1, i.2 + u.2 + 16 * b2n sat + 32 * b2n adv, adv, sat⟩

/-! ### Following error (R209, R210) -/

/-- A loop enters FAULT: FOLLOW_ERR. -/
def followErr (d : Dev) (l : Nat) : Dev :=
  let d1 := faultBit (wrs d [(F.STKL_CTL_FESTATE l, 2), (F.STKL_FETIME_T l, 0)]) l true
  let d2 := raise (raise d1 (stklPage l) (stklBit l)) 0x19 8
  let d3 := { d2 with stk := { d2.stk with newFault := nins l d2.stk.newFault } }
  if l < 64 then { d3 with stk := { d3.stk with follow := nins l d3.stk.follow } } else raise d3 0x19 10

/-- One step of the supervisor. [log entry 76 DEDUCED] -/
def supervise (d : Dev) (l : Nat) (adv : Bool) (period : Nat) : Dev :=
  let t := rd d (F.STKL_FETIME_T l) + period
  let tfe := rd d (F.STKL_TFE_TFE l)
  match rd d (F.STKL_CTL_FESTATE l) with
  | 0 => if adv then wrs d [(F.STKL_CTL_FESTATE l, 1), (F.STKL_FETIME_T l, min period 0xFFFFFF)] else d
  | 1 =>
    if !adv then wrs d [(F.STKL_CTL_FESTATE l, 0), (F.STKL_FETIME_T l, 0)]
    else if t ≤ tfe then wr d (F.STKL_FETIME_T l) (min t 0xFFFFFF)
    else followErr d l
  | _ =>
    if adv then wr d (F.STKL_FETIME_T l) 0
    else if l < 64 || t ≤ tfe then wr d (F.STKL_FETIME_T l) (min t 0xFFFFFF)
    else faultBit (wrs d [(F.STKL_CTL_FESTATE l, 0), (F.STKL_FETIME_T l, 0)]) l false

/-- A sample of one active loop (R206 to R210, R214, R216). -/
def loopSample (inp : StrokeIn) (d : Dev) (l : Nat) : Dev :=
  let io := loopInputs d inp l
  let r := loopEval d l io.1 io.2
  let d1 := wrs d [(F.STKL_MEAS_M l, q16Field r.m), (F.STKL_ERR_E l, q16Field r.e), (F.STKL_PTERM_P l, q16Field r.p),
    (F.STKL_ITERM_I l, q16Field r.i), (F.STKL_UOUT_U l, q16Field r.u)]
  let d2 := if l == 65 then d1 else wr d1 (F.STKL_SETPT_SP l) (q16Field r.sp)
  let d3 := supervise (if r.sat then raise d2 0x19 11 else d2) l r.adv (loopPeriod inp l)
  wr d3 (F.STKL_FLAGS_FLAGS l) (r.flags + 64 * b2n (rd d3 (F.STKL_CTL_FESTATE l) == 2) + 128 + 65536 * (rd64 d3 0x19064 % 65536))

/-! ### Publication (R211) -/

/-- What a power or thermal loop contributes to the candidate, none when it does not limit (R211). A UMAX at its safe value 0 limits
R_power to it (R62). [log entry 27 DESIGN CHOICE] -/
def contribution (d : Dev) (l : Nat) : Option Nat :=
  let units := fun (x : Int) => (x * 100 / 65536).toNat
  if !rdB d (F.STKL_CTL_ACTIVE l) then none
  else if rd d (F.STKL_CTL_FESTATE l) == 2 then some (units (q16 d (F.STKL_UMIN_UMIN l)))
  else if q16 d (F.STKL_UOUT_U l) < q16 d (F.STKL_UMAX_UMAX l) then some (units (q16 d (F.STKL_UOUT_U l)))
  else if d.stk.safeMax.contains l && rd d (F.STKL_UMAX_UMAX l) == 0 then some 0
  else none

/-- Form the candidate and publish it with hysteresis. -/
def publishStep (d : Dev) : Dev :=
  let a := contribution d 64
  let b := contribution d 65
  let cand := min (a.getD 0xFFFFFF) (b.getD 0xFFFFFF)
  let d1 := wrs d [(F.STK_RPWR_PLIM, b2n a.isSome), (F.STK_RPWR_TLIM, b2n b.isSome), (F.STK_RPWR_CAND, cand)]
  let pub := rd d F.ADM_RPOWER_RPOWER
  let hold := fun (d : Dev) (n : Nat) => { d with stk := { d.stk with hold := n } }
  if !rdB d (F.STKL_CTL_ACTIVE 64) && !rdB d (F.STKL_CTL_ACTIVE 65) then
    (if pub == 0xFFFFFF then hold d1 0 else publish (hold d1 0) 0xFFFFFF)
  else if cand < pub then publish (hold d1 0) cand
  else if cand ≥ pub + rd d F.STK_PUB_HYST then
    let n := d.stk.hold + 1
    if n ≥ rd d F.STK_PUB_HOLD then (if cand == pub then hold d1 0 else publish (hold d1 0) cand) else hold d1 n
  else hold d1 0

/-! ### Traces (R215 to R218) -/

/-- Value of a node of a loop. -/
def nodeValue (d : Dev) (l node : Nat) : Word :=
  if l > 65 || !rdB d (F.STKL_CTL_ACTIVE l) then 0
  else
    let r := fun (f : Fld) => actW d f.off
    match node with
    | 0 => r (F.STKL_SETPT_SP l)
    | 1 => r (F.STKL_MEAS_M l)
    | 2 => r (F.STKL_ERR_E l)
    | 3 => r (F.STKL_PTERM_P l)
    | 4 => r (F.STKL_ITERM_I l)
    | 5 => r (F.STKL_UOUT_U l)
    | 6 => r (F.STKL_FLAGS_FLAGS l)
    | 7 => BitVec.ofNat 32 (rd d (F.STKL_FETIME_T l))
    | _ => 0

/-- The words of the eight channels at this sample, by the selections latched at ARM. -/
def traceRecord (d : Dev) : List Word :=
  (List.range 8).map (fun c =>
    let s := (d.trace.chans.getD c 0).toNat
    if bitOf s 31 then nodeValue d (bitsOf s 8 7) (bitsOf s 0 4) else 0)

/-- Cause of the trigger at a record, 0 for none. -/
def traceTrigger (d : Dev) (rec_ : List Word) : Nat :=
  let t := d.trace.trig.toNat
  match bitsOf t 24 4 with
  | 1 =>
    match d.trace.before with
    | [] => 0
    | prev :: _ =>
      let c := bitsOf t 8 3
      let lv := d.trace.level.toInt
      let a := (prev.getD c 0).toInt
      let b := (rec_.getD c 0).toInt
      let up := a < lv && lv ≤ b
      let down := a ≥ lv && b < lv
      if (match bitsOf t 0 2 with
          | 1 => down
          | 2 => up || down
          | _ => up) then 2 else 0
  | 2 => if d.stk.newFault.isEmpty then 0 else 3
  | 3 => if d.stk.newFault.contains (bitsOf t 16 7) then 3 else 0
  | _ => 0

/-- PRE ends: the trigger fires with its cause (R217). [log entry 77 DEDUCED] -/
def traceFire (d : Dev) (cause : Nat) : Dev :=
  raise (wrs d [(F.STKT_STAT_STATE, 2), (F.STKT_STAT_TCAUSE, cause), (F.STKT_STAT_VPRE, min d.trace.before.length d.trace.pre)]) 0x1E 8

/-- Append a post-trigger record; the record ends with 4,096 − PRE of them. -/
def tracePost (d : Dev) (rec_ : List Word) : Dev :=
  let d1 := if d.trace.after.isEmpty then wr64 d 0x1E074 d.sys.time else d
  let a := rec_ :: d1.trace.after
  let d2 := { d1 with trace := { d1.trace with after := a } }
  if a.length ≥ 4096 - d.trace.pre then raise (wr d2 F.STKT_STAT_STATE 3) 0x1E 9 else d2

/-- The trace at the end of a sample. -/
def traceSample (d : Dev) : Dev :=
  let st := rd d F.STKT_STAT_STATE
  if !(st == 1 || st == 2) then { d with stk := { d.stk with newFault := [] } }
  else if d.trace.skip > 0 then { d with trace := { d.trace with skip := d.trace.skip - 1 } }
  else
    let r := traceRecord d
    let cause := if st == 1 then traceTrigger d r else 0
    let d1 := { d with trace := { d.trace with skip := d.trace.dec }, stk := { d.stk with newFault := [] } }
    if st == 2 then tracePost d1 r
    else if cause == 0 then { d1 with trace := { d1.trace with before := (r :: d1.trace.before).take (max 1 d1.trace.pre) } }
    else tracePost (traceFire d1 cause) r

/-- STROKE_SAMPLE: every active loop is evaluated, R_power is published, the trace records. -/
def execStrokeSample (inp : StrokeIn) (s : State) : Host.Outcome State Fault Refusal :=
  let d0 := s.dev
  let d := voteAll d0
  finish s (guardDev (running d0 && accepted d0 && domOn d0 29) d0
    (let d1 := wr (add64 d 0x19064 1) F.STK_PMEAS_MW (if rdB d (F.STKL_CTL_ACTIVE 64) then min inp.mw 0x1FFFF else rd d F.STK_PMEAS_MW)
     let d2 := ((List.range 66).filter (fun l => rdB d (F.STKL_CTL_ACTIVE l))).foldl (loopSample inp) d1
     let d3 := traceSample (publishStep d2)
     admRecompute { d3 with stk := { d3.stk with arr := [], drn := [], fresh := [] } }))

/-- ARM (R217): the record is cleared and the settings are latched. -/
def traceArm (d : Dev) : Dev :=
  wrs { d with
    trace := { chans := (List.range 8).map (fun c => actW d (0x1E040 + 4 * c)), trig := actW d 0x1E060, level := actW d 0x1E064,
               pre := rd d F.STKT_PRE_PRE, dec := rd d F.STKT_DEC_DEC }
    stk := { d.stk with newFault := [] } } [(F.STKT_STAT_STATE, 1), (F.STKT_STAT_VPRE, 0), (F.STKT_STAT_TCAUSE, 0)]

/-- The action bits of a write of STKT_TRIG, after its fields are stored: STOP, then ARM, then FORCE. [log entry 77 DEDUCED] -/
def stktWrite (d : Dev) (v : Word) : Dev :=
  let d1 := if bitOf v.toNat 29 then traceDrop d else d
  let d2 := if bitOf v.toNat 31 then traceArm d1 else d1
  if bitOf v.toNat 30 && rd d2 F.STKT_STAT_STATE == 1 then wr64 (traceFire d2 1) 0x1E074 d2.sys.time else d2

/-- STKT_RDATA at an index (R217): in DONE the records in time order, else 0. -/
def traceData (d : Dev) : Word :=
  if rd d F.STKT_STAT_STATE == 3 then
    let recs := (d.trace.before.take (rd d F.STKT_STAT_VPRE)).reverse ++ d.trace.after.reverse
    (recs.getD (rd d F.STKT_RIDX_IDX) []).getD (rd d F.STKT_RIDX_CH) 0
  else 0

end Sys2Proof.Machine
end

