-- ==== Sys2Proof/Machine/RegView.lean ====
section
/-!
DEFINITION. What the words of the register space read as: the header of a page (R42 to R49), the words that are views of engines and
tables, and the choice between shadow and active copies (R50). Reads here have no side effect.
-/
namespace Sys2Proof.Machine

/-- A word from fields given as (lowest bit, width, value). -/
def mkWord (l : List (Nat × Nat × Nat)) : Word := l.foldl (fun w f => putBits w f.1 f.2.1 f.2.2) 0

/-! ### Headers (R43 to R49, R52, R59, R63, R72) -/

/-- GLB_EVTSUM0 to 7: bit (p mod 32) of word p / 32, for the implemented pages (R52, R454). -/
def evtSum (d : Dev) (k : Nat) : Word :=
  d.hub.hdr.foldl (fun w e => if e.1 / 32 == k && implemented e.1 && !(e.2.evtRaw &&& e.2.evtEn == 0) then putBits w (e.1 % 32) 1 1 else w) 0

/-- A header word of an implemented page. [log entry 15 DESIGN CHOICE] -/
def hdrWord (d : Dev) (p o : Nat) : Word :=
  let h := hdrOf d p
  if o == 0x00 then mkWord [(16, 16, btypeOf p), (8, 8, instOf p), (0, 8, 1)]
  else if o == 0x04 then putBits (putBits (Config.pageImpl p &&& 0xFFFF) 16 8 1) 24 8 0
  else if o == 0x08 then mkWord [(10, 1, b2n h.alert), (9, 1, b2n h.irqB), (8, 1, b2n h.irqA), (0, 1, b2n h.view)]
  else if o == 0x0C then mkWord [(8, 8, domainOf p), (4, 4, islandOf p), (1, 1, b2n h.cbusy), (0, 1, b2n (pageOn d p))]
  else if o == 0x10 then h.evtRaw
  else if o == 0x14 then h.evtEn
  else if o == 0x18 then h.evtRaw &&& h.evtEn
  else if o == 0x20 then mkWord [(0, 3, h.group)]
  else if o == 0x24 then mkWord [(24, 8, h.cseq), (16, 8, h.cause), (4, 12, h.whr), (1, 1, b2n h.refused), (0, 1, b2n h.pend)]
  else if o == 0x28 then mkWord [(4, 12, h.woWhere), (1, 1, b2n h.woOver), (0, 1, b2n h.woValid)]
  else if o == 0x2C then mkWord [(16, 8, h.scount), (4, 12, h.vWhere), (1, 1, b2n h.triple), (0, 1, b2n h.single)]
  else 0

/-! ### Views of seats and streams (R135, R187) -/

/-- SEAT_INFO of a seat. -/
def seatInfo (d : Dev) (sn : Nat) : Word :=
  match seatOf? d sn with
  | none => 0
  | some s => mkWord [(31, 1, 1), (30, 1, b2n s.classD), (29, 1, b2n s.idle), (28, 1, b2n s.reapAt.isSome), (27, 1, fnPort s.fn),
      (25, 2, fnLink s.fn), (18, 7, fnVf s.fn), (13, 5, s.win), (0, 11, s.vec)]

/-- SEAT_INFO2 of a seat. -/
def seatInfo2 (d : Dev) (sn : Nat) : Word :=
  match seatOf? d sn with
  | none => 0
  | some s => mkWord [(16, 8, ((openStreams d).filter (fun i => rd d (F.STRM_STAT_SEAT i) == sn)).length), (5, 5, s.cqt), (0, 5, s.sqh)]

/-- SEAT_ATTk. -/
def seatAtt (d : Dev) (k : Nat) : Word :=
  d.seats.foldl (fun w e => if e.1 / 32 == k then putBits w (e.1 % 32) 1 1 else w) 0

/-! ### Views of the scheduler (R203) -/

/-- COX_LINFO of a LUN: the executing operation first, else the one suspended on it. [log entry 75 DEDUCED] -/
def luninfo (d : Dev) (l : Nat) : Word :=
  let v := lunOf d l
  let op := match v.exec, v.asleep with
    | some o, _ => if o.kind == .prog then 1 else if o.kind == .read then 2 else 3
    | none, some o => if o.kind == .erase then 4 else if o.kind == .prog then 5 else 0
    | none, none => 0
  let es := ((v.exec.toList ++ v.asleep.toList).filter (fun o => o.kind == .erase)).map FOp.susp
  mkWord [(29, 3, op), (24, 3, min v.q.length 4), (20, 4, min (es.headD 0) 15)]

/-- COX_DVAL of a stream. -/
def dval (d : Dev) (i : Nat) : Word :=
  if (contracted d).contains i then BitVec.ofInt 32 ((d.cox.dfcLast.getD i 0) / 1024) else 0

/-! ### Views of the map (R237, R239, R261) -/

/-- The lookup of MAP_QSEL: the entries of the block it names. -/
def mapLookup (d : Dev) : Dev :=
  let q := rd64 d F.MAP_QSEL
  let k := courseKey (bitsOf q 48 6) (bitsOf q 0 48 / 256)
  let e := mapEnt d.med.m k
  let f := match e with
    | .fine _ => fineWord (fineEnt d.med.m k (q % 256))
    | _ => 0
  wr64 (wr64 d F.MAP_QENT (entWord e)) F.MAP_QFINE f

/-! ### Views of media management (R289, R290, R326) -/

/-- Members of a batten that cannot be accessed. -/
def lostMembers (d : Dev) (b : Nat) : Nat := ((memberLuns d b).filter (fun l => !lunAvail d l)).length

/-- RDG_EXPOSED. -/
def exposed (d : Dev) : Nat := (batsWhere d (fun b _ => lostMembers d b == 1 && !(batValid d b == 0))).length

/-- RDG_HELD: victims with an extent that stays unreadable and that the map still names (R321, R326). -/
def heldCount (d : Dev) : Nat :=
  (batsWhere d (fun b v => v.st == .victim && v.heldBy.any (fun o => match d.med.nand.flash.get? (placeKey b o) with
    | some e => !(extValid d.med.m b o e == 0)
    | none => false))).length

/-- RDG_ACCUM: stripes of open battens with a data unit placed whose ridge has not passed (R316). -/
def accumulators (d : Dev) : Nat :=
  ((batsWhere d (fun _ v => v.st == .opened && !(v.role == .system))).map (fun b =>
    let v := batOf d b
    let w := batW d
    ((List.range (if stripeCw d == 0 then 0 else ceilDiv v.wptr (stripeCw d))).filter (fun s =>
      (List.range w).any (fun p => !(p == s % w) && (v.wseq.get? (64 * s + p)).isSome)
        && !v.passed.contains (64 * s + s % w) && !v.failed.contains (s, s % w))).length)).foldl (· + ·) 0

/-- LDPC_STAT.SBUSY: the decoders that decode. -/
def softBusy (d : Dev) : Nat := (d.med.soft.map (fun x => (x.dec.map (2 ^ ·)).getD 0)).foldl (· + ·) 0

/-- KEY_MARK of a slot. -/
def keyMark (d : Dev) (n : Nat) : Nat := if slotIs d n roleREST && !rdB d (F.KEY_STAT_FOREIGN n) then (keySlot d n).mark else 0

/-- LOG_HELD. -/
def logHeld (d : Dev) : Nat := d.log.buf.length + (if rd d F.LOG_START_NUM == 0 then 0 else d.log.saved.length)

/-! ### The active value of a word -/

/-- A word of a 64-bit value. -/
def half (v : Nat) (hi : Bool) : Word := BitVec.ofNat 32 (if hi then v / 2 ^ 32 else v)

/-- Words of pages GLB to ADM that are views. -/
def viewLow (d : Dev) (off : Nat) : Option Word :=
  let w := fun (n : Nat) => some (BitVec.ofNat 32 n)
  if 0x120 ≤ off && off < 0x140 then some (evtSum d ((off - 0x120) / 4))
  else if off == 0x150 || off == 0x154 then some (half d.sys.time (off == 0x154))
  else if off == 0x1054 then w configWordCount
  else if 0x12040 ≤ off && off < 0x12080 then some (seatAtt d ((off - 0x12040) / 4))
  else if off == 0x12084 then some (seatInfo d (rd d F.SEAT_SEL_SEAT))
  else if off == 0x12088 then some (seatInfo2 d (rd d F.SEAT_SEL_SEAT))
  else if off == 0x1208C then some (mkWord [(16, 10, (d.seats.filter (fun e => e.2.classD)).length), (0, 10, d.seats.length)])
  else if off == 0x13078 then w (linkRates d (rd d F.ADM_LSEL_LINK) % 2 ^ 24)
  else if off == 0x1307C then w (linkBack d (rd d F.ADM_LSEL_LINK))
  else if 8 ≤ pageOf off && pageOf off ≤ 0xB && inPage off < 0x440 && (inPage off - 0x40) % 0x20 == 0x1C then
    let m := 32 * (pageOf off - 8) + (inPage off - 0x40) / 0x20
    if m ≤ 110 then some (mkWord [(8, 8, memDomain m), (0, 8, if m < 32 then 1 else 2)]) else none
  else none

/-- Words of the scheduler, media and administration pages that are views. -/
def viewHigh (d : Dev) (off : Nat) : Option Word :=
  let w := fun (n : Nat) => some (BitVec.ofNat 32 n)
  let put := fun (l : List (Nat × Nat × Nat)) => some (l.foldl (fun x f => putBits x f.1 f.2.1 f.2.2) (actW d off))
  if off == 0x18064 then some (luninfo d (rd d F.COX_LSEL_LUN))
  else if off == 0x1806C then some (dval d (rd d F.COX_DSEL_STREAM))
  else if off == 0x1E080 then some (traceData d)
  else if off == 0x1F07C then w (ceilDiv (dirtyBytes d) 1024)
  else if off == 0x2004C then w (ceilDiv (patchBlocks d) 256)
  else if off == 0x20054 then w (fineUsed d)
  else if off == 0x2005C then w (gcnt d (rd d F.MAP_GSEL_VOL) (rd d F.MAP_GSEL_KGEN))
  else if 0x22048 ≤ off && off ≤ 0x22060 && !accepted d && !(off == 0x22058) then some 0
  else if off == 0x22048 then put [(31, 1, b2n d.med.gcv.isSome), (0, 24, freeBattens d)]
  else if off == 0x2204C then w (gcFloor d)
  else if off == 0x22050 then w (gcCrit d)
  else if off == 0x22054 then w (batsInService d)
  else if off == 0x22058 then w (d.med.gcv.getD 0xFFFFFF)
  else if off == 0x2205C then w (cUse d)
  else if off == 0x22060 then w (validMiB d)
  else if off == 0x23044 then w (wearMin d)
  else if off == 0x23048 then w (wearMax d)
  else if off == 0x2304C then w (wearAvg d)
  else if off == 0x23050 then
    w (if rd d F.WEAR_ENDUR_COUNT == 0 then 0 else min (wearAvg d * 10000 / rd d F.WEAR_ENDUR_COUNT) 65535)
  else if off == 0x23064 then
    let l := rd d F.WEAR_LSEL_LUN
    if d.med.nand.luns.contains l then some (mkWord [(16, 16, spareLeft d l), (0, 16, (lunRecOf d l).retired.length)]) else some 0
  else if off == 0x2804C then w (softBusy d)
  else if off == 0x2904C || off == 0x29050 then some (half (rebuildBytes d) (off == 0x29050))
  else if off == 0x29054 then w (exposed d)
  else if off == 0x29058 then w (heldCount d)
  else if off == 0x29064 then w (accumulators d)
  else if off == 0x71444 || off == 0x71448 then some (half (keyMark d (rd d F.KEY_MSEL_SLOT)) (off == 0x71448))
  else if off == 0x7D044 then w (adminTest d)
  else if off == 0x7E048 then w (logHeld d)
  else none

/-- The active value of a block register. -/
def liveWord (d : Dev) (off : Nat) : Word :=
  match (if off < 0x14000 then viewLow d off else viewHigh d off) with
  | some w => w
  | none => actW d off

/-- A register read as its shadow and active copies and VIEW say (R45, R50). -/
def viewWord (d : Dev) (off : Nat) : Word :=
  let m := shMask off
  if m == 0 || (hdrOf d (pageOf off)).view then liveWord d off
  else (liveWord d off &&& ~~~ m) ||| shdW d off

/-- A word of an implemented page whose block registers answer. -/
def readWord (d : Dev) (off : Nat) : Word :=
  if inPage off < 0x40 then hdrWord d (pageOf off) (inPage off) else viewWord d off

/-- The active value for a snapshot: 0 where the page does not answer (R68). -/
def statWord (d : Dev) (off : Nat) : Word := if answers d (pageOf off) then liveWord d off else 0

/-! ### BAR2 (R122, R127) -/

/-- A word of the function control page. -/
def fnWord (d : Dev) (fn o : Nat) : Word :=
  let c := ctlOf d fn
  if o == 0x00 then mkWord [(10, 1, b2n (isMgmt fn)), (9, 1, fnPort fn), (7, 2, fnLink fn), (0, 7, fnVf fn)]
  else if o == 0x04 then mkWord [(0, 16, rd d (F.PRT_RATE_RATE (fnPort fn) (fnLink fn)))]
  else if o == 0x08 then foldUpto 32 (fun k w => putBits w k 1 (b2n (seatAt? d fn k).isSome)) 0
  else if o == 0x10 then BitVec.ofNat 32 c.sqb
  else if o == 0x14 then BitVec.ofNat 32 (c.sqb / 2 ^ 32)
  else if o == 0x18 then BitVec.ofNat 32 c.cqb
  else if o == 0x1C then BitVec.ofNat 32 (c.cqb / 2 ^ 32)
  else if o == 0x20 then mkWord [(16, 3, c.req / 2 ^ 16), (0, 11, c.req)]
  else if o == 0x24 then mkWord [(31, 1, b2n c.rspDone), (24, 4, c.rspStatus), (16, 5, c.rspWin), (0, 9, c.rspSeat)]
  else if o == 0x28 then mkWord [(0, 5, c.relWin)]
  else if o == 0x2C then mkWord [(31, 1, b2n c.relDone), (24, 4, c.relStatus)]
  else 0

/-- A word of a seat window: 0 where the window holds no attached seat. -/
def winWord (d : Dev) (fn k o : Nat) : Word :=
  match (seatAt? d fn k).bind (fun n => (seatOf? d n).map (fun v => (n, v))) with
  | none => 0
  | some (n, v) =>
    if o == 0x00 then mkWord [(0, 5, v.sqt)]
    else if o == 0x04 then mkWord [(0, 5, v.cqh)]
    else if o == 0x08 then mkWord [(8, 1, b2n v.ien)]
    else if o == 0x0C then mkWord [(31, 1, 1), (30, 1, b2n v.resetting), (29, 1, b2n v.sqerr), (28, 1, b2n v.classD), (27, 1, b2n v.idle),
      (26, 1, b2n v.reapAt.isSome), (12, 9, n), (5, 5, v.cqt), (0, 5, v.sqh)]
    else if o == 0x10 then mkWord [(8, 5, v.cqint / 2 ^ 8), (0, 8, v.cqint)]
    else 0

/-- A word of BAR2 of a function. -/
def bar2Word (d : Dev) (fn off : Nat) : Word :=
  if off < 0x1000 then fnWord d fn off
  else if off < 0x21000 then winWord d fn (off / 0x1000 - 1) (off % 0x1000)
  else 0

end Sys2Proof.Machine
end

