-- ==== Sys2Proof/Machine/Admin.lean ====
section
/-!
DEFINITION. Administrative commands: SANITISE, FORMAT, LOG_READ, the steps of a sanitise and the end of media initialisation (R426 to
R436).
-/
namespace Sys2Proof.Machine

/-- Commands that have not started and that the running operation refuses complete with MODE_REFUSED (R428). [log entry 99 DEDUCED] -/
def refuseReady (d : Dev) (own : Nat) : Dev :=
  (d.cmds.list.filter (fun c => c.stage == .ready && !(c.seq == own) && adminRefuses d c)).foldl
    (fun d c => complete d c stMODE 0) d

/-- SANITISE: START begins. [log entry 99 DEDUCED] -/
def execSanitise (seat tag : Nat) (s : State) : Host.Outcome State Fault Refusal :=
  let d := s.dev
  finish s (match readyCmd? d seat tag opSANITISE with
    | none => d
    | some c =>
      if adminRefuses d c || modeRefuses d c then complete d c stMODE 0
      else
        let d1 := modCmd d c.seq (fun x => { x with stage := .wait })
        refuseReady (adminStart d1 (some c.seq) (bitsOf (cOp c 0) 0 2) 1 0 (bitOf (cOp c 0) 2)) c.seq)

/-- FORMAT: a volume is unmapped, or new media are initialised. `recordOk` says that the volume record will reach a system
batten. [log entry 101 DEDUCED] -/
def execFormat (seat tag : Nat) (recordOk : Bool) (s : State) : Host.Outcome State Fault Refusal :=
  let d := s.dev
  finish s (match readyCmd? d seat tag opFORMAT with
    | none => d
    | some c =>
      if adminRefuses d c || modeRefuses d c then complete d c stMODE 0
      else
        let d1 := modCmd d c.seq (fun x => { x with stage := .wait })
        if newMedia d then adminStart d1 (some c.seq) 4 0 (cVol c) false
        else
          let d2 := formatUnmap (adminStart d1 (some c.seq) 3 0 (cVol c) false) (cVol c) recordOk
          if canChunk d2 then chunkStart d2 false else d2)

/-- SANITISE_STEP_DONE (R427): START ends when no other started command is left. -/
def execSanitiseStepDone (s : State) : Host.Outcome State Fault Refusal :=
  let d := s.dev
  finish s (guardDev (cpuRuns d && accepted d && sanitising d && (!(rd d F.ADMIN_PROG_STEP == 1) || adminAlone d)) d (sanAdvance d))

/-- MEDIA_INIT_DONE (R430): `bad` are the factory marks that were read. -/
def execMediaInitDone (bad : List (Nat × Nat)) (s : State) : Host.Outcome State Fault Refusal :=
  let d := s.dev
  finish s (guardDev (cpuRuns d && accepted d && adminBusy d && adminOp d == 4) d (mediaInit d bad))

/-! ### LOG_READ (R433 to R435) -/

/-- The 16 words of an entry. -/
def entryWords (e : LogEnt) : List Nat :=
  [e.start, e.n, e.time % 2 ^ 32, e.time / 2 ^ 32, e.code + 2 ^ 16 * e.sev] ++ (List.range 11).map (fun i => (e.params.getD i 0).toNat)

/-- Entries of the persistent log that can be read: all of them from VERIFY on, while the gate is not ACCEPTED those of the current
power-up (R106, R433). -/
def logSaved (d : Dev) : List LogEnt :=
  let st := rd d F.LOG_START_NUM
  if st == 0 then [] else if accepted d then d.log.saved else d.log.saved.filter (fun e => e.start == st)

/-- The entries that can be read, oldest first. -/
def logEntries (d : Dev) : List LogEnt := (d.log.buf ++ logSaved d).reverse

/-- Units of the event log from an index. -/
def logUnits (d : Dev) (idx n : Nat) : List Block :=
  let es := (logEntries d).drop idx
  (List.range n).map (fun k => blkOfWords (((es.drop (64 * k)).take 64).flatMap entryWords) 0)

/-- The registers of the health snapshot, in order, before the sum of MEMx_UE and the powered time. -/
def healthRegs : List Nat :=
  [0x84, 0x1040, 0x2078, 0x4068, 0x406C, 0x19050, 0x23044, 0x23048, 0x2304C, 0x23050, 0x25040, 0x25050, 0x2205C, 0x22060, 0x13060,
   0x28060, 0x28064, 0x29054, 0x70054]

/-- The health snapshot. -/
def healthUnit (d : Dev) : Block :=
  let ue := (List.range 111).foldl (fun a m => a + rd d (F.MEMx_UE_COUNT m)) 0
  blkOfWords (healthRegs.map (fun o => (statWord d o).toNat) ++ [ue, d.admin.powered + d.sys.time / 1000000000]) 0

/-- LOG_READ. -/
def execLogRead (seat tag : Nat) (s : State) : Host.Outcome State Fault Refusal :=
  let d := s.dev
  finish s (match readyCmd? d seat tag opLOG with
    | none => d
    | some c => match seatOf? d seat with
      | none => d
      | some v => guardDev (fnReachable d v.fn) d
        (succeed (emit d (.push seat tag 0 (if bitsOf (cOp c 0) 0 4 == 0 then logUnits d (cLba c) (cLen c) else [healthUnit d]))) c))

end Sys2Proof.Machine
end

