-- ==== Sys2Proof/Machine/Channel.lean ====
section
/-!
DEFINITION. Channels in service: host isolation, training, tracking (R300 to R308).
-/
namespace Sys2Proof.Machine


/-- The PLL of a channel group is locked (R84, R303). -/
def groupPll (d : Dev) (c : Nat) : Bool := bitOf (rd d F.CLK_STAT_LOCK) (5 + c / 4)

/-- A refused ISO or TRAIN. -/
def chnRefuse (d : Dev) (c iref : Nat) : Dev := raise (wr d (F.CHN_STAT_IREF c) iref) (chnPage c) 13

/-- A batten with valid data has a member on the channel and one on an isolated channel or a failed LUN (R305). -/
def exposes (d : Dev) (c : Nat) : Bool :=
  !((batsWhere d (fun b v => !(v.st == .free) && !(v.st == .dissolved) && (memberLuns d b).any (onChn c)
      && (memberLuns d b).any (fun l => !onChn c l && !lunKept d l))).filter (fun b => batValid d b > 0)).isEmpty

/-- A host request to isolate a channel (R305, R306). -/
def chnIsoReq (d : Dev) (c : Nat) : Dev :=
  let left := ((healthyLuns d).filter (fun l => !lunLeaving d l && !onChn c l)).length
  if !(chnState d c == chSERVE) then chnRefuse d c 1
  else if rMediaOf left (rd d F.MEDIA_RPROG_MBS) (batW d) - d.med.rung1Cut < judgedRates d then chnRefuse d c 2
  else if exposes d c then chnRefuse d c 3
  else setCh d c { chOf d c with isolating := true }

/-- A request to train a channel (R303): its LUNs stay out of service until it serves (R307). The PLL of its group takes its rate when no
other channel of the group serves or trains. [log entry 72 DEDUCED] -/
def chnTrainReq (d : Dev) (c : Nat) : Dev :=
  if !(chnState d c == chISO) || !groupPll d c then chnRefuse d c 1
  else
    let quiet := (List.range 4).all (fun i => !(chnState d (4 * (c / 4) + i) == chSERVE || chnState d (4 * (c / 4) + i) == chTRAIN))
    let d1 := if quiet then setPllRate d c (rd d (F.CHN_TSET_RATE c)) else d
    trainStart (setCh d1 c { chOf d1 c with retrain := true }) c

/-- The action bits of a write of CHN_CTL, after EVAC is stored. ISO is judged first, then TRAIN. [log entry 138 DESIGN CHOICE] -/
def chnCtlWrite (d : Dev) (c : Nat) (v : Word) : Dev :=
  let d1 := if bitOf v.toNat 0 then chnIsoReq d c else d
  if bitOf v.toNat 1 then chnTrainReq d1 c else d1

/-- Nothing is queued or in flight on the LUNs of a channel. -/
def chnQuiet (d : Dev) (c : Nat) : Bool :=
  d.cox.luns.all (fun e => !onChn c e.1 || (e.2.exec.isNone && e.2.asleep.isNone && e.2.q.isEmpty))

/-- HOST_ISOLATION_DONE (R306, R442): the work in flight and the replacement eave erases have ended. -/
def execHostIsolationDone (chn : Nat) (s : State) : Host.Outcome State Fault Refusal :=
  let d := s.dev
  finish s (guardDev (running d && accepted d && chn < 64 && (chOf d chn).isolating && chnQuiet d chn && eaveReady d) d
    (let d1 := lunsOut (setIsolated d chn icHOST) (onChn chn) 0
     let d2 := if rdB d (F.CHN_CTL_EVAC chn) then victimsOf d1 (onChn chn) 3 else d1
     lunsChanged (eavePump d2)))

/-- A training that ends before step SWITCH leaves the group's PLL to the lowest channel that trains still, unless a channel serves. [log
entry 72 DEDUCED] -/
def pllPass (d : Dev) (c fail : Nat) : Dev :=
  let mates := ((List.range 4).map (fun i => 4 * (c / 4) + i)).filter (fun x => !(x == c))
  if fail == 0 || fail ≥ 4 || mates.any (fun x => chnState d x == chSERVE) then d
  else match mates.find? (fun x => chnState d x == chTRAIN) with
    | some x => setPllRate d c (chOf d x).tRate
    | none => d

/-- TRAINING_DONE (R302, R303, R307) outside stage TRAIN. -/
def execTrainingDone (res : TrainRes) (s : State) : Host.Outcome State Fault Refusal :=
  let d := s.dev
  let c := res.chn
  finish s (guardDev (running d && !clockHeld d (5 + c / 4) && accepted d && !(inRecover d && rd d F.GLB_STAT_RSTAGE == 1) && c < 64 && chnState d c == chTRAIN) d
    (let d1 := pllPass (trainEnd d res) c (trainFail d res)
     lunsChanged (if chnState d1 c == chISO then victimsOf d1 (onChn c) 3 else d1)))

/-- ZQ CALIBRATION SHORT of every declared target of a channel (R296, R304). -/
def zqShort (d : Dev) (c : Nat) : Dev :=
  ((List.range 16).filter (fun t => bitOf (rd d (F.CHN_MAP_TGT c)) t)).foldl (fun d t => nandOut d (targetLun c t) [.cmd 0xE1, .vol (t % 4), .cmd 0xD9]) d

/-- ZQ_SHORT_TIMER (R300): the short calibration of a channel that serves leaves no state the registers show. [log entry 74 DEDUCED] -/
def execZqShortTimer (chn : Nat) (s : State) : Host.Outcome State Fault Refusal :=
  finish s (guardDev (running s.dev && !clockHeld s.dev (5 + chn / 4) && chn < 64 && chnState s.dev chn == chSERVE) s.dev (zqShort s.dev chn))

/-- Move one lane's read deskew by a step. -/
def deskew (d : Dev) (c : Nat) (m : Nat × Bool) : Dev :=
  let f : Fld := ⟨0x30060 + 0x1000 * c + 4 * (m.1 % 8 / 4), 8 * (m.1 % 4), 8⟩
  wr d f (if m.2 then rd d f + 1 else rd d f + 255)

/-- TRACKING_CHECK (R300, R304): `eye` in 2 ps; the lanes that move by a step, up or down. -/
def execTrackingCheck (chn eye : Nat) (moves : List (Nat × Bool)) (s : State) : Host.Outcome State Fault Refusal :=
  let d := s.dev
  finish s (guardDev (running d && !clockHeld d (5 + chn / 4) && accepted d && chn < 64 && chnState d chn == chSERVE) d
    (let e := min eye 255
     let ch := chOf d chn
     let win := rxWindow (rd d (F.CHN_STAT_RATE chn))
     let low := if 2 * e < win then ch.low + 1 else 0
     let mn := if ch.tracked then min e (rd d (F.CHN_HMARG_MIN chn)) else e
     let drift := 4 * mn < 3 * win
     let d1 := satAdd (moves.foldl (fun d m => deskew d chn m) d) (F.CHN_HTRN_DRIFT chn) moves.length
     let d2 := wrs (setCh d1 chn { ch with low := low, tracked := true, drifted := ch.drifted || drift })
       [(F.CHN_HMARG_NOW chn, e), (F.CHN_HMARG_MIN chn, mn)]
     let d3 := if drift && !ch.drifted then raise d2 (chnPage chn) 11 else d2
     if low ≥ 3 then chanFaultIsolate d3 chn icEYE else d3))

end Sys2Proof.Machine
end

