-- ==== Sys2Proof/Machine/ConfigSpace.lean ====
section
/-!
DEFINITION. What the configuration space of a function shows, and what it gives the TLPs the controller sends: identities, BAR types
and sizes, the SR-IOV and MSI-X sizes, which capabilities are advertised, request attributes, tag widths, completion timeouts and
the LTR of a link (R114, R115, R119 to R121). No command of the table reads configuration space; the settings the host writes there
are `Pci.bme`, `Pci.mse`, `Pci.devCtl`, `Pci.msixEn`, `Pci.msixFm`, `Pci.aspm` and `Pci.ltr`.
-/
namespace Sys2Proof.Machine

/-- Device ID of a physical and of a virtual function (R120). -/
def deviceId (d : Dev) (fn : Nat) : Nat :=
  (if d.sys.fuse.variant == 2 then 0x6412 else 0x6424) + b2n (fnVf fn != 0)

/-- Vendor ID, and serial number of the Device Serial Number capability, from the fuses (R86 step 4, R120). -/
def vendorId (d : Dev) : Nat := d.sys.fuse.vendor % 0x10000
def deviceSerial (d : Dev) : DWord := d.sys.fuse.serial

/-- Class code: other mass storage controller (R120). -/
def classCode : Nat := 0x018000

/-- Interrupt Pin reads 0: there is no INTx (R114). -/
def interruptPin : Nat := 0

/-- TotalVFs of a physical function's SR-IOV capability (R120). -/
def totalVfs : Nat := 64

/-- MSI-X vectors of a function, and the places of their table and pending bits in BAR4 (R114, R121). -/
def msixVectors : Nat := 2048
def msixTableOff : Nat := 0x0000
def msixPbaOff : Nat := 0x8000

/-- What a word of BAR4 of a function reads as (R121, R132): the MSI-X table, whose Vector Control word holds the Mask bit, the Pending Bit
Array, and 0 elsewhere. -/
def bar4Word (d : Dev) (fn off : Nat) : Word :=
  if off < msixTableOff + 16 * msixVectors then
    if off / 4 % 4 == 3 then BitVec.ofNat 32 (b2n !(d.pci.vecOn.contains (2048 * fn + off / 16)))
    else d.pci.msixTab.read (fun _ => 0) (8192 * fn + off / 4)
  else if msixPbaOff ≤ off && off < msixPbaOff + msixVectors / 8 then
    foldUpto 32 (fun b w => putBits w b 1 (b2n (d.pci.pba.contains (2048 * fn + 8 * (off / 4 * 4 - msixPbaOff) + b)))) 0
  else 0

/-- Size in bytes of the 64-bit BAR that starts at BAR register `bar`; 0 where the function implements none (R121). -/
def barSize (fn bar : Nat) : Nat :=
  if bar == 0 then (if isMgmt fn then 0x4000000 else 0)
  else if bar == 2 then 0x40000
  else if bar == 4 then 0x10000
  else 0

/-- Type bits of a BAR register: memory, 64-bit, non-prefetchable in the low half of an implemented pair (R121). -/
def barType (fn bar : Nat) : Nat := if barSize fn bar == 0 then 0 else 4

/-- Capabilities a function may have; those R114 does not list as supported are not advertised. -/
inductive PcieFeature where
  | flit | srIov | ari | flr | aer | ecrc | msix | aspmL1 | l0p | ltr
  | msi | intx | aspmL0s | l1Substates | ats | pasid | tph | peerToPeer | atomicOps | ide | doe | resizableBar
  deriving DecidableEq, Repr

/-- A feature is supported and advertised (R114, R12); a virtual function has no SR-IOV capability of its own (R120). -/
def advertised (fn : Nat) : PcieFeature → Bool
  | .srIov => fnVf fn == 0
  | .flit | .ari | .flr | .aer | .ecrc | .msix | .aspmL1 | .l0p | .ltr => true
  | .msi | .intx | .aspmL0s | .l1Substates | .ats | .pasid | .tph | .peerToPeer | .atomicOps | .ide | .doe | .resizableBar => false

/-- The requests the controller makes of the host. -/
inductive HostReq where
  | dataWrite | dataRead | entryFetch | segListFetch | completion | msix
  deriving DecidableEq, Repr

/-- Capability settings of a function. -/
def devCtlOf (d : Dev) (fn : Nat) : DevCtl := d.pci.devCtl.getD fn {}

/-- Relaxed Ordering of a request: data writes and data reads only, where enabled (R114). -/
def relaxedOf (d : Dev) (fn : Nat) : HostReq → Bool
  | .dataWrite | .dataRead => (devCtlOf d fn).relaxed
  | _ => false

/-- No Snoop of a request (R114). -/
def noSnoopOf (d : Dev) (fn : Nat) : HostReq → Bool
  | .dataWrite | .dataRead => (devCtlOf d fn).noSnoop
  | _ => false

/-- Longest read request and longest payload of a function's requests, in bytes (R114, R117). -/
def maxReadBytes (d : Dev) (fn : Nat) : Nat := 128 * 2 ^ min (devCtlOf d fn).mrrs 5
def maxPayloadBytes (d : Dev) (fn : Nat) : Nat := 128 * 2 ^ rd d (F.PRT_LSTAT_MPS (fnPort fn) (fnLink fn))

/-- Tag bits of the requests on a function's link: 14 in flit mode, else 10 (R114). -/
def tagBits (d : Dev) (fn : Nat) : Nat := if rdB d (F.PRT_LSTAT_FLIT (fnPort fn) (fnLink fn)) then 14 else 10

/-- Read requests of a data read of `n` bytes (R114): none is longer than the Max_Read_Request_Size. -/
def readRequests (d : Dev) (fn n : Nat) : Nat := (n + maxReadBytes d fn - 1) / maxReadBytes d fn

/-- LTR a link reports, snoop and no-snoop, in ns; none while LTR is not enabled (R119): 1 µs with a class D seat of IDLE 0 on the
link, else the PWR_EXIT latency of the power state, which P0 has none of. -/
def ltrOf (d : Dev) (port link : Nat) : Option Nat :=
  if !d.pci.ltr.contains (4 * port + link) then none
  else if linkBusy d port link then some 1000
  else
    let st := rd d F.PWR_PSTAT_STATE
    some (if st == 0 then 0 else rd d (F.PWR_EXIT st) * 1000)

end Sys2Proof.Machine
end

