-- ==== Sys2Proof/Machine/PowerStates.lean ====
section
/-!
DEFINITION. Power states P0 to P3 and the temperature monitor (R417 to R425).
-/
namespace Sys2Proof.Machine

/-! ### Power states (R417 to R420) -/

/-- Domains a power state gates. -/
def psDomains (n : Nat) : List Nat :=
  (if n ≥ 1 then List.range 16 else []) ++ (if n ≥ 2 then [22, 23, 24, 25, 26] else [])
    ++ (if n ≥ 3 then [16, 17, 18, 19, 20, 21, 27, 28, 29] else [])

/-- A class D seat with IDLE 0 holds a contracted stream. -/
def busySeat (d : Dev) : Bool :=
  (contracted d).any (fun i => ((seatOf? d (rd d (F.STRM_STAT_SEAT i))).map (fun s => s.classD && !s.idle)).getD false)

/-- The device is idle for the entry into a state (R418). A raw firmware-array operation also keeps it from P3. [log entry 79 DEDUCED] -/
def idleFor (d : Dev) (n : Nat) : Bool :=
  !busySeat d && d.med.ring.isEmpty && d.med.deltas.isEmpty && d.med.chunkNow.isNone && d.cmds.list.isEmpty
    && rd d F.DMV_RUN_CH == 0
    && d.cox.luns.all (fun e => e.2.exec.isNone && e.2.asleep.isNone && e.2.q.isEmpty) && d.med.work.isEmpty
    && rd d F.GLB_CATCH_DONE_DONE == 0xFF
    && !(allPages.any (fun p => (psDomains n).contains (domainOf p) && (hdrOf d p).pend))
    && d.sys.domOp.isNone && !adminBusy d && d.mem.repair.isNone && !d.cmds.activating && (n < 3 || d.array.ops.isEmpty)
    && !rdB d F.PWR_PSCTL_HOLD

/-- The state is enabled by PWR_PSEN. -/
def psEnabled (d : Dev) (n : Nat) : Bool :=
  if n == 1 then rdB d F.PWR_PSEN_P1EN else if n == 2 then rdB d F.PWR_PSEN_P2EN else n == 3 && rdB d F.PWR_PSEN_P3EN

/-- Every link that is up is in L1. -/
def linksInL1 (d : Dev) : Bool :=
  (List.range 8).all (fun l => !linkUpB d (l / 4) (l % 4) || rdB d (F.PRT_LSTAT_L1 (l / 4) (l % 4)))

/-- IDLE_THRESHOLD (R419): the idle timer reaches PWR_IDLEn; the entry starts. -/
def execIdleThreshold (n : Nat) (s : State) : Host.Outcome State Fault Refusal :=
  let d := s.dev
  finish s (guardDev (serving d && accepted d && rd d F.GLB_STAT_MODE == 5 && psEnabled d n && rd d F.PWR_PSTAT_STATE < n
      && !inTransition d && idleFor d n && (n < 3 || linksInL1 d)) d
    (wr { d with sys := { d.sys with psTarget := n } } F.PWR_PSTAT_ENTERING 1))

/-- A domain whose gating waits: a page of it has pending shadows, or it is the LDPC domain of a group that is still on (R24, R58). -/
def psWaits (d : Dev) (dom : Nat) : Bool :=
  domPend d dom || (22 ≤ dom && dom ≤ 25 && (List.range 4).any (fun i => domOn d (4 * (dom - 22) + i)))

/-- A power state gates one domain, or defers it; links stay in L1 (R58, R417, R421). -/
def psGate (d : Dev) (dom : Nat) : Dev :=
  if !domOn d dom then d
  else if psWaits d dom then { d with sys := { d.sys with psLate := nins dom d.sys.psLate } }
  else
    let d1 := setPagesOn (pllFollow (setBit d F.PWR_DOMSTAT_ON dom false) dom) dom false
    let d2 := if dom ≤ 15 then groupState d1 dom chSERVE chGATED else if 18 ≤ dom && dom ≤ 21 then showCipher (maskLost d1 (dom - 18)) else d1
    { d2 with sys := { d2.sys with psGated := nins dom d2.sys.psGated, psLate := ndel dom d2.sys.psLate
                                   readOpen := ndel dom d2.sys.readOpen } }

/-- The domains that a power state could not gate are gated once their PEND clears, while the state lasts (R58). -/
def psLater (d : Dev) : Dev :=
  if d.sys.psLate.isEmpty then d
  else if rd d F.PWR_PSTAT_STATE == 0 || rdB d F.PWR_PSTAT_EXITING then { d with sys := { d.sys with psLate := [] } }
  else d.sys.psLate.foldl psGate d

/-- The domains are gated and the state is entered; in P3 the loops stop and unfinished traces are discarded (R212, R419). -/
def psAsleep (d : Dev) : Dev :=
  let n := d.sys.psTarget
  let d1 := (psDomains n).foldl psGate (if n ≥ 3 then traceDrop d else d)
  raise (wrs d1 [(F.PWR_PSTAT_STATE, n), (F.PWR_PSTAT_ENTERING, 0)]) 2 11

/-- PS_ENTRY_DONE: commands of PWR_DOMCMD held by the transition follow, unless the exit does. -/
def execPsEntryDone (s : State) : Host.Outcome State Fault Refusal :=
  let d := s.dev
  finish s (guardDev (serving d && rdB d F.PWR_PSTAT_ENTERING) d
    (let d1 := psAsleep d
     if rdB d1 F.PWR_PSTAT_EXITING then d1 else domRelease d1))

/-- Read-only fields of the pages of domains 27 and 29 that restart after P3 (R68); the loops restart (R212). [log entries 76 DEDUCED; 104 DEDUCED] -/
def p3Restart (d : Dev) : Dev :=
  let d1 := wrs (wr64 (wr64 d 0x18050 0) 0x19064 0) [(F.COX_ESUSP_COUNT, 0), (F.COX_ESLIM_COUNT, 0), (F.STK_PMEAS_MW, 0),
    (F.STK_RPWR_TLIM, 0), (F.STK_RPWR_PLIM, 0), (F.STK_RPWR_CAND, 0xFFFFFF), (F.FWA_OPSTAT_CODE, 0), (F.FWA_PSTAT_RESULT, 0)]
  arrayShow (strokeRestart d1)

/-- The domains the state gated and host software has not are on again, the device is in P0 (R420). -/
def psAwake (d : Dev) : Dev :=
  let back := d.sys.psGated.filter (fun k => !bitOf (rd d F.PWR_DOMHOST_HOST) k)
  let d1 := back.foldl powerOn { d with sys := { d.sys with psGated := [], psLate := [] } }
  let d2 := if rd d F.PWR_PSTAT_STATE == 3 then p3Restart d1 else powerArm d1
  raise (wrs d2 [(F.PWR_PSTAT_STATE, 0), (F.PWR_PSTAT_EXITING, 0)]) 2 12

/-- PS_EXIT_COMPLETE (R420): a mode change that waited ends, the held work goes on. -/
def execPsExitComplete (s : State) : Host.Outcome State Fault Refusal :=
  let d := s.dev
  finish s (guardDev (serving d && rdB d F.PWR_PSTAT_EXITING && !rdB d F.PWR_PSTAT_ENTERING) d
    (let d1 := psAwake d
     releaseHeld (domRelease (admRecompute (if rdB d1 F.GLB_STAT_TRANS then transClear d1 else d1)))))

/-- A write of PWR_PSCTL: WAKE is a wake event, HOLD is stored by the register write. -/
def psctlWrite (d : Dev) (v : Word) : Dev := if bitOf v.toNat 0 then wake d 3 else d

/-! ### Temperatures (R423 to R425, R437) -/

/-- Signed value of a temperature field. -/
def tempOf (v : Nat) : Int := (BitVec.ofNat 16 v).toInt

def intIns (x : Int) : List Int → List Int
  | [] => [x]
  | y :: l => if x ≤ y then x :: y :: l else y :: intIns x l

/-- Twice the median of a list. [log entry 78 DEDUCED] -/
def median2 (l : List Int) : Int :=
  let s := l.foldr intIns []
  s.getD ((s.length - 1) / 2) 0 + s.getD (s.length / 2) 0

/-- Sensors that do not answer, or differ from the median of sensors 0 to 7 by more than 20 °C. [log entry 78 DEDUCED] -/
def badSensors (temps : List Nat) (answered : List Bool) : List Nat :=
  let t := fun n => tempOf (temps.getD n 0)
  let ok := fun n => answered.getD n true
  let m := median2 (((List.range 8).filter ok).map t)
  (List.range 10).filter (fun n => !ok n || (2 * t n - m).natAbs > 640)

/-- Hottest of the sensors that count, ties to the lower number: number and temperature field. [log entry 78 DEDUCED] -/
def hottest (temps : List Nat) (out : List Nat) : Option (Nat × Nat) :=
  ((List.range 10).filter (fun n => !out.contains n)).foldl (fun acc n =>
    match acc with
    | none => some (n, temps.getD n 0 % 65536)
    | some a => if tempOf (temps.getD n 0) > tempOf a.2 then some (n, temps.getD n 0 % 65536) else some a) none

/-- Ends of the Tj range in °C (R2). -/
def minTj (d : Dev) : Int := if d.sys.fuse.variant == 1 then -40 else 0

/-- A die sensor lies more than 15 °C outside the Tj range (R349). -/
def tempOut (d : Dev) (temps : List Nat) (answered : List Bool) : Bool :=
  (List.range 8).any (fun n => answered.getD n true
    && (tempOf (temps.getD n 0) > (maxTj d + 15) * 16 || tempOf (temps.getD n 0) < (minTj d - 15) * 16))

/-- THERMAL_SAMPLE: every sensor is read, with the controller power in mW; THM_HOT, THM_PEAK, WARN and SENSOR follow. -/
def execThermalSample (temps : List Nat) (answered : List Bool) (mw : Nat) (s : State) : Host.Outcome State Fault Refusal :=
  let d := s.dev
  finish s (guardDev d.sys.aon d
    (let d1 := foldUpto 10 (fun n d => if answered.getD n true then wr d (F.THM_TEMP n) (temps.getD n 0) else d) d
     let out := badSensors temps answered
     let d2 := if out.any (fun n => !d.admin.excluded.contains n) then raise d1 4 10 else d1
     let d3 : Dev := { d2 with admin := { d2.admin with excluded := out, aonPower := min mw 0x1FFFF } }
     let d4 := if tempOut d temps answered then d3 else almLive d3 almTEMP false
     match hottest temps out with
     | none => d4
     | some (src, t) =>
       let d5 := wrs d4 [(F.THM_HOT_SRC, src), (F.THM_HOT_T, t)]
       let d6 : Dev := if !d.admin.hotSeen || tempOf t > rdS16 d F.THM_PEAK_T then
           { (wrs d5 [(F.THM_PEAK_SRC, src), (F.THM_PEAK_T, t)]) with admin := { d5.admin with hotSeen := true } } else d5
       if tempOf t > rdS16 d F.THM_WARN_T then
         (if d.admin.warnOff then d6 else raise { d6 with admin := { d6.admin with warnOff := true } } 4 8)
       else if tempOf t ≤ rdS16 d F.THM_WARN_T - 48 then { d6 with admin := { d6.admin with warnOff := false } }
       else d6))

/-- THERMAL_TRIP (R424): the hottest sensor has stayed above THM_TRIP for 1 ms; the flush starts as for a rail loss (R78). -/
def execThermalTrip (s : State) : Host.Outcome State Fault Refusal :=
  let d := s.dev
  finish s (guardDev (d.sys.aon && rdS16 d F.THM_HOT_T > rdS16 d F.THM_TRIP_T) d
    (let d1 := raise d 4 9
     if d.sys.dead || rd d F.GLB_BOOT_STAGE == 0xF || flushing d then d1 else flushBegin d1 6))

end Sys2Proof.Machine
end

