-- ==== Sys2Proof/Machine/Cox.lean ====
section
/-!
DEFINITION. The scheduling slot of the Cox: budgets, deficits, shares and the placement of operations in service order (R191 to R203).
-/
namespace Sys2Proof.Machine

/-! ### Step 2: budgets and deficits (R194, R196) -/

/-- Add a refill to a budget, up to twice the refill. -/
def refill (b : Int) (r : Nat) : Int := min (b + r) (2 * r)

/-- Bulk is served: any mode but RECOVER, and RECOVER from the end of FOLD. -/
def bulkServed (d : Dev) : Bool := !recovering d || rd d F.GLB_STAT_RSTAGE ≥ 6

/-- Read ceiling of the mode in 10 MB/s (R37). -/
def readCeiling (mode : Nat) : Nat :=
  if mode == 1 then 2000 else if mode == 2 then 6000 else if mode == 3 then 24000
  else if mode == 4 then 10000 else if mode == 5 then 2500 else 0

def writeRefill (d : Dev) : Nat := if inRecover d then (if bulkServed d then 1000000 else 0) else rd d F.ADM_RMODE_RMODE * 100
def readRefill (d : Dev) : Nat := if inRecover d then (if bulkServed d then 1000000 else 0) else readCeiling (modeNow d) * 100

/-- The activity budget is unlimited: by R_power as the slot latched it (R191). -/
def actFree (d : Dev) : Bool := d.cox.rpower == 0xFFFFFF
def actRefill (d : Dev) : Nat := max d.cox.rpower (rd d F.ADM_SUMR_SUMR) * 100

/-- Step 1: R_power and the contracted streams of the slot (R191). -/
def slotLatch (d : Dev) : Dev := { d with cox := { d.cox with rpower := rd d F.ADM_RPOWER_RPOWER, streams := contracted d } }

/-- The stream is contracted as the slot latched it. -/
def slotStream (d : Dev) (i : Nat) : Bool := d.cox.streams.contains i && (contracted d).contains i

/-- A ring slot has data that is not placed yet. -/
def slotWaits (d : Dev) (r : RingSlot) : Bool :=
  let cu := cuOf d
  r.batten == 0x1000000
    || d.med.work.any (fun w => w.batten == r.batten && !w.ridge && inUnit d r.off r.ext.tag.n w.stripe w.pos)
    || (!(cu == 0) && r.off + extCw r.ext.tag.n > (batOf d r.batten).wptr / cu * cu)

/-- Protected data of a stream that waits for placement. -/
def streamWaits (d : Dev) (i : Nat) : Bool := d.med.ring.any (fun e => e.2.live && e.2.stream == some i && slotWaits d e.2)

/-- Drain rate of a stream for one slot in bytes: its latched loop output in Q16.16 GB/s, or R_s before the first sample. -/
def slotGrant (d : Dev) (i : Nat) : Int :=
  if d.stk.fresh.contains i then (rd d (F.STRM_CONTRACT_RATE i) * 100 : Nat)
  else (rd d (F.STKL_UOUT_U i) * 10000 / 65536 : Nat)

/-- Refill the deficit of a stream. -/
def dfcRefill (d : Dev) (i : Nat) : Int :=
  let cap : Int := (rd d F.COX_DCAP_DCAP * 65536 : Nat)
  let v := d.cox.dfc.getD i 0
  let up := if v ≥ cap then v else min cap (v + slotGrant d i)
  if streamWaits d i then up else min up 0

/-- Step 2. -/
def slotRefill (d : Dev) : Dev :=
  let l := contracted d
  let d1 := { d with cox := { d.cox with
    budW := refill d.cox.budW (writeRefill d), budR := refill d.cox.budR (readRefill d), budA := refill d.cox.budA (actRefill d)
    rbBud := refill d.cox.rbBud (rd d F.RDG_RBRATE_RATE * 100) } }
  let dfc := l.foldl (fun m i => SMap.set m i (dfcRefill d i)) ([] : SMap Int)
  { d1 with cox := { d1.cox with dfc := dfc, dfcLast := dfc } }

/-! ### Step 3: placing (R192, R193, R195) -/

/-- Transfer capacity of a channel in 10 µs, in bytes. -/
def chCap (d : Dev) (c : Nat) : Nat := rateMT (rd d (F.CHN_STAT_RATE c)) * 10

/-- The gating of a channel group by host request is under way (R94). -/
def gatePending (d : Dev) (k : Nat) : Bool :=
  match d.sys.domOp with
  | some o => o.gate && o.dom == k
  | none => false

/-- A LUN can take one more operation; a program or an erase only while its group is not gated by host request, nor about to be
(R94). -/
def lunTakes (d : Dev) (write : Bool) (l : Nat) : Bool :=
  let c := lunChn l
  (if write then lunHealthy d l && !gatePending d (c / 4) else lunKept d l) && chnState d c == chSERVE && !(chOf d c).isolating
    && (lunOf d l).q.length < 4 && d.cox.use.chB.getD c 0 < chCap d c

/-- LUN time of an operation in µs. [log entry 60 DEDUCED] -/
def opTime (d : Dev) (o : FOp) : Nat :=
  match o.kind with
  | .prog => rd d F.MEDIA_TPROG_US
  | .read => rd d F.MEDIA_TR_US
  | .erase => rd d F.MEDIA_TBERS_US

/-- Bytes an operation moves over its channel. The count toward the limit of the channel (R193): the data bytes of a program, the bytes wanted of a read. [log entry 136 DESIGN CHOICE] -/
def opWire (d : Dev) (o : FOp) : Nat :=
  match o.kind with
  | .prog => unitPages d * 16384
  | .read => o.bytes
  | .erase => 0


/-- Use of the slot after one more operation. -/
def useMore (u : SlotUse) (c cls wire t : Nat) (risk : Bool) : SlotUse :=
  { chB := u.chB.set c (u.chB.getD c 0 + wire), gcT := u.gcT + (if cls == 3 then t else 0), ptT := u.ptT + (if cls == 6 then t else 0), allT := u.allT + t,
    r1T := u.r1T + (if cls == 1 && risk then t else 0) }

/-- Rung 1 work that R183 counts: class 1 but for the journal and the system battens, and the erases of the reserve. [log entry 151 DEDUCED] -/
def rungWork (d : Dev) (o : FOp) : Bool :=
  !o.eave && !((batOf d o.batten).role == .journal) && !((batOf d o.batten).role == .system)

/-- Put an operation on a LUN's queue, with its costs; the pages of a program take their WSEQ (R192 to R194, R202, R243). -/
def putOp (d : Dev) (l cls : Nat) (o : FOp) : Dev :=
  let isWrite := o.kind == .prog && (cls == 2 || cls == 4)
  let isRead := o.kind == .read && cls == 4 && hostRead d o.job
  let cost : Int := (o.bytes : Nat)
  let d1 := modLun d l (fun v => { v with q := v.q ++ [{ o with cls := cls }] })
  let d2 := { d1 with cox := { d1.cox with
    budW := if isWrite then d1.cox.budW - cost else d1.cox.budW
    budR := if isRead then d1.cox.budR - cost else d1.cox.budR
    budA := if cls == 1 then d1.cox.budA else d1.cox.budA - cost
    use := useMore d1.cox.use (lunChn l) cls (opWire d o) (opTime d o) (rungWork d o) } }
  if o.kind == .prog then
    add64 (modBat d2 o.batten (fun v => { v with wseq := v.wseq.set (64 * o.stripe + o.pos) (rd64 d F.MAP_WSEQ) })) F.MAP_WSEQ (unitPages d)
  else d2

/-- Budgets permit a program, an erase or a read of a class with user bytes. -/
def budgetOk (d : Dev) (cls : Nat) (kind : OpKind) (host : Bool) (bytes : Nat) : Bool :=
  cls == 1 || bytes == 0
    || ((actFree d || d.cox.budA > 0)
        && (!(kind == .prog && (cls == 2 || cls == 4)) || d.cox.budW > 0)
        && (!(kind == .read && cls == 4 && host) || d.cox.budR > 0))

/-- Value of a share counter: the sum over the window and what the slot in progress adds. [log entry 58 DEDUCED] -/
def shareOf (l : List Int) : Int := l.foldl (· + ·) 0
def gcGain (d : Dev) : Int := (rd d F.COX_POLICY_GCSH * d.cox.use.allT : Nat) - (200 * d.cox.use.gcT : Nat)
def ptGain (d : Dev) : Int := (rd d F.COX_POLICY_PTSH * d.cox.use.allT : Nat) - (200 * d.cox.use.ptT : Nat)
def gcShare (d : Dev) : Int := shareOf d.cox.gcHist + gcGain d
def ptShare (d : Dev) : Int := shareOf d.cox.ptHist + ptGain d

/-- A class may place one more operation (R201, R202). -/
def classOpen (d : Dev) (cls : Nat) : Bool :=
  if cls == 3 then gcAllowed d && gcShare d > 0
  else if cls == 4 then bulkServed d
  else if cls == 5 then gcMore d
  else if cls == 6 then patrolAllowed d && (gcMore d || ptShare d > 0)
  else true

/-- Class of a unit by itself (R196, R279): a stream that is no longer contracted goes to class 4; GC at the critical count is
rung 1 work. -/
def ownCls (d : Dev) (w : Work) : Nat :=
  match w.w with
  | .stream i => if w.cls == 2 && !slotStream d i then 4 else w.cls
  | .gc => if w.cls == 3 && rdB d F.GC_STAT_CRIT then 1 else w.cls
  | _ => w.cls

/-- Class work is placed in now: a unit that class 1 units of its batten have to wait for goes with them (R264). [log entry 153 DEDUCED] -/
def workCls (d : Dev) (w : Work) : Nat :=
  if d.med.work.any (fun x => x.batten == w.batten && (w.stripe < x.stripe || (x.ridge && x.stripe == w.stripe)) && ownCls d x == 1) then 1
  else ownCls d w

/-- It is the turn of a unit: the data units of earlier stripes of its batten, and the earlier units of its member, have been placed
(R196, R264). -/
def unitTurn (d : Dev) (w : Work) : Bool :=
  !d.med.work.any (fun x => x.batten == w.batten && x.stripe < w.stripe && (!x.ridge || x.pos == w.pos))

/-- The commit of a contracted stream waits for a batten that collection or folding has to give back. -/
def commitWaits (d : Dev) : Bool :=
  d.med.waitOpen.any (fun i => match d.med.ring.get? i with
    | some r => slotContracted d r
    | none => false)

/-- Class a job's reads are placed in now: a deadline read in class 1 (R195). [log entry 123 DEDUCED] -/
def jobCls (d : Dev) (j : ReadJob) : Nat :=
  match j.why with
  | .move _ => if (j.cls == 3 && rdB d F.GC_STAT_CRIT) || commitWaits d then 1 else j.cls
  | .fold _ _ =>
    if (j.cls == 3 && rdB d F.GC_STAT_CRIT && j.src.any (fun s => !s.1 && some (s.2 / 2 ^ 21) == d.med.gcv)) || commitWaits d then 1 else j.cls
  | _ => j.cls

/-- A ridge goes out after the data units of its stripe (R197). -/
def ridgeReady (d : Dev) (w : Work) : Bool :=
  !w.ridge || !d.med.work.any (fun x => !x.ridge && x.batten == w.batten && x.stripe == w.stripe)

/-- Stream of a work item. -/
def workStream (w : Work) : Option Nat := match w.w with
  | .stream i => some i
  | _ => none

/-- A LUN executes an erase, and one that has reached its suspend limit (R199). -/
def erasing (v : LunSt) : Bool := v.exec.any (fun o => o.kind == .erase)
def eraseStuck (d : Dev) (v : LunSt) : Bool := v.exec.any (fun o => o.kind == .erase && o.susp ≥ rd d F.MEDIA_TESUS_ESMAX)

/-- Place one program in its turn, not on a FAILING block (R264, R280). A stream program does not go to a LUN that is erasing: it asks for
a suspend, or waits for the erase that takes no further one (R26 step 7, R198, R199). -/
def placeWork (cls : Nat) (d : Dev) (w : Work) : Dev :=
  let l := memberLun d w.batten w.pos
  let v := lunOf d l
  if !classOpen d cls || !d.med.work.contains w || !unitTurn d w || !ridgeReady d w || (batOf d w.batten).failing.contains w.pos
      || !budgetOk d cls .prog false w.bytes || !lunTakes d true l then d
  else if cls ≤ 2 && (workStream w).isSome && erasing v then
    (if v.asking || eraseStuck d v then d else suspendOut (satAdd (modLun d l (fun v => { v with asking := true })) F.COX_ESUSP_COUNT 1) l .erase)
  else
    putOp { d with med := { d.med with work := d.med.work.erase w } } l cls
      { kind := .prog, cls := cls, batten := w.batten, stripe := w.stripe, pos := w.pos, bytes := w.bytes, ridge := w.ridge, stream := workStream w }

/-- Bytes of the next operation of a read unit: its wanted codewords, or those whose soft reads the decoder queue of the domain has room
for (R311). -/
def readBytes (d : Dev) (job : Nat) (u : ReadUnit) : Nat :=
  if u.st == .reread then 4096 * min (softLeft d job u).length (softRoom d (lunChn (memberLun d u.batten u.pos) / 16)) else u.bytes

/-- Place one read unit; an urgent read that finds a program of classes 3 to 6 asks once for its suspend (R200), if the NAND has one (R298).
Soft reads wait in the read queue of the LUN while the decoder queue is full (R311). [log entry 156 DEDUCED] -/
def placeRead (cls : Nat) (d : Dev) (e : Nat × ReadUnit) : Dev :=
  let u := e.2
  let l := memberLun d u.batten u.pos
  let n := readBytes d e.1 u
  if !classOpen d cls || !budgetOk d cls .read (hostRead d e.1) n || !lunTakes d false l || (u.st == .reread && n == 0) then d
  else
    let o : FOp := { kind := .read, cls := cls, batten := u.batten, stripe := u.stripe, pos := u.pos, bytes := n, job := e.1, off := u.off, soft := u.st == .reread }
    let d1 := putOp (modUnit d e.1 u.batten u.stripe u.pos (fun u => { u with st := .placed })) l cls o
    match (lunOf d l).exec with
    | some p =>
      if p.kind == .prog && p.cls ≥ 3 && p.susp == 0 && urgentRead d o && !(lunOf d l).asking && (lunOf d l).asleep.isNone
          && !(rd d F.MEDIA_TPSUS_US == 0) then
        suspendOut (modLun d1 l (fun v => { v with asking := true })) l .prog
      else d1
    | none => d1

/-- Place one erase: a LUN has at most one that is not complete. [log entry 127 DEDUCED] -/
def placeErase (cls : Nat) (d : Dev) (l : Nat) (o : FOp) : Dev :=
  let v := lunOf d l
  let has := (v.exec.toList ++ v.asleep.toList ++ v.q).any (fun x => x.kind == .erase)
  if classOpen d cls && !has && lunTakes d true l then putOp d l cls o else d

/-- Work to place. -/
inductive Item where
  | prog (w : Work)
  | read (job : Nat) (u : ReadUnit)
  deriving DecidableEq, Repr

def placeItem (cls : Nat) (d : Dev) (i : Item) : Dev :=
  match i with
  | .prog w => placeWork cls d w
  | .read j u => placeRead cls d (j, u)

/-- Programs and reads that wait in a class. -/
def progsOf (d : Dev) (cls : Nat) : List Item := (d.med.work.filter (fun w => workCls d w == cls)).map .prog
def readsOf (d : Dev) (cls : Nat) : List Item :=
  (d.med.jobs.filter (fun j => jobCls d j == cls)).flatMap (fun j => (j.units.filter (fun u => u.st == .todo || u.st == .reread)).map (.read j.id))

/-- Alternate two lists (R195). -/
def weave {α : Type} : List α → List α → List α
  | [], m => m
  | a :: l, [] => a :: l
  | a :: l, b :: m => a :: b :: weave l m

/-- A member is idle: it executes nothing and nothing is queued on it. -/
def lunIdle (d : Dev) (l : Nat) : Bool := (lunOf d l).exec.isNone && (lunOf d l).q.isEmpty

/-- The unit of a stream that goes out next: in the current stripe of one of its open battens, on an idle member where there is one, else
on one that takes a further operation (R192, R196). [log entry 154 DEDUCED] -/
def streamUnit? (d : Dev) (i : Nat) : Option Work :=
  let ws := d.med.work.filter (fun w => w.w == .stream i && workCls d w == 2 && unitTurn d w && ridgeReady d w
    && lunTakes d true (memberLun d w.batten w.pos) && budgetOk d 2 .prog false w.bytes
    && !(lunOf d (memberLun d w.batten w.pos)).asking && !eraseStuck d (lunOf d (memberLun d w.batten w.pos)))
  match ws.find? (fun w => lunIdle d (memberLun d w.batten w.pos)) with
  | some w => some w
  | none => ws.head?

/-- Eligible streams with a program that can go out, the largest deficit first, ties to the lower number. -/
def pickStream (d : Dev) (served : List Nat) : Option (Nat × Work) :=
  let cand := d.cox.streams.filterMap (fun i =>
    if served.contains i || d.cox.dfc.getD i 0 ≤ 0 then none else (streamUnit? d i).map (fun w => (i, w)))
  cand.foldl (fun acc c => match acc with
    | none => some c
    | some a => if d.cox.dfc.getD c.1 0 > d.cox.dfc.getD a.1 0 then some c else some a) none

/-- Place a class 2 program of a stream: its user bytes leave the deficit (R196). -/
def placeStream (d : Dev) (i : Nat) (w : Work) : Dev :=
  let d1 := placeWork 2 d w
  if d1.med.work.contains w then d1
  else { d1 with cox := { d1.cox with dfc := d1.cox.dfc.set i (d1.cox.dfc.getD i 0 - (w.bytes : Nat)) } }

/-- Serve class 2 by deficit, one operation of each stream per round (R196). The fuel bounds the operations and rounds. -/
def placeStreams : Nat → Dev → List Nat → Dev
  | 0, d, _ => d
  | n + 1, d, served =>
    match pickStream d served with
    | some (i, w) => placeStreams n (placeStream d i w) (i :: served)
    | none => if served.isEmpty then d else placeStreams n d []

/-- Erases of reclaimed battens and of eave blocks that still have to be placed, with their LUNs. -/
def eraseOps (d : Dev) (b : Nat) : List (Nat × FOp) :=
  (batOf d b).toErase.map (fun p => (memberLun d b p, { kind := .erase, cls := 3, batten := b, stripe := 0, pos := p }))

/-- A RECLAIMED batten starts its erase: members that cannot serve are replaced first (R267). -/
def beginErase (d : Dev) (b : Nat) : Dev :=
  let d1 := (badMembers d b).foldl (fun d p => if (batOf d b).st == .dissolved then d else replaceMember d b p) d
  if (batOf d1 b).st == .dissolved then d1
  else modBat d1 b (fun v => { v with st := .erasing, toErase := List.range d.med.nand.w, failing := [] })

/-- Place the erases of a class. -/
def placeErases (cls : Nat) (d : Dev) : Dev :=
  let d1 := if classOpen d cls then (batsWhere d (fun _ v => v.st == .reclaimed)).foldl beginErase d else d
  (batsWhere d1 (fun _ v => v.st == .erasing)).foldl (fun d b => (eraseOps d b).foldl (fun d e => placeErase cls d e.1 e.2) d) d1

/-- Erases of the eave reserve are rung 1 work (R228). -/
def placeEave (d : Dev) : Dev :=
  (d.med.nand.lunRec.flatMap (fun e => e.2.eaveDirty.map (fun b => (e.1, b)))).foldl (fun d e =>
    placeErase 1 d e.1 { kind := .erase, cls := 1, batten := 0, stripe := 0, pos := 0, off := e.2, eave := true }) d

/-- Place a list of items in a class. -/
def placeList (cls : Nat) (l : List Item) (d : Dev) : Dev := l.foldl (placeItem cls) d

/-- Steps of placement in class order (R195, R201, R202): each class looks at its work once the class before it is done. -/
def placeAll (d : Dev) : Dev :=
  let d1 := placeList 1 (readsOf d 1 ++ progsOf d 1) d
  let d1e := placeEave (if rdB d F.GC_STAT_CRIT then placeErases 1 d1 else d1)
  let d2 := placeStreams (2 * d1e.med.work.length + 2) d1e []
  let d2r := placeList 2 ((progsOf d2 2).filter (fun i => match i with
    | .prog w => w.bytes == 0
    | _ => false)) d2
  let d3 := placeErases 3 (placeList 3 (readsOf d2r 3 ++ progsOf d2r 3) d2r)
  let d4 := placeList 4 (if d.cox.lastWrite then weave (readsOf d3 4) (progsOf d3 4) else weave (progsOf d3 4) (readsOf d3 4)) d3
  let d5 := placeErases 5 (placeList 5 (readsOf d4 3 ++ progsOf d4 3) d4)
  placeList 6 (readsOf d5 6 ++ progsOf d5 6) d5

/-- The share counters take the gain and loss of the slot that ends; the use of the next one starts (R202). [log entry 58 DEDUCED] -/
def shareStep (d : Dev) : Dev :=
  { d with cox := { d.cox with gcHist := (gcGain d :: d.cox.gcHist).take 1000, ptHist := (ptGain d :: d.cox.ptHist).take 1000,
                               r1Hist := (d.cox.use.r1T :: d.cox.r1Hist).take 1000, use := {} } }

/-- A LUN at the end of a slot: a suspended erase resumes when no operation of classes 1 and 2 waits, and, at its suspend limit, when
its LUN is in no open stream batten (R198, R199); also before its group is gated (R94) or its channel isolated (R306). -/
def lunSlot (d : Dev) (l : Nat) : Dev :=
  let v := lunOf d l
  let leave := gatePending d (lunChn l / 4) || chnLeaving d l
  match v.asleep with
  | some o =>
    if o.kind == .erase && v.exec.isNone && (leave || !v.q.any (fun x => x.cls ≤ 2)) && (leave || !eraseHeld d l o) then
      resumeOut (setLun d l { v with exec := some o, asleep := none }) l .erase
    else issueLun d l
  | none => issueLun d l

/-- FLOOR and PLIM of COX_STAT, SBUSY of LDPC and the patrol flag follow the slot. -/
def slotFlags (d : Dev) : Dev :=
  let fl := (modeNow d == 1 || modeNow d == 5) && belowFloor d
  let d1 := wrs d [(F.COX_STAT_FLOOR, b2n fl), (F.COX_STAT_PLIM, b2n (!actFree d)), (F.PTL_STAT_RUN, b2n (d.cox.use.ptT > 0))]
  if fl && !rdB d F.COX_STAT_FLOOR then raise d1 0x18 8 else d1

/-- Open battens of streams that are not contracted close (R273). -/
def closeEnded (d : Dev) : Dev :=
  (batsWhere d (fun _ v => v.st == .opened && !v.sealed && (match v.role with
    | .stream i => !(contracted d).contains i
    | _ => false))).foldl (fun d b => closeBat d b 4) d

/-- Open battens whose stripe a FLUSH closed, and whose writer has stayed idle for JNL_TJ since, close (R273). -/
def closeIdle (d : Dev) : Dev :=
  (batsWhere d (fun _ v => v.st == .opened && !v.sealed && v.idleAt.any (fun t => d.sys.time ≥ t + rd d F.JNL_TJ_TJ * 1000000))).foldl
    (fun d b => closeBat d b (padClass d b)) d

/-- COX_SLOT. [log entry 61 DEDUCED] -/
def coxSlot (d : Dev) : Dev :=
  let d1 := slotLatch (add64 (shareStep (closeIdle (closeEnded (admDemote d)))) F.COX_SLOT 1)
  let d2 := slotRefill (admRecompute (flushTerms (mediaPump (jobsSettle (placeWaits (serviceRefill d1))))))
  let d3 := placeAll (openForRead (psLater d2))
  let d4 := slotFlags { d3 with cox := { d3.cox with lastWrite := !d3.cox.lastWrite } }
  (d4.cox.luns.map Prod.fst).foldl lunSlot (afterWork d4)

/-- COX_SLOT counts from the latest acceptance (R191): while nothing can be placed, before another acceptance or in a SANITISE, the count goes
on alone. [log entry 155 DEDUCED] -/
def execCoxSlot (s : State) : Host.Outcome State Fault Refusal :=
  let d := s.dev
  finish s (if mediaOn d && domOn d 29 then coxSlot (voteAll d)
    else guardDev (running d && domOn d 29 && (accepted d || rd64 d F.COX_SLOT > 0)) d (add64 d F.COX_SLOT 1))

/-- Stream programs that wait for a LUN whose erase is suspended now are placed, those of class 2 while their deficit is above 0 (R196,
R198). -/
def placeDue (d : Dev) (lun : Nat) : Dev :=
  (d.med.work.filter (fun w => memberLun d w.batten w.pos == lun && (workStream w).isSome)).foldl (fun d w =>
    match workStream w with
    | none => d
    | some i =>
      if workCls d w == 1 then placeWork 1 d w
      else if workCls d w == 2 && (w.bytes == 0 || d.cox.dfc.getD i 0 > 0) then placeStream d i w
      else d) d

/-- ERASE_SUSPENDED: the program that waited for it is placed; at its limit the erase is held (R199). -/
def execEraseSuspended (lun : Nat) (s : State) : Host.Outcome State Fault Refusal :=
  let d := s.dev
  finish s (match execOp? d lun .erase with
    | none => d
    | some o => guardDev ((lunOf d lun).asking) d
      (let o1 := { o with susp := o.susp + 1 }
       let d1 := modLun d lun (fun v => { v with exec := none, asking := false, asleep := some o1 })
       let d2 := if o1.susp == rd d F.MEDIA_TESUS_ESMAX then raise (satAdd d1 F.COX_ESLIM_COUNT 1) 0x18 9 else d1
       issueLun (placeDue d2 lun) lun))

/-- PROGRAM_SUSPENDED: the read that waited for it is issued. -/
def execProgramSuspended (lun : Nat) (s : State) : Host.Outcome State Fault Refusal :=
  let d := s.dev
  finish s (match execOp? d lun .prog with
    | none => d
    | some o => guardDev ((lunOf d lun).asking && (lunOf d lun).asleep.isNone && o.cls ≥ 3 && o.susp == 0) d
      (issueLun (modLun d lun (fun v => { v with exec := none, asking := false, asleep := some { o with susp := 1 } })) lun))

end Sys2Proof.Machine
end

