-- ==== Sys2Proof/Machine/WritePath.lean ====
section
/-!
DEFINITION. Data commands that change volume data, and FLUSH (R26 to R28, R146, R149 to R151, R157 to R163, R241 to R247, R259).
-/
namespace Sys2Proof.Machine

/-! ### Starting (R146, R149, R150, R164, R246) -/

/-- A data write starts: it takes a transaction id, and its first pull is issued or waits. -/
def startWrite (d : Dev) (c : Cmd) : Dev :=
  let d1 := modCmd { d with med := { d.med with nextTx := (d.med.nextTx + 1) % 2 ^ 32 } } c.seq (fun x => { x with stage := .run, txn := some d.med.nextTx })
  pauseFlags (issueNext d1 c.seq)

/-- WRITE. -/
def execWrite (seat tag : Nat) (s : State) : Host.Outcome State Fault Refusal :=
  let d := s.dev
  finish s (match readyCmd? d seat tag opWRITE with
    | none => d
    | some c => startWrite d c)

/-- WRITE_FILL: the data is made, not pulled. -/
def execWriteFill (seat tag : Nat) (s : State) : Host.Outcome State Fault Refusal :=
  let d := s.dev
  finish s (match readyCmd? d seat tag opFILL with
    | none => d
    | some c => startWrite d c)

/-- GATHER_WRITE: its pull returns the elements in table order. -/
def execGatherWrite (seat tag : Nat) (s : State) : Host.Outcome State Fault Refusal :=
  let d := s.dev
  finish s (match readyCmd? d seat tag opGATHER with
    | none => d
    | some c => startWrite d c)

/-! ### Pulls (R26 steps 2 and 3, R28) -/

/-- A pull failed: the write or VERIFY ends with BUS_ERROR and its cause (R146). [log entry 45 DEDUCED] -/
def pullFailed (d : Dev) (c : Cmd) (cause : Nat) : Dev :=
  let d1 := if cause == 5 then logCourse d c stBUS else d
  if isDataWrite c then endWriteAt d1 c.seq stBUS cause
  else match c.ending with
    | some st => complete d1 c st 0
    | none => complete d1 c stBUS cause

/-- The data of the portion being pulled has arrived; a write goes on to pull the next one (R26). [log entries 45 DEDUCED; 48 DEDUCED] -/
def pullDone (d : Dev) (c : Cmd) (data : List Block) : Dev :=
  let d1 := modCmd d c.seq (fun x => { x with prog := { x.prog with pulled := x.prog.pulled + 1, data := x.prog.data ++ data } })
  if isDataWrite c then issueNext d1 c.seq else readGo d1 c

/-- DATA_PULL_COMPLETE, in the service order of R129: `cause` of a failed pull is one of R146; a CRC-32C failure is cause 5. -/
def execDataPullComplete (seat tag : Nat) (res : PullRes) (s : State) : Host.Outcome State Fault Refusal :=
  let d := s.dev
  finish s (match runCmd? d seat tag (fun c => (isDataWrite c && !(cOpc c == opFILL)) || cOpc c == opVERIFY) with
    | none => d
    | some c =>
      let fits := match res with
        | .fail cause => 1 ≤ cause && cause ≤ 6
        | .ok data _ => data.length == portLen (cLba c) (cLen c) c.prog.pulled
      guardDev (dataPull c && pullTurn d c && fits) d (afterWork (match res with
        | .fail cause => pullFailed (pullServed d c) c cause
        | .ok data crcOk => if crcOk then pullDone (pullServed d c) c data else pullFailed (pullServed d c) c 5)))

/-! ### DISCARD (R151, R259) -/

/-- The deltas of one discarded portion. -/
def discardDelta (d : Dev) (c : Cmd) (k : Nat) (txnp : Nat) : Delta :=
  { kind := 2, vol := cVol c, course := cLba c / 256 + k, blk := portFirst c k, count := portLen (cLba c) (cLen c) k,
    seq := rd64 d F.MAP_SEQ, txid := c.txn.getD 0, txnp := txnp, ord := k, seat := c.seat, cmd := c.seq }

/-- Take one portion out of the map with a delta; the SEQ is not advanced here. -/
def discardMap (d : Dev) (c : Cmd) (k txnp : Nat) : Dev :=
  { d with med := { d.med with
    m := (if wholePort c k then setCourse d.med.m (portKey c k) .un
      else unmapBlocks d.med.m (portKey c k) (portFirst c k) (portLen (cLba c) (cLen c) k))
    deltas := d.med.deltas ++ [discardDelta d c k txnp] } }

/-- A course as a rewrite read it: its entry and its fine block. -/
def courseAs (d : Dev) (key : Nat) : MapEnt × SMap FineEnt := (mapEnt d.med.m key, fineOf d.med.m key)

/-- A rewritten portion that waits for its SEQ was made from a course that has changed since (R259). -/
def slotStale (d : Dev) (id : Nat) : Bool := match d.med.ring.get? id with
  | some r => !(courseAs d (courseKey r.ext.tag.vol r.ext.tag.course) == (r.wasEnt, r.wasFine))
  | none => false

/-- The rewritten portions of a DISCARD of 1 MiB or less form one transaction of as many portions (R245, R248). -/
def discardTags (d : Dev) (slots : List Nat) : Dev :=
  slots.zipIdx.foldl (fun d e => match d.med.ring.get? e.1 with
    | some r =>
      let t := { r.ext.tag with txnp := slots.length, txord := e.2 }
      { d with med := { d.med with ring := d.med.ring.set e.1 { r with ext := { r.ext with tag := t } } } }
    | none => d) d

/-- A DISCARD that rewrites a portion takes an invocation for it, unless it has reserved one (R146, R259). -/
def discardReserve (d : Dev) (c : Cmd) : Except Nat Dev :=
  if !(c.kres == 0) then .ok d
  else match reserveFail d (cVol c) (volSlot d (cVol c)) 1 with
    | some st => .error st
    | none => .ok (modCmd d c.seq (fun x => { x with kslot := volSlot d (cVol c), kres := 1 }))

/-- Go on with a DISCARD: a command of 1 MiB or less is one map update with one SEQ, a larger one makes an update per portion. It
stops for a rewrite, for a fine block, or at the end; rewrites whose course has changed before the update are made again. The fuel is
one more than the portions. [log entry 149 DEDUCED] -/
def discardOn : Nat → Dev → Nat → Dev
  | 0, d, _ => d
  | n + 1, d, seq =>
    match cmdOf? d seq with
    | none => d
    | some c =>
      let k := c.prog.done
      let small := cLen c ≤ 256
      let next := fun (d : Dev) => modCmd d seq (fun x => { x with prog := { x.prog with done := k + 1, eff := if small then x.prog.eff else k + 1 } })
      if k ≥ cPortions c then
        let slots := slotsOf d seq
        if slots.any (slotStale d) then
          discardOn n (modCmd (dropSlots d seq) seq (fun x => { x with prog := { x.prog with done := 0, issued := 0 } })) seq
        else
          let d1 := if !small then d else if slots.isEmpty then add64 d F.MAP_SEQ 1 else takeSeq (discardTags d slots) slots false
          complete d1 c (c.ending.getD stSUCCESS) 0 (cPortions c) c.ending.isSome
      else if !small && c.ending.isSome then complete d c (c.ending.getD 0) 0 k true
      else if fineWait d c k then pauseCmd d c true false
      else if discardRewrites d c k && !roomFor d c 1048576 then pauseCmd d c false false
      else if discardRewrites d c k then
        match discardReserve d c with
        | .error st => complete (dropSlots d seq) c st 0 (coursesDone c) (coursesDone c > 0)
        | .ok d0 =>
          let p := piecesOf d.med.m (portKey c k) 0 256
          newJob (modCmd d0 seq (fun x => { x with stage := .run, prog := { x.prog with issued := k + 1 } })) (.host seq) 4 (portKey c k) p.1 p.2
      else if fineAbsent d && !wholePort c k then discardOn n (next d) seq
      else
        let d1 := discardMap d c k (if small then 1 else 0)
        discardOn n (next (if small then d1 else add64 d1 F.MAP_SEQ 1)) seq

def discardGo (d : Dev) (c : Cmd) : Dev := discardOn (2 * cPortions c + 2) d c.seq

/-- After data took effect: FLUSH, STREAM_CLOSE and the pause flags, and the chunk for discards that a waiting FLUSH covers (R159). -/
def afterData (d : Dev) : Dev := flushChunk (afterWork d)

/-- DISCARD: it starts when its turn in the seat's order has come (R244). -/
def execDiscard (seat tag : Nat) (s : State) : Host.Outcome State Fault Refusal :=
  let d := s.dev
  finish s (match readyCmd? d seat tag opDISCARD with
    | none => d
    | some c => guardDev ((List.range (cPortions c)).all (seatOrderOk d c)) d
      (afterData (discardGo (modCmd { d with med := { d.med with nextTx := (d.med.nextTx + 1) % 2 ^ 32 } } c.seq
        (fun x => { x with stage := .run, txn := some d.med.nextTx })) c)))

/-- A rewritten portion of a DISCARD: the course with the discarded blocks zeroed, sealed as one extent, unless the course has changed
since it was read: it is read again (R259). A failed tag check ends the command with the prefix that took effect. -/
def sealDiscard (d : Dev) (c : Cmd) (j : ReadJob) : Dev :=
  let k := c.prog.done
  let d0 := dropJob d j.id
  let now := piecesOf d.med.m (portKey c k) 0 256
  let good := fun (e : Extent) => match openSlot? d e with
    | some n => sealOk d n e
    | none => false
  if !(now.1 == j.src) || !(now.2 == j.blks) then newJob d0 (.host c.seq) 4 (portKey c k) now.1 now.2
  else if !j.exts.all good then
    complete (logCourse (raise (satAdd (dropSlots d0 c.seq) F.CRY_AUTHF_COUNT 1) 0x70 8) c stAUTH) c stAUTH 0 (coursesDone c) (coursesDone c > 0)
  else
    let lo := portFirst c k
    let n := portLen (cLba c) (cLen c) k
    let data := (List.range 256).map (fun i =>
      if lo ≤ i && i < lo + n then (0 : Block)
      else match j.blks.find? (fun x => x.1 == i) with
        | none => 0
        | some x => (j.exts.getD x.2.1 {}).data.getD x.2.2 0)
    let t : ExtTag := { vol := cVol c, course := cLba c / 256 + k, n := 256, kgen := rd d (F.KEY_STAT_KGEN c.kslot), txid := c.txn.getD 0,
                        txord := k, txnp := (if cLen c > 256 then 0 else 1),
                        ctr := rd64 d (F.KEY_CNT c.kslot), salt := rd d (F.KEY_SALT_SALT c.kslot), key := (keySlot d c.kslot).mat }
    let id := d.med.nextSlot
    let d1 := takeCtr d0 c.kslot 1
    let was := courseAs d (portKey c k)
    let d2 := { d1 with med := { d1.med with
      ring := d1.med.ring.set id { ext := ⟨t, data, []⟩, seat := c.seat, cmd := c.seq, portion := k, wasEnt := was.1, wasFine := was.2 }
      nextSlot := (id + 1) % 2 ^ 32 } }
    let d3 := modCmd d2 c.seq (fun x =>
      { x with kres := x.kres - 1, prog := { x.prog with done := k + 1, eff := if cLen c > 256 then k + 1 else x.prog.eff } })
    discardGo (if cLen c > 256 then takeSeq d3 [id] false else d3) c

/-! ### Sealing and resuming (R26 steps 4 to 6, R27) -/

/-- SEAL_COMPLETE, in the order of R329. -/
def execSealComplete (seat tag : Nat) (s : State) : Host.Outcome State Fault Refusal :=
  let d := voteAll s.dev
  finish s (match runCmd? d seat tag isWriteKind with
    | none => d
    | some c =>
      if cOpc c == opDISCARD then
        match hostJob? d c.seq with
        | none => d
        | some j => guardDev (jobRead j && !jobUnreadable j && canSeal d c.kslot 1 && coreTurn d 0 (jobInv j + 1)) d
          (afterData (coreServed (sealDiscard (coreTake d 0 (jobInv j + 1)) c j)))
      else
        let n := portionInv d c c.prog.done
        guardDev (sealReady d c && !clockHeld d 2 && (contractWrite d c || coreTurn d 0 n)) d
          (afterWork (coreServed (writeNext (sealPortion (if contractWrite d c then d else coreTake d 0 n) c) c.seq))))

/-- TRANSFER_RESUME: a paused command goes on when it can. A DISCARD that has not started starts as a command does: not during an
activation, a REOPEN or a reap of its seat (R133, R165, R166). -/
def execTransferResume (seat tag : Nat) (s : State) : Host.Outcome State Fault Refusal :=
  let d := s.dev
  finish s (match runCmd? d seat tag (fun c => c.stage == .paused) with
    | none => d
    | some c => guardDev (isStarted c || (!d.cmds.activating && !d.cmds.reopening && !seatReaps d c)) d
        (afterData (if cOpc c == opDISCARD then discardGo d c else issueNext d c.seq)))

/-! ### FLUSH (R159) -/

/-- FLUSH: covered stripes are closed, covered discards are journalled at once, and it waits. -/
def execFlush (seat tag : Nat) (s : State) : Host.Outcome State Fault Refusal :=
  let d := s.dev
  finish s (match readyCmd? d seat tag opFLUSH with
    | none => d
    | some c => afterWork (flushChunk (flushPush (modCmd d c.seq (fun x => { x with stage := .wait })))))

end Sys2Proof.Machine
end

