-- ==== Sys2Proof/Machine/MgmtCmd.lean ====
section
/-!
DEFINITION. Stream commands (R152, R176, R187) and key commands (R330 to R342): STREAM_OPEN, STREAM_CLOSE, STREAM_QUERY, KEY_LOAD,
KEY_RETIRE, VOLUME_SET and the reservations.
-/
namespace Sys2Proof.Machine

/-! ### Streams (R152, R176, R188, R190) -/

/-- T_min of a request: 0 means 10 s. -/
def cTmin (c : Cmd) : Nat := if bitsOf (cOp c 2) 0 16 == 0 then 10 else bitsOf (cOp c 2) 0 16

/-- A refused STREAM_OPEN is recorded (R187). -/
def openRefused (d : Dev) (c : Cmd) (cause : Nat) : Dev :=
  complete (raise (wrs d [(F.ADM_LAST_VALID, 1), (F.ADM_LAST_SEAT, c.seat), (F.ADM_LAST_RESULT, cause)]) 0x13 9) c stNOTADM cause

/-- Decide a STREAM_OPEN: the lowest free stream number is admitted; a number that ended in this slot is not free yet (R178). [log entry 43
DESIGN CHOICE] -/
def openStream (d : Dev) (c : Cmd) : Dev :=
  let rate := bitsOf (cOp c 0) 0 16
  let smax := bitsOf (cOp c 0) 16 8
  let burst := bitsOf (cOp c 1) 0 24
  let r := admitTest d c.seat rate smax burst (cTmin c)
  if r == 0 then
    let i := lowest 0 64 (fun i => !rdB d (F.STRM_STAT_OPEN i) && (d.adm.ended.get? i).isNone)
    succeed (admitStream d i c.seat (cVol c) (bitsOf (cOp c 0) 24 3) rate smax burst (cTmin c)) c i
  else openRefused d c r

/-- STREAM_OPEN. -/
def execStreamOpen (seat tag : Nat) (s : State) : Host.Outcome State Fault Refusal :=
  let d := s.dev
  finish s (match readyCmd? d seat tag opOPEN with
    | none => d
    | some c => openStream d c)

/-- STREAM_CLOSE: it waits for the earlier writes of the stream. -/
def execStreamClose (seat tag : Nat) (s : State) : Host.Outcome State Fault Refusal :=
  let d := s.dev
  finish s (match readyCmd? d seat tag opCLOSE with
    | none => d
    | some c => afterWork (modCmd d c.seq (fun x => { x with stage := .wait })))

/-- The record STREAM_QUERY writes. -/
def queryRecord (d : Dev) (i : Nat) : List Word :=
  let w := fun (n : Nat) => BitVec.ofNat 32 n
  [w (i + 2 ^ 8 * rd d (F.STRM_STAT_DEMOTED i) + 2 ^ 16 * rd d (F.STRM_STAT_VOL i) + 2 ^ 24 * rd d (F.STRM_STAT_PRIO i)),
   actW d (F.STRM_CONTRACT_RATE i).off, w (rd d (F.STRM_BURST_BURST i)), w (rd d (F.STRM_TMIN_TMIN i)),
   actW d (F.STRM_HORIZON i), actW d (F.STRM_HORIZON i + 4), actW d (F.STRM_DONE i), actW d (F.STRM_DONE i + 4),
   w (rd d (F.STRM_TOKEN_KIB i)), w (rd d (F.STRM_ADMT_T i)), 0, 0, 0, 0, 0, 0]

/-- STREAM_QUERY: a stream that has ended since the check leaves nothing to report. -/
def execStreamQuery (seat tag : Nat) (s : State) : Host.Outcome State Fault Refusal :=
  let d := s.dev
  finish s (match readyCmd? d seat tag opQUERY with
    | none => d
    | some c =>
      if !ownStream d c then complete d c stNOTADM 0
      else match seatOf? d seat with
        | none => d
        | some v => guardDev (fnReachable d v.fn) d
          (succeed (emit d (.memWrite v.fn (BitVec.ofNat 64 (cDptr c)) (queryRecord d (cSid c)))) c))

/-! ### KEY_LOAD (R331, R332, R336, R338) -/

/-- What a slot is loaded with. -/
structure KeyLoad where
  slot : Nat
  k128 : Bool
  role : Nat
  vol : Nat
  kgen : Nat
  salt : Nat
  foreign : Bool
  mat : Nat
  deriving DecidableEq, Repr

/-- A fault of the material at a byte offset of it. [log entry 80 DEDUCED] -/
def matFault (off : Nat) : Nat := off * 2 ^ 16 + 0x18

/-- The volume record accepts the generation at step 2: it holds it, or it is the next one, which holds no data (R341). With no
valid record the check is left to step 4. [log entry 82 DEDUCED] -/
def genOk (d : Dev) (vol kgen : Nat) : Bool :=
  match volRec? d vol with
  | none => true
  | some r =>
    let next := nextGen r.cur
    if kgen == next then gcnt d vol kgen == 0 else r.gens.any (fun g => g.kgen == kgen)

/-- Checks of step 2 and the unwrapping of step 3: what is loaded, or the failing status and RESULT. [log entries 10 DESIGN CHOICE; 80 DEDUCED] -/
def keyOpen (d : Dev) (c : Cmd) (m : List Nat) : Except (Nat × Nat) KeyLoad :=
  let n := bitsOf (cOp c 0) 0 6
  let wrap := bitOf (cOp c 0) 8
  let k128 := bitOf (cOp c 0) 9
  let b := fun i => m.getD i 0
  let rest := b 0 == roleREST
  if !rdB d F.TRNG_STAT_SEEDED then .error (stKEYABS, 1)
  else if !(rd d F.ALM_LATCH_SRC == 0) then .error (stKEYABS, 2)
  else if slotLoaded d n then .error (stINVFLD, 0x28)
  else match keyMatBad d wrap m with
    | some off => .error (stINVFLD, matFault off)
    | none =>
      if rest && k128 then .error (stINVFLD, 0x28)
      else if rest && ((slotOfGen? d (b 1) (b 2)).isSome || !genOk d (b 1) (b 2)) then .error (stINVFLD, matFault 2)
      else if wrap && !slotIs d (b 3) roleKEK then .error (stINVFLD, matFault 3)
      else
        let own := rd d F.CRY_SALT_SALT
        let salt := if bitOf (b 8) 0 then bytesLE ((m.drop 4).take 4) else own
        let key := if wrap then Config.unwrap (keySlot d (b 3)).mat (rdB d (F.KEY_STAT_K128 (b 3))) (m.drop 16)
          else some (bytesBE (m.drop 16))
        match key with
        | none => .error (stAUTH, 0)
        | some k => .ok ⟨n, k128, b 0, b 1, b 2, if rest then salt else 0, rest && !(salt == own), k⟩

/-- The slot takes the loaded key with its counter and mark. [log entry 83 DEDUCED] -/
def slotLoad (d : Dev) (l : KeyLoad) (ctr mark : Nat) (noMark : Bool) : Dev :=
  let d1 := setKeySlot (slotClear d l.slot ksLOADED) l.slot { mat := l.mat, mark := mark }
  wr64 (wrs d1 [(F.KEY_STAT_ROLE l.slot, l.role), (F.KEY_STAT_K128 l.slot, b2n l.k128), (F.KEY_STAT_FOREIGN l.slot, b2n l.foreign),
    (F.KEY_STAT_UNSAFE l.slot, b2n noMark), (F.KEY_STAT_EXH l.slot, b2n (l.role == roleREST && !l.foreign && ctr ≥ ctrLimit)),
    (F.KEY_STAT_VOL l.slot, l.vol), (F.KEY_STAT_KGEN l.slot, l.kgen), (F.KEY_SALT_SALT l.slot, l.salt)]) (F.KEY_CNT l.slot) ctr

/-- Mark and state of a generation entry after a reservation: the next generation is NEXT (R338, R342). [log entry 85 DEDUCED] -/
def recMark (r : VolRec) (kgen mark : Nat) : VolRec :=
  let r1 := setMark r kgen mark
  if kgen == nextGen r.cur then
    { r1 with gens := updWhere (fun (g : GenEnt) => g.kgen == kgen) (fun g => { g with st := 3 }) r1.gens }
  else r1

/-- The extent of a generation with the lowest course number, the first of it in the course. [log entry 81 DEDUCED] -/
def firstExtent? (d : Dev) (vol kgen : Nat) : Option Extent :=
  (d.med.m.map.filter (fun e => e.1 / 2 ^ 32 == vol)).findSome? (fun e =>
    let p := piecesOf d.med.m e.1 0 256
    (p.1.zipIdx.find? (fun x => p.2.any (fun b => b.2.1 == x.2 && genAt d.med.m e.1 b.1 == some kgen))).map (fun x => extentFor d e.1 p.2 x.2 x.1))


/-- Steps 4 to 6 of KEY_LOAD. Step 5 works on the device `d0` as it was when it fails. [log entries 82 DEDUCED; 84 DEDUCED] -/
def keyInstall (d : Dev) (c : Cmd) (l : KeyLoad) (recordOk : Bool) : Dev :=
  if !(l.role == roleREST) then succeed (raise (slotLoad d l 0 0 false) 0x71 8) c
  else
    let m := ((volRec? d l.vol).map (fun r => markOf r l.kgen)).getD 0
    let m2 := min (m + 2 ^ 20) ctrLimit
    if !l.foreign && (!recordOk || (volRec? d l.vol).isNone) then
      complete (raise (slotLoad d l m m true) 0x70 12) c stNONCE 0
    else
      let d1 := slotLoad d l (if l.foreign then 0 else m) (if l.foreign then 0 else m2) false
      let write := fun (d : Dev) => match volRec? d l.vol with
        | some r => if l.foreign then d else writeVolRec d l.vol (recMark r l.kgen m2)
        | none => d
      let good := match firstExtent? d l.vol l.kgen with
        | some e => sealOk d1 l.slot e
        | none => true
      if good then succeed (raise (write d1) 0x71 8) c
      else complete (raise (satAdd (write d) F.CRY_AUTHF_COUNT 1) 0x70 8) c stAUTH 0

/-- KEY_LOAD once its material has arrived. Before the end of FOLD the map is not complete: an at-rest key waits for it, with its pull
done (step 5). [log entry 81 DEDUCED] -/
def keyLoadRun (d : Dev) (c : Cmd) (material : KeyMat) : Dev :=
  match material.bytes with
  | none => complete d c stBUS material.cause
  | some m => match keyOpen d c m with
    | .error e => complete d c e.1 e.2
    | .ok l =>
      if foldEnded d || !(l.role == roleREST) then keyInstall d c l material.recordOk
      else modCmd d c.seq (fun x => { x with aux := 1 })

/-- The operands fit a KEY_LOAD: a pull that failed has a cause of R146, the material the length of OP1. -/
def keyMatFits (c : Cmd) (material : KeyMat) : Bool := match material.bytes with
  | none => c.aux == 0 && 1 ≤ material.cause && material.cause ≤ 6
  | some m => m.length == cOp c 1

/-- KEY_LOAD. Its pull takes its turn on the link (R129). -/
def execKeyLoad (seat tag : Nat) (material : KeyMat) (s : State) : Host.Outcome State Fault Refusal :=
  let d := voteAll s.dev
  finish s (match readyCmd? d seat tag opKEYLOAD with
    | none => d
    | some c => guardDev (keyMatFits c material && (c.aux == 1 || pullTurn d c)) d
        (keyLoadRun (if c.aux == 1 then d else pullServed d c) c material))

/-! ### KEY_RETIRE (R334) -/

/-- Slot a KEY_RETIRE names. -/
def retSlot (c : Cmd) : Nat := bitsOf (cOp c 0) 0 6

/-- KEY_RETIRE: on a slot that is LOADED it waits; from now on check 10 takes the slot as RETIRED. -/
def execKeyRetire (seat tag : Nat) (s : State) : Host.Outcome State Fault Refusal :=
  let d := s.dev
  finish s (match readyCmd? d seat tag opKEYRET with
    | none => d
    | some c =>
      if !slotLoaded d (retSlot c) then succeed d c
      else modCmd (setKeySlot d (retSlot c) { keySlot d (retSlot c) with retiring := some ((keySlot d (retSlot c)).retiring.getD c.seq) }) c.seq
        (fun x => { x with stage := .wait }))

/-- A command that has passed check 10 still opens data of a slot. -/
def slotInUse (d : Dev) (n : Nat) : Bool :=
  let vol := rd d (F.KEY_STAT_VOL n)
  let g := rd d (F.KEY_STAT_KGEN n)
  !(reservedIn d n == 0)
    || (slotIs d n roleREST && d.cmds.list.any (fun c => isReadKind c && !(c.stage == .held) && cVol c == vol
        && ((gensIn d vol (cLba c) (cLen c)).contains g
          || (match hostJob? d c.seq with
            | some j => j.exts.any (fun e => e.tag.kgen == g)
            | none => false))))

/-- KEY_RETIRE_EFFECT: the slot becomes RETIRED and its KEY_RETIRE commands complete. -/
def execKeyRetireEffect (slot : Nat) (s : State) : Host.Outcome State Fault Refusal :=
  let d := voteAll s.dev
  let waits := d.cmds.list.filter (fun c => cOpc c == opKEYRET && c.stage == .wait && retSlot c == slot)
  finish s (guardDev (running d && slot < 64 && !waits.isEmpty && (!slotLoaded d slot || !slotInUse d slot)) d
    (waits.foldl (fun d c => succeed d c) (if slotLoaded d slot then slotLeave d slot ksRETIRED else d)))

/-! ### VOLUME_SET (R341, R342) -/

/-- The record of a rekey: the entry becomes CURRENT, the former CURRENT entry OLD. [log entry 85 DEDUCED] -/
def rekeyRec (r : VolRec) (kgen : Nat) : VolRec :=
  { r with cur := kgen, gens := r.gens.map (fun (g : GenEnt) =>
      if g.kgen == kgen then { g with st := 1 } else if g.st == 1 then { g with st := 2 } else g) }

/-- The entry of the volume table names the slot, and VCHG is raised (R293). -/
def bindVol (d : Dev) (vol slot : Nat) : Dev :=
  match volEntry? d vol with
  | some n => raise (wrBoth d (F.VOL_ID_SLOT n) slot) 0x27 8
  | none => d

/-- Assumptions: [log entries 86 DEDUCED; 87 DEDUCED] -/
def volumeSet (d : Dev) (c : Cmd) (recordOk : Bool) : Dev :=
  let n := bitsOf (cOp c 0) 0 6
  let v := cVol c
  let g := rd d (F.KEY_STAT_KGEN n)
  let unsafe_ := rdB d (F.KEY_STAT_UNSAFE n)
  let fit := slotIs d n roleREST && rd d (F.KEY_STAT_VOL n) == v
    && (if bitOf (cOp c 0) 8 then g == nextGen (curGen d v) && !rdB d (F.KEY_STAT_FOREIGN n) && !unsafe_ else g == curGen d v)
  if !fit then complete d c (if unsafe_ then stNONCE else stKEYABS) 0
  else if bitOf (cOp c 0) 8 then
    match volRec? d v with
    | none => complete d c stMEDIA 0
    | some r =>
      if !recordOk then complete d c stMEDIA 0
      else
        let d1 := writeVolRec d v r
        let d2 := modNand d1 (fun x => { x with vols := x.vols.set v (rekeyRec ((volRec? d1 v).getD r) g) })
        succeed (bindVol d2 v n) c
  else succeed (bindVol d v n) c

/-- VOLUME_SET. -/
def execVolumeSet (seat tag : Nat) (recordOk : Bool) (s : State) : Host.Outcome State Fault Refusal :=
  let d := s.dev
  finish s (match readyCmd? d seat tag opVOLSET with
    | none => d
    | some c => volumeSet d c recordOk)

/-! ### Reservations (R338, R339) -/

/-- A slot that extends its reservation. -/
def sealsMore (d : Dev) (n : Nat) : Bool :=
  slotIs d n roleREST && !rdB d (F.KEY_STAT_FOREIGN n) && !rdB d (F.KEY_STAT_UNSAFE n) && (keySlot d n).mark < ctrLimit

/-- RESERVATION_EXTEND: the counter has reached M − 2^19. -/
def execReservationExtend (slot : Nat) (s : State) : Host.Outcome State Fault Refusal :=
  let d := voteAll s.dev
  finish s (guardDev (running d && slot < 64 && sealsMore d slot && !(keySlot d slot).extending
      && rd64 d (F.KEY_CNT slot) + 2 ^ 19 ≥ (keySlot d slot).mark) d
    (setKeySlot d slot { keySlot d slot with extending := true }))

/-- Writes that hold invocations of a slot above its mark, in fetch order: `left` values remain below it. -/
def overMark (n : Nat) : Nat → List Cmd → List Nat
  | _, [] => []
  | left, c :: rest =>
    if c.kslot == n && !(c.kres == 0) && isWriteKind c then
      (if c.kres ≤ left then overMark n (left - c.kres) rest else c.seq :: overMark n left rest)
    else overMark n left rest

/-- The write meets the end of the values below the mark: it ends at the portion boundary with NONCE_UNSAFE (R339). One that has not
started, or a DISCARD that must seal, has no new portion. [log entry 148 DEDUCED] -/
def nonceEnd (d : Dev) (seq : Nat) : Dev :=
  match cmdOf? d seq with
  | none => d
  | some c =>
    if isDataWrite c && !(c.prog.issued == 0) then endWriteAt d seq stNONCE 0
    else complete (dropSlots (dropLine d c 0) seq) c stNONCE 0 (coursesDone c) (c.prog.done > 0 || c.prog.issued > 0)

/-- The extension of a reservation has failed: UNSAFE is set and raised, the values left are used, the writes above them end (R338,
R339). -/
def slotUnsafe (d : Dev) (slot : Nat) : Dev :=
  let d1 := raise (wr (setKeySlot d slot { keySlot d slot with extending := false }) (F.KEY_STAT_UNSAFE slot) 1) 0x70 12
  afterWork ((overMark slot ((keySlot d slot).mark - rd64 d (F.KEY_CNT slot)) d1.cmds.list).foldl nonceEnd d1)

/-- RESERVATION_DURABLE: the higher mark stands, or the slot becomes UNSAFE. -/
def execReservationDurable (slot : Nat) (ok : Bool) (s : State) : Host.Outcome State Fault Refusal :=
  let d := voteAll s.dev
  let k := keySlot d slot
  let m := min (k.mark + 2 ^ 20) ctrLimit
  finish s (guardDev (running d && slot < 64 && k.extending && slotLoaded d slot) d
    (match volRec? d (rd d (F.KEY_STAT_VOL slot)) with
      | some r =>
        if ok then writeVolRec (setKeySlot d slot { k with extending := false, mark := m }) (rd d (F.KEY_STAT_VOL slot))
          (setMark r (rd d (F.KEY_STAT_KGEN slot)) m)
        else slotUnsafe d slot
      | none => slotUnsafe d slot))

end Sys2Proof.Machine
end

