-- ==== Sys2Proof/Machine/Mover.lean ====
section
/-!
DEFINITION. Data-mover commands that do not go through the register hub: fetched descriptors, completions, barrier reads.
-/
namespace Sys2Proof.Machine

/-- DESCRIPTOR_FETCHED (R360, R362): up to 8 entries ahead of the one that runs. -/
def execDescriptorFetched (ch : Nat) (words keyIv : List Word) (s : State) : Host.Outcome State Fault Refusal :=
  let d := voteAll s.dev
  let m := movOf d ch
  finish s (guardDev (running d && ch < 32 && (mvState d ch == mvRUN || mvState d ch == mvWAIT) && m.stopping.isNone
      && m.cap.length ≤ 8 && !(rd d (F.DMC_STAT_HEAD ch) == rd d (F.DMC_TAIL_TAIL ch))) d
    (mvFetch d ch words keyIv))

/-- DESCRIPTOR_COMPLETE (R369): descriptors complete in ring order, and take the link and the cores in turn (R329, R360). -/
def execDescriptorComplete (ch : Nat) (res : DescRes) (s : State) : Host.Outcome State Fault Refusal :=
  let d := voteAll s.dev
  finish s (match (movOf d ch).cap with
    | c :: rest =>
      let ciph := descCiphers d ch c
      guardDev (running d && ch < 32 && c.clear && dataFits c.words (descEnd d ch (movOf d ch) c res) res && channelTurn d ch c && (!ciph || (serviceOpen d && coreTurn d 3 1))) d
        (let d0 := if ciph then coreTake d 3 1 else d
         let d1 := if descReads c then rrServed d0 (descLink d ch c) (512 + ch) else d0
         let d2 := mvComplete d1 ch c rest res
         if ciph then coreServed { d2 with cmds := { d2.cmds with service := d2.cmds.service - (dCount c.words : Nat) } } else d2)
    | [] => d)

/-- BARRIER_READ_COMPLETE (R368). -/
def execBarrierReadComplete (ch cause : Nat) (s : State) : Host.Outcome State Fault Refusal :=
  let d := s.dev
  finish s (match (movOf d ch).cap with
    | c :: rest => guardDev (running d && ch < 32 && !c.clear && cause ≤ 4) d (mvBarrier d ch cause c rest)
    | [] => d)

end Sys2Proof.Machine
end

