-- ==== Sys2Proof/Machine/Package.lean ====
section
/-!
DEFINITION. The package: the ball map with its row names, direction and pull of the signals, the glitch filters of the sideband inputs,
the rails' limits and the order codes (R459 to R464, R468, R471, R477). No command reads them; they say what a pin is and which of
its levels the controller takes.
-/
namespace Sys2Proof.Machine

/-! ### Balls (R459 to R463) -/

/-- Pins of a flash channel (R461). -/
inductive NandPin where
  | ce (n : Nat)
  | wp | ale | cle | we
  | dq (n : Nat)
  | dqsT | dqsC | reT | reC
  deriving DecidableEq, Repr

/-- Pins of the service strip (R463). -/
inductive SidePin where
  | refclkP (port : Nat)
  | refclkN (port : Nat)
  | perst (port : Nat)
  | pwrgdAon | pfail | tamper | alert | smbClk | smbDat | tck | tms | tdi | tdo | trst
  | strapBoot (n : Nat)
  | strapSmb (n : Nat)
  | xtalIn | xtalOut | testEn
  deriving DecidableEq, Repr

/-- What a ball carries; a supply is named by its PWR_RAIL bit (R73). -/
inductive Ball where
  | nand (chn : Nat) (pin : NandPin)
  | per (port lane : Nat) (neg : Bool)
  | pet (port lane : Nat) (neg : Bool)
  | side (pin : SidePin)
  | supply (rail : Nat)
  | reserved
  | vss
  deriving DecidableEq, Repr

/-- Name of a row by its index from 1 (R459). -/
def rowName (i : Nat) : String :=
  let letters := ["A", "B", "C", "D", "E", "F", "G", "H", "J", "K", "L", "M", "N", "P", "T", "U", "V", "W", "Y"]
  (["", "A", "B", "C"].getD ((i - 1) / 19) "") ++ letters.getD ((i - 1) % 19) ""

/-- A place of a flash tile of channel `c`: local row `r` and column `k` from 1 (R461). -/
def tileBall (c r k : Nat) : Ball :=
  let vq : Ball := .supply (5 + c / 16)
  let row : List Ball := match r with
    | 1 => (List.range 4).map (fun n => .nand c (.ce n))
    | 2 => [.nand c .wp, .nand c .ale, .nand c .cle, .nand c .we]
    | 3 => [.vss, vq, .vss, vq]
    | 4 => (List.range 4).map (fun n => .nand c (.dq n))
    | 5 => [.vss, .nand c .reT, .nand c .reC, .vss]
    | 6 => [vq, .nand c .dqsT, .nand c .dqsC, .vss]
    | 7 => (List.range 4).map (fun n => .nand c (.dq (4 + n)))
    | _ => []
  row.getD (k - 1) .vss

/-- A place of the lane columns of a port, `k` columns from its edge of the package, `i` rows down (R462). -/
def laneBall (port i k : Nat) : Ball :=
  if k == 7 then (if i ≤ 40 then .supply 3 else .vss)
  else if k == 8 then (if i ≤ 32 then .supply 4 else .vss)
  else if (i - 17) % 2 == 1 then .vss
  else
    let n := (i - 17) / 2
    if k == 1 then .per port n false else if k == 2 then .per port n true
    else if k == 4 then .pet port n false else if k == 5 then .pet port n true else .vss

/-- The service strip, rows 17 and 18 (R463). -/
def stripBall (i j : Nat) : Ball :=
  if i == 18 then
    (if j ≤ 16 then .supply 0 else if j ≤ 24 then .supply 12 else if j ≤ 40 then .supply 13 else .vss)
  else if 31 ≤ j && j ≤ 42 then .reserved
  else if j == 54 then .side (.perst 1) else if j == 55 then .side (.refclkN 1) else if j == 56 then .side (.refclkP 1)
  else
    let pins : List SidePin := [.refclkP 0, .refclkN 0, .perst 0, .pwrgdAon, .pfail, .tamper, .alert, .smbClk, .smbDat, .tck, .tms, .tdi,
      .tdo, .trst, .strapBoot 0, .strapBoot 1, .strapSmb 0, .strapSmb 1, .strapSmb 2, .xtalIn, .xtalOut, .testEn]
    ((pins.map Ball.side)[j - 9]?).getD .vss

/-- The core array, rows 19 to 48 (R463). -/
def coreBall (i j : Nat) : Ball :=
  if (i + j) % 2 == 1 then .vss
  else if j ≤ 40 then .supply (if i ≤ 24 then 2 else 1)
  else if j ≤ 46 then .supply 10 else if j ≤ 54 then .supply 9 else .supply 11

/-- The ball at a row index and a column, both from 1 to 64 (R460 to R463). -/
def ballAt (i j : Nat) : Ball :=
  let k := (j - 1) % 4 + 1
  let c := (j - 1) / 4
  if i ≤ 8 then tileBall c i k
  else if i ≤ 16 then tileBall (16 + c) (i - 8) k
  else if i ≥ 57 then tileBall (32 + c) (65 - i) k
  else if i ≥ 49 then tileBall (48 + c) (57 - i) k
  else if j ≤ 8 then laneBall 0 i j
  else if j ≥ 57 then laneBall 1 i (65 - j)
  else if i ≤ 18 then stripBall i j
  else coreBall i j

/-! ### Signals (R464) -/

inductive PinDir where
  | input | output | bidir | openDrain | openDrainIn | analogue
  deriving DecidableEq, Repr

inductive Pull where
  | up | down | none
  deriving DecidableEq, Repr

/-- Direction of a flash pin, and its pull. -/
def NandPin.dir : NandPin → PinDir
  | .dq _ | .dqsT | .dqsC => .bidir
  | _ => .output

def NandPin.pull : NandPin → Pull
  | .ce _ => .up
  | .wp => .down
  | _ => .none

/-- Direction of a sideband pin, and its pull. -/
def SidePin.dir : SidePin → PinDir
  | .alert => .openDrain
  | .smbClk | .smbDat => .openDrainIn
  | .tdo => .output
  | .xtalIn | .xtalOut => .analogue
  | _ => .input

def SidePin.pull : SidePin → Pull
  | .tamper | .tms | .tdi => .up
  | .tck | .trst | .strapBoot _ | .strapSmb _ | .testEn => .down
  | _ => .none

/-- Rail of a sideband pin's pad. -/
def SidePin.rail : SidePin → Nat
  | .refclkP _ | .refclkN _ => 4
  | _ => 12

/-! ### Filters (R471) -/

/-- Filter time in ns of a filtered input: PFAIL# and TAMPER# as their registers set it. -/
def filterNs (d : Dev) : SidePin → Nat
  | .pwrgdAon => 2000
  | .pfail => 500 * 2 ^ min (rd d F.PFL_CTL_FILT) 4
  | .tamper => 500 * 2 ^ min (rd d F.ALM_CTL_TFILT) 4
  | .perst _ => 1000
  | .smbClk | .smbDat => 50
  | _ => 0

/-- What becomes of a level held for `held` ns: taken, rejected, or either. The pin commands stand for levels that were taken. -/
def filterTakes (d : Dev) (p : SidePin) (held : Nat) : Option Bool :=
  if held < filterNs d p then some false else if filterNs d p + 80 ≤ held then some true else none

/-! ### Rails and order codes (R2, R468, R477) -/

/-- Lowest and highest voltage of a rail in units of 0.1 mV. -/
def railRange (rail : Nat) : Nat × Nat :=
  [(7600, 8400), (7125, 7875), (8075, 8925), (7600, 8400), (11400, 12600), (11400, 12600), (11400, 12600), (11400, 12600), (11400, 12600),
   (10450, 11550), (3800, 4200), (17100, 18900), (17100, 18900), (17100, 18900)].getD rail (0, 0)

/-- Order code of a variant. -/
def orderCode (variant : Nat) : String :=
  if variant == 0 then "ZLR-6424-HC-T" else if variant == 1 then "ZLR-6424-HX-T" else "ZLR-6412-HC-T"

end Sys2Proof.Machine
end

