-- ==== Sys2Proof/Machine/Power.lean ====
section
/-!
DEFINITION. Supplies, clocks, the power-on sequence and the warm restart (chapter Supplies, Clocks, Reset and Bring-Up).
-/
namespace Sys2Proof.Machine

/-- All fourteen rails of R73. -/
def allRails : Nat := 0x3FFF

/-- Set PWR_RAIL.GOOD from the monitors (R77); the register answers only while the AON domain runs. -/
def showRails (d : Dev) : Dev := if d.sys.aon then wr d F.PWR_RAIL_GOOD d.sys.rails else d

/-- VDD_AON and VDD_IO are good (R75, R86 step 1). -/
def aonRailsGood (d : Dev) : Bool := bitOf d.sys.rails 0 && bitOf d.sys.rails 12

/-- GLB_BOOT.STAGE. -/
def stage (d : Dev) : Nat := rd d F.GLB_BOOT_STAGE

/-- STAGE becomes FAIL with a cause; the links train (R88, R89). -/
def stageFail (d : Dev) (cause : Nat) : Dev :=
  takeLinkCfg (takeLinkCfg (wrs { d with sys := { d.sys with portsFree := true } }
    [(F.GLB_BOOT_STAGE, 0xF), (F.GLB_BOOT_FCAUSE, cause)]) 0) 1

/-- Step 3 of R86 when its condition holds: the switched domains are powered, the PLLs are started. -/
def stepClocks (d : Dev) : Dev :=
  if serving d && stage d == 1 && d.sys.rails == allRails then
    wrs d [(F.GLB_BOOT_STAGE, 2), (F.PWR_DOMSTAT_ON, 2 ^ 30 - 1)]
  else d

/-- Step 7 of R86: with the zero-fill complete and a bank verified, the control processors are released. -/
def stepCpu (d : Dev) : Dev :=
  if stage d == 4 && d.sys.zeroDone then
    match d.sys.verifiedBank with
    | some b => bankStarted (wrs d [(F.GLB_BOOT_STAGE, 5), (F.GLB_BOOT_BANK, b)]) b
    | none => d
  else d

/-- What survives a reset of the whole device: the inputs, the media, the firmware array, the persistent log, the recorded PLL
fault while VDD_AON stays up (R89), and the outputs already issued. -/
def coldDev (d : Dev) : Dev :=
  { (mediaOnly d true) with
    sys := { pwrgd := d.sys.pwrgd, rails := d.sys.rails, xtalBad := d.sys.xtalBad, pfailLow := d.sys.pfailLow,
             tamperLow := d.sys.tamperLow, perstLow := d.sys.perstLow, refPresent := d.sys.refPresent,
             pllFault := if bitOf d.sys.rails 0 then d.sys.pllFault else 0, fuse := d.sys.fuse }
    out := d.out }

/-- PWRGD_AON_RISE (R79, R86 step 1): a level input, which VDD_AON and VDD_IO may follow. -/
def execPwrgdAonRise (s : State) : Host.Outcome State Fault Refusal :=
  let d := s.dev
  finish s (guardDev (!d.sys.pwrgd) d
    (let d1 := coldDev d
     { d1 with sys := { d1.sys with pwrgd := true } }))

/-- PWRGD_AON_FALL (R78, R79): the device is held in reset. -/
def execPwrgdAonFall (s : State) : Host.Outcome State Fault Refusal :=
  let d := s.dev
  finish s (let d1 := coldDev d
            { d1 with sys := { d1.sys with pwrgd := false } })

/-- CRYSTAL_STABLE (R80, R86 step 2): the AON domain is released and the straps are sampled; with every rail good, step 3
follows at once. GLB_RSTCAUSE reports a recorded PLL fault (R89). -/
def execCrystalStable (bootSel smb : Nat) (testEn : Bool) (s : State) : Host.Outcome State Fault Refusal :=
  let d := s.dev
  finish s (guardDev (d.sys.pwrgd && !d.sys.aon && aonRailsGood d && !d.sys.xtalBad) d
    (let d1 := { d with sys := { d.sys with aon := true, time := 0, everGood := d.sys.rails, testEn := testEn,
                                            pllFault := 0 } }
     let d2 := wrs d1 [(F.GLB_STRAP_BOOT_SEL, bootSel), (F.GLB_STRAP_SMB_ADDR, smb), (F.GLB_BOOT_STAGE, 1),
       (F.GLB_RSTCAUSE_CAUSE, if d.sys.pllFault == 0 then 0 else 4), (F.GLB_RSTCAUSE_PLL, d.sys.pllFault),
       (F.PFL_STAT_PFAIL, b2n d.sys.pfailLow), (F.CLK_STAT_REFA, b2n (d.sys.refPresent.contains 0)),
       (F.CLK_STAT_REFB, b2n (d.sys.refPresent.contains 1)), (F.CFG_WORDS_COUNT, configWordCount),
       (F.ALM_STAT_LIVE, if d.sys.tamperLow then 1 else 0)]
     stepClocks (showRails d2)))

/-- RAIL_GOOD (R74, R78, R86 step 3). A PCIe rail that returns lets the ports behave as after PERST#. -/
def execRailGood (rail : Nat) (s : State) : Host.Outcome State Fault Refusal :=
  let d := s.dev
  finish s (guardDev (rail < 14 && !bitOf d.sys.rails rail) d
    (let r := d.sys.rails + 2 ^ rail
     let d1 := { d with sys := { d.sys with rails := r, everGood := if d.sys.aon then (d.sys.everGood ||| 2 ^ rail) else d.sys.everGood } }
     let d2 := if d.sys.pcieRailLost && bitOf r 3 && bitOf r 4 then
         takeLinkCfg (takeLinkCfg { d1 with sys := { d1.sys with pcieRailLost := false } } 0) 1 else d1
     stepClocks (showRails d2)))

/-- RAIL_LOST (R74, R77, R78). A rail that the flush needs ends a flush in progress without its record. -/
def execRailLost (rail : Nat) (s : State) : Host.Outcome State Fault Refusal :=
  let d := s.dev
  finish s (guardDev (rail < 14 && bitOf d.sys.rails rail) d
    (let d1 := { d with sys := { d.sys with rails := d.sys.rails - 2 ^ rail } }
     if rail == 0 || rail == 12 then coldDev d1
     else if !d.sys.aon then d1
     else
       let d2 := showRails (if bitOf d.sys.everGood rail then setBit d1 F.PWR_RAILLOST_LOST rail true else d1)
       let d3 := raise d2 2 10
       if d.sys.dead then d3
       else if rail == 3 || rail == 4 then
         portDown (portDown { d3 with sys := { d3.sys with pcieRailLost := true } } 0) 1
       else if stage d == 0xF then d3
       else if flushing d then (if rd d F.PFL_STAT_STATE ≤ 5 && !d.sys.flushLost && flushRails.contains rail then flushAbort d3 else d3)
       else flushBegin d3 2))

/-- PLLS_LOCKED (R86 step 4): the fuse map is loaded and applied. The PLL of a port locks only with its REFCLK. -/
def execPllsLocked (fuse : Fuse) (s : State) : Host.Outcome State Fault Refusal :=
  let d := s.dev
  finish s (guardDev (serving d && stage d == 2) d
    (let lock := 2 ^ 21 - 1 + (if d.sys.refPresent.contains 0 then 2 ^ 21 else 0) + (if d.sys.refPresent.contains 1 then 2 ^ 22 else 0)
     let d1 := { d with sys := { d.sys with fuse := fuse } }
     applyFuse (wrs d1 [(F.GLB_BOOT_STAGE, 3), (F.CLK_STAT_LOCK, lock)])))

/-- PLL_LOCK_FAILURE (R88, R89): FCAUSE 5. Which PLLs locked is a free value; a port's PLL follows its REFCLK. [log entry 33 DEDUCED] -/
def execPllLockFailure (s : State) : Host.Outcome State Fault Refusal :=
  let d := s.dev
  finish s (guardDev (serving d && stage d == 2) d
    (tick (stageFail (wr d F.CLK_STAT_LOCK (Config.pllsLocked d.free % 2 ^ 21
      + (if d.sys.refPresent.contains 0 then 2 ^ 21 else 0) + (if d.sys.refPresent.contains 1 then 2 ^ 22 else 0))) 5)))

/-- FUSE_MAP_LOADED (R86 step 5): the ports are released, HBM training and bank verification start; a bad CRC ends in FAIL. With TEST_EN
sampled at 1 the sequence holds at the end of step 4 (R466). -/
def execFuseMapLoaded (crcOk : Bool) (s : State) : Host.Outcome State Fault Refusal :=
  let d := s.dev
  finish s (guardDev (serving d && stage d == 3) d
    (if crcOk && d.sys.testEn then d
     else if crcOk then
       takeLinkCfg (takeLinkCfg (wr { d with sys := { d.sys with portsFree := true } } F.GLB_BOOT_STAGE 4) 0) 1
     else stageFail d 1))

/-- HBM_TRAINED (R86 step 6). -/
def execHbmTrained (ok : Bool) (s : State) : Host.Outcome State Fault Refusal :=
  let d := s.dev
  finish s (guardDev (serving d && stage d == 4 && !d.sys.hbmOk) d
    (if ok then { d with sys := { d.sys with hbmOk := true, zeroT := d.sys.time } } else stageFail d 2))

/-- ZERO_FILL_COMPLETE (R86 step 7, R379): a memory whose read-back was not zero ends the sequence with FCAUSE 3. -/
def execZeroFillComplete (bad : Option Nat) (s : State) : Host.Outcome State Fault Refusal :=
  let d := s.dev
  finish s (guardDev (serving d && stage d == 4 && d.sys.hbmOk && !d.sys.zeroDone) d
    (let d1 := wrs { d with sys := { d.sys with zeroDone := true } }
       [(F.MEM_ZSTAT_DONE, 1), (F.MEM_ZTIME_US, ceilDiv (d.sys.time - d.sys.zeroT) 1000)]
     match bad with
     | some m => stageFail (wrs d1 [(F.MEM_ZSTAT_FAIL, 1), (F.MEM_ZSTAT_MEMID, m)]) 3
     | none => stepCpu d1))

/-- BANK_VERIFIED (R87, R404, R411): the bank passes when its header is in order, every block CRC passes and the signature is valid
under a trusted key. The preferred bank is checked first; with neither bank good, FCAUSE 4. After the processors run, the
engine verifies the other bank as well. -/
def execBankVerified (bank : Nat) (verdict : ImgVerdict) (s : State) : Host.Outcome State Fault Refusal :=
  let d := s.dev
  let pref := preferredBank d
  let expected := if d.sys.bankFailed then 1 - pref else pref
  let ok := (imgVerifies d bank verdict).isSome
  let late := serving d && (stage d == 5 || stage d == 6) && bank == 1 - rd d F.FWA_BANK_EXEC
  finish s (if late then
      showBank (wr d (if bank == 0 then F.GLB_BOOT_B0OK else F.GLB_BOOT_B1OK) (b2n ok)) bank ok
    else guardDev (serving d && stage d == 4 && d.sys.verifiedBank.isNone && bank == expected) d
    (if ok then
       let d1 := wrs d [(if bank == 0 then F.GLB_BOOT_B0OK else F.GLB_BOOT_B1OK, 1),
         (F.GLB_BOOT_FALLBACK, b2n (!(bank == pref)))]
       stepCpu { d1 with sys := { d1.sys with verifiedBank := some bank } }
     else if d.sys.bankFailed then arrayShow (stageFail d 4)
     else { d with sys := { d.sys with bankFailed := true } }))

/-- Set PAGE_STAT.ON on the pages whose domain is powered: the AON and fabric pages always, the others with their domain
(R46, R86 step 8, R453). -/
def setOn (d : Dev) : Dev :=
  allPages.foldl (fun d p =>
    let n := domainOf p
    if n ≥ 30 || domOn d n then setHdr d p { hdrOf d p with on := true } else d) d

/-- FIRMWARE_INITIALISED (R86 step 8). -/
def execFirmwareInitialised (s : State) : Host.Outcome State Fault Refusal :=
  let d := s.dev
  finish s (guardDev (serving d && stage d == 5) d
    (imageRunning (logNote (setOn (wrs d [(F.GLB_BOOT_STAGE, 6), (F.GLB_READYT_T, now32 d)])) 0xFF01 [])))

/-- FIRMWARE_READY_TIMEOUT (R411): the processors restart from the other verified bank, and a CAUSE 3 bank record is written. -/
def execFirmwareReadyTimeout (s : State) : Host.Outcome State Fault Refusal :=
  let d := s.dev
  finish s (guardDev (serving d && stage d == 5) d (readyTimeout d))

/-! ### Clocks (R83 to R85) -/

/-- CRYSTAL_FAILURE (R83): the RC oscillator takes over, XFAIL is raised, the emergency flush starts and the clock-glitch alarm erases
the keys; commands that need them are not Completed. -/
def execCrystalFailure (s : State) : Host.Outcome State Fault Refusal :=
  let d := { s.dev with sys := { s.dev.sys with xtalBad := true } }
  finish s (guardDev (alive d && !s.dev.sys.xtalBad) d
    (alarmFire (flushBegin (raise (wr d F.CLK_STAT_XRC 1) 3 9) 3) almCLOCK))

/-- CRYSTAL_RETURN (R83, R351). -/
def execCrystalReturn (s : State) : Host.Outcome State Fault Refusal :=
  let d := { s.dev with sys := { s.dev.sys with xtalBad := false } }
  finish s (guardDev d.sys.aon d (setBit (wr d F.CLK_STAT_XRC 0) F.ALM_STAT_LIVE almCLOCK false))


/-- PLL_UNLOCK (R85). -/
def execPllUnlock (pll : Nat) (s : State) : Host.Outcome State Fault Refusal :=
  let d := s.dev
  finish s (guardDev (alive d && pll < 23 && bitOf (rd d F.CLK_STAT_LOCK) pll) d
    (raise (setBit d F.CLK_STAT_LOCK pll false) 3 8))

/-- PLL_RELOCK (R85): not of a group that its PLL has isolated, which needs a restart (R307). -/
def execPllRelock (pll : Nat) (s : State) : Host.Outcome State Fault Refusal :=
  let d := s.dev
  finish s (guardDev (alive d && pll < 23 && !bitOf (rd d F.CLK_STAT_LOCK) pll && stage d ≥ 3 && pllDomainOn d pll
      && !(5 ≤ pll && pll ≤ 20 && pllBroken d (pll - 5)) && (pll < 21 || d.sys.refPresent.contains (pll - 21))) d
    (let d1 := setBit d F.CLK_STAT_LOCK pll true
     if pll ≥ 21 && d.sys.portDead.contains (pll - 21) then
       takeLinkCfg { d1 with sys := { d1.sys with portDead := ndel (pll - 21) d1.sys.portDead } } (pll - 21)
     else d1))

/-- PLL_RELOCK_TIMEOUT (R85): a channel group is isolated, a port is taken down, or the device is faulty. -/
def execPllRelockTimeout (pll : Nat) (s : State) : Host.Outcome State Fault Refusal :=
  let d := s.dev
  finish s (guardDev (alive d && pll < 23 && !bitOf (rd d F.CLK_STAT_LOCK) pll && stage d ≥ 3 && pllDomainOn d pll) d
    (if pll ≤ 4 then { d with sys := { d.sys with dead := true, pllFault := pll + 1 } }
     else if pll ≤ 20 then
       foldUpto 4 (fun i d => chanFaultIsolate d (4 * (pll - 5) + i) icPLL) { d with sys := { d.sys with pllDead := nins (pll - 5) d.sys.pllDead } }
     else
       let port := pll - 21
       let d1 := if d.sys.refPresent.contains port then d else raise d 3 10
       portReset { d1 with sys := { d1.sys with portDead := nins port d1.sys.portDead } } port))

/-- PORT_PLL_RETRY (R85): once the PLL locks, the port behaves as after deassertion of its PERST#. -/
def execPortPllRetry (port : Nat) (locked : Bool) (s : State) : Host.Outcome State Fault Refusal :=
  let d := s.dev
  finish s (guardDev (alive d && port ≤ 1 && !bitOf (rd d F.CLK_STAT_LOCK) (21 + port) && domOn d (16 + port)) d
    (if locked && d.sys.refPresent.contains port then
       takeLinkCfg (setBit { d with sys := { d.sys with portDead := ndel port d.sys.portDead } } F.CLK_STAT_LOCK (21 + port) true) port else d))

/-- REFCLK_LOSS (R82, R84, R85): the port keeps its links down and its PLL loses lock; the other port is not affected. -/
def execRefclkLoss (port : Nat) (s : State) : Host.Outcome State Fault Refusal :=
  let d := { s.dev with sys := { s.dev.sys with refPresent := ndel port s.dev.sys.refPresent } }
  finish s (guardDev (alive d && port ≤ 1 && s.dev.sys.refPresent.contains port) d
    (portDown (raise (raise (setBit (wr d (if port == 0 then F.CLK_STAT_REFA else F.CLK_STAT_REFB) 0) F.CLK_STAT_LOCK (21 + port) false) 3 8) 3 10) port))

/-- REFCLK_RETURN (R82, R84). -/
def execRefclkReturn (port : Nat) (s : State) : Host.Outcome State Fault Refusal :=
  let d := { s.dev with sys := { s.dev.sys with refPresent := nins port s.dev.sys.refPresent } }
  finish s (guardDev (d.sys.aon && port ≤ 1) d (wr d (if port == 0 then F.CLK_STAT_REFA else F.CLK_STAT_REFB) 1))

/-! ### PFAIL# and the warm restart (R90, R229, R231) -/

/-- PFAIL_ASSERT (R229, R235): the pin shows in PFL_STAT.PFAIL and starts the emergency flush; a second trigger during a flush is
ignored. [log entry 106 DESIGN CHOICE] -/
def execPfailAssert (s : State) : Host.Outcome State Fault Refusal :=
  let d := { s.dev with sys := { s.dev.sys with pfailLow := true } }
  finish s (guardDev d.sys.aon d
    (let d1 := wr d F.PFL_STAT_PFAIL 1
     if d.sys.dead then d1 else flushBegin d1 1))

/-- PFAIL_DEASSERT (R231, R235). -/
def execPfailDeassert (s : State) : Host.Outcome State Fault Refusal :=
  let d := { s.dev with sys := { s.dev.sys with pfailLow := false } }
  finish s (guardDev d.sys.aon d (wr d F.PFL_STAT_PFAIL 0))

/-- The health counters of the channels return to 0 only when PWRGD_AON rises (R300). -/
def keepHealth (old d : Dev) : Dev :=
  foldUpto 64 (fun c d => [0x78, 0x7C, 0x80].foldl (fun d o => setActW d (0x30000 + 0x1000 * c + o) (actW old (0x30000 + 0x1000 * c + o))) d) d

/-- WARM_RESTART (R90, R424): after a flush, also one that could not complete, with PFAIL# high, all rails good and the crystal in range, steps 3 to 8 run again. The
time base, GLB_STRAP and the write-once fields stay, GLB_RSTCAUSE is written, every other register returns to reset. [log entry 32 DEDUCED] -/
def execWarmRestart (s : State) : Host.Outcome State Fault Refusal :=
  let d := s.dev
  finish s (guardDev (alive d && (rd d F.PFL_STAT_STATE == 6 || d.sys.flushLost) && !(stage d == 0xF) && !d.sys.pfailLow && d.sys.rails == allRails && !d.sys.xtalBad
      && (!(d.sys.restartCause == 6) || rdS16 d F.THM_HOT_T ≤ rdS16 d F.THM_TRIP_T - 160)) d
    (let b := mediaOnly d false
     let d1 : Dev := { b with
       hub := { ({} : Hub) with woTaken := d.hub.woTaken }
       sys := { d.sys with everGood := allRails, portsFree := false, hbmOk := false, zeroDone := false, bankFailed := false,
                           verifiedBank := none, domOp := none, domHeld := [], readOpen := [], psTarget := 0, psGated := [], psLate := [],
                           restartCause := 0, flushed := false, flushLost := false,
                           pcieRailLost := false, orA := false, orB := false, pllDead := [], portDead := [] }
       out := d.out }
     let d2 := keepHealth d (setActW (setActW (setActW d1 0x140 (actW d 0x140)) 0x160 (actW d 0x160)) 0x6040 (actW d 0x6040))
     stepClocks (showRails (wrs d2 [(F.GLB_RSTCAUSE_CAUSE, d.sys.restartCause), (F.GLB_RSTCAUSE_FLUSHED, b2n d.sys.flushed),
       (F.GLB_RSTCAUSE_RAILS, rd d F.PWR_RAILLOST_LOST), (F.CLK_STAT_REFA, b2n (d.sys.refPresent.contains 0)),
       (F.CLK_STAT_REFB, b2n (d.sys.refPresent.contains 1)), (F.CFG_WORDS_COUNT, configWordCount),
       (F.ALM_STAT_LIVE, if d.sys.tamperLow then 1 else 0)]))))

end Sys2Proof.Machine
end

