-- ==== Sys2Proof/Machine/Smbus.lean ====
section
/-!
DEFINITION. The SMBus target (R437) and the TAP (R466). Both run from the AON supply: in every power state, gate state and boot stage.
The PEC byte of a reply is left to the bus (see the assumption log).
-/
namespace Sys2Proof.Machine

/-- Bytes of words, the least significant first. [log entry 25 DEDUCED] -/
def smbBytes (l : List Word) : List Nat := l.flatMap (fun w => (List.range 4).map (fun i => bitsOf w.toNat (8 * i) 8))

/-- A block read of words. [log entry 25 DEDUCED] -/
def smbusRead (l : Dev → List Word) (s : State) : Host.Outcome State Fault Refusal :=
  finish s (guardDev s.dev.sys.aon s.dev (emit s.dev (.smbus (smbBytes (l s.dev)))))

/-- SMBUS_READ_STATUS. -/
def execSmbusReadStatus (s : State) : Host.Outcome State Fault Refusal :=
  smbusRead (fun d => [0x144, 0x1040, 0x84, 0x2078].map (actW d)) s

/-- SMBUS_READ_TEMPERATURE. -/
def execSmbusReadTemperature (s : State) : Host.Outcome State Fault Refusal :=
  smbusRead (fun d => [0x4068, 0x406C].map (actW d)) s

/-- SMBUS_READ_SENSORS. -/
def execSmbusReadSensors (s : State) : Host.Outcome State Fault Refusal :=
  smbusRead (fun d => (List.range 10).map (fun n => actW d (0x4040 + 4 * n))) s

/-- SMBUS_READ_POWER: the power is the AON monitor's own measurement. -/
def execSmbusReadPower (s : State) : Host.Outcome State Fault Refusal :=
  smbusRead (fun d => [BitVec.ofNat 32 d.admin.aonPower, actW d 0x2050, actW d 0x2054]) s

/-- SMBUS_READ_IDENTITY: the version is the hub's copy, 0 before READY and in STAGE FAIL. -/
def execSmbusReadIdentity (s : State) : Host.Outcome State Fault Refusal :=
  smbusRead (fun d => [actW d 0x604C, actW d 0x148, actW d 0x40, if stageReady d then BitVec.ofNat 32 d.upd.aonVer else 0]) s

/-- SMBUS_SET_OFFSET: a block write of four bytes. -/
def execSmbusSetOffset (bytes : List Nat) (s : State) : Host.Outcome State Fault Refusal :=
  let d := s.dev
  let v := (bytes.take 4).foldr (fun b a => b % 256 + 256 * a) 0
  finish s (guardDev (d.sys.aon && bytes.length == 4) d { d with sys := { d.sys with smbOff := v } })

/-- A dropped SMBus access: GLB_OFFACC does not have a port for it. -/
def smbusOff (d : Dev) (cause off : Nat) : Dev := offAcc (tick d) (b2n (Config.smbusPort d.free)) false cause off

/-- The register read of command 0x11: the word, voted (R60), and the device after it. `timedOut`: the crossing into another island did not end
within 1.5 µs. [log entries 18 DESIGN CHOICE; 25 DEDUCED] -/
def smbusReg (d : Dev) (off : Nat) (timedOut : Bool) : Word × Dev :=
  let p := pageOf off
  if !(off % 4 == 0) || off == 0xC064 || off == 0x1E080 then (0, d)
  else if off ≥ 0x100000 then (0, smbusOff d 4 off)
  else if !implemented p then (0, smbusOff d 1 off)
  else if inPage off < 0x40 then (readWord d off, d)
  else if !answers d p then (0, raise (smbusOff d 0 off) p 4)
  else if timedOut && !(islandOf p == 0) then (0, raise (smbusOff d 2 off) p 4)
  else if off == 0x7304C then ((trngRead d).2, (trngRead d).1)
  else (readWord (voteAt d off) off, voteAt d off)

/-- SMBUS_ALERT_RESPONSE: answered only while ALERT# is low; ALERT# stays as it is. -/
def execSmbusAlertResponse (s : State) : Host.Outcome State Fault Refusal :=
  let d := s.dev
  finish s (guardDev (d.sys.aon && d.sys.alertLow) d (emit d (.smbus [0x60 + rd d F.GLB_STRAP_SMB_ADDR])))

/-! ### The TAP (R466) -/

/-- IDCODE of the device: bits [31:28] the revision, [27:12] the part. [log entries 19 DESIGN CHOICE; 105 PRESUMED] -/
def idcode (d : Dev) : Word :=
  let st := rd d F.GLB_BOOT_STAGE
  let known := 3 ≤ st && st ≤ 6
  let part : Word := if known then (if d.sys.fuse.variant == 2 then 0x6412 else 0x6424) else Config.idcodePart
  putBits (putBits (Config.idcodeLow &&& 0xFFF) 12 16 part.toNat) 28 4 1

/-- The instruction that is in force for an instruction shifted in: with TEST_EN 0, all but three act as BYPASS. [log entries 20 DEDUCED; 105 PRESUMED] -/
def tapEffect (d : Dev) (ir : TapIr) : TapIr :=
  match ir with
  | .bypass => .bypass
  | .idcode => .idcode
  | .samplePreload => .samplePreload
  | .other => .bypass
  | x => if d.sys.testEn then x else .bypass

/-- TAP_INSTRUCTION: IDCODE captures the identity, BYPASS a 0; the boundary-scan instructions act on the pads alone. -/
def execTapInstruction (ir : TapIr) (s : State) : Host.Outcome State Fault Refusal :=
  let d := s.dev
  let e := tapEffect d ir
  let d1 := { d with sys := { d.sys with tapIr := e } }
  finish s (guardDev d.sys.pwrgd d (match e with
    | .idcode => emit d1 (.tdo (idcode d))
    | .bypass => emit d1 (.tdo 0)
    | _ => d1))

end Sys2Proof.Machine
end

