-- ==== Sys2Proof/Machine/RegAccess.lean ====
section
/-!
DEFINITION. The register hub (chapter Register Model): which bits a word has, what a write and a read of each word do, the bit-alias
window, dropped accesses, and the accesses that wait behind a Catch.
-/
namespace Sys2Proof.Machine

/-! ### Bits that exist (R42 to R70) -/

/-- A field of ones from bit `lo` to bit `hi`. -/
def ones (lo hi : Nat) : Nat := 2 ^ (hi + 1) - 2 ^ lo

/-- Bits of the EVT words of a page: bits 4 to 0 (R47) and the block events of its chapter. -/
def evtMask (p : Nat) : Word :=
  let blk := if p == 0 then ones 8 9 else if p == 1 then ones 8 10 else if p == 2 then ones 8 12
    else if 3 ≤ p && p ≤ 5 then ones 8 10 else if p == 6 then ones 8 8 else if p == 7 then ones 8 11
    else if 8 ≤ p && p ≤ 0xB then ones 8 9 else if p == 0xC then ones 8 10 else if p == 0xD then ones 8 13
    else if p == 0x10 || p == 0x11 then ones 8 11 else if p == 0x12 || p == 0x13 then ones 8 12
    else if 0x14 ≤ p && p ≤ 0x17 then ones 8 26 else if p == 0x18 then ones 8 9 else if p == 0x19 then ones 8 11
    else if 0x1A ≤ p && p ≤ 0x1D then ones 8 24 else if p == 0x1E then ones 8 9 else if p == 0x1F then ones 8 10
    else if p == 0x20 then ones 8 11 else if 0x21 ≤ p && p ≤ 0x23 then ones 8 9 else if p == 0x24 || p == 0x25 then ones 8 10
    else if p == 0x27 then ones 8 8 else if p == 0x28 then ones 8 9 else if p == 0x29 then ones 8 10
    else if 0x30 ≤ p && p ≤ 0x70 then ones 8 13 else if p == 0x71 then ones 8 10 else if p == 0x72 || p == 0x73 then ones 8 8
    else if p == 0x78 then ones 8 9 else if 0x79 ≤ p && p ≤ 0x7C then ones 8 31
    else if p == 0x7D || p == 0x7E then ones 8 9 else 0
  BitVec.ofNat 32 (0x1F + blk)

/-- Bits of a header word that are not reserved. -/
def hdrMask (p o : Nat) : Word :=
  if o == 0x00 then 0xFFFFFFFF else if o == 0x04 then 0x00FFFFFF else if o == 0x08 then 0x703 else if o == 0x0C then 0xFFF3
  else if o == 0x10 || o == 0x14 || o == 0x18 || o == 0x1C then evtMask p
  else if o == 0x20 then 7 else if o == 0x24 then 0xFFFFFFF3 else if o == 0x28 then 0xFFF3 else if o == 0x2C then 0xFFFFF3 else 0

/-- Bits of a block register that are not reserved. -/
def rowMask (r : RegRow) : Word := r.rw ||| r.ro ||| r.sh ||| r.tv ||| r.w1c ||| r.w1s ||| r.wo1

/-- Bits of a word of an implemented page that are not reserved: none of a reserved word. [log entry 4 DESIGN CHOICE] -/
def knownMask (off : Nat) : Word :=
  if inPage off < 0x40 then hdrMask (pageOf off) (inPage off) else ((regRow? off).map rowMask).getD 0

/-! ### Dropped accesses (R40, R41, R67 to R69) -/

/-- The cause GLB_OFFACC records for an access that is not served: size or alignment, unmapped, reserved page, gated island. -/
def hubCause (d : Dev) (r : HubReq) : Option Nat :=
  if !r.ok then some 3
  else if r.off ≥ 0x100000 then some 4
  else if !implemented (pageOf r.off) then some 1
  else if inPage r.off ≥ 0x40 && !answers d (pageOf r.off) then some 0
  else none

/-- A write sets a bit that is reserved and reads 0, or a reserved word (R70). [log entry 4 DESIGN CHOICE] -/
def badWrite (d : Dev) (r : HubReq) : Bool :=
  match hubCause d r, r.value, r.bit with
  | none, some v, none => !(v &&& ~~~ knownMask r.off == 0)
  | none, some v, some b => bitOf v.toNat 0 && !bitOf (knownMask r.off).toNat b
  | _, _, _ => false

/-! ### Header writes (R45 to R52, R59, R63, R72) -/

/-- EVT_TEST raises a bit as the hardware event would; the events of the log itself are not logged (R436). [log entry 24 DEDUCED] -/
def testRaise (d : Dev) (p b : Nat) : Dev := if p == 0x7E && b ≥ 8 then setRaw d p (BitVec.ofNat 32 (2 ^ b)) else raise d p b

/-- A write of EVT_TEST. [log entry 24 DEDUCED] -/
def evtTest (d : Dev) (p : Nat) (v : Word) : Dev :=
  foldUpto 32 (fun b d => if bitOf (v &&& evtMask p).toNat b then testRaise d p b else d) d

/-- The message is sent again where the page is routed and events are still pending (R132). [log entry 56 DEDUCED] -/
def remind (d : Dev) (p port : Nat) : Dev :=
  let routed := if port = 0 then (hdrOf d p).irqA else (hdrOf d p).irqB
  if routed && routedOr d port then eventMessage d port else d

/-- A write of EVT_RAW clears bits. -/
def evtClear (d : Dev) (p : Nat) (v : Word) : Dev :=
  let d1 := setHdr d p { hdrOf d p with evtRaw := (hdrOf d p).evtRaw &&& ~~~ v }
  pbaSettle (remind (remind d1 p 0) p 1)

/-- A write of PAGE_CTRL. -/
def pageCtrl (d : Dev) (p : Nat) (v : Nat) : Dev :=
  let d1 := if bitOf v 1 && !(hdrOf d p).cbusy then psLater (discardPage d p) else d
  setHdr d1 p { hdrOf d1 p with view := bitOf v 0, irqA := bitOf v 8, irqB := bitOf v 9, alert := bitOf v 10 }

/-- A write of CATCH_SEL. -/
def catchSel (d : Dev) (p : Nat) (v : Nat) : Dev :=
  if p ≤ 1 then d
  else if (hdrOf d p).pend || (hdrOf d p).cbusy then refusePage d p 0x20 0x81
  else setHdr d p { hdrOf d p with group := v % 8 }

/-- A write of WO_VIOL or VOTE_STAT. [log entry 21 DEDUCED] -/
def clearRecord (h : PageHdr) (o v : Nat) : PageHdr :=
  if o == 0x28 then (if bitOf v 0 then { h with woValid := false, woOver := false, woWhere := 0 } else h)
  else
    let h1 : PageHdr := if bitOf v 0 then { h with single := false, scount := 0 } else h
    if bitOf v 1 then { h1 with triple := false } else h1

/-- A write of a header word. -/
def hdrWrite (d : Dev) (p o : Nat) (v : Word) : Dev :=
  if o == 0x08 then pbaSettle (pageCtrl d p v.toNat)
  else if o == 0x10 then evtClear d p v
  else if o == 0x14 then pbaSettle (setHdr d p { hdrOf d p with evtEn := v &&& evtMask p })
  else if o == 0x1C then evtTest d p v
  else if o == 0x20 then catchSel d p v.toNat
  else if o == 0x24 then (if bitOf v.toNat 1 then setHdr d p { hdrOf d p with refused := false } else d)
  else if o == 0x28 || o == 0x2C then setHdr d p (clearRecord (hdrOf d p) o v.toNat)
  else d

/-! ### Writes of a block register by the kinds of its fields (R50) -/

/-- A write of a configuration word moves the gate from BLANK or HELD to STAGED (R102, R113). -/
def touchConfig (d : Dev) (off : Nat) (r : RegRow) : Dev :=
  let st := rd d F.CFG_GATE_STATE
  if imagePage (pageOf off) && !(imageMask r == 0) && !(off == 0x80) && (st == 0 || st == 3)
      && !(rd d F.GLB_BOOT_STAGE == 0xF) && !d.sys.testEn then wr d F.CFG_GATE_STATE 1
  else d

/-- A write of shadow bits: PEND is set (R50); a write after the snapshot of a commit keeps it set (R57). -/
def shadowWrite (d : Dev) (off : Nat) (v : Word) : Dev :=
  let p := pageOf off
  let h := hdrOf d p
  setHdr (setShdW (if tvMask off == 0 then d else tvTaken d off true) off v) p { h with pend := true, late := h.late || rd d F.CFG_GATE_STATE == 2 }

/-- A write of a write-once field (R71, R72). An ignored write moves no gate (R102). [log entry 134 DESIGN CHOICE] -/
def writeOnce (d : Dev) (off : Nat) (r : RegRow) (v : Word) : Dev :=
  if d.hub.woTaken.contains off then woViol d off
  else
    let d1 := setActW (tvTaken d off false) off ((actW d off &&& ~~~ r.wo1) ||| (v &&& r.wo1))
    touchConfig { d1 with hub := { d1.hub with woTaken := nins off d1.hub.woTaken } } off r

/-- A write of a word: RW takes the bits, W1C clears them, SH goes to the shadow, WO1 takes its first write. -/
def storeWord (d : Dev) (off : Nat) (r : RegRow) (v : Word) : Dev :=
  if !(r.wo1 == 0) then writeOnce d off r v
  else
    let d1 := if r.rw ||| r.w1c == 0 then d
      else setActW (if r.tv == 0 then d else tvTaken d off false) off (((actW d off &&& ~~~ r.rw) ||| (v &&& r.rw)) &&& ~~~ (v &&& r.w1c))
    let d2 := if r.sh == 0 then d1 else shadowWrite d1 off v
    touchConfig d2 off r

/-- The writable bits of a word as they stand, with every action bit 0. -/
def standing (d : Dev) (off : Nat) (r : RegRow) : Word :=
  if off == 0xC064 then (dataAccess d none).1
  else if !(r.wo1 == 0) then actW d off &&& r.wo1
  else (actW d off &&& r.rw) ||| (shdW d off &&& r.sh)

/-! ### Registers whose write acts -/

/-- Words of pages GLB to KEY that hold a record cleared by its VALID bit. [log entry 21 DEDUCED] -/
def recordClear (d : Dev) (off : Nat) : Dev :=
  if off == 0x108 then setActW (setActW d 0x108 0) 0x10C 0 else setActW d off 0

/-- A write of SEAT_KICK (R135): a seat 0 or 1, an unattached seat or one already being reaped raises KREF. -/
def kickSeat (d : Dev) (sn : Nat) : Dev :=
  match seatOf? d sn with
  | none => raise d 0x12 12
  | some v => if sn ≤ 1 || v.reapAt.isSome then raise d 0x12 12 else reapSeat d sn true

/-- PFL_EHOLD was written (R224): with the gate ACCEPTED, the ceiling and its terms follow. -/
def eholdWritten (d : Dev) : Dev := if accepted d then admRecompute (flushTerms (raise d 5 8)) else d

/-- LDPC_STAT.CLR (R325): every counter and histogram bin of the page becomes 0. -/
def ldpcClear (d : Dev) : Dev := (List.range 15).foldl (fun d i => setActW d (0x28050 + 4 * i) 0) d

/-- A write of ALM_TAMPEN: a detector that is no longer enabled shows no condition (R351). -/
def tampenWritten (d : Dev) : Dev := if rdB d F.ALM_TAMPEN_EN then d else almLive d almTAMPER false

/-- Writes of page GLB to FWA that act beyond the kinds; `g` is the device after the write by kinds. COMMIT of CFG_GATE acts before REOPEN. [log entry 133 DESIGN CHOICE] -/
def actLow (d g : Dev) (port off : Nat) (v : Word) : Option Dev :=
  let n := v.toNat
  if off == 0x100 then some (catchFire g (n % 256))
  else if off == 0x108 || off == 0x204C || off == 0x13070 || off == 0x13088 then some (if bitOf n 31 then recordClear g off else g)
  else if off == 0x1040 then
    let d1 := if bitOf n 0 then gateCommit g else g
    some (if bitOf n 1 then gateReopen d1 else d1)
  else if off == 0x2040 then
    some (if bitOf n 16 then (if serving d then domGo d port (bitsOf n 0 5) (bitOf n 8) else d) else g)
  else if off == 0x2074 then some (psctlWrite g v)
  else if off == 0x5040 then some (eholdWritten g)
  else if off == 0x6040 then some (tampenWritten g)
  else if off == 0x604C then some (almLatchWrite d v)
  else if off == 0x7048 then some (memInjWrite d v)
  else if off == 0x7068 then some (memRpcmdWrite d v)
  else if off == 0xC058 then some (activationLost (opcmdWrite (voteAll d) n))
  else if off == 0xC064 then some (dataAccess d (some v)).2
  else if 0xC068 ≤ off && off ≤ 0xC074 then some (pwdWrite d ((off - 0xC068) / 4) n)
  else if off == 0xC078 then some (pcmdWrite d n)
  else none

/-- The data-mover channel of a slot. -/
def dmcOf (off : Nat) : Nat := 8 * (pageOf off - 0x79) + (inPage off - 0x40) / 0x80

/-- Writes of the higher pages that act beyond the kinds. -/
def actHigh (d g : Dev) (off : Nat) (v : Word) : Option Dev :=
  let p := pageOf off
  let n := v.toNat
  if off == 0x12090 then some (if bitOf n 31 then kickSeat g (n % 512) else g)
  else if off == 0x1E060 then some (stktWrite g v)
  else if off == 0x2804C then some (if bitOf n 8 then ldpcClear g else g)
  else if 0x30 ≤ p && p ≤ 0x6F && inPage off == 0x58 then some (chnCtlWrite g (p - 0x30) v)
  else if 0x79 ≤ p && p ≤ 0x7C then
    let o := (inPage off - 0x40) % 0x80
    if o == 0x00 then some (mvCtlWrite d (dmcOf off) n)
    else if o == 0x04 then some (mvFnWrite d (dmcOf off) v)
    else if o == 0x14 then some (mvTailWrite d (dmcOf off) (n % 4096))
    else none
  else none

/-- A write of one block register that is no half of a writable pair. -/
def oneWrite (d : Dev) (port off : Nat) (r : RegRow) (v : Word) : Dev :=
  let g := storeWord d off r v
  ((if off < 0x12000 || pageOf off == 0x13 then actLow d g port off v else actHigh d g off v)).getD g

/-! ### 64-bit pairs (R51) -/

/-- The word is half of a writable pair. -/
def writablePair (r : RegRow) : Bool := !(r.pair == 0) && !((r.rw ||| r.sh) == 0)

/-- MAP_QSEL takes a new value (R261). [log entry 22 DEDUCED] -/
def pairTaken (d : Dev) (hi : Nat) : Dev := if hi == 0x20064 then mapLookup d else d

/-- A write of a _LO word is held; a write of the _HI word gives the pair its value. The gate moves with the write of the _HI half (R102). [log entry 134 DESIGN CHOICE] -/
def pairWrite (d : Dev) (port off : Nat) (r : RegRow) (v : Word) : Dev :=
  if r.pair == 1 then { d with hub := { d.hub with held := SMap.set d.hub.held (2 * off + port) v } }
  else
    let lo := off - 4
    match regRow? lo with
    | none => d
    | some rl =>
      let w := (SMap.get? d.hub.held (2 * lo + port)).getD (standing d lo rl)
      let d1 := { d with hub := { d.hub with held := SMap.erase d.hub.held (2 * lo + port) } }
      pairTaken (storeWord (storeWord d1 lo rl w) off r v) off

/-- A write of a word that the hub serves. -/
def writeWord (d : Dev) (port off : Nat) (v : Word) : Dev :=
  if inPage off < 0x40 then hdrWrite d (pageOf off) (inPage off) v
  else
    match regRow? off with
    | none => d
    | some r => if writablePair r then pairWrite d port off r v else oneWrite d port off r v

/-! ### Reads -/

/-- The read of a pair half: a _LO read latches the _HI value, a _HI read returns the latch of its own _LO (R51). -/
def pairRead (d : Dev) (port off : Nat) (half : Nat) : Word × Dev :=
  if half == 1 then
    (readWord d off, { d with hub := { d.hub with latch := SMap.set d.hub.latch port (off, readWord d (off + 4)) } })
  else
    match SMap.get? d.hub.latch port with
    | some (lo, w) => (if lo + 4 == off then w else readWord d off, d)
    | none => (readWord d off, d)

/-- A read of a word that the hub serves, with its side effect; a vote is taken first (R60). -/
def hubRead (d0 : Dev) (port off : Nat) : Word × Dev :=
  let d := voteAt d0 off
  if off == 0x1E080 then (traceData d, wr d F.STKT_RIDX_IDX (rd d F.STKT_RIDX_IDX + 1))
  else if off == 0xC064 then dataAccess d none
  else if off == 0x7304C then ((trngRead d).2, (trngRead d).1)
  else
    match regRow? off with
    | some r => if r.pair == 0 then (readWord d off, d) else pairRead d port off r.pair
    | none => (readWord d off, d)

/-! ### The bit-alias window (R64, R65) -/

/-- Register-space offset and bit of an alias address. -/
def aliasOff (addr : Nat) : Nat := (addr - 0x2000000) / 128 * 4
def aliasBit (addr : Nat) : Nat := (addr - 0x2000000) / 4 % 32

/-- A word with one bit set or cleared. -/
def withBit (w : Word) (b : Nat) (one : Bool) : Word := putBits w b 1 (b2n one)

/-- An alias write of a header bit. -/
def aliasHdr (d : Dev) (p o b : Nat) (one : Bool) : Dev :=
  let rw : Word := if o == 0x08 then 0x701 else if o == 0x14 then evtMask p else if o == 0x20 then 7 else 0
  if bitOf rw.toNat b || one then hdrWrite d p o (withBit (hdrWord d p o &&& rw) b one) else d

/-- An alias write of a bit of DMC_CTL: EN starts or stops the channel, STOP and RESET act (R372). -/
def aliasMover (d : Dev) (ch b : Nat) (one : Bool) : Dev :=
  if b == 0 then (if one then mvEnable d ch else mvStop d ch 1)
  else if !one then d
  else if b == 1 then mvStop d ch 1
  else if b == 2 then mvReset d ch else d

/-- An alias write: one bit, by its kind; the other bits of the word keep their voted values (R60). A half of a pair is changed at
once. [log entry 22 DEDUCED] -/
def aliasWrite (d0 : Dev) (port off b : Nat) (one : Bool) : Dev :=
  let d := voteAt d0 off
  if inPage off < 0x40 then aliasHdr d (pageOf off) (inPage off) b one
  else
    match regRow? off with
    | none => d
    | some r =>
      if bitOf r.ro.toNat b || !bitOf (rowMask r).toNat b then d
      else if bitOf (r.w1c ||| r.w1s).toNat b && !one then d
      else if 0x79 ≤ pageOf off && pageOf off ≤ 0x7C && (inPage off - 0x40) % 0x80 == 0 then aliasMover d (dmcOf off) b one
      else
        let v := withBit (standing d off r) b one
        if writablePair r then pairTaken (storeWord d off r v) (if off == 0x20060 then 0x20064 else off)
        else oneWrite d port off r v

/-! ### The order of accesses (R55, R66) -/

/-- A write to a shadowed field of a page whose Catch is in progress stalls (R55). [log entry 23 DEDUCED] -/
def hubStall (d : Dev) (r : HubReq) : Bool :=
  match hubCause d r, r.value with
  | none, some _ =>
    inPage r.off ≥ 0x40 && (hdrOf d (pageOf r.off)).cbusy
      && (match r.bit with
        | none => !(shMask r.off == 0)
        | some b => bitOf (shMask r.off).toNat b)
  | _, _ => false

/-- Serve an access. An alias read of a half of a pair uses the latch as a read of the word does. [log entry 22 DEDUCED] -/
def hubServe (d : Dev) (r : HubReq) : Dev :=
  match hubCause d r with
  | some c =>
    let d1 := offAcc d r.port r.value.isSome c r.off
    let d2 := if c == 0 then raise d1 (pageOf r.off) 4 else d1
    if r.value.isSome then d2 else emit d2 (.reg r.port 0)
  | none =>
    match r.value, r.bit with
    | none, b =>
      let x := hubRead d r.port r.off
      emit x.2 (.reg r.port (match b with
        | none => x.1
        | some i => BitVec.ofNat 32 (bitsOf x.1.toNat i 1)))
    | some v, none => writeWord d r.port r.off v
    | some v, some b => aliasWrite d r.port r.off b (bitOf v.toNat 0)

/-- Serve an access of a port or of the SMBus target. -/
def hubOne (d : Dev) (r : HubReq) : Dev :=
  if r.port == 2 then
    let x := smbusReg d r.off (!r.ok)
    emit x.2 (.smbus (smbBytes [x.1]))
  else hubServe d r

/-- An access waits while one before it stalls or while it stalls itself. [log entry 23 DEDUCED] -/
def hubDo (d : Dev) (r : HubReq) : Dev :=
  if !d.hub.stalled.isEmpty || hubStall d r then { d with hub := { d.hub with stalled := d.hub.stalled ++ [r] } }
  else hubOne d r

/-- Serve the waiting accesses in order, up to one that stalls again. [log entry 23 DEDUCED] -/
def hubReplay (d : Dev) : List HubReq → Dev
  | [] => d
  | r :: rest =>
    if hubStall d r then { d with hub := { d.hub with stalled := r :: rest } }
    else hubReplay (hubOne d r) rest

/-- The accesses that waited for a Catch go on. [log entry 23 DEDUCED] -/
def hubRelease (d : Dev) : Dev := hubReplay { d with hub := { d.hub with stalled := [] } } d.hub.stalled

/-- A command that accesses BAR0 of the management function of a port: nothing happens unless the request reaches the BAR and is
the access its row names (`fits`); a write that sets a reserved bit is refused (R70). [log entry 4 DESIGN CHOICE] -/
def hubRow (fits : Bool) (r : HubReq) (s : State) : Host.Outcome State Fault Refusal :=
  if !(fits && r.port < 2 && barOk s.dev (mgmtFn r.port)) then finish s s.dev
  else if badWrite s.dev r then .refused .reservedBitChanged
  else finish s (hubDo s.dev r)

/-- A write of a register. [log entry 107 DESIGN CHOICE] -/
def writeReq (port off : Nat) (v : Word) : HubReq := ⟨port, off, some v, none, true⟩

/-- A read of a register. -/
def readReq (port off : Nat) : HubReq := ⟨port, off, none, none, true⟩

end Sys2Proof.Machine
end

