-- ==== Sys2Proof/Machine/RegRows.lean ====
section
/-!
DEFINITION. The commands that access registers: the rows of single registers, REG_WRITE for every other register and for BAR2, the
alias window, invalid accesses, Catches, and the SMBus register read.
-/
namespace Sys2Proof.Machine

/-! ### Header and Catch rows -/

/-- SHADOW_DISCARD (R45): PAGE_CTRL is written with its routing and VIEW bits as they are. -/
def execShadowDiscard (port page : Nat) (s : State) : Host.Outcome State Fault Refusal :=
  hubRow (page < 256) (writeReq port (0x1000 * page + 8) (hdrWord s.dev page 8 ||| 2)) s

/-- EVT_TEST_WRITE (R47). -/
def execEvtTestWrite (port page : Nat) (v : Word) (s : State) : Host.Outcome State Fault Refusal :=
  hubRow (page < 256) (writeReq port (0x1000 * page + 0x1C) v) s

/-- EVT_RAW_CLEAR (R47, R48, R132). -/
def execEvtRawClear (port page : Nat) (v : Word) (s : State) : Host.Outcome State Fault Refusal :=
  hubRow (page < 256) (writeReq port (0x1000 * page + 0x10) v) s

/-- CATCH_FIRE (R54, R55, R57). -/
def execCatchFire (port : Nat) (v : Word) (s : State) : Host.Outcome State Fault Refusal :=
  hubRow true (writeReq port 0x100 v) s

/-- CATCH_COMPLETE (R55 step 5): then the writes that stalled behind the Catch land. -/
def execCatchComplete (group : Nat) (s : State) : Host.Outcome State Fault Refusal :=
  let d := s.dev
  finish s (guardDev (alive d && group < 8 && !bitOf (rd d F.GLB_CATCH_DONE_DONE) group) d (psLater (hubRelease (catchFinish d group))))

/-! ### Accesses of any register -/

/-- PAIR_LO_READ (R51): a read of an aligned word of the register space. -/
def execPairLoRead (port off : Nat) (s : State) : Host.Outcome State Fault Refusal :=
  hubRow (off % 4 == 0 && off < 0x100000) (readReq port off) s

/-- ALIAS_ACCESS (R64, R65): `addr` is a BAR0 offset. -/
def execAliasAccess (port addr : Nat) (write : Option Word) (s : State) : Host.Outcome State Fault Refusal :=
  hubRow (addr % 4 == 0 && 0x2000000 ≤ addr && addr < 0x4000000)
    ⟨port, aliasOff addr, write, some (aliasBit addr), true⟩ s

/-- The target offset that GLB_OFFACC records for a BAR0 offset (R69). -/
def targetOff (off : Nat) : Nat := if off < 0x2000000 then off else aliasOff off

/-- BAR0_INVALID_ACCESS (R39 to R41): an access that is not one aligned word, or that no implemented page serves. -/
def execBar0InvalidAccess (port off : Nat) (write whole : Bool) (s : State) : Host.Outcome State Fault Refusal :=
  let ok := whole && off % 4 == 0
  let t := targetOff off
  hubRow (off < 0x4000000 && (!ok || t ≥ 0x100000 || !implemented (pageOf t)))
    ⟨port, t, if write then some 0 else none, none, ok⟩ s

/-- CROSSING_TIMEOUT (R67): only a crossing into another island takes time. -/
def execCrossingTimeout (port off : Nat) (write : Bool) (s : State) : Host.Outcome State Fault Refusal :=
  let d := s.dev
  let p := pageOf off
  finish s (guardDev (port < 2 && barOk d (mgmtFn port) && off % 4 == 0 && off < 0x100000 && implemented p && inPage off ≥ 0x40
      && !(islandOf p == 0) && answers d p && d.hub.stalled.isEmpty) d
    (let d1 := raise (offAcc d port write 2 off) p 4
     if write then d1 else emit d1 (.reg port 0)))

/-- SMBUS_READ_REGISTER (R437): the read waits its turn at the hub. -/
def execSmbusReadRegister (timedOut : Bool) (s : State) : Host.Outcome State Fault Refusal :=
  let d := s.dev
  finish s (guardDev d.sys.aon d (hubDo d ⟨2, d.sys.smbOff, none, none, !timedOut⟩))

/-! ### BAR2 (R122, R127, R457) -/

/-- A write of a word of the function control page; a write of a _LO half waits for its _HI half, per function.
[log entries 4 DESIGN CHOICE; 53 DEDUCED; 112 DESIGN CHOICE] -/
def ctlWrite (d : Dev) (fn off : Nat) (v : Word) : Dev :=
  let c := ctlOf d fn
  let pair := fun (lo : Option Word) (old : Nat) => (lo.getD (BitVec.ofNat 32 old)).toNat + 2 ^ 32 * v.toNat
  if off == 0x10 then setCtl d fn { c with sqbHeld := some v }
  else if off == 0x14 then setCtl d fn { c with sqb := pair c.sqbHeld c.sqb, sqbHeld := none }
  else if off == 0x18 then setCtl d fn { c with cqbHeld := some v }
  else if off == 0x1C then setCtl d fn { c with cqb := pair c.cqbHeld c.cqb, cqbHeld := none }
  else if off == 0x20 then seatReqWrite d fn v.toNat
  else if off == 0x28 then seatRelWrite d fn v.toNat
  else d

/-- A write of a word of a seat window. [log entries 4 DESIGN CHOICE; 53 DEDUCED] -/
def winWrite (d : Dev) (sn off : Nat) (v : Word) : Dev :=
  if off == 0 then modSeat d sn (fun x => { x with sqt := v.toNat % 32 })
  else if off == 4 then
    let d1 := modSeat d sn (fun x => { x with cqh := v.toNat % 32 })
    pbaSettle (if flushing d then d1 else drainCq 32 d1 sn)
  else if off == 8 then seatCtlWrite d sn v.toNat
  else if off == 0x10 then cqintSignal (modSeat d sn (fun x => { x with cqint := v.toNat })) sn
  else d

/-- Bits of a BAR2 word that are not reserved: control page, or a window that holds a seat. [log entry 4 DESIGN CHOICE] -/
def bar2Mask (ctl : Bool) (off : Nat) : Word :=
  if ctl then
    if off == 0 then 0x7FF else if off == 4 then 0xFFFF else if off == 8 || (0x10 ≤ off && off < 0x20) then 0xFFFFFFFF
    else if off == 0x20 then seatReqMask else if off == 0x24 then 0x8F1F01FF else if off == 0x28 then seatRelMask
    else if off == 0x2C then 0x8F000000 else 0
  else if off == 0 || off == 4 then 0x1F else if off == 8 then seatCtlMask else if off == 0xC then 0xFC1FF3FF
  else if off == 0x10 then seatCqintMask else 0

/-- A write of a BAR2 register that exists: function control page below 0x030, window registers below 0x014. Each is a wake event
(R420). [log entry 53 DEDUCED] -/
def bar2Write (fn off : Nat) (v : Word) (s : State) : Host.Outcome State Fault Refusal :=
  let d := s.dev
  let o := off % 0x1000
  let go := serving d || off ≥ 0x1000 || !(o == 0x20 || o == 0x28)
  if !(barOk d fn && off % 4 == 0 && off < 0x21000 && o < (if off < 0x1000 then 0x30 else 0x14)) then finish s d
  else if off < 0x1000 then
    if !(v &&& ~~~ bar2Mask true o == 0) then .refused .reservedBitChanged
    else finish s (wake (if go then ctlWrite d fn o v else d) 1)
  else
    match seatAt? d fn (off / 0x1000 - 1) with
    | none => finish s (wake d 1)
    | some sn =>
      if !(v &&& ~~~ bar2Mask false o == 0) then .refused .reservedBitChanged
      else finish s (wake (if serving d || o < 8 then winWrite d sn o v else d) 1)

/-- REG_WRITE (R50): a write of any register of BAR0, or of BAR2. [log entry 107 DESIGN CHOICE] -/
def execRegWrite (target : RegTarget) (v : Word) (s : State) : Host.Outcome State Fault Refusal :=
  match target with
  | .bar0 port off => hubRow (off % 4 == 0 && off < 0x100000) (writeReq port off v) s
  | .bar2 fn off => bar2Write fn off v s
  | .bar4 fn off => finish s (guardDev (barOk s.dev fn && off % 4 == 0 && off < 0x10000) s.dev (wake (bar4Write s.dev fn off v) 1))

/-! ### Rows of single registers -/

/-- CFG_COMMIT (R100). -/
def execCfgCommit (port : Nat) (s : State) : Host.Outcome State Fault Refusal := hubRow true (writeReq port 0x1040 1) s

/-- CFG_REOPEN (R107). -/
def execCfgReopen (port : Nat) (s : State) : Host.Outcome State Fault Refusal := hubRow true (writeReq port 0x1040 2) s

/-- DOMAIN_GATE (R93): PWR_DOMCMD with OP 1 and GO. -/
def execDomainGate (port dom : Nat) (s : State) : Host.Outcome State Fault Refusal :=
  hubRow (dom < 32) (writeReq port 0x2040 (BitVec.ofNat 32 (0x10100 + dom))) s

/-- DOMAIN_UNGATE (R94): PWR_DOMCMD with OP 0 and GO. -/
def execDomainUngate (port dom : Nat) (s : State) : Host.Outcome State Fault Refusal :=
  hubRow (dom < 32) (writeReq port 0x2040 (BitVec.ofNat 32 (0x10000 + dom))) s

/-- PSCTL_WAKE (R420): HOLD is written as it stands. -/
def execPsctlWake (port : Nat) (s : State) : Host.Outcome State Fault Refusal :=
  hubRow true (writeReq port 0x2074 ((actW s.dev 0x2074 &&& 2) ||| 1)) s

/-- ALM_LATCH_CLEAR (R351). -/
def execAlmLatchClear (port : Nat) (v : Word) (s : State) : Host.Outcome State Fault Refusal :=
  hubRow true (writeReq port 0x604C v) s

/-- SEAT_KICK (R135). -/
def execSeatKick (port : Nat) (v : Word) (s : State) : Host.Outcome State Fault Refusal :=
  hubRow (bitOf v.toNat 31) (writeReq port 0x12090 v) s

/-- STKT_ARM (R217). -/
def execStktArm (port : Nat) (v : Word) (s : State) : Host.Outcome State Fault Refusal :=
  hubRow (bitOf v.toNat 31) (writeReq port 0x1E060 v) s

/-- STKT_FORCE (R217). -/
def execStktForce (port : Nat) (v : Word) (s : State) : Host.Outcome State Fault Refusal :=
  hubRow (bitOf v.toNat 30) (writeReq port 0x1E060 v) s

/-- STKT_STOP (R217). -/
def execStktStop (port : Nat) (v : Word) (s : State) : Host.Outcome State Fault Refusal :=
  hubRow (bitOf v.toNat 29) (writeReq port 0x1E060 v) s

/-- STKT_RDATA_READ (R218). -/
def execStktRdataRead (port : Nat) (s : State) : Host.Outcome State Fault Refusal := hubRow true (readReq port 0x1E080) s

/-- CHN_ISO (R305). -/
def execChnIso (port chn : Nat) (v : Word) (s : State) : Host.Outcome State Fault Refusal :=
  hubRow (chn < 64 && bitOf v.toNat 0) (writeReq port (0x30058 + 0x1000 * chn) v) s

/-- CHN_TRAIN (R303). -/
def execChnTrain (port chn : Nat) (v : Word) (s : State) : Host.Outcome State Fault Refusal :=
  hubRow (chn < 64 && bitOf v.toNat 1) (writeReq port (0x30058 + 0x1000 * chn) v) s

/-- MEM_INJ_ARM (R382). -/
def execMemInjArm (port : Nat) (v : Word) (s : State) : Host.Outcome State Fault Refusal :=
  hubRow (bitOf v.toNat 31) (writeReq port 0x7048 v) s

/-- SOFT_REPAIR (R384): MEM_RPCMD with GO and OP 0. -/
def execSoftRepair (port : Nat) (v : Word) (s : State) : Host.Outcome State Fault Refusal :=
  hubRow (bitOf v.toNat 31 && !bitOf v.toNat 0) (writeReq port 0x7068 v) s

/-- HARD_REPAIR (R385): MEM_RPCMD with GO and OP 1. -/
def execHardRepair (port : Nat) (v : Word) (s : State) : Host.Outcome State Fault Refusal :=
  hubRow (bitOf v.toNat 31 && bitOf v.toNat 0) (writeReq port 0x7068 v) s

/-- Offset of a register of a data-mover channel. -/
def dmcOff (ch o : Nat) : Nat := 0x79040 + 0x1000 * (ch / 8) + 0x80 * (ch % 8) + o

/-- DMC_TAIL_WRITE (R360). -/
def execDmcTailWrite (port ch : Nat) (v : Word) (s : State) : Host.Outcome State Fault Refusal :=
  hubRow (ch < 32) (writeReq port (dmcOff ch 0x14) v) s

/-- DMC_ENABLE (R359): EN 1 without STOP. -/
def execDmcEnable (port ch : Nat) (v : Word) (s : State) : Host.Outcome State Fault Refusal :=
  hubRow (ch < 32 && bitOf v.toNat 0 && !bitOf v.toNat 1) (writeReq port (dmcOff ch 0) v) s

/-- DMC_STOP (R372): STOP, or EN 0. -/
def execDmcStop (port ch : Nat) (v : Word) (s : State) : Host.Outcome State Fault Refusal :=
  hubRow (ch < 32 && (bitOf v.toNat 1 || !bitOf v.toNat 0)) (writeReq port (dmcOff ch 0) v) s

/-- DMC_RESET (R372). -/
def execDmcReset (port ch : Nat) (v : Word) (s : State) : Host.Outcome State Fault Refusal :=
  hubRow (ch < 32 && bitOf v.toNat 2) (writeReq port (dmcOff ch 0) v) s

/-- FWA_READ_PAGE (R396): FWA_OPCMD with GO and OP 0. -/
def execFwaReadPage (port : Nat) (v : Word) (s : State) : Host.Outcome State Fault Refusal :=
  hubRow (bitOf v.toNat 31 && v.toNat % 4 == 0) (writeReq port 0xC058 v) s

/-- FWA_PROGRAM_PAGE (R396): OP 1. -/
def execFwaProgramPage (port : Nat) (v : Word) (s : State) : Host.Outcome State Fault Refusal :=
  hubRow (bitOf v.toNat 31 && v.toNat % 4 == 1) (writeReq port 0xC058 v) s

/-- FWA_ERASE_BLOCK (R396): OP 2. -/
def execFwaEraseBlock (port : Nat) (v : Word) (s : State) : Host.Outcome State Fault Refusal :=
  hubRow (bitOf v.toNat 31 && v.toNat % 4 == 2) (writeReq port 0xC058 v) s

/-- FWA_DATA_ACCESS (R396). -/
def execFwaDataAccess (port : Nat) (write : Option Word) (s : State) : Host.Outcome State Fault Refusal :=
  hubRow true ⟨port, 0xC064, write, none, true⟩ s

/-- FWA_SET (R399): FWA_PCMD with GO and OP 1. -/
def execFwaSet (port : Nat) (v : Word) (s : State) : Host.Outcome State Fault Refusal :=
  hubRow (bitOf v.toNat 31 && v.toNat % 8 == 1) (writeReq port 0xC078 v) s

/-- FWA_OPEN (R399): OP 2. -/
def execFwaOpen (port : Nat) (v : Word) (s : State) : Host.Outcome State Fault Refusal :=
  hubRow (bitOf v.toNat 31 && v.toNat % 8 == 2) (writeReq port 0xC078 v) s

/-- FWA_CLOSE (R399): OP 3. -/
def execFwaClose (port : Nat) (v : Word) (s : State) : Host.Outcome State Fault Refusal :=
  hubRow (bitOf v.toNat 31 && v.toNat % 8 == 3) (writeReq port 0xC078 v) s

/-- FWA_CLEAR (R399): OP 4. -/
def execFwaClear (port : Nat) (v : Word) (s : State) : Host.Outcome State Fault Refusal :=
  hubRow (bitOf v.toNat 31 && v.toNat % 8 == 4) (writeReq port 0xC078 v) s

/-- PFL_EHOLD_WRITE (R224). -/
def execPflEholdWrite (port : Nat) (v : Word) (s : State) : Host.Outcome State Fault Refusal :=
  hubRow true (writeReq port 0x5040 v) s

/-- MAP_LOOKUP (R261): a write of MAP_QSEL_HI, with which MAP_QSEL takes its new value. -/
def execMapLookup (port : Nat) (v : Word) (s : State) : Host.Outcome State Fault Refusal :=
  hubRow true (writeReq port 0x20064 v) s

/-- LDPC_COUNTER_CLEAR (R325). -/
def execLdpcCounterClear (port : Nat) (s : State) : Host.Outcome State Fault Refusal := hubRow true (writeReq port 0x2804C 0x100) s

/-- TRNG_RAND_READ (R356). -/
def execTrngRandRead (port : Nat) (s : State) : Host.Outcome State Fault Refusal := hubRow true (readReq port 0x7304C) s

end Sys2Proof.Machine
end

