-- ==== Sys2Proof/Machine/Update.lean ====
section
/-!
DEFINITION. Field update (R405 to R414): FW_LOAD, FW_COMMIT, FW_ACTIVATE and the steps of an activation.
-/
namespace Sys2Proof.Machine

/-! ### FW_LOAD (R407) -/

/-- Image blocks are pulled and written one by one from the front of the data; `k` counts them. `stop` is the block whose pull fails with
its cause of R146, `fail` the one at which an array operation ends FAIL. A block that fails its CRC ends the command with cause 5 (R407).
The fuel is the number of image blocks. -/
def loadBlocks (d : Dev) (c : Cmd) (bank : Nat) (stop : Option (Nat × Nat)) (fail : Option Nat) : Nat → Nat → List Block → Dev
  | 0, _, _ => succeed d c
  | n + 1, k, data =>
    let img := rd d F.FWU_NEXT_LBA / 16
    if stop.any (fun e => e.1 == k) then complete d c stBUS ((stop.map Prod.snd).getD 5)
    else if !imgBlockOk (data.take 16) then complete d c stBUS 5
    else
      let h := imgHdr (data.headD 0)
      if img == 0 && !h.ok then updFail (fwuEmpty d) c 7
      else
        let d1 := if img == 0 then wrs d [(F.FWU_LEN_UNITS, h.length / 4096), (F.FWU_VER_VERSION, h.version), (F.FWU_FVER_FVMIN, h.fvmin),
          (F.FWU_FVER_FVER, h.fver)] else d
        if img == 0 && cLba c + cLen c > rd d1 F.FWU_LEN_UNITS then complete d1 c stINVFLD 0x10
        else if fail == some k then updFail (arrFail d1 bank (img / 4) none) c 8
        else
          let d2 := if img % 4 == 0 then arrErase d1 bank (img / 4) else d1
          let d3 := ((data.take 16).zipIdx).foldl (fun d (e : Block × Nat) => arrProgram d bank (img / 4) (16 * (img % 4) + e.2) e.1) d2
          let d4 := wr d3 F.FWU_NEXT_LBA (16 * (img + 1))
          let d5 := if 16 * (img + 1) == rd d4 F.FWU_LEN_UNITS then raise (wr d4 F.FWU_STATE_STATE fuLOADED) 0xD 8 else d4
          loadBlocks d5 c bank stop fail n (k + 1) (data.drop 16)

/-- A new session starts: the record blocks of the inactive bank are erased. -/
def loadStart (d : Dev) (bank : Nat) : Dev :=
  wrs (eraseRecords d bank) [(F.FWU_STATE_STATE, fuLOADING), (F.FWU_NEXT_LBA, 0), (F.FWU_LEN_UNITS, 0), (F.FWU_VER_VERSION, 0),
    (F.FWU_FVER_FVMIN, 0), (F.FWU_FVER_FVER, 0), (F.FWU_KEYIDX_VALID, 0)]

/-- Run an FW_LOAD. Cause 8 is judged before LBA and LEN. [log entries 92 DEDUCED; 143 DESIGN CHOICE] -/
def fwLoad (d : Dev) (c : Cmd) (data : List Block) (stop : Option (Nat × Nat)) (fail : Option Nat) : Dev :=
  let bank := targetBank d
  if bankBad d bank then updFail d c 8
  else if !(cLba c == 0) && !(fwuState d == fuLOADING && cLba c == rd d F.FWU_NEXT_LBA) then complete d c stINVFLD 0x08
  else
    let d1 := if cLba c == 0 then loadStart d bank else d
    if cLba c + cLen c > 65280 || (!(rd d1 F.FWU_LEN_UNITS == 0) && cLba c + cLen c > rd d1 F.FWU_LEN_UNITS) then complete d1 c stINVFLD 0x10
    else loadBlocks d1 c bank stop fail (cLen c / 16) 0 data

/-- The operands fit the command: LEN blocks, a failure at one of its image blocks with a cause of R146. -/
def pullFits (c : Cmd) (data : List Block) (stop : Option (Nat × Nat)) : Bool :=
  data.length == cLen c && stop.all (fun e => e.1 < cLen c / 16 && 1 ≤ e.2 && e.2 ≤ 6)

/-- FW_LOAD. Its pull takes its turn on the link (R129). -/
def execFwLoad (seat tag : Nat) (data : List Block) (stop : Option (Nat × Nat)) (arrayFail : Option Nat) (s : State) : Host.Outcome State Fault Refusal :=
  let d := voteAll s.dev
  finish s (match readyCmd? d seat tag opFWLOAD with
    | none => d
    | some c => guardDev (pullFits c data stop && !(d.array.ops.any (fun o => o.bank == targetBank d)) && pullTurn d c) d
        (fwLoad (pullServed d c) c data stop arrayFail))

/-! ### FW_COMMIT (R408) -/

/-- The refusal causes of FW_COMMIT, in their order. [log entry 92 DEDUCED] -/
def commitCause (d : Dev) (v : ImgVerdict) : Option Nat :=
  let m := rd d F.FWU_MFVER_FVER
  if !(fwuState d == fuLOADED) then some 4
  else if rd d F.FWU_FVER_FVER < m then some 5
  else if rd d F.FWU_FVER_FVMIN > m then some 6
  else if (imgVerifies d (targetBank d) v).isNone then some 7
  else if bankBad d (targetBank d) then some 8 else none

/-- FW_COMMIT. -/
def execFwCommit (seat tag : Nat) (verdict : ImgVerdict) (s : State) : Host.Outcome State Fault Refusal :=
  let d := voteAll s.dev
  finish s (match readyCmd? d seat tag opFWCOMMIT with
    | none => d
    | some c => guardDev (!(d.array.ops.any (fun o => o.bank == targetBank d))) d
      (match commitCause d verdict with
        | some k => updFail d c k
        | none =>
          let b := targetBank d
          let d1 := wrs d [(F.FWU_KEYIDX_VALID, 1), (F.FWU_KEYIDX_SLOT, (imgVerifies d b verdict).getD 0)]
          if !verdict.programOk then
            updFail (match recordPlace d b with
              | some p => arrFail d1 b p.1 (some p.2)
              | none => d1) c 8
          else succeed (raise (wr (writeRecord d1 b b 1) F.FWU_STATE_STATE fuCOMMITTED) 0xD 9) c))

/-! ### FW_ACTIVATE (R166, R409) -/

/-- No started command but the FW_ACTIVATE itself. -/
def drained (d : Dev) : Bool := !(d.cmds.list.any (fun c => isStarted c && !(c.seq == d.upd.cmd)))

/-- FW_ACTIVATE: commands that have not started are held from now on (R166). The conditions of R37 and R153 are tested again: mode MAINTAIN,
no stream admitted. -/
def execFwActivate (seat tag : Nat) (s : State) : Host.Outcome State Fault Refusal :=
  let d := voteAll s.dev
  finish s (match readyCmd? d seat tag opFWACT with
    | none => d
    | some c =>
      if !(fwuState d == fuCOMMITTED) then updFail d c 4
      else if sanitising d || hardRepairing d then updFail d c 11
      else if modeRefuses d c then complete d c stMODE 0
      else
        let d1 := modCmds d (updWhere (fun x => !isStarted x && !(x.seq == c.seq)) (fun x => { x with stage := .held, kres := 0 }))
        let d2 := modCmd d1 c.seq (fun x => { x with stage := .run })
        wr { d2 with cmds := { d2.cmds with activating := true }
                     upd := { d2.upd with step := 1, cmd := c.seq, t0 := d.sys.time } } F.FWU_STATE_STATE fuACTIVATING)

/-- ACTIVATION_DRAIN_DONE. -/
def execActivationDrainDone (s : State) : Host.Outcome State Fault Refusal :=
  let d := s.dev
  finish s (guardDev (cpuRuns d && d.upd.step == 1 && drained d) d { d with upd := { d.upd with step := 2 } })

/-- ACTIVATION_DRAIN_TIMEOUT: the old image stays, and so does the commit. -/
def execActivationDrainTimeout (s : State) : Host.Outcome State Fault Refusal :=
  let d := s.dev
  finish s (guardDev (cpuRuns d && d.upd.step == 1 && !drained d) d
    (activationEnd (activationFail (wr d F.FWU_STATE_STATE fuCOMMITTED) 9)))

/-- The processors fetch from a bank. -/
def execFrom (d : Dev) (b : Nat) : Dev := wrs d [(F.FWA_BANK_EXEC, b), (F.GLB_BOOT_BANK, b)]

/-- ACTIVATION_QUIESCE_DONE: the switch to the committed bank. [log entry 95 DEDUCED] -/
def execActivationQuiesceDone (s : State) : Host.Outcome State Fault Refusal :=
  let d := s.dev
  finish s (guardDev (cpuRuns d && d.upd.step == 2) d (execFrom { d with upd := { d.upd with step := 3 } } (targetBank d)))

/-- The new image serves: its registers, then the completion of the FW_ACTIVATE. -/
def newImage (d : Dev) : Dev :=
  raise (setMigpend (wrs (fwuEmpty (bankStarted d (rd d F.FWA_BANK_EXEC))) [(F.FWU_TACT_US, (d.sys.time - d.upd.t0) / 1000)])) 0xD 10

/-- ACTIVATED. [log entry 95 DEDUCED] -/
def execActivated (s : State) : Host.Outcome State Fault Refusal :=
  let d := s.dev
  let d1 := newImage d
  finish s (guardDev (cpuRuns d && d.upd.step == 3) d (activationEnd (imageRunning (match cmdOf? d d.upd.cmd with
    | some c => succeed d1 c
    | none => d1))))

/-- The previous bank resumes, and a record in the failed bank names it. -/
def oldImage (d : Dev) : Dev :=
  let failed := rd d F.FWA_BANK_EXEC
  raise (fwuEmpty (writeRecord (execFrom d (1 - failed)) failed (1 - failed) 2)) 0xD 11

/-- ACTIVATION_FALLBACK. -/
def execActivationFallback (s : State) : Host.Outcome State Fault Refusal :=
  let d := s.dev
  finish s (guardDev (cpuRuns d && d.upd.step == 3) d (activationEnd (activationFail (oldImage d) 10)))

end Sys2Proof.Machine
end

