-- ==== Sys2Proof/Machine/Dispatch.lean ====
section
/-!
DEFINITION. The command table: one arm per constructor of Instr, each one direct call of its meaning.
-/
namespace Sys2Proof.Machine

/-- The effect of a command on everything but the queue of waiting commands. -/
def exec (i : Instr) (s : State) : Host.Outcome State Fault Refusal :=
  match i with
  | .pwrgdAonRise => Sys2Proof.Machine.execPwrgdAonRise s
  | .pwrgdAonFall => Sys2Proof.Machine.execPwrgdAonFall s
  | .crystalStable bootSel smb testEn => Sys2Proof.Machine.execCrystalStable bootSel smb testEn s
  | .railGood rail => Sys2Proof.Machine.execRailGood rail s
  | .pllsLocked fuse => Sys2Proof.Machine.execPllsLocked fuse s
  | .fuseMapLoaded crcOk => Sys2Proof.Machine.execFuseMapLoaded crcOk s
  | .hbmTrained ok => Sys2Proof.Machine.execHbmTrained ok s
  | .zeroFillComplete bad => Sys2Proof.Machine.execZeroFillComplete bad s
  | .bankVerified bank verdict => Sys2Proof.Machine.execBankVerified bank verdict s
  | .firmwareInitialised => Sys2Proof.Machine.execFirmwareInitialised s
  | .firmwareReadyTimeout => Sys2Proof.Machine.execFirmwareReadyTimeout s
  | .railLost rail => Sys2Proof.Machine.execRailLost rail s
  | .pfailAssert => Sys2Proof.Machine.execPfailAssert s
  | .flushSealDone => Sys2Proof.Machine.execFlushSealDone s
  | .flushEaveWriteDone failed dead => Sys2Proof.Machine.execFlushEaveWriteDone failed dead s
  | .flushMetaDone => Sys2Proof.Machine.execFlushMetaDone s
  | .flushRecordDone => Sys2Proof.Machine.execFlushRecordDone s
  | .warmRestart => Sys2Proof.Machine.execWarmRestart s
  | .crystalFailure => Sys2Proof.Machine.execCrystalFailure s
  | .pllUnlock pll => Sys2Proof.Machine.execPllUnlock pll s
  | .pllRelock pll => Sys2Proof.Machine.execPllRelock pll s
  | .pllRelockTimeout pll => Sys2Proof.Machine.execPllRelockTimeout pll s
  | .portPllRetry port locked => Sys2Proof.Machine.execPortPllRetry port locked s
  | .refclkLoss port => Sys2Proof.Machine.execRefclkLoss port s
  | .perstAssert port => Sys2Proof.Machine.execPerstAssert port s
  | .perstDeassert port => Sys2Proof.Machine.execPerstDeassert port s
  | .thermalSample temps answered mw => Sys2Proof.Machine.execThermalSample temps answered mw s
  | .thermalTrip => Sys2Proof.Machine.execThermalTrip s
  | .alarm src => Sys2Proof.Machine.execAlarm src s
  | .entropyStop => Sys2Proof.Machine.execEntropyStop s
  | .drbgReseed healthy => Sys2Proof.Machine.execDrbgReseed healthy s
  | .drbgSeeded => Sys2Proof.Machine.execDrbgSeeded s
  | .maskingReseed => Sys2Proof.Machine.execMaskingReseed s
  | .almLatchClear port v => Sys2Proof.Machine.execAlmLatchClear port v s
  | .catchFire port v => Sys2Proof.Machine.execCatchFire port v s
  | .catchComplete group => Sys2Proof.Machine.execCatchComplete group s
  | .shadowDiscard port page => Sys2Proof.Machine.execShadowDiscard port page s
  | .evtTestWrite port page v => Sys2Proof.Machine.execEvtTestWrite port page v s
  | .evtRawClear port page v => Sys2Proof.Machine.execEvtRawClear port page v s
  | .aliasAccess port addr write => Sys2Proof.Machine.execAliasAccess port addr write s
  | .regWrite target v => Sys2Proof.Machine.execRegWrite target v s
  | .bar0InvalidAccess port off write whole => Sys2Proof.Machine.execBar0InvalidAccess port off write whole s
  | .crossingTimeout port off write => Sys2Proof.Machine.execCrossingTimeout port off write s
  | .pairLoRead port off => Sys2Proof.Machine.execPairLoRead port off s
  | .tvScrub upsets => Sys2Proof.Machine.execTvScrub upsets s
  | .cfgCommit port => Sys2Proof.Machine.execCfgCommit port s
  | .imageCheckComplete => Sys2Proof.Machine.execImageCheckComplete s
  | .cfgReopen port => Sys2Proof.Machine.execCfgReopen port s
  | .reopenComplete => Sys2Proof.Machine.execReopenComplete s
  | .trainStageDone results => Sys2Proof.Machine.execTrainStageDone results s
  | .verifyDone media => Sys2Proof.Machine.execVerifyDone media s
  | .replayDone bad => Sys2Proof.Machine.execReplayDone bad s
  | .scanDone bad => Sys2Proof.Machine.execScanDone bad s
  | .foldDone progBad failed => Sys2Proof.Machine.execFoldDone progBad failed s
  | .migrateStepDone permille last => Sys2Proof.Machine.execMigrateStepDone permille last s
  | .domainGate port dom => Sys2Proof.Machine.execDomainGate port dom s
  | .domainUngate port dom => Sys2Proof.Machine.execDomainUngate port dom s
  | .domdone => Sys2Proof.Machine.execDomdone s
  | .groupRegateTimer group => Sys2Proof.Machine.execGroupRegateTimer group s
  | .idleThreshold n => Sys2Proof.Machine.execIdleThreshold n s
  | .psEntryDone => Sys2Proof.Machine.execPsEntryDone s
  | .psctlWake port => Sys2Proof.Machine.execPsctlWake port s
  | .psExitComplete => Sys2Proof.Machine.execPsExitComplete s
  | .linkUp port link cfg => Sys2Proof.Machine.execLinkUp port link cfg s
  | .ratechg port link cfg => Sys2Proof.Machine.execRatechg port link cfg s
  | .dlDown port link => Sys2Proof.Machine.execDlDown port link s
  | .linkL1Idle port link => Sys2Proof.Machine.execLinkL1Idle port link s
  | .flr fn => Sys2Proof.Machine.execFlr fn s
  | .busMasterDisable fn vfEnable => Sys2Proof.Machine.execBusMasterDisable fn vfEnable s
  | .barDecodeDisabled fn bar write => Sys2Proof.Machine.execBarDecodeDisabled fn bar write s
  | .bar2InvalidAccess fn off write => Sys2Proof.Machine.execBar2InvalidAccess fn off write s
  | .pasidTlp fn => Sys2Proof.Machine.execPasidTlp fn s
  | .seatReq fn v => Sys2Proof.Machine.execSeatReq fn v s
  | .seatRel fn v => Sys2Proof.Machine.execSeatRel fn v s
  | .seatReleaseComplete seat => Sys2Proof.Machine.execSeatReleaseComplete seat s
  | .seatSqtDoorbell fn win tail => Sys2Proof.Machine.execSeatSqtDoorbell fn win tail s
  | .seatCqhDoorbell fn win head => Sys2Proof.Machine.execSeatCqhDoorbell fn win head s
  | .seatReset fn win v => Sys2Proof.Machine.execSeatReset fn win v s
  | .seatResetComplete seat => Sys2Proof.Machine.execSeatResetComplete seat s
  | .seatKick port v => Sys2Proof.Machine.execSeatKick port v s
  | .seatCqintTimer seat => Sys2Proof.Machine.execSeatCqintTimer seat s
  | .entryFetched seat entry segs => Sys2Proof.Machine.execEntryFetched seat entry segs s
  | .entryRefetch seat entry segs => Sys2Proof.Machine.execEntryRefetch seat entry segs s
  | .entryFetchFailed seat => Sys2Proof.Machine.execEntryFetchFailed seat s
  | .reapComplete seat => Sys2Proof.Machine.execReapComplete seat s
  | .write seat tag => Sys2Proof.Machine.execWrite seat tag s
  | .read seat tag => Sys2Proof.Machine.execRead seat tag s
  | .flush seat tag => Sys2Proof.Machine.execFlush seat tag s
  | .discard seat tag => Sys2Proof.Machine.execDiscard seat tag s
  | .writeFill seat tag => Sys2Proof.Machine.execWriteFill seat tag s
  | .verify seat tag => Sys2Proof.Machine.execVerify seat tag s
  | .gatherWrite seat tag => Sys2Proof.Machine.execGatherWrite seat tag s
  | .abort seat tag => Sys2Proof.Machine.execAbort seat tag s
  | .streamOpen seat tag => Sys2Proof.Machine.execStreamOpen seat tag s
  | .streamClose seat tag => Sys2Proof.Machine.execStreamClose seat tag s
  | .streamQuery seat tag => Sys2Proof.Machine.execStreamQuery seat tag s
  | .sanitise seat tag => Sys2Proof.Machine.execSanitise seat tag s
  | .format seat tag recordOk => Sys2Proof.Machine.execFormat seat tag recordOk s
  | .fwLoad seat tag data stop arrayFail => Sys2Proof.Machine.execFwLoad seat tag data stop arrayFail s
  | .fwCommit seat tag verdict => Sys2Proof.Machine.execFwCommit seat tag verdict s
  | .fwActivate seat tag => Sys2Proof.Machine.execFwActivate seat tag s
  | .logRead seat tag => Sys2Proof.Machine.execLogRead seat tag s
  | .keyLoad seat tag material => Sys2Proof.Machine.execKeyLoad seat tag material s
  | .keyRetire seat tag => Sys2Proof.Machine.execKeyRetire seat tag s
  | .volumeSet seat tag recordOk => Sys2Proof.Machine.execVolumeSet seat tag recordOk s
  | .dataPullComplete seat tag res => Sys2Proof.Machine.execDataPullComplete seat tag res s
  | .transferResume seat tag => Sys2Proof.Machine.execTransferResume seat tag s
  | .sealComplete seat tag => Sys2Proof.Machine.execSealComplete seat tag s
  | .programComplete lun ok => Sys2Proof.Machine.execProgramComplete lun ok s
  | .stripePadClose batten unit => Sys2Proof.Machine.execStripePadClose batten unit s
  | .pageReadComplete lun cws => Sys2Proof.Machine.execPageReadComplete lun cws s
  | .softDecodeComplete lun cw => Sys2Proof.Machine.execSoftDecodeComplete lun cw s
  | .reconstructionComplete lun others checks => Sys2Proof.Machine.execReconstructionComplete lun others checks s
  | .decryptComplete seat tag altered => Sys2Proof.Machine.execDecryptComplete seat tag altered s
  | .zeroingReadComplete seat tag ok => Sys2Proof.Machine.execZeroingReadComplete seat tag ok s
  | .nandOpTimeout lun resetOk => Sys2Proof.Machine.execNandOpTimeout lun resetOk s
  | .eraseComplete lun ok => Sys2Proof.Machine.execEraseComplete lun ok s
  | .eraseSuspended lun => Sys2Proof.Machine.execEraseSuspended lun s
  | .coxSlot => Sys2Proof.Machine.execCoxSlot s
  | .tokenFill => Sys2Proof.Machine.execTokenFill s
  | .strokeSample inp => Sys2Proof.Machine.execStrokeSample inp s
  | .stktArm port v => Sys2Proof.Machine.execStktArm port v s
  | .stktForce port v => Sys2Proof.Machine.execStktForce port v s
  | .stktStop port v => Sys2Proof.Machine.execStktStop port v s
  | .stktRdataRead port => Sys2Proof.Machine.execStktRdataRead port s
  | .journalChunkStart => Sys2Proof.Machine.execJournalChunkStart s
  | .early => Sys2Proof.Machine.execEarly s
  | .journalChunkDurable ok => Sys2Proof.Machine.execJournalChunkDurable ok s
  | .validWalkDone => Sys2Proof.Machine.execValidWalkDone s
  | .patrolRateTick => Sys2Proof.Machine.execPatrolRateTick s
  | .readDisturbLimit batten => Sys2Proof.Machine.execReadDisturbLimit batten s
  | .chnIso port chn v => Sys2Proof.Machine.execChnIso port chn v s
  | .hostIsolationDone chn => Sys2Proof.Machine.execHostIsolationDone chn s
  | .chnTrain port chn v => Sys2Proof.Machine.execChnTrain port chn v s
  | .trainingDone res => Sys2Proof.Machine.execTrainingDone res s
  | .zqShortTimer chn => Sys2Proof.Machine.execZqShortTimer chn s
  | .trackingCheck chn eye moves => Sys2Proof.Machine.execTrackingCheck chn eye moves s
  | .memScrubPass mem finding => Sys2Proof.Machine.execMemScrubPass mem finding s
  | .leakTick mem => Sys2Proof.Machine.execLeakTick mem s
  | .memInjArm port v => Sys2Proof.Machine.execMemInjArm port v s
  | .softRepair port v => Sys2Proof.Machine.execSoftRepair port v s
  | .hardRepair port v => Sys2Proof.Machine.execHardRepair port v s
  | .rpdone => Sys2Proof.Machine.execRpdone s
  | .reservationExtend slot => Sys2Proof.Machine.execReservationExtend slot s
  | .reservationDurable slot ok => Sys2Proof.Machine.execReservationDurable slot ok s
  | .keyRetireEffect slot => Sys2Proof.Machine.execKeyRetireEffect slot s
  | .dmcTailWrite port ch v => Sys2Proof.Machine.execDmcTailWrite port ch v s
  | .dmcEnable port ch v => Sys2Proof.Machine.execDmcEnable port ch v s
  | .dmcStop port ch v => Sys2Proof.Machine.execDmcStop port ch v s
  | .dmcReset port ch v => Sys2Proof.Machine.execDmcReset port ch v s
  | .descriptorFetched ch words keyIv => Sys2Proof.Machine.execDescriptorFetched ch words keyIv s
  | .descriptorComplete ch res => Sys2Proof.Machine.execDescriptorComplete ch res s
  | .barrierReadComplete ch cause => Sys2Proof.Machine.execBarrierReadComplete ch cause s
  | .fwaReadPage port v => Sys2Proof.Machine.execFwaReadPage port v s
  | .fwaProgramPage port v => Sys2Proof.Machine.execFwaProgramPage port v s
  | .fwaEraseBlock port v => Sys2Proof.Machine.execFwaEraseBlock port v s
  | .fwaOpDone ok => Sys2Proof.Machine.execFwaOpDone ok s
  | .fwaResumeTimer bank => Sys2Proof.Machine.execFwaResumeTimer bank s
  | .fwaDataAccess port write => Sys2Proof.Machine.execFwaDataAccess port write s
  | .fwaSet port v => Sys2Proof.Machine.execFwaSet port v s
  | .fwaOpen port v => Sys2Proof.Machine.execFwaOpen port v s
  | .fwaClose port v => Sys2Proof.Machine.execFwaClose port v s
  | .fwaClear port v => Sys2Proof.Machine.execFwaClear port v s
  | .fwaOwnerOpDone => Sys2Proof.Machine.execFwaOwnerOpDone s
  | .activationDrainDone => Sys2Proof.Machine.execActivationDrainDone s
  | .activationDrainTimeout => Sys2Proof.Machine.execActivationDrainTimeout s
  | .activationQuiesceDone => Sys2Proof.Machine.execActivationQuiesceDone s
  | .activated => Sys2Proof.Machine.execActivated s
  | .activationFallback => Sys2Proof.Machine.execActivationFallback s
  | .sanitiseStepDone => Sys2Proof.Machine.execSanitiseStepDone s
  | .mediaInitDone bad => Sys2Proof.Machine.execMediaInitDone bad s
  | .pflEholdWrite port v => Sys2Proof.Machine.execPflEholdWrite port v s
  | .mapLookup port v => Sys2Proof.Machine.execMapLookup port v s
  | .ldpcCounterClear port => Sys2Proof.Machine.execLdpcCounterClear port s
  | .trngRandRead port => Sys2Proof.Machine.execTrngRandRead port s
  | .smbusReadStatus => Sys2Proof.Machine.execSmbusReadStatus s
  | .smbusReadTemperature => Sys2Proof.Machine.execSmbusReadTemperature s
  | .smbusReadSensors => Sys2Proof.Machine.execSmbusReadSensors s
  | .smbusReadPower => Sys2Proof.Machine.execSmbusReadPower s
  | .smbusReadIdentity => Sys2Proof.Machine.execSmbusReadIdentity s
  | .smbusSetOffset bytes => Sys2Proof.Machine.execSmbusSetOffset bytes s
  | .smbusReadRegister timedOut => Sys2Proof.Machine.execSmbusReadRegister timedOut s
  | .smbusAlertResponse => Sys2Proof.Machine.execSmbusAlertResponse s
  | .programSuspended lun => Sys2Proof.Machine.execProgramSuspended lun s
  | .linkL1Exit port link => Sys2Proof.Machine.execLinkL1Exit port link s
  | .pllLockFailure => Sys2Proof.Machine.execPllLockFailure s
  | .msixVectorUnmask fn vec => Sys2Proof.Machine.execMsixVectorUnmask fn vec s
  | .fwaMinimumRunElapsed bank => Sys2Proof.Machine.execFwaMinimumRunElapsed bank s
  | .tapInstruction ir => Sys2Proof.Machine.execTapInstruction ir s
  | .pfailDeassert => Sys2Proof.Machine.execPfailDeassert s
  | .tamperDeassert => Sys2Proof.Machine.execTamperDeassert s
  | .crystalReturn => Sys2Proof.Machine.execCrystalReturn s
  | .refclkReturn port => Sys2Proof.Machine.execRefclkReturn port s

end Sys2Proof.Machine
end

