-- ==== Sys2Proof/Machine/Step.lean ====
section
/-!
DEFINITION. One step of the block: the command at the front of the queue runs; on an empty queue the block idles for one cycle
of the crystal, and the time base advances. There is no instruction fetch.
-/
namespace Sys2Proof.Machine

/-- Idling (DESIGN CHOICE, assumption log): with the AON domain running, the time base advances by one 25 MHz period, 40 ns
(R22, R80). [log entry 3 DESIGN CHOICE] -/
def idle (s : State) : State :=
  if s.dev.sys.aon then
    { s with dev := { s.dev with sys := { s.dev.sys with time := (s.dev.sys.time + 40) % 2 ^ 64 } } }
  else s

/-- Take the command at the front of the queue, first in, first out. [log entries 3 DESIGN CHOICE; 5 DESIGN CHOICE] -/
def step (s : State) : Host.Outcome State Fault Refusal :=
  match s.pending with
  | [] => .next (idle s)
  | c :: rest => exec c { s with pending := rest }

/-- The table gives its rows no bits: no word spells a command. [log entry 5 DESIGN CHOICE] -/
def State.withFetchWord (s : State) (_nbits _w : Nat) : State := s

end Sys2Proof.Machine
end

