-- ==== Sys2Proof/Safety.lean ====
section
/-!
DEFINITION. The terms statements are written in: what a command answers before its outputs settle, what a change leaves alone,
when the outputs agree with the events, and when an access of the host reaches a register.
-/
namespace Sys2Proof.Machine

/-- The command runs: it answers a next state, the queue as it was, whose device is `d` with its event outputs settled (ALERT#, event
messages, wake), for a `d` with the property. `settleEvents` is the subject of a statement of its own. -/
def Gives (c : Instr) (s : State) (P : Dev → Prop) : Prop :=
  ∃ d, exec c s = .next { s with dev := settleEvents d } ∧ P d

/-- The outputs agree with the events: the OR of the routed events of each port and the level of ALERT# (R132). -/
abbrev Settled (d : Dev) : Prop :=
  d.sys.orA = routedOr d 0 ∧ d.sys.orB = routedOr d 1 ∧ d.sys.alertLow = (alertOr d || d.sys.dead)

/-- `d'` differs from `d` at most in the active words `ws`, in the headers of the pages `ps`, and in the event log: every other word,
header, shadow, table, memory, counter and output is the same. -/
structure ChangesOnly (ws ps : List Nat) (d d' : Dev) : Prop where
  words : ∀ off, off ∉ ws → actW d' off = actW d off
  heads : ∀ p, p ∉ ps → hdrOf d' p = hdrOf d p
  others : { d' with hub := { d'.hub with act := d.hub.act, hdr := d.hub.hdr }, log := d.log } = d

/-- Words of the event log that an entry changes: LOG_NEXT, LOG_PEND, LOG_LOST (R433). -/
def logWords : List Nat := [F.LOG_NEXT_N.off, F.LOG_PEND_COUNT.off, F.LOG_LOST_COUNT.off]

/-- What raising an event of page `p` changes: its EVT_RAW and the event log (R47, R48, R434). -/
def RaisesOn (p : Nat) (d d' : Dev) : Prop := ChangesOnly logWords [p, 0x7E] d d'

/-- Bit `b` of EVT_RAW of page `p` is set. -/
def evtSet (d : Dev) (p b : Nat) : Bool := bitOf (hdrOf d p).evtRaw.toNat b

/-- Commands by which host software writes a register with a value of its own (R9, R50): the only ones that can set a reserved bit. -/
def hostWrite : Instr → Bool
  | .almLatchClear .. | .catchFire .. | .evtTestWrite .. | .evtRawClear .. | .aliasAccess .. | .regWrite .. | .seatReq .. | .seatRel ..
  | .seatReset .. | .seatKick .. | .stktArm .. | .stktForce .. | .stktStop .. | .chnIso .. | .chnTrain .. | .memInjArm ..
  | .softRepair .. | .hardRepair .. | .dmcTailWrite .. | .dmcEnable .. | .dmcStop .. | .dmcReset .. | .fwaReadPage ..
  | .fwaProgramPage .. | .fwaEraseBlock .. | .fwaDataAccess .. | .fwaSet .. | .fwaOpen .. | .fwaClose .. | .fwaClear ..
  | .pflEholdWrite .. | .mapLookup .. => true
  | _ => false

/-- The management function of the port reaches BAR0 and no access waits before this one (R40, R66). -/
abbrev HostAt (s : State) (port : Nat) : Prop :=
  port < 2 ∧ barOk s.dev (mgmtFn port) = true ∧ s.dev.hub.stalled = []

/-- The block registers of the page of `off` answer, and no shadow bit of the word waits for a Catch (R55, R68). -/
abbrev Open (s : State) (off : Nat) : Prop :=
  answers s.dev (pageOf off) = true ∧ (hdrOf s.dev (pageOf off)).cbusy = false

/-- The value sets no reserved bit of the word (R70). -/
abbrev Clean (off : Nat) (v : Word) : Prop := v &&& ~~~ knownMask off = 0

/-- A write of one aligned word of an implemented page, by the management function of a port: a header word, or a block word of a page that
answers and that no Catch stalls. -/
abbrev Writes (s : State) (port off : Nat) (v : Word) : Prop :=
  HostAt s port ∧ off % 4 = 0 ∧ off < 0x100000 ∧ implemented (pageOf off) = true ∧
    (inPage off < 0x40 ∨ Open s off) ∧ Clean off v

/-- Words whose write does more than their fields' kinds say: command words, record clears, and the words the array, the memory tests and
the data mover act on. -/
def acting (off : Nat) : Bool :=
  [0x100, 0x108, 0x204C, 0x13070, 0x13088, 0x1040, 0x2040, 0x2074, 0x5040, 0x6040, 0x604C, 0x7048, 0x7068, 0xC058, 0xC064, 0xC068,
    0xC06C, 0xC070, 0xC074, 0xC078, 0x12090, 0x1E060, 0x2804C].contains off
  || (0x30 ≤ pageOf off && pageOf off ≤ 0x6F && inPage off == 0x58)
  || (0x79 ≤ pageOf off && pageOf off ≤ 0x7C && [0x00, 0x04, 0x14].contains ((inPage off - 0x40) % 0x80))

/-- Bits of a word after a write by kind: RW takes, W1C clears, the rest stays (R9, R50). -/
def kindWord (r : RegRow) (old v : Word) : Word := ((old &&& ~~~ r.rw) ||| (v &&& r.rw)) &&& ~~~ (v &&& r.w1c)

end Sys2Proof.Machine
end

