-- ==== Sys2Proof/Certificates/Slice0/Obligations.lean ====
section
/-!
DEFINITION. The statements of this model for the provers. Each cites the rules it formalises in OBLIGATIONS.json; where a statement
rests on a choice of the model its docstring names the assumption log entry.
-/
open Sys2Proof Sys2Proof.Machine

/-! ### The queue, idling, refusals, outputs -/

/-- A step runs the command at the front of the queue on the state with the queue's rest. -/
def Obligations.FrontCommandRuns : Prop :=
  ∀ (c : Instr) (s : State) (rest : List Instr), step { s with pending := c :: rest } = exec c { s with pending := rest }

/-- On an empty queue the block idles (the model's choice, log entry 3): with the AON domain running the time base advances by one
25 MHz period, 40 ns (R22); otherwise nothing changes. -/
def Obligations.EmptyQueueIdles : Prop :=
  ∀ s : State, s.pending = [] →
    (s.dev.sys.aon = false → step s = .next s) ∧
    (s.dev.sys.aon = true →
      step s = .next { s with dev := { s.dev with sys := { s.dev.sys with time := (s.dev.sys.time + 40) % 2 ^ 64 } } })

/-- No command changes the queue of waiting commands. -/
def Obligations.CommandKeepsQueue : Prop :=
  ∀ (c : Instr) (s t : State), exec c s = .next t → t.pending = s.pending

/-- Every command answers a next state or is refused as a write that changes a reserved bit, whose effect R70 leaves undescribed (the
model's choice, log entry 4): no command faults, and every command that is no write of host software answers a next state. -/
def Obligations.OnlyReservedBitsRefused : Prop :=
  (∀ (c : Instr) (s : State), (∃ t, exec c s = .next t) ∨ exec c s = .refused .reservedBitChanged) ∧
  ∀ (c : Instr) (s : State), hostWrite c = false → ∃ t, exec c s = .next t

/-- From a state whose outputs agree with its events, and from any other, every command leads to a state whose outputs agree: the OR of
the events routed to each port and the level of ALERT# (R132). Idling keeps the agreement. -/
def Obligations.EveryStepSettlesOutputs : Prop :=
  (∀ s t : State, Settled s.dev → step s = .next t → Settled t.dev) ∧
  ∀ (c : Instr) (s t : State), exec c s = .next t → Settled t.dev

/-- The reset state is settled, its queue is empty, every active word and every shadow holds its reset value, every page has its default
group, no event is pending, the gate has no mode, no Catch runs, no seat is attached and the AON domain does not run (values without a
rule: log entry 2). -/
def Obligations.ResetState : Prop :=
  Settled State.reset.dev ∧ State.reset.pending = [] ∧ (∀ off, actW State.reset.dev off = resetWord off) ∧
  (∀ off, shdW State.reset.dev off = resetWord off &&& shMask off) ∧ (∀ p, evtPend State.reset.dev p = 0) ∧
  (∀ p, (hdrOf State.reset.dev p).group = groupDefault p) ∧ State.reset.dev.sys.aon = false ∧
  rd State.reset.dev F.GLB_STAT_MODE = 0xF ∧ rd State.reset.dev F.GLB_CATCH_DONE_DONE = 0xFF ∧ State.reset.dev.seats = []

/-- What the outputs do after a command (R132): ALERT# is low exactly while a page routed to it has an enabled event raised or the PLL fault
of R85 holds it; a rise of the OR of a port, when no flush runs and the function may send messages, sends the message of its vector
where it is open, or records it pending where it is masked; where no function may, nothing is sent or recorded; and apart from PWR_PSTAT
(a wake event, R420), the pending vectors and the outputs, nothing changes. Choices of the model in it: log entry 56. -/
def Obligations.OutputsFollowEvents : Prop :=
  (∀ d, (settleEvents d).sys.alertLow = (alertOr d || d.sys.dead)) ∧
  (∀ d port, port ≤ 1 → routedOr d port = true → (if port = 0 then d.sys.orA else d.sys.orB) = false → rd d F.PFL_STAT_STATE = 0 →
    msixLive d (mgmtFn port) = true →
    let vec := rd d (F.PRT_EVTVEC_VEC port)
    (vecOpen d (mgmtFn port) vec = true → Output.msix (mgmtFn port) vec ∈ (settleEvents d).out) ∧
    (vecOpen d (mgmtFn port) vec = false → 2048 * mgmtFn port + vec ∈ (settleEvents d).pci.pba)) ∧
  (∀ d, (∀ port, port ≤ 1 → msixLive d (mgmtFn port) = false) ∨ rd d F.PFL_STAT_STATE ≠ 0 →
    (settleEvents d).out = d.out ∧ (settleEvents d).pci = d.pci) ∧
  (∀ d, routedOr d 0 = d.sys.orA → routedOr d 1 = d.sys.orB → (settleEvents d).out = d.out ∧ (settleEvents d).pci = d.pci) ∧
  ∀ d, (∀ off, off ≠ 0x2078 → actW (settleEvents d) off = actW d off) ∧ (∀ p, hdrOf (settleEvents d) p = hdrOf d p) ∧
    (settleEvents d).hub.shd = d.hub.shd ∧ (settleEvents d).med = d.med ∧ (settleEvents d).keys = d.keys ∧
    (settleEvents d).seats = d.seats ∧ (settleEvents d).cmds = d.cmds ∧ (settleEvents d).sys.time = d.sys.time ∧
    (settleEvents d).log = d.log

/-! ### Register storage -/

/-- A write of an active word is read back, leaves every other word and the rest of the device alone, and keeps the canonical form of
the register store (no entry equal to its reset value, offsets rising). A write of a shadow reads back within the shadow bits of its
word, leaves the other shadows alone and keeps the canonical form; a header reads back and nothing else changes.
A field reads back what was written to it, modulo its width, and the disjoint fields of its word and every other word keep their
values; a counter that saturates stops at its largest value; a 64-bit value reads back from its pair. -/
def Obligations.RegistersReadBack : Prop :=
  ((∀ d o w, actW (setActW d o w) o = w ∧ ChangesOnly [o] [] d (setActW d o w)) ∧
  (∀ d o w, d.hub.act.canon resetWord = true → (setActW d o w).hub.act.canon resetWord = true) ∧
  (∀ d o w, shdW (setShdW d o w) o = w &&& shMask o ∧ (∀ o', o' ≠ o → shdW (setShdW d o w) o' = shdW d o')) ∧
  (∀ d o w, d.hub.shd.canon shReset = true → (setShdW d o w).hub.shd.canon shReset = true) ∧
  ∀ d p h, hdrOf (setHdr d p h) p = h ∧ ChangesOnly [] [p] d (setHdr d p h)) ∧
  (∀ d f v, f.lo + f.wd ≤ 32 → rd (wr d f v) f = v % 2 ^ f.wd) ∧
  (∀ d f g v, g.lo + g.wd ≤ 32 → (g.off ≠ f.off ∨ g.lo + g.wd ≤ f.lo ∨ f.lo + f.wd ≤ g.lo) → rd (wr d f v) g = rd d g) ∧
  (∀ d f n, f.lo + f.wd ≤ 32 → rd (satAdd d f n) f = min (rd d f + n) (2 ^ f.wd - 1)) ∧
  ∀ d o v, v < 2 ^ 64 → rd64 (wr64 d o v) o = v

/-- R48: an event of a page other than LOG sets its bit, whether or not it is enabled, and nothing else changes but the event log. R433: an
entry takes the next index and the time, and joins the buffered log. A buffer of 65,536 entries drops it, counts the loss and raises the
event of lost entries. Choices of the model in it: log entry 55. -/
def Obligations.EventsRaisedAndLogged : Prop :=
  (∀ d p b, p ≠ 0x7E → b < 32 →
    evtSet (raise d p b) p b = true ∧ hdrOf (raise d p b) p = { hdrOf d p with evtRaw := (hdrOf d p).evtRaw ||| BitVec.ofNat 32 (2 ^ b) } ∧
    RaisesOn p d (raise d p b)) ∧
  ∀ d code ps,
    (d.log.buf.length < 65536 → ∃ e rest, (logPut d code ps).log.buf = e :: rest ∧ rest = d.log.buf ∧ e.n = rd d F.LOG_NEXT_N ∧
      e.time = d.sys.time ∧ e.code = code ∧ e.params = ps ∧ rd (logPut d code ps) F.LOG_NEXT_N = (rd d F.LOG_NEXT_N + 1) % 2 ^ 32) ∧
    (65536 ≤ d.log.buf.length → (logPut d code ps).log = d.log ∧ evtSet (logPut d code ps) 0x7E 9 = true ∧
      rd (logPut d code ps) F.LOG_LOST_COUNT = min (rd d F.LOG_LOST_COUNT + 1) (2 ^ 32 - 1))

/-! ### Access to the register space -/

/-- R40, R66: a host write of an aligned word that answers is served at once, and the rows of single registers named here are exactly
such writes, of the register each names. -/
def Obligations.RowsAreRegisterWrites : Prop :=
  (∀ s port off v, Writes s port off v →
    Gives (.regWrite (.bar0 port off) v) s (fun d => d = writeWord s.dev port off v)) ∧
  ∀ s port v, let w := fun off => exec (.regWrite (.bar0 port off) v) s
    exec (.catchFire port v) s = w 0x100 ∧ exec (.almLatchClear port v) s = w 0x604C ∧ exec (.pflEholdWrite port v) s = w 0x5040 ∧
    exec (.mapLookup port v) s = w 0x20064 ∧ exec (.fwaDataAccess port (some v)) s = w 0xC064 ∧
    (∀ page, page < 256 → exec (.evtTestWrite port page v) s = w (0x1000 * page + 0x1C) ∧
      exec (.evtRawClear port page v) s = w (0x1000 * page + 0x10)) ∧
    (bitOf v.toNat 31 = true → exec (.seatKick port v) s = w 0x12090 ∧ exec (.stktArm port v) s = w 0x1E060 ∧
      exec (.memInjArm port v) s = w 0x7048) ∧
    ∀ ch, ch < 32 → exec (.dmcTailWrite port ch v) s = w (dmcOff ch 0x14) ∧
      (bitOf v.toNat 2 = true → exec (.dmcReset port ch v) s = w (dmcOff ch 0))

/-- R9, R50, R102: a write of a word with no action of its own gives each field what its kind says (RW takes the value, RO stays, a 1
clears W1C), SH bits go to the shadow and set PEND, a configuration word moves the gate from BLANK or HELD to STAGED outside test mode
and STAGE FAIL, and no other word changes. -/
def Obligations.PlainWriteByKinds : Prop :=
  ∀ s port off v r, Writes s port off v → regRow? off = some r → writablePair r = false → r.wo1 = 0 → acting off = false →
    Gives (.regWrite (.bar0 port off) v) s (fun d =>
      actW d off = kindWord r (actW s.dev off) v ∧
      (∀ o, o ≠ off → o ≠ 0x1040 → actW d o = actW s.dev o) ∧
      (∀ o, shdW d o = if o = off ∧ r.sh ≠ 0 then v &&& r.sh else shdW s.dev o) ∧
      (hdrOf d (pageOf off)).pend = ((hdrOf s.dev (pageOf off)).pend || !(r.sh == 0)) ∧
      (∀ p, p ≠ pageOf off → hdrOf d p = hdrOf s.dev p) ∧
      (rd s.dev F.CFG_GATE_STATE ∉ [0, 3] → rd d F.CFG_GATE_STATE = rd s.dev F.CFG_GATE_STATE) ∧
      (rd s.dev F.CFG_GATE_STATE ∈ [0, 3] → imagePage (pageOf off) = true → imageMask r ≠ 0 → off ≠ 0x80 → s.dev.sys.testEn = false →
        rd s.dev F.GLB_BOOT_STAGE ≠ 0xF → rd d F.CFG_GATE_STATE = 1) ∧
      d.med = s.dev.med ∧ d.keys = s.dev.keys ∧ d.seats = s.dev.seats ∧ d.cmds = s.dev.cmds ∧ d.sys = s.dev.sys ∧ d.log = s.dev.log ∧
      d.out = s.dev.out)

/-- R70: a host write that sets a reserved bit of a word that answers, or any bit of a reserved word, is refused by name, for the manual
describes no effect (the model's choice, log entry 4). -/
def Obligations.ReservedBitWriteRefused : Prop :=
  ∀ s port off v, HostAt s port → off % 4 = 0 → off < 0x100000 → implemented (pageOf off) = true → answers s.dev (pageOf off) = true →
    ¬ Clean off v → exec (.regWrite (.bar0 port off) v) s = .refused .reservedBitChanged

/-- R51: a write of the _LO word of a writable pair changes no register; the write of the _HI word gives both halves their value
together, the _LO half as held for the same management function.
R51: a read of a _LO word returns it and latches the _HI word for the reading management function; the _HI read that follows returns
the latch, whatever the register holds by then. -/
def Obligations.PairsHeldAndLatched : Prop :=
  (∀ s port lo v w r rl, regRow? lo = some rl → regRow? (lo + 4) = some r → rl.pair = 1 → r.pair = 2 → writablePair rl = true →
    writablePair r = true → rl.wo1 = 0 → r.wo1 = 0 →
    (Writes s port lo w → Gives (.regWrite (.bar0 port lo) w) s (fun d => (∀ o, actW d o = actW s.dev o) ∧ (∀ o, shdW d o = shdW s.dev o) ∧
      SMap.get? d.hub.held (2 * lo + port) = some w)) ∧
    (Writes s port (lo + 4) v → SMap.get? s.dev.hub.held (2 * lo + port) = some w →
      Gives (.regWrite (.bar0 port (lo + 4)) v) s (fun d =>
        (rl.sh = 0 → r.sh = 0 → imageMask rl = 0 → imageMask r = 0 → rl.rw ≠ 0 → r.rw ≠ 0 →
          actW d lo = kindWord rl (actW s.dev lo) w ∧ actW d (lo + 4) = kindWord r (actW s.dev (lo + 4)) v) ∧
        (rl.sh ≠ 0 → r.sh ≠ 0 → shdW d lo = w &&& rl.sh ∧ shdW d (lo + 4) = v &&& r.sh ∧ (hdrOf d (pageOf (lo + 4))).pend = true) ∧
        SMap.get? d.hub.held (2 * lo + port) = none))) ∧
  ∀ s port lo rl r, HostAt s port → lo % 4 = 0 → lo + 4 < 0x100000 → inPage lo ≥ 0x40 →
    implemented (pageOf lo) = true → answers s.dev (pageOf lo) = true → regRow? lo = some rl → rl.pair = 1 →
    regRow? (lo + 4) = some r → r.pair = 2 → pageOf (lo + 4) = pageOf lo →
    Gives (.pairLoRead port lo) s (fun d => d.out = .reg port (readWord s.dev lo) :: s.dev.out ∧
      SMap.get? d.hub.latch port = some (lo, readWord s.dev (lo + 4)) ∧ ∀ o, actW d o = actW s.dev o) ∧
    ∀ w, SMap.get? s.dev.hub.latch port = some (lo, w) →
      Gives (.pairLoRead port (lo + 4)) s (fun d => d = emit s.dev (.reg port w))

/-- R64: alias address 0x0200_0000 + W * 32 + b * 4 names bit b of the register at W. R65: an alias read returns the bit in bit 0, a vote on
the word taken first (R60); an alias write of a plain read-write word changes that bit alone. Choices of the model in it: log entry 22. -/
def Obligations.AliasTouchesOneBit : Prop :=
  (∀ off b, off % 4 = 0 → off < 0x100000 → b < 32 →
    aliasOff (0x2000000 + off * 32 + b * 4) = off ∧ aliasBit (0x2000000 + off * 32 + b * 4) = b) ∧
  ∀ s port addr, HostAt s port → addr % 4 = 0 → 0x2000000 ≤ addr → addr < 0x4000000 →
    let off := aliasOff addr
    let b := aliasBit addr
    implemented (pageOf off) = true → inPage off ≥ 0x40 → Open s off → ∀ r, regRow? off = some r → r.pair = 0 → acting off = false →
    off ∉ [0x1E080, 0x7304C] →
    Gives (.aliasAccess port addr none) s (fun d =>
      d = emit (voteAt s.dev off) (.reg port (BitVec.ofNat 32 (bitsOf (readWord (voteAt s.dev off) off).toNat b 1)))) ∧
    ∀ v, r.sh = 0 → r.tv = 0 → r.ro = 0 → r.w1c = 0 → r.w1s = 0 → r.wo1 = 0 → bitOf r.rw.toNat b = true →
      Gives (.aliasAccess port addr (some v)) s (fun d => ChangesOnly [off] [] s.dev d ∧
        ∀ i, i < 32 → bitOf (actW d off).toNat i = if i = b then bitOf v.toNat 0 else bitOf (actW s.dev off).toNat i)

/-- R71, R72: GLB_UPDLOCK takes the first write; every later write leaves its word and is recorded in WO_VIOL with the WOV event. -/
def Obligations.WriteOnceTakesFirstWrite : Prop :=
  ∀ s port v, Writes s port 0x160 v →
    (s.dev.hub.woTaken.contains 0x160 = false → Gives (.regWrite (.bar0 port 0x160) v) s (fun d =>
      rd d F.GLB_UPDLOCK_LOCK = v.toNat % 2 ∧ d.hub.woTaken.contains 0x160 = true ∧ (∀ o, o ∉ [0x160, 0x1040] → actW d o = actW s.dev o))) ∧
    (s.dev.hub.woTaken.contains 0x160 = true → Gives (.regWrite (.bar0 port 0x160) v) s (fun d =>
      actW d 0x160 = actW s.dev 0x160 ∧ evtSet d 0 0 = true ∧ (hdrOf d 0).woValid = true ∧
      ((hdrOf s.dev 0).woValid = false → (hdrOf d 0).woWhere = 0x160) ∧ ((hdrOf s.dev 0).woValid = true → (hdrOf d 0).woOver = true) ∧
      RaisesOn 0 s.dev d))

/-- R47, R48: EVT_TEST raises every bit written as 1 that the page has, and a 1 written to EVT_RAW clears a bit; SHADOW_DISCARD gives every
shadow of its page the active value and clears PEND (R45); a gating that waited for the page follows (R58). -/
def Obligations.EventAndShadowHeaderWrites : Prop :=
  (∀ s port page v b, page < 256 → Writes s port (0x1000 * page + 0x1C) v → page ≠ 0x7E → bitOf (v &&& evtMask page).toNat b = true → b < 32 →
    Gives (.evtTestWrite port page v) s (fun d => evtSet d page b = true ∧ (hdrOf d page).evtEn = (hdrOf s.dev page).evtEn ∧
      RaisesOn page s.dev d)) ∧
  (∀ s port page v, page < 256 → Writes s port (0x1000 * page + 0x10) v →
    Gives (.evtRawClear port page v) s (fun d => (hdrOf d page).evtRaw = (hdrOf s.dev page).evtRaw &&& ~~~ v ∧
      (∀ o, actW d o = actW s.dev o) ∧ (∀ p, p ≠ page → hdrOf d p = hdrOf s.dev p) ∧ d.med = s.dev.med ∧ d.seats = s.dev.seats)) ∧
  ∀ s port page, page < 256 → HostAt s port → implemented page = true → (hdrOf s.dev page).cbusy = false →
    Gives (.shadowDiscard port page) s (fun d => d = pbaSettle (pageCtrl s.dev page (hdrWord s.dev page 8 ||| 2).toNat) ∧
      (s.dev.sys.psLate = [] → (hdrOf d page).pend = false ∧ (∀ o, actW d o = actW s.dev o) ∧
        (∀ o, pageOf o = page → shMask o ≠ 0 → shdW d o = actW s.dev o &&& shMask o) ∧ (∀ o, pageOf o ≠ page → shdW d o = shdW s.dev o)))

/-- R67 with R40, R41, R68, R69: an access that is no aligned word, or that no implemented page serves, has no effect, a read of it returns 0, and it is
counted. A crossing that times out ends the access: a read returns 0, a write is dropped, GLB_OFFACC records cause 2 and OFFA is raised on the
page; a write to a page that does not answer is dropped with cause 0 and OFFA. The first such access is recorded and stays; every one counts. -/
def Obligations.InvalidAccessDropped : Prop :=
  (∀ d port w cause off, port < 2 → cause < 8 → off < 2 ^ 26 →
    (rdB d F.GLB_OFFACC_VALID = true → actW (offAcc d port w cause off) 0x108 = actW d 0x108) ∧
    (rdB d F.GLB_OFFACC_VALID = false →
      rd (offAcc d port w cause off) F.GLB_OFFACC_VALID = 1 ∧ rd (offAcc d port w cause off) F.GLB_OFFACC_PORT = port ∧
      rd (offAcc d port w cause off) F.GLB_OFFACC_WRITE = b2n w ∧ rd (offAcc d port w cause off) F.GLB_OFFACC_CAUSE = cause ∧
      rd (offAcc d port w cause off) F.GLB_OFFACC_OFFSET = off) ∧
    rd (offAcc d port w cause off) F.GLB_OFFACC_CNT_COUNT = min (rd d F.GLB_OFFACC_CNT_COUNT + 1) (2 ^ 16 - 1) ∧
    ChangesOnly [0x108, 0x10C] [] d (offAcc d port w cause off)) ∧
  (∀ s port off w whole, HostAt s port → off < 0x4000000 → (whole = false ∨ off % 4 ≠ 0 ∨ targetOff off ≥ 0x100000 ∨ implemented (pageOf (targetOff off)) = false) →
    Gives (.bar0InvalidAccess port off w whole) s (fun d =>
      let c := if whole = false ∨ off % 4 ≠ 0 then 3 else if targetOff off ≥ 0x100000 then 4 else 1
      d = if w then offAcc s.dev port w c (targetOff off) else emit (offAcc s.dev port w c (targetOff off)) (.reg port 0))) ∧
  (∀ s port off w, HostAt s port → off % 4 = 0 → off < 0x100000 → implemented (pageOf off) = true → inPage off ≥ 0x40 →
    islandOf (pageOf off) ≠ 0 → answers s.dev (pageOf off) = true →
    Gives (.crossingTimeout port off w) s (fun d => evtSet d (pageOf off) 4 = true ∧
      d = if w then raise (offAcc s.dev port w 2 off) (pageOf off) 4 else emit (raise (offAcc s.dev port w 2 off) (pageOf off) 4) (.reg port 0))) ∧
  ∀ s port off v, HostAt s port → off % 4 = 0 → off < 0x100000 → implemented (pageOf off) = true → inPage off ≥ 0x40 →
    answers s.dev (pageOf off) = false →
    Gives (.regWrite (.bar0 port off) v) s (fun d => evtSet d (pageOf off) 4 = true ∧
      d = raise (offAcc s.dev port true 0 off) (pageOf off) 4)

/-- R41, R454: the reserved pages are 0x0E, 0x0F, 0x2A to 0x2F, 0x74 to 0x77 and 0x7F to 0xFF, which leaves 115 implemented pages; every word of a
reserved page, its header with it, reads 0, a write to it is dropped, and GLB_OFFACC takes cause 1 for both; GLB_EVTSUM4 to 7 read 0. -/
def Obligations.ReservedPagesReadZero : Prop :=
  (∀ p, p < 256 → (implemented p = false ↔ p ∈ [0x0E, 0x0F, 0x2A, 0x2B, 0x2C, 0x2D, 0x2E, 0x2F, 0x74, 0x75, 0x76, 0x77] ∨ 0x7F ≤ p)) ∧
  ((List.range 256).filter implemented).length = 115 ∧
  (∀ s port off v, HostAt s port → off % 4 = 0 → off < 0x100000 → implemented (pageOf off) = false →
    Gives (.pairLoRead port off) s (fun d => d = emit (offAcc s.dev port false 1 off) (.reg port 0)) ∧
    Gives (.bar0InvalidAccess port off false true) s (fun d => d = emit (offAcc s.dev port false 1 off) (.reg port 0)) ∧
    Gives (.regWrite (.bar0 port off) v) s (fun d => d = offAcc s.dev port true 1 off) ∧
    Gives (.bar0InvalidAccess port off true true) s (fun d => d = offAcc s.dev port true 1 off)) ∧
  (∀ d port w off, port < 2 → off < 2 ^ 26 → rdB d F.GLB_OFFACC_VALID = false → rd (offAcc d port w 1 off) F.GLB_OFFACC_CAUSE = 1) ∧
  ∀ d k, 4 ≤ k → k < 8 → readWord d (0x120 + 4 * k) = 0

/-- R66: accesses that waited behind a stalled write are served in their order of arrival, as long as none of them stalls. Choices of the
model in it: log entry 23. -/
def Obligations.StalledAccessesKeepOrder : Prop :=
  ∀ d l, (∀ l1 r l2, l = l1 ++ r :: l2 → hubStall (l1.foldl hubOne d) r = false) → hubReplay d l = l.foldl hubOne d

/-! ### Catches and triple-voted fields -/

/-- R54, R55, R57: a write of GLB_CATCH with the gate not ACCEPTED changes nothing; of one group whose last Catch has ended it clears that
group's DONE bit and runs steps 2 to 4 on the group's pages; of a group whose Catch runs it is queued; every field is voted first (R60).
R55 step 5: the end of a Catch is catchFinish, then the accesses that waited and a gating that waited go on; with nothing queued behind it sets
DONE; each page of the group leaves CBUSY, advances CSEQ, and clears PEND where its shadows were applied. -/
def Obligations.CatchFiresAndEnds : Prop :=
  (∀ s port g, g < 8 → let v : Word := BitVec.ofNat 32 (2 ^ g)
    Writes s port 0x100 v →
    (accepted s.dev = false → Gives (.catchFire port v) s (fun d => d = s.dev)) ∧
    (accepted s.dev = true → bitOf (rd (voteAll s.dev) F.GLB_CATCH_DONE_DONE) g = true →
      Gives (.catchFire port v) s (fun d => d = catchStart (voteAll s.dev) g)) ∧
    (accepted s.dev = true → bitOf (rd (voteAll s.dev) F.GLB_CATCH_DONE_DONE) g = false →
      Gives (.catchFire port v) s (fun d => d = setBit (voteAll s.dev) F.GLB_CATCH_DONE_QUEUED g true ∧
        bitOf (rd d F.GLB_CATCH_DONE_QUEUED) g = true))) ∧
  (∀ s g, g < 8 → alive s.dev = true → bitOf (rd s.dev F.GLB_CATCH_DONE_DONE) g = false →
    Gives (.catchComplete g) s (fun d => d = psLater (hubRelease (catchFinish s.dev g)) ∧
      (s.dev.hub.stalled = [] → s.dev.sys.psLate = [] → d = catchFinish s.dev g))) ∧
  ∀ d g, g < 8 → bitOf (rd d F.GLB_CATCH_DONE_QUEUED) g = false → let d' := catchFinish d g
    bitOf (rd d' F.GLB_CATCH_DONE_DONE) g = true ∧ (∀ o, o ≠ 0x104 → actW d' o = actW d o) ∧
      ∀ p, implemented p = true → p < 0x7F →
        if (hdrOf d p).group = g then
          (hdrOf d' p).cbusy = false ∧ (hdrOf d' p).cseq = ((hdrOf d p).cseq + 1) % 256 ∧
          (hdrOf d' p).pend = ((hdrOf d p).pend && !(hdrOf d p).applied)
        else hdrOf d' p = hdrOf d p

/-- R56: a page that is on and whose new values break a rule keeps its active values and its shadows; SHADOW_STAT names the offset and the cause, and CREF
is raised on it. -/
def Obligations.RefusedPageKeepsValues : Prop :=
  ∀ d p whr cause, p ≠ 0x7E → answers d p = true → catchNew d p = true → pageCheck d p = some (whr, cause) →
    RaisesOn p d (catchPage d p) ∧ (hdrOf (catchPage d p) p).refused = true ∧ (hdrOf (catchPage d p) p).whr = whr ∧
    (hdrOf (catchPage d p) p).cause = cause ∧ (hdrOf (catchPage d p) p).pend = (hdrOf d p).pend ∧ evtSet (catchPage d p) p 3 = true

/-- R60 to R63: the scrubber votes every word whose copies differ; the operand is what upsets the copies before its next visit. With one
copy of the active voted field of a word upset, the vote keeps the value and sets VOTE_STAT.SINGLE and VFIX, and the copies agree again;
with all three copies of PFL_EHOLD different, VOTE_STAT.TRIPLE and VLOST are set, the field takes its safe value 0 and the terms that
rest on it follow. Choices of the model in it: log entry 26. -/
def Obligations.VoteRepairsOneCopy : Prop :=
  (∀ s upsets, alive s.dev = true → Gives (.tvScrub upsets) s (fun d => d = upsets.foldl upsetLand (voteAll s.dev))) ∧
  (∀ s off c f, alive s.dev = true → s.dev.hub.tv = [(2 * off, c)] → tvFields off = [f] →
    ([c.x0, c.x1, c.x2].filter (fun x => bitsOf x.toNat f.1 f.2 ≠ 0)).length = 1 →
    Gives (.tvScrub []) s (fun d => RaisesOn (pageOf off) { s.dev with hub := { s.dev.hub with tv := [] } } d ∧
      evtSet d (pageOf off) 1 = true ∧ (hdrOf d (pageOf off)).single = true ∧ (hdrOf d (pageOf off)).vWhere = inPage off)) ∧
  ∀ s c, alive s.dev = true → s.dev.hub.tv = [(2 * 0x5040, c)] →
    bitsOf c.x0.toNat 0 20 ≠ bitsOf c.x1.toNat 0 20 → bitsOf c.x0.toNat 0 20 ≠ bitsOf c.x2.toNat 0 20 →
    bitsOf c.x1.toNat 0 20 ≠ bitsOf c.x2.toNat 0 20 →
    let g := wr (voteStat { s.dev with hub := { s.dev.hub with tv := [] } } 0x5040 true) F.PFL_EHOLD_MJ 0
    Gives (.tvScrub []) s (fun d => evtSet g 5 2 = true ∧ (hdrOf g 5).triple = true ∧ (hdrOf g 5).vWhere = 0x40 ∧ rd g F.PFL_EHOLD_MJ = 0 ∧
      d = admRecompute (flushTerms g))

/-! ### Supplies, clocks and bring-up -/

/-- R79, R86 steps 1 and 2: a rise of PWRGD_AON, and every fall of it, leave every register and header at reset, nothing running, the
persistent log as it was, and on the media what the cut leaves, every extent that stood there among it; CRYSTAL_STABLE then, with
VDD_AON and VDD_IO good, releases the AON domain, starts the time base at 0, samples the straps, and with every rail good enters CLOCKS
with all thirty domains on. Choices of the model in it: log entry 31. -/
def Obligations.PowerOnReset : Prop :=
  (∀ s, s.dev.sys.pwrgd = false → Gives .pwrgdAonRise s (fun d =>
    d.sys.pwrgd = true ∧ d.sys.aon = false ∧ d.sys.dead = false ∧ (∀ off, actW d off = resetWord off) ∧ (∀ p, hdrOf d p = hdrDefault p) ∧
    d.seats = [] ∧ d.cmds = {} ∧ d.hub.woTaken = [] ∧ d.med = { nand := mediaCut (cutWrite s.dev) } ∧ d.log.saved = s.dev.log.saved ∧
    d.sys.rails = s.dev.sys.rails)) ∧
  (∀ s, Gives .pwrgdAonFall s (fun d =>
    d.sys.pwrgd = false ∧ d.sys.aon = false ∧ d.sys.dead = false ∧ (∀ off, actW d off = resetWord off) ∧ (∀ p, hdrOf d p = hdrDefault p) ∧
    d.seats = [] ∧ d.med = { nand := mediaCut (cutWrite s.dev) } ∧ d.log.saved = s.dev.log.saved)) ∧
  (∀ d k e, d.med.nand.flash.get? k = some e → (mediaCut (cutWrite d)).flash.get? k = some e) ∧
  ∀ s bootSel smb te, s.dev.sys.pwrgd = true → s.dev.sys.aon = false → aonRailsGood s.dev = true → s.dev.sys.xtalBad = false →
    bootSel < 4 → smb < 8 → Gives (.crystalStable bootSel smb te) s (fun d =>
      d.sys.aon = true ∧ d.sys.time = 0 ∧ d.sys.testEn = te ∧ rd d F.GLB_STRAP_BOOT_SEL = bootSel ∧ rd d F.GLB_STRAP_SMB_ADDR = smb ∧
      rd d F.PFL_STAT_PFAIL = b2n s.dev.sys.pfailLow ∧
      (s.dev.sys.rails = allRails → s.dev.sys.dead = false → rd s.dev F.PFL_STAT_STATE = 0 →
        rd d F.GLB_BOOT_STAGE = 2 ∧ rd d F.PWR_DOMSTAT_ON = 2 ^ 30 - 1) ∧
      (s.dev.sys.rails ≠ allRails → rd d F.GLB_BOOT_STAGE = 1))

/-- R74, R77, R78, R88: a rail that becomes good joins PWR_RAIL. With VDD_AON or VDD_IO lost the device is held in reset. Any other rail
lost leaves PWR_RAIL, is latched in PWR_RAILLOST if it was good before, and raises RLOST; a PCIe rail then takes the links of both ports
down, and every other rail starts the flush, or ends the one under way without its record. Choices of the model in it: log entries 37,
40. -/
def Obligations.RailsTracked : Prop :=
  (∀ s rail, rail < 14 → bitOf s.dev.sys.rails rail = false → Gives (.railGood rail) s (fun d =>
    d.sys.rails = s.dev.sys.rails + 2 ^ rail ∧ d.sys.aon = s.dev.sys.aon ∧
    (s.dev.sys.aon = true → rd d F.PWR_RAIL_GOOD = (s.dev.sys.rails + 2 ^ rail) % 2 ^ 14))) ∧
  (∀ s rail, rail = 0 ∨ rail = 12 → bitOf s.dev.sys.rails rail = true → Gives (.railLost rail) s (fun d =>
    d.sys.aon = false ∧ (∀ off, actW d off = resetWord off) ∧ d.sys.rails = s.dev.sys.rails - 2 ^ rail ∧
    d.med = { nand := mediaCut (cutWrite { s.dev with sys := { s.dev.sys with rails := s.dev.sys.rails - 2 ^ rail } }) })) ∧
  (∀ s rail, rail < 14 → rail ≠ 0 → rail ≠ 12 → bitOf s.dev.sys.rails rail = true → s.dev.sys.aon = false → Gives (.railLost rail) s (fun d =>
    d = { s.dev with sys := { s.dev.sys with rails := s.dev.sys.rails - 2 ^ rail } })) ∧
  ∀ s rail, rail < 14 → rail ≠ 0 → rail ≠ 12 → bitOf s.dev.sys.rails rail = true → s.dev.sys.aon = true → s.dev.sys.rails < 2 ^ 14 →
    let d1 := { s.dev with sys := { s.dev.sys with rails := s.dev.sys.rails - 2 ^ rail } }
    let d3 := raise (showRails (if bitOf s.dev.sys.everGood rail then setBit d1 F.PWR_RAILLOST_LOST rail true else d1)) 2 10
    rd d3 F.PWR_RAIL_GOOD = s.dev.sys.rails - 2 ^ rail ∧ evtSet d3 2 10 = true ∧
    (bitOf s.dev.sys.everGood rail = true → bitOf (rd d3 F.PWR_RAILLOST_LOST) rail = true) ∧
    Gives (.railLost rail) s (fun d =>
      (s.dev.sys.dead = true ∨ (stage s.dev = 0xF ∧ rail ≠ 3 ∧ rail ≠ 4) → d = d3) ∧
      (s.dev.sys.dead = false → rail = 3 ∨ rail = 4 →
        d = portDown (portDown { d3 with sys := { d3.sys with pcieRailLost := true } } 0) 1) ∧
      (s.dev.sys.dead = false → stage s.dev ≠ 0xF → rail ≠ 3 → rail ≠ 4 →
        (flushing s.dev = false → d = flushBegin d3 2) ∧
        (flushing s.dev = true → rd s.dev F.PFL_STAT_STATE ≤ 5 → s.dev.sys.flushLost = false → d = flushAbort d3) ∧
        (flushing s.dev = true → 5 < rd s.dev F.PFL_STAT_STATE ∨ s.dev.sys.flushLost = true → d = d3)))

/-- R86 steps 4 to 7, R88, R89, R466: with the PLLs locked the fuse map is applied and STAGE is FUSES; a good map releases the ports, but in
test mode the sequence holds there; a trained HBM starts the zero-fill; with the zero-fill complete and a bank verified the control
processors run from that bank; each failure ends in FAIL with its FCAUSE, the ports released. Choices of the model in it: log entries
33, 41. -/
def Obligations.PowerOnSequence : Prop :=
  (∀ s fuse, serving s.dev = true → stage s.dev = 2 → Gives (.pllsLocked fuse) s (fun d => d.sys.fuse = fuse ∧
    d = applyFuse (wrs { s.dev with sys := { s.dev.sys with fuse := fuse } } [(F.GLB_BOOT_STAGE, 3), (F.CLK_STAT_LOCK, 2 ^ 21 - 1 +
      (if s.dev.sys.refPresent.contains 0 then 2 ^ 21 else 0) + (if s.dev.sys.refPresent.contains 1 then 2 ^ 22 else 0))]))) ∧
  (∀ d cause, cause < 16 → stage (stageFail d cause) = 0xF ∧ rd (stageFail d cause) F.GLB_BOOT_FCAUSE = cause ∧
    (stageFail d cause).sys = { d.sys with portsFree := true } ∧ (∀ o, o ≠ 0x144 → actW (stageFail d cause) o = actW d o) ∧
    (stageFail d cause).pci.cfgA = actW d 0x10040 ∧ (stageFail d cause).pci.cfgB = actW d 0x11040 ∧ (stageFail d cause).med = d.med) ∧
  (∀ s, serving s.dev = true → stage s.dev = 2 → Gives .pllLockFailure s (fun d =>
    d = tick (stageFail (wr s.dev F.CLK_STAT_LOCK (Config.pllsLocked s.dev.free % 2 ^ 21
      + (if s.dev.sys.refPresent.contains 0 then 2 ^ 21 else 0) + (if s.dev.sys.refPresent.contains 1 then 2 ^ 22 else 0))) 5))) ∧
  (∀ s, serving s.dev = true → stage s.dev = 3 →
    Gives (.fuseMapLoaded true) s (fun d => (s.dev.sys.testEn = true → d = s.dev) ∧
      (s.dev.sys.testEn = false → stage d = 4 ∧ d.sys.portsFree = true ∧ d.pci.cfgA = actW s.dev 0x10040 ∧ d.pci.cfgB = actW s.dev 0x11040 ∧
        ∀ o, o ≠ 0x144 → actW d o = actW s.dev o)) ∧
    Gives (.fuseMapLoaded false) s (fun d => d = stageFail s.dev 1)) ∧
  (∀ s, serving s.dev = true → stage s.dev = 4 → s.dev.sys.hbmOk = false →
    Gives (.hbmTrained true) s (fun d => d = { s.dev with sys := { s.dev.sys with hbmOk := true, zeroT := s.dev.sys.time } }) ∧
    Gives (.hbmTrained false) s (fun d => d = stageFail s.dev 2)) ∧
  (∀ s, serving s.dev = true → stage s.dev = 4 → s.dev.sys.hbmOk = true → s.dev.sys.zeroDone = false →
    (∀ b, s.dev.sys.verifiedBank = some b → b < 2 → Gives (.zeroFillComplete none) s (fun d => stage d = 5 ∧ rd d F.GLB_BOOT_BANK = b ∧
      rd d F.FWA_BANK_EXEC = b ∧ rd d F.MEM_ZSTAT_DONE = 1)) ∧
    (s.dev.sys.verifiedBank = none → Gives (.zeroFillComplete none) s (fun d => stage d = 4 ∧ rd d F.MEM_ZSTAT_DONE = 1 ∧
      d.sys.zeroDone = true)) ∧
    ∀ m, m < 111 → Gives (.zeroFillComplete (some m)) s (fun d => stage d = 0xF ∧ rd d F.GLB_BOOT_FCAUSE = 3 ∧
      rd d F.MEM_ZSTAT_FAIL = 1 ∧ rd d F.MEM_ZSTAT_MEMID = m))

/-- R86 step 8, R87, R89, R404, R411: the preferred bank that verifies is the one to run, and with the zero-fill complete it runs; one that
does not verify leaves the other bank to be verified, with FALLBACK where that one passes and FAIL with FCAUSE 4 where it does not; the
firmware reaches READY, which records the time; one that does not starts from the other bank, or ends in FAIL with FCAUSE 4. Choices of
the model in it: log entries 30, 41, 42. -/
def Obligations.FirmwareStarts : Prop :=
  (∀ s v, serving s.dev = true → stage s.dev = 4 → s.dev.sys.verifiedBank = none →
    let pref := preferredBank s.dev
    let b := if s.dev.sys.bankFailed then 1 - pref else pref
    ((imgVerifies s.dev b v).isSome = true → Gives (.bankVerified b v) s (fun d => d.sys.verifiedBank = some b ∧
      rd d F.GLB_BOOT_FALLBACK = b2n (s.dev.sys.bankFailed) ∧ rd d (if b = 0 then F.GLB_BOOT_B0OK else F.GLB_BOOT_B1OK) = 1 ∧
      (s.dev.sys.zeroDone = true → stage d = 5 ∧ rd d F.FWA_BANK_EXEC = b ∧ rd d F.GLB_BOOT_BANK = b) ∧
      (s.dev.sys.zeroDone = false → stage d = 4))) ∧
    ((imgVerifies s.dev b v).isSome = false → Gives (.bankVerified b v) s (fun d =>
      (s.dev.sys.bankFailed = false → d = { s.dev with sys := { s.dev.sys with bankFailed := true } }) ∧
      (s.dev.sys.bankFailed = true → d = arrayShow (stageFail s.dev 4))))) ∧
  (∀ s v, serving s.dev = true → stage s.dev = 5 ∨ stage s.dev = 6 → let b := 1 - rd s.dev F.FWA_BANK_EXEC
    let ok := (imgVerifies s.dev b v).isSome
    let f := if b = 0 then F.GLB_BOOT_B0OK else F.GLB_BOOT_B1OK
    Gives (.bankVerified b v) s (fun d => d = showBank (wr s.dev f (b2n ok)) b ok ∧ rd d f = b2n ok ∧ stage d = stage s.dev ∧
      rd d (F.FWA_BVER b) = if ok then (bankHdr s.dev b).version % 2 ^ 32 else 0)) ∧
  (∀ s, serving s.dev = true → stage s.dev = 5 → Gives .firmwareInitialised s (fun d =>
    stage d = 6 ∧ rd d F.GLB_READYT_T = now32 s.dev ∧ d.upd.aonVer = rd s.dev F.FWA_ACTIVE_VER_VERSION ∧
    (∀ p, p ∈ allPages → domainOf p ≥ 30 ∨ domOn s.dev (domainOf p) = true → (hdrOf d p).on = true))) ∧
  ∀ s, serving s.dev = true → stage s.dev = 5 →
    Gives .firmwareReadyTimeout s (fun d => d = readyTimeout s.dev ∧
      (s.dev.upd.tried.contains (1 - rd s.dev F.FWA_BANK_EXEC) = true → stage d = 0xF ∧ rd d F.GLB_BOOT_FCAUSE = 4))

/-- R82 to R85, R307: a PLL that loses lock clears its LOCK bit and raises UNLOCK, and sets it when it locks again, but for a group whose PLL
has failed; a core PLL that stays
unlocked leaves the device faulty with ALERT# low; a group PLL isolates its four channels, and is out until a restart; a port PLL takes
its port down; a port whose PLL locks after that behaves as after PERST# rises. -/
def Obligations.PllLockFollowed : Prop :=
  (∀ s pll, alive s.dev = true → pll < 23 → bitOf (rd s.dev F.CLK_STAT_LOCK) pll = true → Gives (.pllUnlock pll) s (fun d =>
    bitOf (rd d F.CLK_STAT_LOCK) pll = false ∧ evtSet d 3 8 = true ∧ ChangesOnly (0x304C :: logWords) [3, 0x7E] s.dev d)) ∧
  (∀ s pll, alive s.dev = true → pll < 23 → bitOf (rd s.dev F.CLK_STAT_LOCK) pll = false → stage s.dev ≥ 3 → pllDomainOn s.dev pll = true →
    (pll < 21 ∨ s.dev.sys.refPresent.contains (pll - 21) = true) → Gives (.pllRelock pll) s (fun d =>
      ((5 ≤ pll → pll ≤ 20 → pllBroken s.dev (pll - 5) = false) → bitOf (rd d F.CLK_STAT_LOCK) pll = true) ∧
      ((5 ≤ pll → pll ≤ 20 → pllBroken s.dev (pll - 5) = false) → (21 ≤ pll → s.dev.sys.portDead.contains (pll - 21) = false) →
        ChangesOnly [0x304C] [] s.dev d) ∧
      (21 ≤ pll → s.dev.sys.portDead.contains (pll - 21) = true → d.sys.portDead = ndel (pll - 21) s.dev.sys.portDead ∧
        (if pll = 21 then d.pci.cfgA else d.pci.cfgB) = actW s.dev (0x10040 + 0x1000 * (pll - 21))) ∧
      (5 ≤ pll → pll ≤ 20 → pllBroken s.dev (pll - 5) = true → d = s.dev))) ∧
  (∀ s pll, alive s.dev = true → pll < 23 → bitOf (rd s.dev F.CLK_STAT_LOCK) pll = false → stage s.dev ≥ 3 → pllDomainOn s.dev pll = true →
    Gives (.pllRelockTimeout pll) s (fun d =>
      (pll ≤ 4 → d = { s.dev with sys := { s.dev.sys with dead := true, pllFault := pll + 1 } } ∧ (settleEvents d).sys.alertLow = true) ∧
      (5 ≤ pll → pll ≤ 20 → d = foldUpto 4 (fun i d => chanFaultIsolate d (4 * (pll - 5) + i) icPLL)
        { s.dev with sys := { s.dev.sys with pllDead := nins (pll - 5) s.dev.sys.pllDead } }) ∧
      (21 ≤ pll → let d1 := if s.dev.sys.refPresent.contains (pll - 21) then s.dev else raise s.dev 3 10
        d = portReset { d1 with sys := { d1.sys with portDead := nins (pll - 21) d1.sys.portDead } } (pll - 21)))) ∧
  ∀ s port, alive s.dev = true → port ≤ 1 → bitOf (rd s.dev F.CLK_STAT_LOCK) (21 + port) = false → domOn s.dev (16 + port) = true →
    s.dev.sys.refPresent.contains port = true →
    Gives (.portPllRetry port true) s (fun d => bitOf (rd d F.CLK_STAT_LOCK) (21 + port) = true ∧
      (if port = 0 then d.pci.cfgA else d.pci.cfgB) = actW s.dev (0x10040 + 0x1000 * port)) ∧
    Gives (.portPllRetry port false) s (fun d => d = s.dev)

/-- R82 to R85, R351: the loss of a port's reference clock clears its REF and LOCK bits, raises UNLOCK and REFLOSS and takes the port's
links down; its return shows again. A crystal failure sets XRC, raises XFAIL, starts the flush and latches the clock-glitch alarm; the
return of the crystal clears XRC. Choices of the model in it: log entry 36. -/
def Obligations.ClocksLostAndBack : Prop :=
  (∀ s port, alive s.dev = true → port ≤ 1 → s.dev.sys.refPresent.contains port = true → Gives (.refclkLoss port) s (fun d =>
    d = portDown (raise (raise (setBit (wr { s.dev with sys := { s.dev.sys with refPresent := ndel port s.dev.sys.refPresent } }
      (if port = 0 then F.CLK_STAT_REFA else F.CLK_STAT_REFB) 0) F.CLK_STAT_LOCK (21 + port) false) 3 8) 3 10) port)) ∧
  (∀ s port, s.dev.sys.aon = true → port ≤ 1 → Gives (.refclkReturn port) s (fun d =>
    d.sys.refPresent = nins port s.dev.sys.refPresent ∧ rd d (if port = 0 then F.CLK_STAT_REFA else F.CLK_STAT_REFB) = 1 ∧
    ChangesOnly [0x304C] [] { s.dev with sys := { s.dev.sys with refPresent := nins port s.dev.sys.refPresent } } d)) ∧
  (∀ s, alive s.dev = true → s.dev.sys.xtalBad = false → Gives .crystalFailure s (fun d =>
    d = alarmFire (flushBegin (raise (wr { s.dev with sys := { s.dev.sys with xtalBad := true } } F.CLK_STAT_XRC 1) 3 9) 3) almCLOCK)) ∧
  ∀ s, s.dev.sys.aon = true → Gives .crystalReturn s (fun d => d.sys.xtalBad = false ∧ rd d F.CLK_STAT_XRC = 0 ∧
    bitOf (rd d F.ALM_STAT_LIVE) almCLOCK = false ∧ d.med = s.dev.med)

/-! ### The emergency flush and the warm restart -/

/-- R88, R229, R231, R235, R424: PFAIL# shows in PFL_STAT, and starts the flush unless one is under way or the device has failed; its rise
shows too. A temperature above THM_TRIP raises TRIP and starts the flush likewise. A flush with nothing to write ends at once in DONE.
R229 to R231: the steps of the flush follow one another: SEAL, WRITE, META, RECORD, DONE. WRITE, once the programs in flight have ended,
adds one set to the eaves, META gives it its pages, RECORD makes the newest set valid and marks the flush for GLB_RSTCAUSE; a step that
finds too few pages ends the flush with its data lost. Choices of the model in it: log entries 37, 39, 40. -/
def Obligations.FlushStartsAndSteps : Prop :=
  ((∀ s, s.dev.sys.aon = true → Gives .pfailAssert s (fun d =>
    let d1 := wr { s.dev with sys := { s.dev.sys with pfailLow := true } } F.PFL_STAT_PFAIL 1
    d = (if s.dev.sys.dead then d1 else flushBegin d1 1) ∧
    (s.dev.sys.dead = true ∨ flushing s.dev = true ∨ stage s.dev = 0xF → rd d F.PFL_STAT_PFAIL = 1 ∧
      ChangesOnly [0x5048] [] { s.dev with sys := { s.dev.sys with pfailLow := true } } d) ∧
    (s.dev.sys.dead = false → flushing s.dev = false → stage s.dev ≠ 0xF → d.sys.restartCause = 1 ∧
      (accepted (voteAll d1) = false → rd d F.PFL_STAT_STATE = 6)))) ∧
  (∀ s, s.dev.sys.aon = true → Gives .pfailDeassert s (fun d => rd d F.PFL_STAT_PFAIL = 0 ∧
    ChangesOnly [0x5048] [] { s.dev with sys := { s.dev.sys with pfailLow := false } } d)) ∧
  ∀ s, s.dev.sys.aon = true → rdS16 s.dev F.THM_HOT_T > rdS16 s.dev F.THM_TRIP_T → Gives .thermalTrip s (fun d =>
    (s.dev.sys.dead = true ∨ flushing s.dev = true ∨ stage s.dev = 0xF → d = raise s.dev 4 9 ∧ evtSet d 4 9 = true) ∧
    (s.dev.sys.dead = false → flushing s.dev = false → stage s.dev ≠ 0xF → d = flushBegin (raise s.dev 4 9) 6 ∧ d.sys.restartCause = 6))) ∧
  (∀ s, inFlush s.dev 2 = true → Gives .flushSealDone s (fun d => d = wr (flushSeal s.dev) F.PFL_STAT_STATE 3 ∧ rd d F.PFL_STAT_STATE = 3)) ∧
  (∀ s failed dead, inFlush s.dev 3 = true → s.dev.cox.luns.all (fun e => e.2.exec.isNone) = true →
    let x := eaveWritten s.dev failed dead
    Gives (.flushEaveWriteDone failed dead) s (fun d =>
      (eavePageCount s.dev ≤ x.pages.length → rd d F.PFL_STAT_STATE = 4 ∧ d.sys.flushLost = false ∧
        d.med.nand.eaves = s.dev.med.nand.eaves ++ [x] ∧
        ∀ o, o ∉ [0x5048, F.MAP_WSEQ, F.MAP_WSEQ + 4] → actW d o = actW s.dev o) ∧
      (x.pages.length < eavePageCount s.dev → d.sys.flushLost = true))) ∧
  (∀ s x, inFlush s.dev 4 = true → lastSet? s.dev = some x → let ps := metaPlaces s.dev x
    Gives .flushMetaDone s (fun d =>
      (2 * metaPageCount x ≤ ps.length → rd d F.PFL_STAT_STATE = 5 ∧ d.sys.flushLost = false ∧
        d.med.nand.eaves = s.dev.med.nand.eaves.dropLast ++ [{ x with metas := ps }] ∧
        ∀ o, o ∉ [0x5048, F.MAP_WSEQ, F.MAP_WSEQ + 4] → actW d o = actW s.dev o) ∧
      (ps.length < 2 * metaPageCount x → d.sys.flushLost = true))) ∧
  ∀ s x, inFlush s.dev 5 = true → lastSet? s.dev = some x → let ps := placePairs 1 (placesLeft s.dev x 2)
    Gives .flushRecordDone s (fun d =>
      (2 ≤ ps.length → rd d F.PFL_STAT_STATE = 6 ∧ d.sys.flushed = true ∧ rd d F.PWR_DOMSTAT_ON = 0 ∧
        d.med.nand.eaves = s.dev.med.nand.eaves.dropLast ++ [{ x with t1 := s.dev.sys.time, valid := true, recs := ps.map (fun p => ⟨p, eaveRecordCrc { x with t1 := s.dev.sys.time }⟩) }]) ∧
      (ps.length < 2 → d.sys.flushLost = true))

/-- R88, R90, R424: after a flush, one that could not complete among them, with PFAIL# high, every rail good and the crystal in range, the
restart reports its cause and whether the flush was recorded, keeps the time base, GLB_STRAP, the write-once words and the health counters
of the channels (R300), and takes every other register and every header to reset; nothing volatile is left, and step 3 of the power-on sequence has run. Choices of the model in
it: log entry 32. -/
def Obligations.WarmRestartKeeps : Prop :=
  ∀ s, alive s.dev = true → rd s.dev F.PFL_STAT_STATE = 6 ∨ s.dev.sys.flushLost = true → stage s.dev ≠ 0xF → s.dev.sys.pfailLow = false →
    s.dev.sys.rails = allRails → s.dev.sys.xtalBad = false →
    (s.dev.sys.restartCause = 6 → rdS16 s.dev F.THM_HOT_T ≤ rdS16 s.dev F.THM_TRIP_T - 160) →
    Gives .warmRestart s (fun d =>
      rd d F.GLB_RSTCAUSE_CAUSE = s.dev.sys.restartCause % 2 ^ F.GLB_RSTCAUSE_CAUSE.wd ∧ rd d F.GLB_RSTCAUSE_FLUSHED = b2n s.dev.sys.flushed ∧
      rd d F.GLB_RSTCAUSE_RAILS = rd s.dev F.PWR_RAILLOST_LOST ∧ d.sys.time = s.dev.sys.time ∧ d.hub.woTaken = s.dev.hub.woTaken ∧
      actW d 0x140 = actW s.dev 0x140 ∧ actW d 0x160 = actW s.dev 0x160 ∧ actW d 0x6040 = actW s.dev 0x6040 ∧ rd d F.GLB_BOOT_STAGE = 2 ∧ rd d F.PFL_STAT_STATE = 0 ∧
      rd d F.PWR_DOMSTAT_ON = 2 ^ 30 - 1 ∧ d.seats = [] ∧ d.cmds = {} ∧ d.keys = {} ∧ (∀ p, hdrOf d p = hdrDefault p) ∧
      d.med = { nand := mediaCut (cutWrite s.dev) } ∧ d.med.nand.eaves = (cutWrite s.dev).med.nand.eaves ∧ d.log.saved = s.dev.log.saved ∧
      ∀ o, o ∉ [0x140, 0x144, 0x148, 0x160, 0x1054, 0x2044, 0x2050, 0x304C, 0x6040, 0x6048] →
        actW d o = if 0x30 ≤ pageOf o ∧ pageOf o < 0x70 ∧ inPage o ∈ [0x78, 0x7C, 0x80] then actW s.dev o else resetWord o)

/-! ### Temperatures, alarms, random numbers -/

/-- R423 to R425, R437: a sample writes the temperature of each sensor that answers, THM_HOT from the sensors that count (ties to the lower
number), THM_PEAK at the first sample and when it is exceeded, and raises WARN once above THM_WARN until 3 °C below it. Choices of the
model in it: log entry 78. -/
def Obligations.ThermalSampleShown : Prop :=
  ∀ s temps answered mw, s.dev.sys.aon = true → temps.length = 10 → (∀ t ∈ temps, t < 65536) → answered.length = 10 →
    Gives (.thermalSample temps answered mw) s (fun d =>
      (∀ n, n < 10 → rd d (F.THM_TEMP n) = if answered.getD n true then temps.getD n 0 else rd s.dev (F.THM_TEMP n)) ∧
      d.admin.excluded = badSensors temps answered ∧ d.admin.aonPower = min mw 0x1FFFF ∧
      (∀ src t, hottest temps (badSensors temps answered) = some (src, t) →
        rd d F.THM_HOT_SRC = src ∧ rd d F.THM_HOT_T = t ∧
        (s.dev.admin.hotSeen = false ∨ tempOf t > rdS16 s.dev F.THM_PEAK_T → rd d F.THM_PEAK_SRC = src ∧ rd d F.THM_PEAK_T = t) ∧
        (tempOf t > rdS16 s.dev F.THM_WARN_T → d.admin.warnOff = true ∧ (s.dev.admin.warnOff = false → evtSet d 4 8 = true)) ∧
        (tempOf t ≤ rdS16 s.dev F.THM_WARN_T - 48 → d.admin.warnOff = false)) ∧
      ((∃ n ∈ badSensors temps answered, n ∉ s.dev.admin.excluded) → evtSet d 4 10 = true) ∧
      d.med = s.dev.med ∧ d.keys = s.dev.keys ∧ d.seats = s.dev.seats ∧ d.cmds = s.dev.cmds)

/-- R349 to R351: a detector that fires latches its bit and the time and raises ALARM, shows a lasting condition, makes all 64 key slots
LOST and stops the DRBG (while the device serves, by alarmFire); TAMPER# that ALM_TAMPEN disables does nothing; the end of a condition
clears its LIVE bit; the latch bit clears by a written 1 once its condition has ended. Choices of the model in it: log entries 79, 88. -/
def Obligations.AlarmResponse : Prop :=
  (∀ s src, s.dev.sys.aon = true → src ≤ almENTROPY → src = almTAMPER → rdB s.dev F.ALM_TAMPEN_EN = false →
    Gives (.alarm src) s (fun d => d = { s.dev with sys := { s.dev.sys with tamperLow := true } })) ∧
  (∀ s src, s.dev.sys.aon = true → serving s.dev = false → src ≤ almENTROPY → (src = almTAMPER → rdB s.dev F.ALM_TAMPEN_EN = true) →
    Gives (.alarm src) s (fun d => bitOf (rd d F.ALM_LATCH_SRC) src = true ∧ rd64 d 0x6050 = s.dev.sys.time % 2 ^ 64 ∧
      rd d F.ALM_COUNT_COUNT = min (rd s.dev F.ALM_COUNT_COUNT + 1) (2 ^ F.ALM_COUNT_COUNT.wd - 1) ∧ evtSet d 6 8 = true ∧
      (src ≠ almVOLT → src ≠ almCLOCK → bitOf (rd d F.ALM_STAT_LIVE) src = true) ∧ rd d F.TRNG_STAT_SEEDED = 0 ∧
      (∀ n, n < 64 → rd d (F.KEY_STAT_STATE n) = ksLOST ∧ (keySlot d n).mat = 0))) ∧
  (∀ s src, serving s.dev = true → src ≤ almENTROPY → (src = almTAMPER → rdB s.dev F.ALM_TAMPEN_EN = true) →
    Gives (.alarm src) s (fun d => d =
      let d0 : Dev := if src = almTAMPER then { s.dev with sys := { s.dev.sys with tamperLow := true } } else s.dev
      alarmFire (if src = almVOLT ∨ src = almCLOCK then d0 else almLive d0 src true) src)) ∧
  (∀ s, s.dev.sys.aon = true → Gives .tamperDeassert s (fun d => bitOf (rd d F.ALM_STAT_LIVE) almTAMPER = false ∧
    d.sys.tamperLow = false ∧ ChangesOnly [0x6048] [] { s.dev with sys := { s.dev.sys with tamperLow := false } } d)) ∧
  (∀ s, s.dev.sys.aon = true → rdB s.dev F.TRNG_STAT_SEEDED = true → rdB s.dev F.TRNG_STAT_FAIL = true → Gives .entropyStop s (fun d =>
    d = alarmFire (almLive s.dev almENTROPY true) almENTROPY)) ∧
  ∀ s port v, Writes s port 0x604C v → Gives (.almLatchClear port v) s (fun d => ChangesOnly [0x604C] [] s.dev d ∧
    ∀ i, i < 6 → bitOf (rd d F.ALM_LATCH_SRC) i = (bitOf (rd s.dev F.ALM_LATCH_SRC) i && !(bitOf v.toNat i && !bitOf (rd s.dev F.ALM_STAT_LIVE) i)))

/-- R327, R348, R356: the DRBG is seeded once its source passes the start-up tests, and reseeded by the timer; a health failure sets FAIL,
counts and raises HFAIL; each cipher domain that is on draws once at a masking reseed, which seeds its masking generator; a read of TRNG_RAND returns fresh output and
counts a request, or 0 while the DRBG is not seeded. Choices of the model in it: log entry 8. -/
def Obligations.RandomNumbers : Prop :=
  (∀ s, s.dev.sys.aon = true → rdB s.dev F.TRNG_STAT_SEEDED = true →
    Gives (.drbgReseed false) s (fun d => rd d F.TRNG_STAT_FAIL = 1 ∧ evtSet d 0x73 8 = true ∧
      rd d F.TRNG_STAT_HFAILS = min (rd s.dev F.TRNG_STAT_HFAILS + 1) (2 ^ F.TRNG_STAT_HFAILS.wd - 1)) ∧
    (rdB s.dev F.TRNG_STAT_FAIL = false → Gives (.drbgReseed true) s (fun d => d.keys.requests = 0 ∧
      rd64 d 0x73044 = (rd64 s.dev 0x73044 + 1) % 2 ^ 64))) ∧
  (∀ s, alive s.dev = true → s.dev.sys.portsFree = true → rdB s.dev F.TRNG_STAT_SEEDED = false ∨ rdB s.dev F.TRNG_STAT_FAIL = true →
    Gives .drbgSeeded s (fun d =>
    rd d F.TRNG_STAT_SEEDED = 1 ∧ rd d F.TRNG_STAT_FAIL = 0 ∧ bitOf (rd d F.ALM_STAT_LIVE) almENTROPY = false ∧ d.keys.requests = 0 ∧
    rd64 d 0x73044 = (rd64 s.dev 0x73044 + 1) % 2 ^ 64)) ∧
  (∀ s, alive s.dev = true → rdB s.dev F.TRNG_STAT_SEEDED = true → Gives .maskingReseed s (fun d =>
    let on := (List.range 4).filter (fun i => domOn s.dev (18 + i))
    d = on.foldl maskSeed s.dev ∧ d.keys.requests = s.dev.keys.requests + on.length ∧ d.free = s.dev.free + on.length ∧
    (∀ i, i < 4 → domOn s.dev (18 + i) = true → (d.keys.masks.get? (18 + i)).isSome = true) ∧
    ∀ i, domOn s.dev i = false → d.keys.masks.get? i = s.dev.keys.masks.get? i)) ∧
  ∀ s port, HostAt s port → answers s.dev 0x73 = true →
    (rdB s.dev F.TRNG_STAT_SEEDED = true → Gives (.trngRandRead port) s (fun d =>
      d.out = .reg port (Config.drbg s.dev.free) :: s.dev.out ∧ d.free = s.dev.free + 1 ∧ d.keys.requests = s.dev.keys.requests + 1)) ∧
    (rdB s.dev F.TRNG_STAT_SEEDED = false → Gives (.trngRandRead port) s (fun d => d = emit s.dev (.reg port 0)))

/-! ### Power domains and power states -/

/-- R92 to R94: a GO during a power-state transition waits for its end. Else one that has a cause against it (domCause: 8 while one runs,
else 7 for a domain above 29) is refused with the cause in PWR_DOMERR and raises DOMREF; one for the state the domain is in raises
DOMDONE at once, with the host request changed; any other sets BUSY and ends, no power-state entry or exit running, with DOMDONE by
domFinish; a gate whose island came to hold a pending shadow meanwhile ends refused with cause 5 (R58). A group ungated for a read is
gated again when it is quiet and no page of it has pending shadows (R58), the LDPC domain host software gated with the last of its
groups. Choices of the model in it: log entries 34, 35, 145. -/
def Obligations.DomainGating : Prop :=
  (∀ s port dom gate, dom < 32 → let v : Word := BitVec.ofNat 32 (0x10000 + (if gate then 0x100 else 0) + dom)
    Writes s port 0x2040 v → serving s.dev = true →
    let d0 := wrs s.dev [(F.PWR_DOMCMD_OP, b2n gate), (F.PWR_DOMCMD_DOMAIN, dom)]
    let c := domCause d0 port dom gate
    (rdB s.dev F.PWR_DOMCMD_BUSY = true → c = 8) ∧ (rdB s.dev F.PWR_DOMCMD_BUSY = false → dom > 29 → c = 7) ∧
    Gives (if gate then .domainGate port dom else .domainUngate port dom) s (fun d =>
      (inTransition s.dev = true → d = { d0 with sys := { d0.sys with domHeld := d0.sys.domHeld ++ [⟨dom, gate, port⟩] } }) ∧
      (inTransition s.dev = false →
        (c ≠ 0 → rd d F.PWR_DOMERR_CAUSE = c ∧ rd d F.PWR_DOMERR_DOMAIN = dom ∧ rd d F.PWR_DOMERR_VALID = 1 ∧ evtSet d 2 9 = true ∧
          rd d F.PWR_DOMSTAT_ON = rd s.dev F.PWR_DOMSTAT_ON) ∧
        (c = 0 → gate = true → hostOff s.dev dom = true → d = raise d0 2 8 ∧ evtSet d 2 8 = true) ∧
        (c = 0 → gate = true → hostOff s.dev dom = false → domOn s.dev dom = false →
          d = raise (domChanged (setBit d0 F.PWR_DOMHOST_HOST dom true)) 2 8 ∧ evtSet d 2 8 = true) ∧
        (c = 0 → gate = false → domOn s.dev dom = true → d = raise (domChanged (ungateNow d0 dom)) 2 8 ∧ evtSet d 2 8 = true) ∧
        (c = 0 → (gate = true ∧ hostOff s.dev dom = false ∧ domOn s.dev dom = true) ∨ (gate = false ∧ domOn s.dev dom = false) →
          rd d F.PWR_DOMCMD_BUSY = 1 ∧ d.sys.domOp = some ⟨dom, gate, port⟩ ∧ rd d F.PWR_DOMSTAT_ON = rd s.dev F.PWR_DOMSTAT_ON)))) ∧
  (∀ s o, s.dev.sys.domOp = some o → serving s.dev = true → inTransition s.dev = false →
    (o.gate = true → o.dom ≤ 15 → groupQuiet s.dev o.dom = true) →
    ((o.gate = true → domPend s.dev o.dom = false) → Gives .domdone s (fun d => d = domFinish s.dev o ∧ evtSet d 2 8 = true)) ∧
    (o.gate = true → domPend s.dev o.dom = true → o.dom < 32 → Gives .domdone s (fun d => rd d F.PWR_DOMCMD_BUSY = 0 ∧ d.sys.domOp = none ∧
      rd d F.PWR_DOMERR_CAUSE = 5 ∧ rd d F.PWR_DOMERR_DOMAIN = o.dom ∧ rd d F.PWR_DOMERR_VALID = 1 ∧ evtSet d 2 9 = true ∧
      rd d F.PWR_DOMSTAT_ON = rd s.dev F.PWR_DOMSTAT_ON))) ∧
  ∀ s g, serving s.dev = true → s.dev.sys.readOpen.contains g = true → groupQuiet s.dev g = true → domPend s.dev g = false →
    let d1 := powerOff { s.dev with sys := { s.dev.sys with readOpen := ndel g s.dev.sys.readOpen } } g
    Gives (.groupRegateTimer g) s (fun d =>
      (hostOff d1 (22 + g / 4) = true → (∀ i, i < 4 → domOn d1 (4 * (g / 4) + i) = false) → d = powerOff d1 (22 + g / 4)) ∧
      (hostOff d1 (22 + g / 4) = false ∨ (∃ i, i < 4 ∧ domOn d1 (4 * (g / 4) + i) = true) → d = d1))

/-- R417 to R420: the idle timer starts an entry when the state is enabled and the device idle; the entry ends in the state (psAsleep) with
PSENT raised, then the domain commands that waited for it are evaluated; a wake event starts the exit with its cause, and the exit ends in P0
(psAwake) with PSEXIT raised, then the ceiling follows and what waited goes on. -/
def Obligations.PowerStateCycle : Prop :=
  (∀ s n, serving s.dev = true → accepted s.dev = true → rd s.dev F.GLB_STAT_MODE = 5 → psEnabled s.dev n = true →
    rd s.dev F.PWR_PSTAT_STATE < n → inTransition s.dev = false → idleFor s.dev n = true → (n < 3 ∨ linksInL1 s.dev = true) →
    Gives (.idleThreshold n) s (fun d => rd d F.PWR_PSTAT_ENTERING = 1 ∧ d.sys.psTarget = n ∧ rd d F.PWR_PSTAT_STATE = rd s.dev F.PWR_PSTAT_STATE ∧
      ChangesOnly [0x2078] [] { s.dev with sys := { s.dev.sys with psTarget := n } } d)) ∧
  (∀ s, serving s.dev = true → rdB s.dev F.PWR_PSTAT_ENTERING = true → s.dev.sys.psTarget < 4 → let d1 := psAsleep s.dev
    rd d1 F.PWR_PSTAT_STATE = s.dev.sys.psTarget ∧ rd d1 F.PWR_PSTAT_ENTERING = 0 ∧ evtSet d1 2 11 = true ∧
    Gives .psEntryDone s (fun d => (rdB d1 F.PWR_PSTAT_EXITING = true ∨ d1.sys.domHeld = [] → d = d1) ∧
      (rdB d1 F.PWR_PSTAT_EXITING = false → d = domRelease d1))) ∧
  (∀ s port, let v : Word := (actW s.dev 0x2074 &&& 2) ||| 1
    Writes s port 0x2074 v → Gives (.psctlWake port) s (fun d => ChangesOnly [0x2074, 0x2078] [] s.dev d ∧
      (rd s.dev F.PWR_PSTAT_STATE ≠ 0 ∨ rdB s.dev F.PWR_PSTAT_ENTERING = true → rdB s.dev F.PWR_PSTAT_EXITING = false →
        rd d F.PWR_PSTAT_EXITING = 1 ∧ rd d F.PWR_PSTAT_WCAUSE = 3))) ∧
  ∀ s, serving s.dev = true → rdB s.dev F.PWR_PSTAT_EXITING = true → rdB s.dev F.PWR_PSTAT_ENTERING = false →
    let d1 := psAwake s.dev
    rd d1 F.PWR_PSTAT_STATE = 0 ∧ rd d1 F.PWR_PSTAT_EXITING = 0 ∧ evtSet d1 2 12 = true ∧
    Gives .psExitComplete s (fun d => d = releaseHeld (domRelease (admRecompute (if rdB d1 F.GLB_STAT_TRANS then transClear d1 else d1))))

/-! ### Links, functions, seats -/

/-- R117 to R119, R133: a link that trains shows its width, speed and rate with UP and raises LUP; a change of rate, to a width and a speed
that the port has (R116), raises RATECHG, and the seats
stay where the new configuration takes nothing from their functions; an idle link enters L1 and leaves it with a wake event. -/
def Obligations.LinkStateShown : Prop :=
  (∀ s port link cfg, port ≤ 1 → link ≤ 3 → portCanTrain s.dev port = true → linkExists s.dev port link = true → linkUpB s.dev port link = false →
    cfg.width ≤ linkLanes s.dev port → cfg.width ≤ 16 → cfg.speed + bitsOf (linkCfgOf s.dev port) 12 2 ≤ 6 → cfg.mps < 4 → cfg.vfs ≤ 64 →
    Gives (.linkUp port link cfg) s (fun d => linkUpB d port link = true ∧ rd d (F.PRT_LSTAT_WIDTH port link) = cfg.width ∧
      rd d (F.PRT_LSTAT_SPEED port link) = cfg.speed ∧ rd d (F.PRT_RATE_RATE port link) = linkRate cfg % 2 ^ 16 ∧
      evtSet d (prtPage port) 8 = true ∧ d.seats = s.dev.seats)) ∧
  (∀ s port link cfg, linkFits s.dev port cfg = false → Gives (.ratechg port link cfg) s (fun d => d = s.dev)) ∧
  (∀ s port link cfg, alive s.dev = true → port ≤ 1 → link ≤ 3 → linkUpB s.dev port link = true → linkFits s.dev port cfg = true →
    cfg.l0p = false ∨ cfg.partner = true ∨ linkBusy s.dev port link = false → Gives (.ratechg port link cfg) s (fun d =>
    linkUpB d port link = true ∧ rd d (F.PRT_RATE_RATE port link) = linkRate cfg % 2 ^ 16 ∧
    (linkRate cfg % 2 ^ 16 ≠ rd s.dev (F.PRT_RATE_RATE port link) → evtSet d (prtPage port) 10 = true) ∧
    ((∀ f, cfgLoses s.dev port link cfg f = false) → d.seats = s.dev.seats))) ∧
  (∀ s port link, port ≤ 1 → link ≤ 3 → alive s.dev = true → linkUpB s.dev port link = true → s.dev.pci.aspm.contains (4 * port + link) = true →
    (s.dev.seats.any (fun e => e.2.fn / 128 == 4 * port + link && e.2.classD && !e.2.idle)) = false →
    Gives (.linkL1Idle port link) s (fun d => rdB d (F.PRT_LSTAT_L1 port link) = true ∧
      ChangesOnly [(F.PRT_LSTAT_L1 port link).off] [] s.dev d)) ∧
  ∀ s port link, port ≤ 1 → link ≤ 3 → alive s.dev = true → rdB s.dev (F.PRT_LSTAT_L1 port link) = true →
    Gives (.linkL1Exit port link) s (fun d => rdB d (F.PRT_LSTAT_L1 port link) = false ∧
      (rd s.dev F.PWR_PSTAT_STATE ≠ 0 → rdB s.dev F.PWR_PSTAT_EXITING = false → rd d F.PWR_PSTAT_EXITING = 1 ∧ rd d F.PWR_PSTAT_WCAUSE = 2) ∧
      ChangesOnly [(F.PRT_LSTAT_L1 port link).off, 0x2078] [] s.dev d)

/-- R91, R133: after the loss of a link, and after PERST# of a port, no function of it has Bus Master or Memory Space Enable, and PERST#
resets their control pages; a rise of PERST# takes the link configuration; an FLR clears the enables and the control page of the
function, of a PF those of its VFs and its VF count too; clearing Bus Master Enable clears it, and clearing VF Enable resets the VFs.
Choices of the model in it: log entry 36. -/
def Obligations.FunctionsReset : Prop :=
  (∀ s port link, port ≤ 1 → link ≤ 3 → alive s.dev = true → linkUpB s.dev port link = true → Gives (.dlDown port link) s (fun d =>
    d = linkDown s.dev port link ∧ (∀ f, f / 128 = 4 * port + link → bmeOn d f = false ∧ mseOn d f = false))) ∧
  (∀ s port, alive s.dev = true → bitOf (rd s.dev F.PWR_DOMHOST_HOST) (16 + port) = false →
    Gives (.perstAssert port) s (fun d => d = portReset { s.dev with sys := { s.dev.sys with perstLow := nins port s.dev.sys.perstLow } } port ∧
      ∀ f, f / 512 = port → bmeOn d f = false ∧ mseOn d f = false ∧ ctlOf d f = {}) ∧
    Gives (.perstDeassert port) s (fun d => d.sys.perstLow = ndel port s.dev.sys.perstLow ∧ (∀ o, actW d o = actW s.dev o) ∧
      (if port = 0 then d.pci.cfgA else d.pci.cfgB) = actW s.dev (0x10040 + 0x1000 * port))) ∧
  (∀ s fn, alive s.dev = true → linkUpB s.dev (fnPort fn) (fnLink fn) = true → Gives (.flr fn) s (fun d =>
    bmeOn d fn = false ∧ mseOn d fn = false ∧ ctlOf d fn = {} ∧
    (fnVf fn = 0 → rd d (F.PRT_LSTAT_VFS (fnPort fn) (fnLink fn)) = 0 ∧ ∀ f, f / 128 = fn / 128 → ctlOf d f = {}))) ∧
  ∀ s fn, alive s.dev = true → linkUpB s.dev (fnPort fn) (fnLink fn) = true →
    Gives (.busMasterDisable fn false) s (fun d => bmeOn d fn = false) ∧
    (fnVf fn = 0 → Gives (.busMasterDisable fn true) s (fun d => rd d (F.PRT_LSTAT_VFS (fnPort fn) (fnLink fn)) = 0 ∧
      ∀ f, f / 128 = fn / 128 → f ≠ fn → bmeOn d f = false ∧ mseOn d f = false))

/-- R12, R121, R122, R132, R457: with BAR decode disabled a read of a BAR that exists ends as Unsupported Request and a write is reported by
AER; a TLP with a PASID ends as both; an access to no BAR2 register reads 0 and is logged; an unmasked vector sends the message that
waited for it, once its function may send messages. Choices of the model in it: log entries 54, 56. -/
def Obligations.PciAnswers : Prop :=
  (∀ s fn bar, alive s.dev = true → linkUpB s.dev (fnPort fn) (fnLink fn) = true → mseOn s.dev fn = false → barExists fn bar = true →
    Gives (.barDecodeDisabled fn bar false) s (fun d => d = emit s.dev (.ur fn)) ∧
    Gives (.barDecodeDisabled fn bar true) s (fun d => d = raise (emit s.dev (.aer fn)) (prtPage (fnPort fn)) 11)) ∧
  (∀ s fn, alive s.dev = true → linkUpB s.dev (fnPort fn) (fnLink fn) = true → Gives (.pasidTlp fn) s (fun d =>
    d.out = .aer fn :: .ur fn :: s.dev.out ∧ evtSet d (prtPage (fnPort fn)) 11 = true ∧ RaisesOn (prtPage (fnPort fn)) { s.dev with out := d.out } d)) ∧
  (∀ s fn off, barOk s.dev fn = true →
    Gives (.bar2InvalidAccess fn off false) s (fun d => d.out = .bar2 fn 0 :: s.dev.out ∧ d.pci.bar2Log = (fn, off) :: s.dev.pci.bar2Log ∧
      ∀ o, actW d o = actW s.dev o) ∧
    Gives (.bar2InvalidAccess fn off true) s (fun d => d.out = s.dev.out ∧ d.pci.bar2Log = (fn, off) :: s.dev.pci.bar2Log ∧
      ∀ o, o ≠ 0x2078 → actW d o = actW s.dev o)) ∧
  ∀ s fn vec, barOk s.dev fn = true → vec < 2048 → Gives (.msixVectorUnmask fn vec) s (fun d =>
    d.pci.vecOn.contains (2048 * fn + vec) = true ∧
    (s.dev.pci.pba.contains (2048 * fn + vec) = true → msixLive s.dev fn = true → s.dev.pci.msixFm.contains fn = false →
      Output.msix fn vec ∈ d.out ∧ d.pci.pba.contains (2048 * fn + vec) = false) ∧
    (s.dev.pci.pba.contains (2048 * fn + vec) = true → msixLive s.dev fn = false ∨ s.dev.pci.msixFm.contains fn = true →
      d.pci.pba.contains (2048 * fn + vec) = true) ∧
    (s.dev.pci.pba = [] → d.out = s.dev.out))

/-- R122 to R124: a SEAT_REQ with GO that passes every check attaches a seat with the class, idle bit, vector and ring bases asked for, at
the lowest free window and seat number, and raises ATT; one that fails a check attaches nothing and reports the first failing check.
Choices of the model in it: log entries 109, 114. -/
def Obligations.SeatAttaches : Prop :=
  ∀ s fn v, barOk s.dev fn = true → serving s.dev = true → v &&& ~~~ seatReqMask = 0 → bitOf v.toNat 31 = true →
    (seatReqStatus s.dev fn v.toNat = 0 → Gives (.seatReq fn v) s (fun d =>
      let c := ctlOf d fn
      c.rspDone = true ∧ c.rspStatus = 0 ∧ evtSet d 0x12 8 = true ∧ c.rspWin = lowest 0 32 (fun k => (seatAt? s.dev fn k).isNone) ∧
      c.rspSeat = (if bitOf v.toNat 18 then (if fnPort fn = 0 then 0 else 1) else lowest 2 512 (fun n => (seatOf? s.dev n).isNone)) ∧
      seatOf? d c.rspSeat = some
        { fn := fn, win := c.rspWin, classD := bitOf v.toNat 17, idle := bitOf v.toNat 16, vec := bitsOf v.toNat 0 11,
          sqb := (ctlOf s.dev fn).sqb, cqb := (ctlOf s.dev fn).cqb } ∧
      ∀ n, n ≠ c.rspSeat → seatOf? d n = seatOf? s.dev n)) ∧
    (seatReqStatus s.dev fn v.toNat ≠ 0 → Gives (.seatReq fn v) s (fun d =>
      (ctlOf d fn).rspDone = true ∧ (ctlOf d fn).rspStatus = seatReqStatus s.dev fn v.toNat ∧ d.seats = s.dev.seats ∧
      ∀ o, o ≠ 0x2078 → actW d o = actW s.dev o))

/-- R131, R133, R135: a release is seatRelWrite, of no attached window STATUS 1, and its completion frees the seat, answers STATUS 0 and
raises DET; a forced detach of an attached seat starts its reap, of no seat, of a management seat or of one being reaped raises KREF;
the end of a reap is reapDone, with REAP raised, but not before the zeroing of a READ in release (R165). R127, R130: a write of SEAT_CTL
with RESET is seatCtlWrite; with no command of the seat under way it starts the reset of the seat with its tail captured; the end of the
reset is seen once every affected entry has ended. Choices of the model in it: log entries 47, 113. -/
def Obligations.SeatDetachesAndResets : Prop :=
  ((∀ s fn v, barOk s.dev fn = true → serving s.dev = true → v &&& ~~~ seatRelMask = 0 → Gives (.seatRel fn v) s (fun d =>
    d = wake (seatRelWrite s.dev fn v.toNat) 1 ∧
    (bitOf v.toNat 31 = true → (ctlOf s.dev fn).relDone = true → seatAt? s.dev fn (bitsOf v.toNat 0 5) = none →
      (ctlOf d fn).relDone = true ∧ (ctlOf d fn).relStatus = 1 ∧ d.seats = s.dev.seats))) ∧
  (∀ s seat v, seatOf? s.dev seat = some v → serving s.dev = true → v.releasing = true → v.resetting = false →
    v.reapAt = none → seatQuiet s.dev seat = true → Gives (.seatReleaseComplete seat) s (fun d => evtSet d 0x12 9 = true ∧
      (ctlOf d v.fn).relDone = true ∧ (ctlOf d v.fn).relStatus = 0 ∧ seatOf? d seat = none)) ∧
  (∀ s port v r, Writes s port 0x12090 v → bitOf v.toNat 31 = true → regRow? 0x12090 = some r →
    let n := v.toNat % 512
    let g := storeWord s.dev 0x12090 r v
    ((∀ x, seatOf? s.dev n = some x → n ≤ 1 ∨ x.reapAt.isSome = true) → Gives (.seatKick port v) s (fun d =>
      d = raise g 0x12 12 ∧ evtSet d 0x12 12 = true ∧ d.seats = s.dev.seats)) ∧
    (∀ x, 2 ≤ n → seatOf? s.dev n = some x → x.reapAt = none → Gives (.seatKick port v) s (fun d => d = reapSeat g n true ∧
      ∃ y, seatOf? d n = some y ∧ y.reapAt = some s.dev.sys.time ∧ y.kicked = true))) ∧
  ∀ s seat v, seatOf? s.dev seat = some v → serving s.dev = true → v.reapAt.isSome = true → Gives (.reapComplete seat) s (fun d =>
    (reapHolds s.dev seat v = false → d = reapDone s.dev seat v ∧ evtSet d 0x12 10 = true) ∧ (reapHolds s.dev seat v = true → d = s.dev))) ∧
  (∀ s fn win v sn x, barOk s.dev fn = true → serving s.dev = true → seatAt? s.dev fn win = some sn → seatOf? s.dev sn = some x →
    v &&& ~~~ seatCtlMask = 0 → bitOf v.toNat 0 = true →
    Gives (.seatReset fn win v) s (fun d => d = wake (seatCtlWrite s.dev sn v.toNat) 1 ∧
      (x.resetting = false → s.dev.cmds.list.filter (fun c => c.seat == sn && !c.orphan) = [] →
        seatOf? d sn = some { x with
          resetting := true, resetTail := some x.sqt, sqerr := false, badPhase := 0, resetLater := s.dev.cmds.activating,
          ien := bitOf v.toNat 8, unsig := if bitOf v.toNat 8 == x.ien then x.unsig else 0 } ∧
        ∀ n, n ≠ sn → seatOf? d n = seatOf? s.dev n))) ∧
  ∀ s seat v, seatOf? s.dev seat = some v → serving s.dev = true → v.resetting = true → v.resetLater = false → v.resetTail = some v.sqh →
    seatQuiet s.dev seat = true → Gives (.seatResetComplete seat) s (fun d =>
      d = setSeat s.dev seat { v with resetting := false, resetTail := none })

/-- R115, R127, R128: the doorbells store the tail and the head of the rings, a freed slot of a ring that can be written takes the next held
completion; the completion timer
signals the completions that wait for it. -/
def Obligations.DoorbellsStored : Prop :=
  (∀ s fn win tail sn v, barOk s.dev fn = true → seatAt? s.dev fn win = some sn → seatOf? s.dev sn = some v →
    Gives (.seatSqtDoorbell fn win tail) s (fun d => seatOf? d sn = some { v with sqt := tail % 32 } ∧
      (∀ n, n ≠ sn → seatOf? d n = seatOf? s.dev n) ∧ ∀ o, o ≠ 0x2078 → actW d o = actW s.dev o)) ∧
  (∀ s fn win head sn v, barOk s.dev fn = true → seatAt? s.dev fn win = some sn → seatOf? s.dev sn = some v → v.waiting = [] →
    Gives (.seatCqhDoorbell fn win head) s (fun d => seatOf? d sn = some { v with cqh := head % 32 } ∧
      (∀ n, n ≠ sn → seatOf? d n = seatOf? s.dev n) ∧ ∀ o, o ≠ 0x2078 → actW d o = actW s.dev o)) ∧
  (∀ s fn win head sn v q rest, barOk s.dev fn = true → serving s.dev = true → seatAt? s.dev fn win = some sn → seatOf? s.dev sn = some v →
    v.waiting = q :: rest → (v.cqt + 1) % 32 ≠ head % 32 → ringReachable s.dev v = true →
    Gives (.seatCqhDoorbell fn win head) s (fun d => Output.cqe sn v.cqt (cqAddr v) (cqeWords v q).1 (cqeWords v q).2.1 (cqeWords v q).2.2.1
      (cqeWords v q).2.2.2 ∈ d.out)) ∧
  ∀ s seat v, seatOf? s.dev seat = some v → serving s.dev = true → v.ien = true → v.unsig ≠ 0 → bitsOf v.cqint 0 8 ≠ 0 →
    Gives (.seatCqintTimer seat) s (fun d => d = setSeat (sendMsix s.dev v.fn v.vec) seat { v with unsig := 0 })

/-! ### Fetching and completing commands -/

/-- R125, R126: a fetch reads the entry at the head, at the ring's base plus 64 bytes an entry; with the seat's phase it advances the head;
a wrong phase is counted and the fourth stops the seat with SQERR; a failed fetch leaves the head and stops the seat. Choices of the
model in it: log entries 43, 52, 111. -/
def Obligations.EntryFetch : Prop :=
  (∀ s seat v entry segs, seatOf? s.dev seat = some v → mayFetch s.dev v = true →
    let c : Instr := if v.badPhase = 0 then .entryFetched seat entry segs else .entryRefetch seat entry segs
    let d0 := emit s.dev (.fetch v.fn (sqAddr v))
    (bitOf (entry.getD 0 0).toNat 31 = v.sqPhase → Gives c s (fun d =>
      let s1 := { v with sqh := (v.sqh + 1) % 32, sqPhase := (if v.sqh == 31 then !v.sqPhase else v.sqPhase), badPhase := 0 }
      d = queueEntry (setSeat d0 seat s1) seat s1 entry segs)) ∧
    (bitOf (entry.getD 0 0).toNat 31 ≠ v.sqPhase → v.badPhase < 3 → Gives c s (fun d =>
      d = setSeat d0 seat { v with badPhase := (v.badPhase + 1) })) ∧
    (bitOf (entry.getD 0 0).toNat 31 ≠ v.sqPhase → 3 ≤ v.badPhase → Gives c s (fun d => evtSet d 0x12 11 = true ∧
      seatOf? d seat = some { v with badPhase := 0, sqerr := true } ∧ d.cmds = s.dev.cmds))) ∧
  ∀ s seat v, seatOf? s.dev seat = some v → mayFetch s.dev v = true → Gives (.entryFetchFailed seat) s (fun d =>
    evtSet d 0x12 11 = true ∧ seatOf? d seat = some { v with sqerr := true, badPhase := 0 } ∧ d.cmds = s.dev.cmds)

/-- R138, R144, R155: the checks run in order, and the first that fails completes the command with its status: a tag in use, by a command or
by a completion that waits for the ring (R126), a gate that is not ACCEPTED (of a command other than FW_LOAD and LOG_READ), an opcode
the seat may not use, a field, a volume, a range. A command of length 0 that passes them succeeds at once. Choices of the model in it:
log entries 43, 44, 119. -/
def Obligations.ChecksInOrder : Prop :=
  ∀ d seq c, cmdOf? d seq = some c → let cls := ((seatOf? d c.seat).map Seat.classD).getD false
    let used := (d.cmds.list.filter (fun x => x.seq < seq)).any (fun x => x.seat == c.seat && x.tag == c.tag && !x.orphan)
      || tagWaits d c.seat c.tag
    (used = true → judge d seq = complete d c stINVFLD 0) ∧
    (used = false → accepted d = false → cOpc c ≠ opFWLOAD → cOpc c ≠ opLOG →
      judge d seq = complete d c stMODE 0) ∧
    (used = false → accepted d = true → opcodeOk cls c.seat (cOpc c) = false →
      judge d seq = complete d c stINVOPC 0) ∧
    (used = false → accepted d = true → opcodeOk cls c.seat (cOpc c) = true →
      (∀ r, check4 d cls c = some r → judge d seq = complete d c stINVFLD r) ∧
      (check4 d cls c = none → usesVol (cOpc c) = true → volEntry? d (cVol c) = none → judge d seq = complete d c stINVFLD 2) ∧
      (check4 d cls c = none → (usesVol (cOpc c) = false ∨ (volEntry? d (cVol c)).isSome = true) → usesRange (cOpc c) = true →
        cLba c + cLen c > volBlocks d (cVol c) → judge d seq = complete d c stLBA 0) ∧
      (check4 d cls c = none → (usesVol (cOpc c) = false ∨ (volEntry? d (cVol c)).isSome = true) →
        (usesRange (cOpc c) = true → cLba c + cLen c ≤ volBlocks d (cVol c)) → usesLen (cOpc c) = true → cLen c = 0 → judge d seq = succeed d c))

/-- R125, R128, R140: a completion with a free slot of a ring that can be written is one entry of the ring, at the tail, with the tag, the status, the
flags, the head, the phase, the time and the result; the tail advances and the command is gone. With the ring full or out of reach it waits. -/
def Obligations.CompletionEntryWritten : Prop :=
  ∀ d c v status result courses pb, c.orphan = false → seatOf? d c.seat = some v → v.waiting = [] →
    let d' := completeOne d c status result courses pb
    let demoted := cSv c && rdB d (F.STRM_STAT_DEMOTED (cSid c)) && rdB d (F.STRM_STAT_OPEN (cSid c))
    let q : Cqe := ⟨cOpc c, c.tag, status, b2n c.outside + 2 * b2n demoted + 4 * b2n c.exitDelayed + 8 * b2n pb, courses, now32 d, result⟩
    (∀ x ∈ d'.cmds.list, x.seq ≠ c.seq) ∧ (∀ x ∈ d.cmds.list, x.seq ≠ c.seq → x ∈ d'.cmds.list) ∧
    (cqFull v = false → ringReachable d v = true →
      (∃ y, seatOf? d' c.seat = some y ∧ y.cqt = (v.cqt + 1) % 32 ∧ y.waiting = [] ∧ y.sqh = v.sqh ∧ y.cqh = v.cqh) ∧
      Output.cqe c.seat v.cqt (cqAddr v) (cqeWords v q).1 (cqeWords v q).2.1 (cqeWords v q).2.2.1 (cqeWords v q).2.2.2 ∈ d'.out) ∧
    (cqFull v = true ∨ ringReachable d v = false → seatOf? d' c.seat = some { v with waiting := [q] } ∧ d'.out = d.out)

/-! ### Configuration gate, RECOVER -/

/-- R95, R99 to R103, R107: COMMIT with the device not ready, or while CHECKING or ACCEPTED, is ignored with its ICAUSE; else it is
gateCommit: it takes the snapshot of the voted fields, the gate is CHECKING, and nothing else changes unless a declared channel group is
gated. The checks compare the checksum first; a fault leaves the gate HELD with its code and offset, and none applies the image:
ACCEPTED, RECOVER, TRAIN. REOPEN with a reason against it is ignored with that cause; else commands are held and the drain starts, and
the end of the drain leaves the gate STAGED with no shadow pending. Choices of the model in it: log entries 29, 110. -/
def Obligations.ConfigurationGate : Prop :=
  (∀ s port, Writes s port 0x1040 1 →
    (∀ k, (stageReady s.dev = false ∧ k = 1 ∨ stageReady s.dev = true ∧ rd s.dev F.CFG_GATE_STATE ∈ [2, 4] ∧ k = 2) →
      Gives (.cfgCommit port) s (fun d => rd d F.CFG_GATE_ICAUSE = k ∧ evtSet d 1 10 = true ∧
        ChangesOnly (0x1040 :: logWords) [1, 0x7E] s.dev d ∧ rd d F.CFG_GATE_STATE = rd s.dev F.CFG_GATE_STATE)) ∧
    (stageReady s.dev = true → rd s.dev F.CFG_GATE_STATE ∉ [2, 4] → let v := voteAll s.dev
      Gives (.cfgCommit port) s (fun d => d = gateCommit s.dev ∧ rd d F.CFG_GATE_STATE = 2 ∧ d.hub.snapShd = v.hub.shd ∧
        d.hub.snapSum = actW v 0x1044 ∧
        ((∀ k, k < 16 → groupDeclared v k = false) → ∀ o, o ≠ 0x1040 → actW d o = actW v o)))) ∧
  (∀ s, serving s.dev = true → rd s.dev F.CFG_GATE_STATE = 2 → let v := atSnapshot s.dev
    let d1 := wr s.dev F.CFG_CALC_CRC (imageCrc v)
    (imageCrc v ≠ s.dev.hub.snapSum.toNat → Gives .imageCheckComplete s (fun d => rd d F.CFG_REASON_CODE = 1 ∧ rd d F.CFG_WHERE_VALID = 1 ∧
      rd d F.CFG_WHERE_OFFSET = 0x1044 ∧ rd d F.CFG_GATE_STATE = 3 ∧ evtSet d 1 9 = true ∧
      rd d F.CFG_REASON_COUNT = min (rd s.dev F.CFG_REASON_COUNT + 1) 255 ∧
      ChangesOnly ([0x1040, 0x1048, 0x104C, 0x1050] ++ logWords) [1, 0x7E] s.dev d)) ∧
    (imageCrc v = s.dev.hub.snapSum.toNat →
      (∀ p whr cause, imagePageFault v = some (p, whr, cause) → Gives .imageCheckComplete s (fun d =>
        d = gateHeld (refusePage d1 p whr cause) 0x0A (0x1000 * p + whr) ∧ rd d F.CFG_GATE_STATE = 3 ∧ rd d F.CFG_REASON_CODE = 0x0A)) ∧
      (imagePageFault v = none → let a := allPages.foldl applyPage v
        let d2 := energyRegs d1 (energyDeclared a)
        (∀ code off, imageFault a = some (code, off) →
          Gives .imageCheckComplete s (fun d => d = gateHeld d2 code off ∧ rd d F.CFG_GATE_STATE = 3 ∧ rd d F.CFG_REASON_CODE = code % 256 ∧
            rd d F.CFG_WHERE_OFFSET = off % 2 ^ 20)) ∧
        (imageFault a = none → let d3 := acceptGate d2
          rd d3 F.CFG_GATE_STATE = 4 ∧ rd d3 F.GLB_STAT_MODE = 0 ∧ rd d3 F.GLB_STAT_RSTAGE = 1 ∧ rd d3 F.GLB_STAT_RECOVERED = 0 ∧
          rd d3 F.CFG_ACCT_T = now32 s.dev ∧ evtSet d3 1 8 = true ∧
          Gives .imageCheckComplete s (fun d => d = startRecover (acceptEffects d3)))))) ∧
  (∀ s port, Writes s port 0x1040 2 →
    (reopenCause s.dev ≠ 0 → Gives (.cfgReopen port) s (fun d => rd d F.CFG_GATE_ICAUSE = reopenCause s.dev ∧ evtSet d 1 10 = true ∧
      ChangesOnly (0x1040 :: logWords) [1, 0x7E] s.dev d)) ∧
    (reopenCause s.dev = 0 → s.dev.cmds.reopening = false → Gives (.cfgReopen port) s (fun d =>
      d = reopenDrain { s.dev with cmds := { s.dev.cmds with reopening := true } } ∧ d.cmds.reopening = true ∧
      ∀ c ∈ d.cmds.list, isStarted c = false → c.stage = .held)) ∧
    (reopenCause s.dev = 0 → s.dev.cmds.reopening = true → Gives (.cfgReopen port) s (fun d => d = s.dev))) ∧
  ∀ s, serving s.dev = true → s.dev.cmds.reopening = true → reopenDrained s.dev = true → let d1 := gateStaged s.dev
    rd d1 F.CFG_GATE_STATE = 1 ∧ rd d1 F.GLB_STAT_MODE = 0xF ∧ rd d1 F.GLB_STAT_RECOVERED = 0 ∧ rd d1 F.GLB_STAT_RSTAGE = 0 ∧
    d1.cmds.reopening = false ∧ (∀ p ∈ allPages, (hdrOf d1 p).pend = false) ∧ Gives .reopenComplete s (fun d => d = releaseHeld d1)

/-- R104, R105, R232, R255, R256, R413, R431: the stages of RECOVER follow one another: TRAIN, VERIFY, REPLAY, SCAN, FOLD, MIGRATE, each
from the time the one before ended; a media check that fails leaves the gate HELD; REPLAY rebuilds the map from the chunks of the chain
that read and from the sets, and restarts SEQ and WSEQ above what it finds; SCAN adds the changes of the pages it finds, in SEQ order;
FOLD waits while no batten can be opened, and leaves the battens of the LUNs and channels out of use to relocation; each migration step
writes its progress record, the last stamps the media with the format of the running firmware; with nothing
to resume RECOVERED is set. Choices of the model in it: log entries 69, 70, 124, 125, 126, 144. -/
def Obligations.RecoverStagesFollow : Prop :=
  (∀ d n, n < 8 → rd (toStage d n) F.GLB_STAT_RSTAGE = n ∧ (toStage d n).med.t0 = d.sys.time ∧ ChangesOnly [0x84] [] { d with med := { d.med with t0 := d.sys.time } } (toStage d n)) ∧
  (∀ s results, inStage s.dev 1 = true → trainReady s.dev results = true →
    Gives (.trainStageDone results) s (fun d => d = lunsChanged (toStage (trainAll s.dev results) 2))) ∧
  (∀ s media, inStage s.dev 2 = true → catchQuiet s.dev = true →
    (∀ code off, mediaFault s.dev media = some (code, off) → Gives (.verifyDone media) s (fun d =>
      d = mediaFail s.dev code off ∧ rd d F.GLB_STAT_MODE = 0xF ∧ rd d F.GLB_STAT_RSTAGE = 0 ∧ rd d F.CFG_GATE_STATE = 3 ∧
      rd d F.CFG_REASON_CODE = code % 256)) ∧
    (mediaFault s.dev media = none → Gives (.verifyDone media) s (fun d =>
      d = releaseHeld (toStage (lunsChanged (verified s.dev media)) 3)))) ∧
  (∀ s bad, inStage s.dev 3 = true → let l := goodChain s.dev bad
    let n := { s.dev.med.nand with chunks := l, chunk := ((l.getLast?).map Chunk.num).getD 0, cmark := (l.map Chunk.cmark).foldl max 0 }
    let jm := replayChunks (modNand s.dev (fun _ => n)) l
    Gives (.replayDone bad) s (fun d => rd d F.GLB_STAT_RSTAGE = 4 ∧ rd d F.JNL_REPLAYT_US = stageUs s.dev % 2 ^ 32 ∧
      d.med.nand = n ∧ d.med.jmap = jm ∧ d.med.m = (metaDeltas n).foldl applyDelta jm ∧ d.med.jrecent = l.flatMap Chunk.deltas ∧
      rd64 d F.MAP_SEQ = ((replaySeqs n).foldl max (rd64 s.dev F.MAP_SEQ - 1) + 1) % 2 ^ 64 ∧
      rd64 d F.MAP_WSEQ = ((replayWseqs n).foldl max (rd64 s.dev F.MAP_WSEQ - 1) + 1) % 2 ^ 64 ∧
      rd64 d 0x21048 = n.chunk % 2 ^ 64 ∧ rd64 d 0x21050 = n.cmark % 2 ^ 64 ∧
      ∀ o, o ∉ [0x84, 0x20078, 0x2007C, 0x20080, 0x20084, 0x21048, 0x2104C, 0x21050, 0x21054, 0x21064] → actW d o = actW s.dev o)) ∧
  (∀ s bad, inStage s.dev 4 = true → let d0 := { s.dev with med := { s.dev.med with scanBad := bad } }
    let xs := candDeltas (knownOf d0) s.dev.med.nand.cmark (scanPieces d0)
    Gives (.scanDone bad) s (fun d => rd d F.GLB_STAT_RSTAGE = 5 ∧ rd d F.JNL_SCANPG_COUNT = scanCount d0 % 2 ^ 32 ∧
      rd d F.JNL_SCANT_US = stageUs s.dev % 2 ^ 32 ∧ (bad ≠ [] → evtSet d 0x20 11 = true) ∧ (bad = [] → d.hub.hdr = s.dev.hub.hdr) ∧
      d.med.m = xs.foldl applyDelta s.dev.med.m ∧ d.med.deltas = xs ∧ d.med.nand.flash = s.dev.med.nand.flash ∧
      ∀ b ∈ d.med.window, (batOf d b).st = .window)) ∧
  (∀ s bad failed, inStage s.dev 5 = true →
    (foldAll s.dev bad failed = none → Gives (.foldDone bad failed) s (fun d => d = s.dev)) ∧
    ∀ d1, foldAll s.dev bad failed = some d1 → Gives (.foldDone bad failed) s (fun d =>
      d = enterMigrate (restVictims (startCounters
        { d1 with med := { d1.med with t0 := s.dev.sys.time, ptlStart := s.dev.sys.time - s.dev.med.ptlSpent } })) ∧
      (rdB d1 F.FWU_STATE_MIGPEND = true → rd d F.GLB_STAT_RSTAGE = 6) ∧
      (rdB d1 F.FWU_STATE_MIGPEND = false → resumeOp? d1 = none → d1.hub.safeMode = false →
        rd d F.GLB_STAT_RECOVERED = 1 ∧ rd d F.GLB_STAT_RSTAGE = 0 ∧ evtSet d 0 9 = true))) ∧
  ∀ s permille, inStage s.dev 6 = true → let target := (bankHdr s.dev (rd s.dev F.FWA_BANK_EXEC)).fver
    let p : Progress := { op := 4, step := (s.dev.med.nand.mig.map Progress.step).getD 0 + 1, permille := min permille 1000, action := target }
    let d0 := sysPut (modNand s.dev (fun n => { n with mig := some p })) [recKey 7 4]
    Gives (.migrateStepDone permille false) s (fun d => rd d F.FWU_MIGPROG_PERMILLE = min permille 1000 ∧ d.med.nand.mig = some p ∧
      ChangesOnly [0xD06C] [] d0 d) ∧
    Gives (.migrateStepDone permille true) s (fun d =>
      let d2 := raise (wrs (sysPut (modNand s.dev (fun n => { n with fver := target, mig := none })) [recKey 1 0, recKey 7 4])
        [(F.FWU_MFVER_FVER, target), (F.FWU_STATE_MIGPEND, 0), (F.FWU_MIGPROG_PERMILLE, 1000)]) 0xD 13
      d = enterResume d2 ∧ d2.med.nand.fver = target ∧ rd d2 F.FWU_STATE_MIGPEND = 0 ∧ rd d2 F.FWU_MIGPROG_PERMILLE = 1000 ∧ evtSet d2 0xD 13 = true)

/-! ### Data commands -/

/-- R26, R27, R146, R149, R150, R221: WRITE, WRITE_FILL and GATHER_WRITE take a transaction number and issue the first pull, for which ring
space is reserved; without room the transfer pauses with PAUSE raised, without patch space with PFULL. When it is the command's turn on
its link, data that arrives whole is staged and the next pull is issued, and a failed pull ends the write with BUS_ERROR and its cause. A
portion is sealed when it is its turn at the cores, and the write goes on; a paused command goes on when it is resumed, one not yet
started not while the device activates, reopens or reaps its seat (R133, R165). Choices of the model in it: log entries 45, 117, 118. -/
def Obligations.WritesRun : Prop :=
  (∀ s seat tag row opc c, (row, opc) ∈ [(Instr.write seat tag, opWRITE), (.writeFill seat tag, opFILL), (.gatherWrite seat tag, opGATHER)] →
    readyCmd? s.dev seat tag opc = some c → Gives row s (fun d => d = startWrite s.dev c ∧
      d.med.nextTx = (s.dev.med.nextTx + 1) % 2 ^ 32 ∧ d.med.ring = s.dev.med.ring ∧ d.med.nand = s.dev.med.nand)) ∧
  (∀ d seq c, cmdOf? d seq = some c → c.seq = seq → c.prog.issued ≤ c.prog.pulled → (cOpc c = opFILL → c.prog.issued ≤ c.prog.done) →
    (cLen c > 256 → c.ending = none) → c.prog.issued < cPortions c → c.orphan = false →
    ((seatOf? d c.seat).bind Seat.reapAt).isSome = false → (c.prog.issued = 0 → d.cmds.activating = false ∧ d.cmds.reopening = false) →
    (patchWait d c c.prog.issued = true → (∃ x, cmdOf? (issueNext d seq) seq = some x ∧ x.stage = .paused ∧ x.prog = c.prog) ∧
      rd (issueNext d seq) F.MAP_STAT_PFULL = 1 ∧ (rd d F.MAP_STAT_PFULL = 0 → evtSet (issueNext d seq) 0x20 8 = true)) ∧
    (patchWait d c c.prog.issued = false → roomFor d c (portBytes c c.prog.issued) = true → ∃ x, cmdOf? (issueNext d seq) seq = some x ∧ x.stage = .run ∧
      x.prog.issued = c.prog.issued + 1 ∧ (cOpc c = opFILL → x.prog.pulled = c.prog.issued + 1)) ∧
    (patchWait d c c.prog.issued = false → roomFor d c (portBytes c c.prog.issued) = false → (∃ x, cmdOf? (issueNext d seq) seq = some x ∧ x.stage = .paused ∧ x.prog = c.prog) ∧
      (c.stage ≠ .paused → evtSet (issueNext d seq) 0x1F 9 = true ∧ rd (issueNext d seq) F.BUF_STAT_PAUSE = 1))) ∧
  (∀ s seat tag c, runCmd? s.dev seat tag (fun c => (isDataWrite c && !(cOpc c == opFILL)) || cOpc c == opVERIFY) = some c →
    isDataWrite c = true → dataPull c = true → pullTurn s.dev c = true → let d0 := pullServed s.dev c
    (∀ data, data.length = portLen (cLba c) (cLen c) c.prog.pulled →
      Gives (.dataPullComplete seat tag (.ok data true)) s (fun d => d = afterWork (issueNext (modCmd d0 c.seq
        (fun x => { x with prog := { x.prog with pulled := x.prog.pulled + 1, data := x.prog.data ++ data } })) c.seq)) ∧
      Gives (.dataPullComplete seat tag (.ok data false)) s (fun d => d = afterWork (endWriteAt (logCourse d0 c stBUS) c.seq stBUS 5))) ∧
    ∀ cause, 1 ≤ cause → cause ≤ 4 → Gives (.dataPullComplete seat tag (.fail cause)) s (fun d => d = afterWork (endWriteAt d0 c.seq stBUS cause))) ∧
  (∀ s seat tag c, let v := voteAll s.dev
    let n := portionInv v c c.prog.done
    runCmd? v seat tag isWriteKind = some c → cOpc c ≠ opDISCARD → sealReady v c = true →
    (contractWrite v c = true → clockHeld v 2 = false → Gives (.sealComplete seat tag) s (fun d =>
      d = afterWork (coreServed (writeNext (sealPortion v c) c.seq)))) ∧
    (contractWrite v c = false → coreTurn v 0 n = true → Gives (.sealComplete seat tag) s (fun d =>
      d = afterWork (coreServed (writeNext (sealPortion (coreTake v 0 n) c) c.seq))))) ∧
  ∀ s seat tag c, runCmd? s.dev seat tag (fun c => c.stage == .paused) = some c →
    (isStarted c = true ∨ (s.dev.cmds.activating = false ∧ s.dev.cmds.reopening = false ∧ seatReaps s.dev c = false) →
      Gives (.transferResume seat tag) s (fun d =>
        (cOpc c ≠ opDISCARD → d = flushChunk (afterWork (issueNext s.dev c.seq))) ∧
        (cOpc c = opDISCARD → d = flushChunk (afterWork (discardGo s.dev c))))) ∧
    (isStarted c = false → s.dev.cmds.activating = true ∨ s.dev.cmds.reopening = true ∨ seatReaps s.dev c = true →
      Gives (.transferResume seat tag) s (fun d => d = s.dev))

/-- R31, R147, R148, R329, R343, R344: READ and VERIFY take their portions in order: an unmapped portion of a READ is released as zeros, a
mapped one is read from flash; after the last the command succeeds. Data pulled for a VERIFY is staged and the portion is read. The
decrypted portion is released where every tag check passes; where one fails the failure is counted and logged and AUTHF raised, and the
command completes with AUTH_FAIL, a READ that did not hold its data after the zeroing is read back; zeroing that fails is counted, and
its event carries the host address range. Choices of the model in it: log entries 49, 50, 55, 118. -/
def Obligations.ReadsRun : Prop :=
  (∀ s seat tag row opc c, (row, opc) ∈ [(Instr.read seat tag, opREAD), (.verify seat tag, opVERIFY)] →
    readyCmd? s.dev seat tag opc = some c → Gives row s (fun d =>
      d = afterWork (readGo (modCmd s.dev c.seq (fun x => { x with stage := .run })) c))) ∧
  (∀ d n seq c, cmdOf? d seq = some c → c.ending = none →
    (cPortions c ≤ c.prog.done → readOn (n + 1) d seq = succeed d c) ∧
    (c.prog.done < cPortions c → cOpc c = opREAD →
      let k := c.prog.done
      let p := piecesOf d.med.m (portKey c k) (portFirst c k) (portLen (cLba c) (cLen c) k)
      let zeros : List Block := List.replicate (portLen (cLba c) (cLen c) k) 0
      (p.1 = [] → readOn (n + 1) d seq = readOn n (modCmd (emit d (.push c.seat c.tag (portOffset c k) zeros)) c.seq
        (fun x => { x with prog := { x.prog with done := k + 1, data := [] } })) seq) ∧
      (p.1 ≠ [] → readOn (n + 1) d seq = newJob d (.host seq) 4 (portKey c k) p.1 p.2))) ∧
  (∀ s seat tag altered c j, let v := voteAll s.dev
    runCmd? v seat tag isReadKind = some c → hostJob? v c.seq = some j → jobRead j = true →
    jobUnreadable j = false → pushable v c = true → coreTurn v 1 (jobInv j) = true → Gives (.decryptComplete seat tag altered) s (fun d =>
      d = afterWork (coreServed (decryptPort (coreTake v 1 (jobInv j)) c j altered)))) ∧
  (∀ s seat tag c data, runCmd? s.dev seat tag (fun c => (isDataWrite c && !(cOpc c == opFILL)) || cOpc c == opVERIFY) = some c →
    cOpc c = opVERIFY → dataPull c = true → pullTurn s.dev c = true → data.length = portLen (cLba c) (cLen c) c.prog.pulled →
    Gives (.dataPullComplete seat tag (.ok data true)) s (fun d => d = afterWork (readGo (modCmd (pullServed s.dev c) c.seq
      (fun x => { x with prog := { x.prog with pulled := x.prog.pulled + 1, data := x.prog.data ++ data } })) c))) ∧
  (∀ d c j, j.exts ≠ [] → (∀ e ∈ j.exts, (openSlot? d e).isSome = true ∨ e.tag.dmg = true) → cOpc c = opREAD → cHold c = true →
    decryptPort d c j true = complete (logCourse (raise (satAdd (dropJob d j.id) F.CRY_AUTHF_COUNT 1) 0x70 8) c stAUTH) c stAUTH
      (portOffset c c.prog.done)) ∧
  ∀ s seat tag c, runCmd? s.dev seat tag (fun c => c.prog.bad) = some c →
    Gives (.zeroingReadComplete seat tag true) s (fun d => d = afterWork (complete s.dev c stAUTH c.aux)) ∧
    Gives (.zeroingReadComplete seat tag false) s (fun d =>
      d = afterWork (complete (raiseArgs (satAdd s.dev F.CRY_ZFAIL_COUNT 1) 0x70 9
        (((hostSpans c (4096 * c.aux) (4096 * portLen (cLba c) (cLen c) c.prog.done)).take 3).flatMap
          (fun z => [BitVec.ofNat 32 z.1, BitVec.ofNat 32 (z.1 / 2 ^ 32), BitVec.ofNat 32 z.2]))) c stAUTH c.aux))

/-- R151, R154, R159, R163, R259: FLUSH waits for what it covers, and with nothing to cover completes at once; DISCARD starts in the order
of its seat, and one of a whole course unmaps it with one SEQ and one delta; a portion it rewrites is sealed when it is its turn at the
cores. ABORT of its own tag or of an ABORT is INVALID_FIELD, of no command or of a started one of another kind TOO_LATE; a command that
has not started, and a FLUSH, ends ABORTED at once; a started data command ends at its portion boundary and the ABORT waits for it.
Choices of the model in it: log entries 43, 118. -/
def Obligations.FlushDiscardAbort : Prop :=
  (∀ s seat tag c, readyCmd? s.dev seat tag opFLUSH = some c →
    Gives (.flush seat tag) s (fun d =>
      d = afterWork (flushChunk (flushPush (modCmd s.dev c.seq (fun x => { x with stage := .wait })))) ∧
      (s.dev.cmds.list = [c] → s.dev.med.ring = [] → s.dev.med.deltas = [] → chunkDeltas s.dev = [] → d.cmds.list = []))) ∧
  (∀ s seat tag c, readyCmd? s.dev seat tag opDISCARD = some c → (∀ k, k < cPortions c → seatOrderOk s.dev c k = true) →
    Gives (.discard seat tag) s (fun d => d = flushChunk (afterWork (discardGo
      (modCmd { s.dev with med := { s.dev.med with nextTx := (s.dev.med.nextTx + 1) % 2 ^ 32 } } c.seq
        (fun x => { x with stage := .run, txn := some s.dev.med.nextTx })) c)))) ∧
  (∀ d c, cmdOf? d c.seq = some c → cLen c = 256 → cLba c % 256 = 0 → c.prog.done = 0 → c.ending = none → slotsOf d c.seq = [] →
    let d' := discardGo d c
    mapEnt d'.med.m (portKey c 0) = .un ∧ (∀ k, k ≠ portKey c 0 → mapEnt d'.med.m k = mapEnt d.med.m k) ∧
    d'.med.deltas = d.med.deltas ++ [discardDelta d c 0 1] ∧ rd64 d' F.MAP_SEQ = (rd64 d F.MAP_SEQ + 1) % 2 ^ 64 ∧ d'.med.nand = d.med.nand) ∧
  (∀ s seat tag c j, let v := voteAll s.dev
    runCmd? v seat tag isWriteKind = some c → cOpc c = opDISCARD → hostJob? v c.seq = some j → jobRead j = true →
    jobUnreadable j = false → canSeal v c.kslot 1 = true → coreTurn v 0 (jobInv j + 1) = true → Gives (.sealComplete seat tag) s (fun d =>
      d = flushChunk (afterWork (coreServed (sealDiscard (coreTake v 0 (jobInv j + 1)) c j))))) ∧
  ∀ s seat tag a, readyCmd? s.dev seat tag opABORT = some a →
    (cOp a 0 % 32 = a.tag → Gives (.abort seat tag) s (fun d => d = complete s.dev a stINVFLD 0x28)) ∧
    (cOp a 0 % 32 ≠ a.tag → abortTarget? s.dev a = none → Gives (.abort seat tag) s (fun d => d = complete s.dev a stTOOLATE 0)) ∧
    ∀ t, cOp a 0 % 32 ≠ a.tag → abortTarget? s.dev a = some t →
      (cOpc t = opABORT → Gives (.abort seat tag) s (fun d => d = complete s.dev a stINVFLD 0x28)) ∧
      (cOpc t ≠ opABORT → isStarted t = false → Gives (.abort seat tag) s (fun d =>
        d = succeed (complete (dropLine s.dev t 0) t stABORTED 0) a)) ∧
      (isStarted t = true → cOpc t = opFLUSH → Gives (.abort seat tag) s (fun d => d = succeed (complete s.dev t stABORTED 0) a)) ∧
      (isStarted t = true → isWriteKind t = true ∨ isReadKind t = true → Gives (.abort seat tag) s (fun d =>
        d = endStarted (modCmd (modCmd s.dev t.seq (fun x => { x with aborts := x.aborts ++ [a.seq] })) a.seq (fun x => { x with stage := .wait })) t stABORTED)) ∧
      (isStarted t = true → cOpc t ∉ [opABORT, opFLUSH] → isWriteKind t = false → isReadKind t = false → Gives (.abort seat tag) s (fun d =>
        d = complete s.dev a stTOOLATE 0))

/-! ### Streams -/

/-- R152, R169, R176, R187, R188: an open that passes the admission test takes the lowest free stream number with its terms and succeeds
with that number; one that fails is NOT_ADMITTED with the failing condition recorded. A close waits for the earlier writes of its
stream; a query writes the record of its stream; a token fill adds 10 × RATE bytes to each open stream, up to the depth of its bucket.
Choices of the model in it: log entry 43. -/
def Obligations.StreamCommands : Prop :=
  (∀ s seat tag c, readyCmd? s.dev seat tag opOPEN = some c →
    let rate := bitsOf (cOp c 0) 0 16
    let smax := bitsOf (cOp c 0) 16 8
    let burst := bitsOf (cOp c 1) 0 24
    let r := admitTest s.dev c.seat rate smax burst (cTmin c)
    (r = 0 → Gives (.streamOpen seat tag) s (fun d =>
      let i := lowest 0 64 (fun i => !rdB s.dev (F.STRM_STAT_OPEN i) && (s.dev.adm.ended.get? i).isNone)
      d = succeed (admitStream s.dev i c.seat (cVol c) (bitsOf (cOp c 0) 24 3) rate smax burst (cTmin c)) c i)) ∧
    (r ≠ 0 → Gives (.streamOpen seat tag) s (fun d =>
      let g := raise (wrs s.dev [(F.ADM_LAST_VALID, 1), (F.ADM_LAST_SEAT, c.seat), (F.ADM_LAST_RESULT, r)]) 0x13 9
      d = complete g c stNOTADM r ∧ rd g F.ADM_LAST_VALID = 1 ∧ rd g F.ADM_LAST_RESULT = r ∧ evtSet g 0x13 9 = true))) ∧
  (∀ s seat tag c, readyCmd? s.dev seat tag opCLOSE = some c → Gives (.streamClose seat tag) s (fun d =>
    d = afterWork (modCmd s.dev c.seq (fun x => { x with stage := .wait })))) ∧
  (∀ s seat tag c, readyCmd? s.dev seat tag opQUERY = some c →
    (ownStream s.dev c = false → Gives (.streamQuery seat tag) s (fun d => d = complete s.dev c stNOTADM 0)) ∧
    (ownStream s.dev c = true → ∀ v, seatOf? s.dev seat = some v → fnReachable s.dev v.fn = true → Gives (.streamQuery seat tag) s (fun d =>
      d = succeed (emit s.dev (.memWrite v.fn (BitVec.ofNat 64 (cDptr c)) (queryRecord s.dev (cSid c)))) c))) ∧
  (∀ s, serving s.dev = true → Gives .tokenFill s (fun d => d = (openStreams s.dev).foldl (fun d i =>
    setTokens d i (min (bucketDepth d i) ((strmOf d i).tokens + rd d (F.STRM_CONTRACT_RATE i) * 10))) s.dev)) ∧
  ∀ s i, serving s.dev = true → openStreams s.dev = [i] → i < 64 → Gives .tokenFill s (fun d =>
    (strmOf d i).tokens = min (bucketDepth s.dev i) ((strmOf s.dev i).tokens + rd s.dev (F.STRM_CONTRACT_RATE i) * 10) ∧
    ChangesOnly [(F.STRM_TOKEN_KIB i).off] [] { s.dev with adm := d.adm } d)

/-! ### Keys -/

/-- R331 to R334, R338 to R342: KEY_LOAD, when it is its turn on its link, with a failed pull is BUS_ERROR; material that a check refuses
completes with its status; material
that passes fills the slot, with LOADED raised where it serves; a REST key waits, its material pulled, until FOLD has ended. KEY_RETIRE of a slot that is not LOADED succeeds at once, else it waits
until no command uses the slot, which is then RETIRED. VOLUME_SET of a slot that does not fit the volume is refused. A reservation is
extended below 2^19 invocations left; once durable the mark is higher, and a failed one leaves the slot UNSAFE with NONCE raised, and ends
the commands whose invocations lie above the mark. Choices of the model in it: log entries 80, 81, 82, 83, 84. -/
def Obligations.KeyCommands : Prop :=
  (∀ s seat tag c, let v := voteAll s.dev
    readyCmd? v seat tag opKEYLOAD = some c → (c.aux = 1 ∨ pullTurn v c = true) →
    let d0 := if c.aux = 1 then v else pullServed v c
    (∀ cause rec_, c.aux = 0 → 1 ≤ cause → cause ≤ 6 → Gives (.keyLoad seat tag ⟨none, cause, rec_⟩) s (fun d => d = complete d0 c stBUS cause)) ∧
    ∀ m cause rec_, m.length = cOp c 1 →
      (∀ e, keyOpen d0 c m = .error e → Gives (.keyLoad seat tag ⟨some m, cause, rec_⟩) s (fun d => d = complete d0 c e.1 e.2)) ∧
      (∀ l, keyOpen d0 c m = .ok l → foldEnded d0 = true ∨ l.role ≠ roleREST → Gives (.keyLoad seat tag ⟨some m, cause, rec_⟩) s (fun d =>
        d = keyInstall d0 c l rec_ ∧ (l.role ≠ roleREST → l.slot < 64 → l.role < 4 → rd d (F.KEY_STAT_STATE l.slot) = ksLOADED ∧ evtSet d 0x71 8 = true ∧
          rd d (F.KEY_STAT_ROLE l.slot) = l.role ∧ (keySlot d l.slot).mat = l.mat))) ∧
      ∀ l, keyOpen d0 c m = .ok l → foldEnded d0 = false → l.role = roleREST → Gives (.keyLoad seat tag ⟨some m, cause, rec_⟩) s (fun d =>
        d = modCmd d0 c.seq (fun x => { x with aux := 1 }))) ∧
  (∀ s seat tag c, readyCmd? s.dev seat tag opKEYRET = some c →
    (slotLoaded s.dev (retSlot c) = false → Gives (.keyRetire seat tag) s (fun d => d = succeed s.dev c)) ∧
    (slotLoaded s.dev (retSlot c) = true → Gives (.keyRetire seat tag) s (fun d =>
      (keySlot d (retSlot c)).retiring.isSome = true ∧ (∀ o, actW d o = actW s.dev o) ∧
      (∀ x ∈ d.cmds.list, x.seq = c.seq → x.stage = .wait)))) ∧
  (∀ s slot, let v := voteAll s.dev
    slot < 64 → running v = true →
    let waits := v.cmds.list.filter (fun c => cOpc c == opKEYRET && c.stage == .wait && retSlot c == slot)
    waits ≠ [] → slotLoaded v slot = true → slotInUse v slot = false → Gives (.keyRetireEffect slot) s (fun d =>
      d = waits.foldl (fun d c => succeed d c) (slotLeave v slot ksRETIRED) ∧ rd d (F.KEY_STAT_STATE slot) = ksRETIRED ∧
      (keySlot d slot).mat = 0 ∧ evtSet d 0x71 9 = true)) ∧
  (∀ s seat tag recordOk c, readyCmd? s.dev seat tag opVOLSET = some c →
    let n := bitsOf (cOp c 0) 0 6
    Gives (.volumeSet seat tag recordOk) s (fun d => d = volumeSet s.dev c recordOk ∧
      (slotIs s.dev n roleREST = false → d = complete s.dev c (if rdB s.dev (F.KEY_STAT_UNSAFE n) then stNONCE else stKEYABS) 0) ∧
      (slotIs s.dev n roleREST = true → rd s.dev (F.KEY_STAT_VOL n) = cVol c → bitOf (cOp c 0) 8 = false →
        rd s.dev (F.KEY_STAT_KGEN n) = curGen s.dev (cVol c) → d = succeed (bindVol s.dev (cVol c) n) c))) ∧
  (∀ s slot, let v := voteAll s.dev
    running v = true → slot < 64 → sealsMore v slot = true → (keySlot v slot).extending = false →
    (keySlot v slot).mark ≤ rd64 v (F.KEY_CNT slot) + 2 ^ 19 → Gives (.reservationExtend slot) s (fun d =>
      keySlot d slot = { keySlot v slot with extending := true } ∧ ∀ o, actW d o = actW v o)) ∧
  ∀ s slot r, let v := voteAll s.dev
    running v = true → slot < 64 → (keySlot v slot).extending = true → slotLoaded v slot = true →
    volRec? v (rd v (F.KEY_STAT_VOL slot)) = some r →
    Gives (.reservationDurable slot true) s (fun d =>
      keySlot d slot = { keySlot v slot with extending := false, mark := min ((keySlot v slot).mark + 2 ^ 20) ctrLimit }) ∧
    let d1 := raise (wr (setKeySlot v slot { keySlot v slot with extending := false }) (F.KEY_STAT_UNSAFE slot) 1) 0x70 12
    (keySlot d1 slot).mark = (keySlot v slot).mark ∧ evtSet d1 0x70 12 = true ∧ rd d1 (F.KEY_STAT_UNSAFE slot) = 1 ∧
    Gives (.reservationDurable slot false) s (fun d =>
      d = afterWork ((overMark slot ((keySlot v slot).mark - rd64 v (F.KEY_CNT slot)) d1.cmds.list).foldl nonceEnd d1))

/-! ### Administration and firmware -/

/-- R427 to R430, R433: SANITISE and FORMAT start their operation in ADMIN_PROG; each step of a SANITISE follows the one before, CRYPTO
empties the key slots, UNMAP the map, ERASE the flash; the first FORMAT of new media ends with the media record; LOG_READ pushes the
entries asked for. Choices of the model in it: log entries 65, 70, 99, 100, 101. -/
def Obligations.AdministrativeOperations : Prop :=
  (∀ s seat tag c, readyCmd? s.dev seat tag opSANITISE = some c →
    (adminRefuses s.dev c = true ∨ modeRefuses s.dev c = true → Gives (.sanitise seat tag) s (fun d => d = complete s.dev c stMODE 0)) ∧
    (adminRefuses s.dev c = false → modeRefuses s.dev c = false → Gives (.sanitise seat tag) s (fun d =>
      rd d F.ADMIN_PROG_BUSY = 1 ∧ rd d F.ADMIN_PROG_OP = bitsOf (cOp c 0) 0 2 ∧ rd d F.ADMIN_PROG_STEP = 1 ∧
      rd d F.ADMIN_PROG_REINIT = b2n (bitOf (cOp c 0) 2) ∧ d.admin.cmd = some c.seq ∧ d.med = s.dev.med ∧ d.keys = s.dev.keys))) ∧
  (∀ s seat tag ok c, readyCmd? s.dev seat tag opFORMAT = some c →
    (adminRefuses s.dev c = true ∨ modeRefuses s.dev c = true → Gives (.format seat tag ok) s (fun d => d = complete s.dev c stMODE 0)) ∧
    (adminRefuses s.dev c = false → modeRefuses s.dev c = false → newMedia s.dev = true → Gives (.format seat tag ok) s (fun d =>
      rd d F.ADMIN_PROG_BUSY = 1 ∧ rd d F.ADMIN_PROG_OP = 4 ∧ d.admin.cmd = some c.seq ∧ d.med = s.dev.med)) ∧
    (adminRefuses s.dev c = false → modeRefuses s.dev c = false → newMedia s.dev = false → Gives (.format seat tag ok) s (fun d =>
      let d2 := formatUnmap (adminStart (modCmd s.dev c.seq (fun x => { x with stage := .wait })) (some c.seq) 3 0 (cVol c) false) (cVol c) ok
      d = if canChunk d2 then chunkStart d2 false else d2))) ∧
  (∀ s, cpuRuns s.dev = true → accepted s.dev = true → sanitising s.dev = true →
    (rd s.dev F.ADMIN_PROG_STEP = 1 → adminAlone s.dev = true) →
    let step := rd s.dev F.ADMIN_PROG_STEP
    (step = 1 → Gives .sanitiseStepDone s (fun d => rd d F.ADMIN_PROG_STEP = (if adminOp s.dev = 2 then 2 else 3) ∧ d.keys = s.dev.keys)) ∧
    (step = 2 → Gives .sanitiseStepDone s (fun d => rd d F.ADMIN_PROG_STEP = 3 ∧ ∀ n, n < 64 → rd d (F.KEY_STAT_STATE n) = ksEMPTY ∧
      (keySlot d n).mat = 0)) ∧
    (step = 3 → Gives .sanitiseStepDone s (fun d => rd d F.ADMIN_PROG_STEP = 4 ∧ d.med.m = {} ∧ d.med.ring = [] ∧ d.med.jmap = {})) ∧
    (step = 4 → rd s.dev F.ADMIN_PROG_PERMILLE < 990 → Gives .sanitiseStepDone s (fun d => rd d F.ADMIN_PROG_STEP = 4 ∧
      rd d F.ADMIN_PROG_PERMILLE = rd s.dev F.ADMIN_PROG_PERMILLE + 10 ∧ d.med.nand.flash = s.dev.med.nand.flash)) ∧
    (step = 4 → 990 ≤ rd s.dev F.ADMIN_PROG_PERMILLE → Gives .sanitiseStepDone s (fun d => rd d F.ADMIN_PROG_STEP = 5 ∧
      rd d F.ADMIN_PROG_PERMILLE = 1000 ∧ d = sanStep (eraseAll s.dev) 5 1000)) ∧
    (5 ≤ step → Gives .sanitiseStepDone s (fun d => d = sanAdvance s.dev))) ∧
  (∀ s bad, cpuRuns s.dev = true → accepted s.dev = true → adminBusy s.dev = true → adminOp s.dev = 4 → Gives (.mediaInitDone bad) s (fun d =>
    d = mediaInit s.dev bad)) ∧
  ∀ s seat tag c v, readyCmd? s.dev seat tag opLOG = some c → seatOf? s.dev seat = some v → fnReachable s.dev v.fn = true →
    Gives (.logRead seat tag) s (fun d => d = succeed (emit s.dev (.push seat tag 0
      (if bitsOf (cOp c 0) 0 4 = 0 then logUnits s.dev (cLba c) (cLen c) else [healthUnit s.dev]))) c)

/-- R404, R407 to R411: FW_LOAD, when it is its turn on its link, refuses what its checks refuse and else writes the image blocks in order, up to the one whose pull or CRC
fails or at which the array fails; FW_COMMIT refuses with the first cause, or writes the bank record and the update is COMMITTED, or where the
record's program fails is refused with cause 8 and the block recorded; FW_ACTIVATE of a committed image, in MAINTAIN with no stream (R37), holds
every command that has not started and runs
drain, quiesce and switch; the new image serves with ACTDONE raised, and an image that does not start leaves the old one running with
FALLBACK raised. Choices of the model in it: log entries 92, 93, 94, 95. -/
def Obligations.FirmwareUpdateRuns : Prop :=
  (∀ s seat tag data stop fail c, let w := voteAll s.dev
    readyCmd? w seat tag opFWLOAD = some c → pullFits c data stop = true →
    (∀ o ∈ w.array.ops, o.bank ≠ targetBank w) → pullTurn w c = true → let d0 := pullServed w c
    Gives (.fwLoad seat tag data stop fail) s (fun d =>
      d = fwLoad d0 c data stop fail ∧
      (bankBad w (targetBank w) = true → d = updFail d0 c 8) ∧
      (bankBad w (targetBank w) = false → cLba c ≠ 0 → (fwuState w ≠ fuLOADING ∨ cLba c ≠ rd w F.FWU_NEXT_LBA) →
        d = complete d0 c stINVFLD 0x08))) ∧
  (∀ d c bank stop fail n k data, (stop.any (fun e => e.1 == k) = true → loadBlocks d c bank stop fail (n + 1) k data =
      complete d c stBUS ((stop.map Prod.snd).getD 5)) ∧
    (stop = none → imgBlockOk (data.take 16) = false → loadBlocks d c bank stop fail (n + 1) k data = complete d c stBUS 5) ∧
    (stop = none → imgBlockOk (data.take 16) = true → 16 ≤ rd d F.FWU_NEXT_LBA → fail = some k → loadBlocks d c bank stop fail (n + 1) k data =
      updFail (arrFail d bank (rd d F.FWU_NEXT_LBA / 16 / 4) none) c 8)) ∧
  (∀ s seat tag v c, let w := voteAll s.dev
    readyCmd? w seat tag opFWCOMMIT = some c → (∀ o ∈ w.array.ops, o.bank ≠ targetBank w) →
    (∀ k, commitCause w v = some k → Gives (.fwCommit seat tag v) s (fun d => d = updFail w c k)) ∧
    (commitCause w v = none → let b := targetBank w
      let d1 := wrs w [(F.FWU_KEYIDX_VALID, 1), (F.FWU_KEYIDX_SLOT, (imgVerifies w b v).getD 0)]
      (v.programOk = true → Gives (.fwCommit seat tag v) s (fun d => fwuState d = fuCOMMITTED ∧ rd d F.FWU_KEYIDX_VALID = 1 ∧ evtSet d 0xD 9 = true ∧
        d = succeed (raise (wr (writeRecord d1 b b 1) F.FWU_STATE_STATE fuCOMMITTED) 0xD 9) c)) ∧
      (v.programOk = false → ∀ blk pg, recordPlace w b = some (blk, pg) → Gives (.fwCommit seat tag v) s (fun d =>
        d = updFail (arrFail d1 b blk (some pg)) c 8 ∧ evtSet d 0xC 10 = true)))) ∧
  (∀ s seat tag c, let w := voteAll s.dev
    readyCmd? w seat tag opFWACT = some c →
    (fwuState w ≠ fuCOMMITTED → Gives (.fwActivate seat tag) s (fun d => d = updFail w c 4)) ∧
    (fwuState w = fuCOMMITTED → sanitising w = true ∨ hardRepairing w = true → Gives (.fwActivate seat tag) s (fun d =>
      d = updFail w c 11)) ∧
    (fwuState w = fuCOMMITTED → sanitising w = false → hardRepairing w = false → modeRefuses w c = true →
      Gives (.fwActivate seat tag) s (fun d => d = complete w c stMODE 0)) ∧
    (fwuState w = fuCOMMITTED → sanitising w = false → hardRepairing w = false → modeRefuses w c = false → Gives (.fwActivate seat tag) s (fun d =>
      fwuState d = fuACTIVATING ∧ d.cmds.activating = true ∧ d.upd.step = 1 ∧ d.upd.cmd = c.seq ∧
      (∀ x ∈ d.cmds.list, x.seq ≠ c.seq → x.stage ≠ .ready ∧ (isStarted x = false → x.stage = .held)) ∧
      ∀ o, o ≠ 0xD040 → actW d o = actW w o))) ∧
  (∀ s, cpuRuns s.dev = true → s.dev.upd.step = 1 →
    (drained s.dev = true → Gives .activationDrainDone s (fun d => d = { s.dev with upd := { s.dev.upd with step := 2 } })) ∧
    (drained s.dev = false → Gives .activationDrainTimeout s (fun d =>
      d = activationEnd (activationFail (wr s.dev F.FWU_STATE_STATE fuCOMMITTED) 9)))) ∧
  (∀ s, cpuRuns s.dev = true → s.dev.upd.step = 2 → targetBank s.dev < 2 → Gives .activationQuiesceDone s (fun d =>
    rd d F.FWA_BANK_EXEC = targetBank s.dev ∧ rd d F.GLB_BOOT_BANK = targetBank s.dev ∧ d.upd.step = 3 ∧
    ∀ o, o ∉ [0xC044, 0x144] → actW d o = actW s.dev o)) ∧
  ∀ s, cpuRuns s.dev = true → s.dev.upd.step = 3 → let b := rd s.dev F.FWA_BANK_EXEC
    let d1 := newImage s.dev
    let d2 := oldImage s.dev
    evtSet d1 0xD 10 = true ∧ rd d1 F.FWA_BANK_EXEC = b ∧ rd d1 F.FWA_ACTIVE_VER_VERSION = (bankHdr s.dev b).version ∧ fwuState d1 = fuEMPTY ∧
    rd d1 F.FWU_TACT_US = (s.dev.sys.time - s.dev.upd.t0) / 1000 % 2 ^ 32 ∧
    evtSet d2 0xD 11 = true ∧ rd d2 F.FWA_BANK_EXEC = 1 - b ∧ fwuState d2 = fuEMPTY ∧
    (∀ c, cmdOf? s.dev s.dev.upd.cmd = some c → Gives .activated s (fun d => d = activationEnd (imageRunning (succeed d1 c)))) ∧
    (cmdOf? s.dev s.dev.upd.cmd = none → Gives .activated s (fun d => d = activationEnd (imageRunning d1))) ∧
    Gives .activationFallback s (fun d => d = activationEnd (activationFail d2 10))

/-- R393 to R399: a raw read fills the page buffer and raises OPDONE; a raw program or erase that no check refuses runs, and its end raises
OPDONE with its CODE, AFAIL where it failed, and leaves an erased block without pages; a refused one leaves the array as it was; one
that ends the load state of the bank ends an activation before its switch. FWA_DATA reads and writes the buffer word that FWA_DIDX
names, and advances it. Owner operations answer in FWA_PSTAT: 4 for a blocked region; of an unlocked one SET runs and locks it under the
latched password, the others answer 3. Choices of the model in it: log entries 13, 96, 97, 98, 130. -/
def Obligations.FirmwareArrayOperations : Prop :=
  (∀ s port v, Writes s port 0xC058 v → bitOf v.toNat 31 = true → let bank := rd s.dev F.FWA_OPADDR_BANK
    let block := rd s.dev F.FWA_OPADDR_BLOCK
    let page := rd s.dev F.FWA_OPADDR_PAGE
    let d1 := wr s.dev F.FWA_OPCMD_OP v.toNat
    let b := readToBuf d1 bank block page
    (v.toNat % 4 = 0 → opOfBank? s.dev bank = none → evtSet b 0xC 8 = true ∧ rd b F.FWA_OPSTAT_CODE = faOK ∧
      (∀ i, i < 1024 → (b.array.buf.getD i 0).toNat = blkWord (arrPage s.dev bank block page) i) ∧
      Gives (.fwaReadPage port v) s (fun d => d = activationLost b)) ∧
    (v.toNat % 4 = 0 → opOfBank? s.dev bank ≠ none → Gives (.fwaReadPage port v) s (fun d => d = activationLost (arrRead d1 bank block page))) ∧
    ∀ op row, (op, row) ∈ [(1, Instr.fwaProgramPage port v), (2, .fwaEraseBlock port v)] → v.toNat % 4 = op → let g := arrWrite d1 bank block page op
      Gives row s (fun d => d = activationLost g) ∧
      (∀ k, rawCause s.dev = some k → rd g F.FWA_OPSTAT_CODE = faUPDATE ∧ g.array = s.dev.array) ∧
      (∀ k, rawCause s.dev = none → arrRefuse s.dev bank block page op = some k → rd g F.FWA_OPSTAT_CODE = k ∧ g.array = s.dev.array) ∧
      (rawCause s.dev = none → arrRefuse s.dev bank block page op = none → rd g F.FWA_OPSTAT_BUSY = 1 ∧ rd g F.FWA_OPSTAT_CODE = faOK ∧
        (opOfBank? g bank).isSome = true ∧ fwuState g = fuEMPTY)) ∧
  (∀ d, (d.upd.step ≠ 1 → d.upd.step ≠ 2 → activationLost d = d) ∧
    (d.upd.step = 1 ∨ d.upd.step = 2 → fwuState d = fuEMPTY → activationLost d = activationEnd (activationFail d 4))) ∧
  (∀ s ok o, arrRuns s.dev = true → s.dev.array.ops = [o] → o.susp = false → o.reads = [] →
    Gives (.fwaOpDone ok) s (fun d => evtSet d 0xC 8 = true ∧ rd d F.FWA_OPSTAT_CODE = (if ok then faOK else faFAIL) ∧
      rd d F.FWA_OPSTAT_BUSY = 0 ∧ d.array.ops = [] ∧ (ok = false → evtSet d 0xC 10 = true) ∧
      (o.bank < 2 → o.block < 1024 → ok = true → o.op ≠ 1 → ∃ b, d.array.blocks.get? (arrKey o.bank o.block) = some b ∧ b.pages = []))) ∧
  (∀ s bank, arrRuns s.dev = true →
    (s.dev.array.ops.any (fun o => o.bank == bank && o.susp) = true → Gives (.fwaResumeTimer bank) s (fun d =>
      d = opsShow (modOp s.dev bank (fun o => { o with susp := false, minRun := true })))) ∧
    ∀ o, opOfBank? s.dev bank = some o → o.minRun = true → Gives (.fwaMinimumRunElapsed bank) s (fun d =>
      d = opsShow (serveReads (modOp s.dev bank (fun x => { x with minRun := false, wants := false, susp := o.wants, reads := [] })) bank o.reads))) ∧
  (∀ s port w, Writes s port 0xC064 w → let i := rd s.dev F.FWA_DIDX_IDX
    Gives (.fwaDataAccess port none) s (fun d => d.out = .reg port (s.dev.array.buf.getD i 0) :: s.dev.out ∧
      rd d F.FWA_DIDX_IDX = (i + 1) % 1024 ∧ d.array = s.dev.array) ∧
    Gives (.fwaDataAccess port (some w)) s (fun d => d.array.buf.getD i 0 = w ∧ rd d F.FWA_DIDX_IDX = (i + 1) % 1024 ∧ d.out = s.dev.out)) ∧
  (∀ s port v row op, (row, op) ∈ [(Instr.fwaSet port v, 1), (.fwaOpen port v, 2), (.fwaClose port v, 3), (.fwaClear port v, 4)] →
    Writes s port 0xC078 v → bitOf v.toNat 31 = true → v.toNat % 8 = op →
    let k := 16 * bitsOf v.toNat 6 1 + bitsOf v.toNat 8 4
    Gives row s (fun d => d = pcmdWrite s.dev v.toNat ∧ (d.array.pwd = []) ∧
      (s.dev.array.owner = none → regBlocked (regOf s.dev k) = true → rd d F.FWA_PSTAT_RESULT = 4) ∧
      (s.dev.array.owner = none → regOf s.dev k = {} → if op = 1 then rd d F.FWA_PSTAT_BUSY = 1 ∧ d.array.owner = some (k, 1, latchPwd s.dev)
        else rd d F.FWA_PSTAT_RESULT = 3))) ∧
  ∀ s k op pwd, arrRuns s.dev = true → k < 32 → s.dev.array.owner = some (k, op, pwd) → Gives .fwaOwnerOpDone s (fun d =>
    rd d F.FWA_PSTAT_BUSY = 0 ∧ rd d F.FWA_PSTAT_RESULT = 0 ∧ d.array.owner = none ∧
    regOf d k = (if op = 1 then { pwd := some pwd } else {}) ∧ bitOf (rd d F.FWA_LOCK_REGIONS) k = (op == 1))

/-! ### Flash operations, journal, upkeep -/

/-- R26, R29, R192, R199, R200, R225, R244, R280, R304, R313, R319: the end of a program, read, soft decode, reconstruction, erase or
timeout of a LUN does its work and the LUN goes on; a program in flight ends in a flush; a suspended operation sleeps; a slot of the Cox
places what waits, and is counted also where nothing may be placed. A portion whose pages and ridges passed is Committed: it leaves the
ring with its deltas; a batten with its last member erased is free, worn by one; a stripe is padded to its end, and its batten closed
where its writer has no more for it (R273). Choices of the model in it: log entries 60, 61, 62, 127, 128, 155, 156. -/
def Obligations.FlashOperationsEnd : Prop :=
  (∀ s lun o, execOp? s.dev lun .prog = some o →
    Gives (.programComplete lun true) s (fun d => d = afterMedia (issueLun (progPassed (endOp s.dev lun) o) lun)) ∧
    Gives (.programComplete lun false) s (fun d => d = afterMedia (issueLun (progFailed (endOp s.dev lun) lun o) lun)) ∧
    ((lunOf s.dev lun).asking = true → (lunOf s.dev lun).asleep = none → 3 ≤ o.cls → o.susp = 0 → Gives (.programSuspended lun) s (fun d =>
      d = issueLun (modLun s.dev lun (fun v => { v with exec := none, asking := false, asleep := some { o with susp := 1 } })) lun)) ∧
    ((lunOf s.dev lun).asleep.isSome = true → Gives (.programSuspended lun) s (fun d => d = s.dev))) ∧
  (∀ s lun o ok, execOp? s.dev lun .prog = none → flushProg? s.dev lun = some o → Gives (.programComplete lun ok) s (fun d =>
    d = flushProgEnd s.dev lun o ok ∧ lunOf d lun = {} ∧ (ok = false → (o.stripe, o.pos) ∈ (batOf d o.batten).failed))) ∧
  (∀ s lun o cws, execOp? s.dev lun .read = some o →
    (readUnit? s.dev o = none → Gives (.pageReadComplete lun cws) s (fun d => d = issueLun (endOp s.dev lun) lun)) ∧
    ∀ u, readUnit? s.dev o = some u →
      (o.soft = false → cws.length = u.cws.length → cws.all (resultOk s.dev u.cfg u.batten u.stripe u.pos) = true →
        Gives (.pageReadComplete lun cws) s (fun d => d = afterMedia (pageRead s.dev lun o u cws))) ∧
      (o.soft = true → cws = [] → Gives (.pageReadComplete lun cws) s (fun d => d = afterMedia (softRead s.dev lun o u)))) ∧
  (∀ s lun cw j u x, softAt? s.dev lun = some (j, u, x) → mediaOn s.dev = true → clockHeld s.dev 3 = false →
    cw.mis = 0 ∨ isRidge (batW s.dev) u.stripe u.pos = false →
    Gives (.softDecodeComplete lun cw) s (fun d => d = afterMedia (softDone s.dev lun j u x cw))) ∧
  (∀ s lun others checks j u, waitUnit? s.dev lun .ridge = some (j, u) → mediaOn s.dev = true → (unitGroups s.dev u).all (domOn s.dev) = true →
    reconOk s.dev u others checks = true →
    Gives (.reconstructionComplete lun others checks) s (fun d => d = afterMedia (reconDone s.dev j u others checks))) ∧
  (∀ s lun o ok, execOp? s.dev lun .erase = some o →
    Gives (.eraseComplete lun ok) s (fun d => d = afterMedia (issueLun (eraseEnded (endOp s.dev lun) lun o ok) lun)) ∧
    ((lunOf s.dev lun).asking = true → let d1 := modLun s.dev lun (fun v => { v with exec := none, asking := false, asleep := some { o with susp := o.susp + 1 } })
      let d2 := raise (satAdd d1 F.COX_ESLIM_COUNT 1) 0x18 9
      evtSet d2 0x18 9 = true ∧
      (o.susp + 1 ≠ rd s.dev F.MEDIA_TESUS_ESMAX → Gives (.eraseSuspended lun) s (fun d => d = issueLun (placeDue d1 lun) lun)) ∧
      (o.susp + 1 = rd s.dev F.MEDIA_TESUS_ESMAX → Gives (.eraseSuspended lun) s (fun d => d = issueLun (placeDue d2 lun) lun)))) ∧
  (∀ s lun o ok, mediaOn s.dev = true → chnState s.dev (lunChn lun) = chSERVE → (lunOf s.dev lun).exec = some o →
    Gives (.nandOpTimeout lun ok) s (fun d => d = afterMedia (lunTimeout s.dev lun o ok))) ∧
  (∀ s b, mediaOn s.dev = true → (batOf s.dev b).st = .opened → (batOf s.dev b).role ≠ .system → let cls := padClass s.dev b
    (writerDue s.dev (batOf s.dev b).role = true →
      Gives (.stripePadClose b false) s (fun d => d = afterMedia (settleBat (padClose s.dev b cls) b))) ∧
    (writerDue s.dev (batOf s.dev b).role = false →
      Gives (.stripePadClose b false) s (fun d => d = afterMedia (closeBat s.dev b cls))) ∧
    Gives (.stripePadClose b true) s (fun d => d = afterMedia (settleBat (padUnit s.dev b cls) b))) ∧
  (∀ s b unit, (batOf s.dev b).role = .system → Gives (.stripePadClose b unit) s (fun d => d = s.dev)) ∧
  (∀ s, mediaOn s.dev = true → domOn s.dev 29 = true → Gives .coxSlot s (fun d => d = coxSlot (voteAll s.dev))) ∧
  (∀ s, mediaOn s.dev = false → domOn s.dev 29 = true → running s.dev = true → accepted s.dev = true ∨ 0 < rd64 s.dev F.COX_SLOT →
    Gives .coxSlot s (fun d => rd64 d F.COX_SLOT = (rd64 s.dev F.COX_SLOT + 1) % 2 ^ 64 ∧ d.cox = s.dev.cox ∧ d.med = s.dev.med)) ∧
  (∀ d id r, d.med.ring.get? id = some r → (commitSlot d id).med.ring = d.med.ring.erase id ∧
    (commitSlot d id).med.m = commitMap d.med.m r id ∧
    (commitSlot d id).med.deltas = d.med.deltas ++ commitDeltas d.med.m r (ringBlocks d.med.m r.ext.tag id)) ∧
  (∀ d b, (batOf d b).st = .erasing → (batOf d b).toErase = [] → (batOf d d.med.nand.sysPair.1).wptr + 16 ≤ sysCw d →
    (batOf (freeBat d b) b).st = .free ∧ (batOf (freeBat d b) b).ec = (batOf d b).ec + 1) ∧
  ∀ d b cls, 0 < stripeCw d → (batOf d b).wptr % stripeCw d ≠ 0 →
    (batOf (padClose d b cls) b).wptr = ((batOf d b).wptr / stripeCw d + 1) * stripeCw d

/-- R250 to R255, R277, R286, R288, R433: a chunk starts with the deltas that may be journalled and the buffered log, EARLY raised where it
is due early (log entry 129); it stands when every page of it has passed, and a failed program raises JFAIL and places it again; it
joins the chain, of which 64 chunks are kept, and its deltas join the map of the journal; the valid-data walk ends; the patrol rate
follows the time left, LATE raised once when none is left; a batten over the read-disturb limit becomes a victim and is counted. Choices
of the model in it: log entries 63, 64. -/
def Obligations.JournalAndUpkeep : Prop :=
  (∀ s, canChunk s.dev = true →
    Gives .journalChunkStart s (fun d => d = chunkStart s.dev false) ∧
    (earlyDue s.dev = true → Gives .early s (fun d => d = raise (chunkStart s.dev true) 0x21 8 ∧ evtSet d 0x21 8 = true))) ∧
  (∀ d early, let d' := chunkStart d early
    rd d' F.JNL_STAT_BUSY = 1 ∧ d'.log.buf = [] ∧ (d.mem.recopy ≤ 1 → d'.med.deltas = (pickDeltas d d.med.deltas).2 ∧
      chunkDeltas d' = withFills d.med.jmap (pickDeltas d d.med.deltas).1)) ∧
  (∀ s c, mediaOn s.dev = true → s.dev.med.chunkNow = some c →
    (chunkPassed s.dev c = true → Gives (.journalChunkDurable true) s (fun d => d = chunkDone s.dev c)) ∧
    (chunkPassed s.dev c = false → let d1 := raise { s.dev with med := { s.dev.med with chunkNow := some { c with parts := [] } } } 0x21 9
      evtSet d1 0x21 9 = true ∧ Gives (.journalChunkDurable false) s (fun d => d = afterMedia d1))) ∧
  (∀ d c, let d' := chunkTo d c
    d'.med.nand.chunk = c.num ∧ d'.med.nand.chunks.getLast? = some c ∧ d'.med.nand.chunks.length ≤ 64 ∧
    d'.med.jmap = c.deltas.foldl applyDelta d.med.jmap ∧ d'.med.nand.cmark = max d.med.nand.cmark c.cmark ∧
    rd64 d' 0x21048 = c.num % 2 ^ 64 ∧ rd d' F.JNL_LASTT_T = now32 d ∧ d'.med.nand.flash = d.med.nand.flash) ∧
  (∀ s, mediaOn s.dev = true → rdB s.dev F.GC_STAT_WALK = true → Gives .validWalkDone s (fun d => rd d F.GC_STAT_WALK = 0 ∧
    ChangesOnly [0x22048] [] s.dev d)) ∧
  (∀ s, mediaOn s.dev = true → (recovering s.dev = false ∨ 6 ≤ rd s.dev F.GLB_STAT_RSTAGE) → Gives .patrolRateTick s (fun d =>
    let left := rd s.dev F.PTL_PERIOD_DAYS * 86400 - (s.dev.sys.time - s.dev.med.ptlStart) / 1000000000
    (left ≠ 0 → rd d F.PTL_RATE_PAGES = min 0xFFFFFFFF (ceilDiv (patrolPages s.dev) left) ∧ ChangesOnly [0x24054] [] s.dev d) ∧
    (left = 0 → rd d F.PTL_STAT_LATE = 1 ∧ (rdB s.dev F.PTL_STAT_LATE = false → evtSet d 0x24 9 = true)))) ∧
  ∀ s b, mediaOn s.dev = true → (batOf s.dev b).st = .closed →
    (batOf s.dev b).reads.any (fun e => e.2 > rd s.dev F.WEAR_RDTH_KREADS * 1000) = true →
    Gives (.readDisturbLimit b) s (fun d => (batOf d b).st = .victim ∧ (batOf d b).vcause = 5 ∧
      (batOf d b).vcls = (if (batOf s.dev b).hardRead then 1 else 6) ∧
      rd d F.WEAR_RDREL_COUNT = (rd s.dev F.WEAR_RDREL_COUNT + 1) % 2 ^ F.WEAR_RDREL_COUNT.wd ∧
      ∀ o, o ≠ F.WEAR_RDREL_COUNT.off → actW d o = actW s.dev o)

/-! ### Flash channels -/

/-- R300 to R307, R442: ISO of a channel is refused with its IREF where the channel does not serve, where what is left cannot carry the
contracted rates, or where data would lose a second member; else it starts to isolate; the end of the work in flight and of the
replacement eave erases leaves it ISOLATED for the host; TRAIN of an isolated channel trains it, and training ends by trainEnd, in
isolation where one of its steps fails and else in SERVE at the rate it began with; a ZQ short calibration goes to each target of a channel
that serves (R296); tracking records the eye and its lowest value, and three eyes in a row below half
the window isolate the channel. Choices of the model in it: log entries 71, 147, 156. -/
def Obligations.ChannelCommands : Prop :=
  (∀ s port c v, c < 64 → Writes s port (0x30058 + 0x1000 * c) v → bitOf v.toNat 0 = true → bitOf v.toNat 1 = false →
    let left := ((healthyLuns s.dev).filter (fun l => !lunLeaving s.dev l && !onChn c l)).length
    let why := if chnState s.dev c ≠ chSERVE then 1
      else if rMediaOf left (rd s.dev F.MEDIA_RPROG_MBS) (batW s.dev) - s.dev.med.rung1Cut < judgedRates s.dev then 2
      else if exposes s.dev c then 3 else 0
    Gives (.chnIso port c v) s (fun d => rd d (F.CHN_CTL_EVAC c) = bitsOf v.toNat 2 1 ∧ chnState d c = chnState s.dev c ∧
      (why = 0 → (chOf d c).isolating = true ∧ rd d (F.CHN_STAT_IREF c) = rd s.dev (F.CHN_STAT_IREF c)) ∧
      (why ≠ 0 → rd d (F.CHN_STAT_IREF c) = why ∧ evtSet d (0x30 + c) 13 = true ∧ chOf d c = chOf s.dev c))) ∧
  (∀ s c, running s.dev = true → accepted s.dev = true → c < 64 → (chOf s.dev c).isolating = true → chnQuiet s.dev c = true → eaveReady s.dev = true →
    Gives (.hostIsolationDone c) s (fun d => d =
      let d1 := lunsOut (setIsolated s.dev c icHOST) (onChn c) 0
      lunsChanged (eavePump (if rdB s.dev (F.CHN_CTL_EVAC c) then victimsOf d1 (onChn c) 3 else d1)))) ∧
  (∀ d c cause, c < 64 → cause < 8 → chnState (setIsolated d c cause) c = chISO ∧ rd (setIsolated d c cause) (F.CHN_STAT_ICAUSE c) = cause ∧
    evtSet (setIsolated d c cause) (0x30 + c) 10 = true ∧ (chOf (setIsolated d c cause) c).isolating = false) ∧
  (∀ s port c v, c < 64 → Writes s port (0x30058 + 0x1000 * c) v → bitOf v.toNat 1 = true → bitOf v.toNat 0 = false →
    Gives (.chnTrain port c v) s (fun d =>
      (chnState s.dev c = chISO → groupPll s.dev c = true → chnState d c = chTRAIN ∧ (chOf d c).retrain = true) ∧
      (chnState s.dev c ≠ chISO ∨ groupPll s.dev c = false → rd d (F.CHN_STAT_IREF c) = 1 ∧ evtSet d (0x30 + c) 13 = true ∧
        chnState d c = chnState s.dev c))) ∧
  (∀ s r, running s.dev = true → clockHeld s.dev (5 + r.chn / 4) = false → accepted s.dev = true →
    (inRecover s.dev = false ∨ rd s.dev F.GLB_STAT_RSTAGE ≠ 1) → r.chn < 64 → chnState s.dev r.chn = chTRAIN →
    let d1 := pllPass (trainEnd s.dev r) r.chn (trainFail s.dev r)
    Gives (.trainingDone r) s (fun d =>
      (chnState d1 r.chn = chISO → d = lunsChanged (victimsOf d1 (onChn r.chn) 3)) ∧ (chnState d1 r.chn ≠ chISO → d = lunsChanged d1))) ∧
  (∀ d r, r.chn < 64 → 1 ≤ r.fail → r.fail ≤ 3 → chnState (trainEnd d r) r.chn = chISO ∧ rd (trainEnd d r) (F.CHN_STAT_FSTEP r.chn) = r.fail ∧
    evtSet (trainEnd d r) (0x30 + r.chn) 9 = true) ∧
  (∀ d r, r.chn < 64 → trainFail d r ≠ 0 → chnState (trainEnd d r) r.chn = chISO ∧ rd (trainEnd d r) (F.CHN_STAT_ICAUSE r.chn) = icTRAIN ∧
    rd (trainEnd d r) (F.CHN_STAT_FSTEP r.chn) = trainFail d r) ∧
  (∀ d r, r.chn < 64 → trainFail d r = 0 → chnState (trainEnd d r) r.chn = chSERVE ∧ rd (trainEnd d r) (F.CHN_STAT_ICAUSE r.chn) = 0 ∧
    rd (trainEnd d r) (F.CHN_STAT_RATE r.chn) = (chOf d r.chn).tRate % 2 ^ (F.CHN_STAT_RATE r.chn).wd ∧
    evtSet (trainEnd d r) (0x30 + r.chn) 8 = true) ∧
  (∀ s c, c < 64 → let serves := running s.dev && !clockHeld s.dev (5 + c / 4) && chnState s.dev c == chSERVE
    Gives (.zqShortTimer c) s (fun d => (serves = false → d = s.dev) ∧
      (serves = true → ∀ t, t < 16 → bitOf (rd s.dev (F.CHN_MAP_TGT c)) t = true →
        Output.nand (targetLun c t) [.cmd 0xE1, .vol (t % 4), .cmd 0xD9] ∈ d.out) ∧ { d with out := [] } = { s.dev with out := [] })) ∧
  ∀ s c eye moves, running s.dev = true → clockHeld s.dev (5 + c / 4) = false → accepted s.dev = true → c < 64 → chnState s.dev c = chSERVE →
    let e := min eye 255
    let ch := chOf s.dev c
    let win := rxWindow (rd s.dev (F.CHN_STAT_RATE c))
    let low := if 2 * e < win then ch.low + 1 else 0
    let mn := if ch.tracked then min e (rd s.dev (F.CHN_HMARG_MIN c)) else e
    let drift := decide (4 * mn < 3 * win)
    let d1 := satAdd (moves.foldl (fun d m => deskew d c m) s.dev) (F.CHN_HTRN_DRIFT c) moves.length
    let d2 := wrs (setCh d1 c { ch with low := low, tracked := true, drifted := ch.drifted || drift }) [(F.CHN_HMARG_NOW c, e), (F.CHN_HMARG_MIN c, mn)]
    let d3 := if drift && !ch.drifted then raise d2 (0x30 + c) 11 else d2
    rd d3 (F.CHN_HMARG_NOW c) = e ∧ rd d3 (F.CHN_HMARG_MIN c) = mn ∧ (chOf d3 c).low = low ∧
    Gives (.trackingCheck c eye moves) s (fun d => (low < 3 → d = d3) ∧ (3 ≤ low → d = chanFaultIsolate d3 c icEYE))

/-! ### Stroke, traces, memory protection -/

/-- R60, R204 to R211, R217, R380 to R386: a Stroke sample votes the triple-voted fields, advances STK_SCNT, evaluates the active loops,
publishes R_power and records the trace; an output lies within its limits; the trace arms, is forced, stops and is read as its state
says; a scrub counts what it finds, and a leak takes one from a bucket; an injection is armed or refused; a repair that no check refuses
runs and ends with RPDONE raised. Choices of the model in it: log entries 26, 68, 77, 132. -/
def Obligations.StrokeTraceAndMemory : Prop :=
  (∀ s inp, running s.dev = true → accepted s.dev = true → domOn s.dev 29 = true → let v := voteAll s.dev
    let d1 := wr (add64 v 0x19064 1) F.STK_PMEAS_MW (if rdB v (F.STKL_CTL_ACTIVE 64) then min inp.mw 0x1FFFF else rd v F.STK_PMEAS_MW)
    let d3 := traceSample (publishStep (((List.range 66).filter (fun l => rdB v (F.STKL_CTL_ACTIVE l))).foldl (loopSample inp) d1))
    rd64 d1 0x19064 = (rd64 s.dev 0x19064 + 1) % 2 ^ 64 ∧
    Gives (.strokeSample inp) s (fun d => d = admRecompute { d3 with stk := { d3.stk with arr := [], drn := [], fresh := [] } })) ∧
  (∀ d l sp m, let lo := q16 d (F.STKL_UMIN_UMIN l)
    let hi := q16 d (F.STKL_UMAX_UMAX l)
    l < 64 ∨ lo ≤ hi → lo ≤ (loopEval d l sp m).u ∧ (loopEval d l sp m).u ≤ max hi lo) ∧
  (∀ s port v, Writes s port 0x1E060 v →
    (bitOf v.toNat 31 = true → bitOf v.toNat 30 = false → Gives (.stktArm port v) s (fun d => rd d F.STKT_STAT_STATE = 1 ∧
      rd d F.STKT_STAT_VPRE = 0 ∧ d.trace.before = [] ∧ d.trace.after = [] ∧ d.trace.pre = rd s.dev F.STKT_PRE_PRE)) ∧
    (bitOf v.toNat 30 = true → bitOf v.toNat 31 = false → bitOf v.toNat 29 = false → rd s.dev F.STKT_STAT_STATE = 1 →
      Gives (.stktForce port v) s (fun d => rd d F.STKT_STAT_STATE = 2 ∧ rd d F.STKT_STAT_TCAUSE = 1 ∧ evtSet d 0x1E 8 = true ∧
        rd64 d 0x1E074 = s.dev.sys.time % 2 ^ 64)) ∧
    (bitOf v.toNat 29 = true → bitOf v.toNat 31 = false → bitOf v.toNat 30 = false → Gives (.stktStop port v) s (fun d =>
      (rd s.dev F.STKT_STAT_STATE = 1 ∨ rd s.dev F.STKT_STAT_STATE = 2 → rd d F.STKT_STAT_STATE = 0) ∧
      (rd s.dev F.STKT_STAT_STATE ≠ 1 → rd s.dev F.STKT_STAT_STATE ≠ 2 → d.trace = s.dev.trace)))) ∧
  (∀ s port, HostAt s port → answers s.dev 0x1E = true → Gives (.stktRdataRead port) s (fun d =>
    d.out = .reg port (traceData s.dev) :: s.dev.out ∧ rd d F.STKT_RIDX_IDX = (rd s.dev F.STKT_RIDX_IDX + 1) % 2 ^ 12 ∧
    (rd s.dev F.STKT_STAT_STATE ≠ 3 → traceData s.dev = 0))) ∧
  (∀ s m f, alive s.dev = true → memOn s.dev m = true → rd s.dev F.GLB_BOOT_STAGE ≠ 0xF → Gives (.memScrubPass m f) s (fun d => d = memAccess s.dev m f ∧
    (f = .clean → d = s.dev) ∧
    (f = .pass → m < 32 → rd d F.MEM_SCRUB_PASSES = (rd s.dev F.MEM_SCRUB_PASSES + 1) % 2 ^ 32 ∧ ChangesOnly [0x7084] [] s.dev d) ∧
    (∀ word, f = .poisoned word .unused → rd d (F.MEMx_UE_COUNT m) = min (rd s.dev (F.MEMx_UE_COUNT m) + 1) (2 ^ (F.MEMx_UE_COUNT m).wd - 1) ∧
      rd d F.MEM_UELAST_MEMID = m ∧ rd d F.MEM_UEADDR_WORD = word % 2 ^ 32 ∧ evtSet d 7 8 = true ∧ evtSet d (8 + m / 32) 9 = true))) ∧
  (∀ s m, alive s.dev = true → m ≤ 110 → Gives (.leakTick m) s (fun d => rd d (F.MEMx_LVL_LEVEL m) = rd s.dev (F.MEMx_LVL_LEVEL m) - 1 ∧
    ChangesOnly [(F.MEMx_LVL_LEVEL m).off] [] s.dev d)) ∧
  (∀ s port v, Writes s port 0x7048 v → bitOf v.toNat 31 = true → Gives (.memInjArm port v) s (fun d => ChangesOnly [0x7048] [] s.dev d ∧
    (bitsOf v.toNat 0 7 ≤ 110 → bitsOf v.toNat 8 3 ≠ 6 → rd d F.MEM_INJ_ARM = 1 ∧ rd d F.MEM_INJ_DONE = 0 ∧ rd d F.MEM_INJ_REFUSED = 0) ∧
    (bitsOf v.toNat 0 7 > 110 ∨ bitsOf v.toNat 8 3 = 6 → rd d F.MEM_INJ_REFUSED = 1 ∧ rd d F.MEM_INJ_ARM = rd s.dev F.MEM_INJ_ARM))) ∧
  (∀ s port v hard, Writes s port 0x7068 v → stageReady s.dev = true → bitOf v.toNat 31 = true → bitOf v.toNat 0 = hard →
    let row := (actW s.dev 0x7064).toNat
    let why := repairRefused s.dev hard row
    Gives (if hard then .hardRepair port v else .softRepair port v) s (fun d =>
      (why = 0 → rd d F.MEM_RPSTAT_BUSY = 1 ∧ d.mem.repair = some (row, b2n hard)) ∧
      (why ≠ 0 → rd d F.MEM_RPSTAT_CAUSE = why ∧ evtSet d 7 11 = true ∧ d.mem = s.dev.mem))) ∧
  ∀ s row, alive s.dev = true → s.dev.mem.repair = some (row, 0) → Gives .rpdone s (fun d => evtSet d 7 10 = true ∧
    rd d F.MEM_RPSTAT_BUSY = 0 ∧ d.mem.repair = none ∧ d.mem.soft = s.dev.mem.soft ++ [row] ∧
    rd d F.MEM_RPSTAT_SOFT = (s.dev.mem.soft.length + 1) % 256)

/-! ### Data mover -/

/-- R359, R360, R362, R368, R369, R372: a tail beyond the ring is ignored and recorded, else it is taken; EN is mvEnable, and is recorded
where the function does not serve; STOP is mvStop, and stops an idle channel at once; RESET of a stopped channel clears its head and
sum, of a running one is recorded; a fetched descriptor is captured in ring order, a completion takes the link and the cores in turn and
writes its result back to its entry, a barrier read lets its descriptor start. Choices of the model in it: log entries 91, 117, 118,
131. -/
def Obligations.DataMoverCommands : Prop :=
  (∀ s port ch v, ch < 32 → Writes s port (dmcOff ch 0x14) v →
    (ringLen s.dev ch ≤ v.toNat % 4096 → Gives (.dmcTailWrite port ch v) s (fun d => rd d F.DMV_REF_VALID = 1 ∧ rd d F.DMV_REF_CH = ch ∧
      rd d F.DMV_REF_WHY = 3 ∧ evtSet d 0x78 9 = true ∧ rd d (F.DMC_TAIL_TAIL ch) = rd s.dev (F.DMC_TAIL_TAIL ch))) ∧
    (v.toNat % 4096 < ringLen s.dev ch → Gives (.dmcTailWrite port ch v) s (fun d => rd d (F.DMC_TAIL_TAIL ch) = v.toNat % 4096 ∧
      (rdB s.dev (F.DMC_CTL_EN ch) = false ∨ mvState s.dev ch ≠ mvIDLE → ∀ o, o ≠ dmcOff ch 0x14 → actW d o = actW s.dev o)))) ∧
  (∀ s port ch v, ch < 32 → Writes s port (dmcOff ch 0) v →
    (bitOf v.toNat 0 = true → bitOf v.toNat 1 = false → bitOf v.toNat 2 = false → Gives (.dmcEnable port ch v) s (fun d => d = mvEnable s.dev ch ∧
      (fnEnabled s.dev (rd s.dev (F.DMC_FN_FNA ch)) = false → rd d F.DMV_REF_WHY = 1 ∧ evtSet d 0x78 9 = true ∧ mvState d ch = mvState s.dev ch))) ∧
    (bitOf v.toNat 2 = false → (bitOf v.toNat 1 = true ∨ bitOf v.toNat 0 = false) → Gives (.dmcStop port ch v) s (fun d => d = mvStop s.dev ch 1 ∧
      (mvState s.dev ch = mvIDLE → (movOf s.dev ch).cap = [] → mvState d ch = mvSTOPPED ∧ rd d (F.DMC_STAT_SCAUSE ch) = 1 ∧
        rd d (F.DMC_CTL_EN ch) = 0))) ∧
    (bitOf v.toNat 2 = true → bitOf v.toNat 1 = false → bitOf v.toNat 0 = false → Gives (.dmcReset port ch v) s (fun d =>
      (mvState s.dev ch ∈ [mvOFF, mvSTOPPED, mvDETACHED] → rd d (F.DMC_STAT_HEAD ch) = 0 ∧ rd64 d (F.DMC_CSUM ch) = 0 ∧
        movOf d ch = {}) ∧
      (mvState s.dev ch ∉ [mvOFF, mvSTOPPED, mvDETACHED] → rd d F.DMV_REF_WHY = 4 ∧ evtSet d 0x78 9 = true)))) ∧
  (∀ s ch words iv, let v := voteAll s.dev
    running v = true → ch < 32 → mvState v ch = mvRUN ∨ mvState v ch = mvWAIT → (movOf v ch).stopping = none →
    (movOf v ch).cap.length ≤ 8 → rd v (F.DMC_STAT_HEAD ch) ≠ rd v (F.DMC_TAIL_TAIL ch) → words ≠ [] →
    Gives (.descriptorFetched ch words iv) s (fun d => rd d (F.DMC_STAT_HEAD ch) = (rd v (F.DMC_STAT_HEAD ch) + 1) % ringLen v ch ∧
      let c : DescCap := { idx := rd v (F.DMC_STAT_HEAD ch), words := words, iv := iv, bad := (descBad ch words).1, sub := (descBad ch words).2,
                           clear := !dBar words || (!(movOf v ch).dirty && (movOf v ch).cap.isEmpty) }
      (movOf d ch).cap = (movOf v ch).cap ++ [c])) ∧
  (∀ s ch res c rest, let v := voteAll s.dev
    running v = true → ch < 32 → (movOf v ch).cap = c :: rest → c.clear = true →
    dataFits c.words (descEnd v ch (movOf v ch) c res) res = true → channelTurn v ch c = true →
    let take := fun (d : Dev) => if descReads c then rrServed d (descLink v ch c) (512 + ch) else d
    let d2 := mvComplete (take (coreTake v 3 1)) ch c rest res
    (descCiphers v ch c = false → Gives (.descriptorComplete ch res) s (fun d => d = mvComplete (take v) ch c rest res)) ∧
    (descCiphers v ch c = true → serviceOpen v = true → coreTurn v 3 1 = true → Gives (.descriptorComplete ch res) s (fun d =>
      d = coreServed { d2 with cmds := { d2.cmds with service := d2.cmds.service - (dCount c.words : Nat) } }))) ∧
  (∀ d ch c rest r, ch < 32 → r.wbOk = true → let e := descEnd d ch (movOf d ch) c r
    Output.memWrite (rd d (F.DMC_FN_FNA ch)) (entryAddr d ch c.idx) [BitVec.ofNat 32
      (bitsOf (dN c.words 0) 0 20 + 2 ^ 28 * bitsOf (dN c.words 0) 28 3 + 2 ^ 24 * e.status + 2 ^ 20 * e.cause)] ∈ (mvComplete d ch c rest r).out) ∧
  ∀ s ch cause c rest, running s.dev = true → ch < 32 → (movOf s.dev ch).cap = c :: rest → c.clear = false → cause ≤ 4 →
    Gives (.barrierReadComplete ch cause) s (fun d =>
      (cause = 0 → (movOf d ch).cap = { c with clear := true } :: rest ∧ (movOf d ch).dirty = false ∧ mvState d ch = mvRUN) ∧
      (cause ≠ 0 → d = mvComplete s.dev ch { c with bad := 10, sub := cause } rest ⟨0, 0, 0, 0, none, [], true⟩))

/-! ### Look-ups, SMBus, TAP -/

/-- R224, R261, R325, R437, R466: a map look-up shows the entry of the block MAP_QSEL names; LDPC_STAT.CLR clears every counter and bin; the
energy hold takes its value; each SMBus block read sends the words of its command, a register read the word at the offset last set; the
alert response answers while ALERT# is low; the TAP shifts out the identity or the bypass bit. Choices of the model in it: log entries
18, 19, 20, 25. -/
def Obligations.LookupsAndSideBuses : Prop :=
  (∀ s port v, Writes s port 0x20064 v → Gives (.mapLookup port v) s (fun d =>
    let q := rd64 d F.MAP_QSEL
    let e := mapEnt s.dev.med.m (courseKey (bitsOf q 48 6) (bitsOf q 0 48 / 256))
    bitsOf q 32 22 = bitsOf v.toNat 0 22 ∧ rd64 d F.MAP_QENT = entWord e % 2 ^ 64 ∧ d.med = s.dev.med)) ∧
  (∀ s port, Writes s port 0x2804C 0x100 → Gives (.ldpcCounterClear port) s (fun d => ∀ i, i < 15 → actW d (0x28050 + 4 * i) = 0)) ∧
  (∀ s port v r, Writes s port 0x5040 v → regRow? 0x5040 = some r → let g := storeWord s.dev 0x5040 r v
    rd g F.PFL_EHOLD_MJ = v.toNat % 2 ^ 20 ∧
    Gives (.pflEholdWrite port v) s (fun d => d = eholdWritten g ∧ (accepted s.dev = false → d = g))) ∧
  (∀ s, s.dev.sys.aon = true →
    Gives .smbusReadStatus s (fun d => d = emit s.dev (.smbus (smbBytes [actW s.dev 0x144, actW s.dev 0x1040, actW s.dev 0x84, actW s.dev 0x2078]))) ∧
    Gives .smbusReadTemperature s (fun d => d = emit s.dev (.smbus (smbBytes [actW s.dev 0x4068, actW s.dev 0x406C]))) ∧
    Gives .smbusReadSensors s (fun d => d = emit s.dev (.smbus (smbBytes ((List.range 10).map (fun n => actW s.dev (0x4040 + 4 * n)))))) ∧
    Gives .smbusReadPower s (fun d => d = emit s.dev (.smbus (smbBytes
      [BitVec.ofNat 32 s.dev.admin.aonPower, actW s.dev 0x2050, actW s.dev 0x2054]))) ∧
    Gives .smbusReadIdentity s (fun d => d = emit s.dev (.smbus (smbBytes [actW s.dev 0x604C, actW s.dev 0x148, actW s.dev 0x40,
      if stageReady s.dev then BitVec.ofNat 32 s.dev.upd.aonVer else 0]))) ∧
    (∀ b0 b1 b2 b3, b0 < 256 → b1 < 256 → b2 < 256 → b3 < 256 → Gives (.smbusSetOffset [b0, b1, b2, b3]) s (fun d =>
      d = { s.dev with sys := { s.dev.sys with smbOff := b0 + 2 ^ 8 * b1 + 2 ^ 16 * b2 + 2 ^ 24 * b3 } })) ∧
    (∀ t, s.dev.hub.stalled = [] → Gives (.smbusReadRegister t) s (fun d => d =
      let x := smbusReg s.dev s.dev.sys.smbOff t
      emit x.2 (.smbus (smbBytes [x.1])))) ∧
    (s.dev.sys.alertLow = true → Gives .smbusAlertResponse s (fun d => d = emit s.dev (.smbus [0x60 + rd s.dev F.GLB_STRAP_SMB_ADDR])))) ∧
  ∀ s ir, s.dev.sys.pwrgd = true → Gives (.tapInstruction ir) s (fun d => d.sys.tapIr = tapEffect s.dev ir ∧ (∀ o, actW d o = actW s.dev o) ∧
    (tapEffect s.dev ir = .idcode → d.out = .tdo (idcode s.dev) :: s.dev.out) ∧
    (tapEffect s.dev ir = .bypass → d.out = .tdo 0 :: s.dev.out) ∧
    (s.dev.sys.testEn = false → ir ≠ .idcode → ir ≠ .samplePreload → tapEffect s.dev ir = .bypass))
end

