-- ==== Sys2Proof/Decode.lean ====
section
/-!
DEFINITION. Words of the operation and event table: the table gives no row any bits, so no word spells a command.
-/
namespace Sys2Proof

/-- The command a word spells by the table's bits: none, for no row of spec/opcode_table.json has bits. [log entry 5 DESIGN CHOICE] -/
def decodeTableWord (_nbits _w : Nat) : Option Instr := none

end Sys2Proof
end

