-- ==== Sys2Proof/Laws/State.lean ====
section
/-!
SUPPORT. One lemma for each field of the device under each named update: what the update leaves as it was.
-/
namespace Sys2Proof.Machine

@[simp] theorem setActW_sys (d : Dev) (o : Nat) (w : Word) : (setActW d o w).sys = d.sys := rfl
@[simp] theorem setActW_pci (d : Dev) (o : Nat) (w : Word) : (setActW d o w).pci = d.pci := rfl
@[simp] theorem setActW_seats (d : Dev) (o : Nat) (w : Word) : (setActW d o w).seats = d.seats := rfl
@[simp] theorem setActW_cmds (d : Dev) (o : Nat) (w : Word) : (setActW d o w).cmds = d.cmds := rfl
@[simp] theorem setActW_log (d : Dev) (o : Nat) (w : Word) : (setActW d o w).log = d.log := rfl
@[simp] theorem setActW_adm (d : Dev) (o : Nat) (w : Word) : (setActW d o w).adm = d.adm := rfl
@[simp] theorem setActW_med (d : Dev) (o : Nat) (w : Word) : (setActW d o w).med = d.med := rfl
@[simp] theorem setActW_chn (d : Dev) (o : Nat) (w : Word) : (setActW d o w).chn = d.chn := rfl
@[simp] theorem setActW_cox (d : Dev) (o : Nat) (w : Word) : (setActW d o w).cox = d.cox := rfl
@[simp] theorem setActW_stk (d : Dev) (o : Nat) (w : Word) : (setActW d o w).stk = d.stk := rfl
@[simp] theorem setActW_trace (d : Dev) (o : Nat) (w : Word) : (setActW d o w).trace = d.trace := rfl
@[simp] theorem setActW_keys (d : Dev) (o : Nat) (w : Word) : (setActW d o w).keys = d.keys := rfl
@[simp] theorem setActW_mover (d : Dev) (o : Nat) (w : Word) : (setActW d o w).mover = d.mover := rfl
@[simp] theorem setActW_mem (d : Dev) (o : Nat) (w : Word) : (setActW d o w).mem = d.mem := rfl
@[simp] theorem setActW_array (d : Dev) (o : Nat) (w : Word) : (setActW d o w).array = d.array := rfl
@[simp] theorem setActW_upd (d : Dev) (o : Nat) (w : Word) : (setActW d o w).upd = d.upd := rfl
@[simp] theorem setActW_admin (d : Dev) (o : Nat) (w : Word) : (setActW d o w).admin = d.admin := rfl
@[simp] theorem setActW_out (d : Dev) (o : Nat) (w : Word) : (setActW d o w).out = d.out := rfl
@[simp] theorem setActW_free (d : Dev) (o : Nat) (w : Word) : (setActW d o w).free = d.free := rfl
@[simp] theorem setActW_hub_shd (d : Dev) (o : Nat) (w : Word) : (setActW d o w).hub.shd = d.hub.shd := rfl
@[simp] theorem setActW_hub_hdr (d : Dev) (o : Nat) (w : Word) : (setActW d o w).hub.hdr = d.hub.hdr := rfl
@[simp] theorem setActW_hub_latch (d : Dev) (o : Nat) (w : Word) : (setActW d o w).hub.latch = d.hub.latch := rfl
@[simp] theorem setActW_hub_held (d : Dev) (o : Nat) (w : Word) : (setActW d o w).hub.held = d.hub.held := rfl
@[simp] theorem setActW_hub_woTaken (d : Dev) (o : Nat) (w : Word) : (setActW d o w).hub.woTaken = d.hub.woTaken := rfl
@[simp] theorem setActW_hub_stalled (d : Dev) (o : Nat) (w : Word) : (setActW d o w).hub.stalled = d.hub.stalled := rfl
@[simp] theorem setActW_hub_snapShd (d : Dev) (o : Nat) (w : Word) : (setActW d o w).hub.snapShd = d.hub.snapShd := rfl
@[simp] theorem setActW_hub_snapSum (d : Dev) (o : Nat) (w : Word) : (setActW d o w).hub.snapSum = d.hub.snapSum := rfl
@[simp] theorem setActW_hub_snapEhold (d : Dev) (o : Nat) (w : Word) : (setActW d o w).hub.snapEhold = d.hub.snapEhold := rfl
@[simp] theorem setActW_hub_snapLock (d : Dev) (o : Nat) (w : Word) : (setActW d o w).hub.snapLock = d.hub.snapLock := rfl
@[simp] theorem setActW_hub_safeMode (d : Dev) (o : Nat) (w : Word) : (setActW d o w).hub.safeMode = d.hub.safeMode := rfl
@[simp] theorem setActW_hub_tv (d : Dev) (o : Nat) (w : Word) : (setActW d o w).hub.tv = d.hub.tv := rfl
@[simp] theorem setShdW_sys (d : Dev) (o : Nat) (w : Word) : (setShdW d o w).sys = d.sys := rfl
@[simp] theorem setShdW_pci (d : Dev) (o : Nat) (w : Word) : (setShdW d o w).pci = d.pci := rfl
@[simp] theorem setShdW_seats (d : Dev) (o : Nat) (w : Word) : (setShdW d o w).seats = d.seats := rfl
@[simp] theorem setShdW_cmds (d : Dev) (o : Nat) (w : Word) : (setShdW d o w).cmds = d.cmds := rfl
@[simp] theorem setShdW_log (d : Dev) (o : Nat) (w : Word) : (setShdW d o w).log = d.log := rfl
@[simp] theorem setShdW_adm (d : Dev) (o : Nat) (w : Word) : (setShdW d o w).adm = d.adm := rfl
@[simp] theorem setShdW_med (d : Dev) (o : Nat) (w : Word) : (setShdW d o w).med = d.med := rfl
@[simp] theorem setShdW_chn (d : Dev) (o : Nat) (w : Word) : (setShdW d o w).chn = d.chn := rfl
@[simp] theorem setShdW_cox (d : Dev) (o : Nat) (w : Word) : (setShdW d o w).cox = d.cox := rfl
@[simp] theorem setShdW_stk (d : Dev) (o : Nat) (w : Word) : (setShdW d o w).stk = d.stk := rfl
@[simp] theorem setShdW_trace (d : Dev) (o : Nat) (w : Word) : (setShdW d o w).trace = d.trace := rfl
@[simp] theorem setShdW_keys (d : Dev) (o : Nat) (w : Word) : (setShdW d o w).keys = d.keys := rfl
@[simp] theorem setShdW_mover (d : Dev) (o : Nat) (w : Word) : (setShdW d o w).mover = d.mover := rfl
@[simp] theorem setShdW_mem (d : Dev) (o : Nat) (w : Word) : (setShdW d o w).mem = d.mem := rfl
@[simp] theorem setShdW_array (d : Dev) (o : Nat) (w : Word) : (setShdW d o w).array = d.array := rfl
@[simp] theorem setShdW_upd (d : Dev) (o : Nat) (w : Word) : (setShdW d o w).upd = d.upd := rfl
@[simp] theorem setShdW_admin (d : Dev) (o : Nat) (w : Word) : (setShdW d o w).admin = d.admin := rfl
@[simp] theorem setShdW_out (d : Dev) (o : Nat) (w : Word) : (setShdW d o w).out = d.out := rfl
@[simp] theorem setShdW_free (d : Dev) (o : Nat) (w : Word) : (setShdW d o w).free = d.free := rfl
@[simp] theorem setShdW_hub_act (d : Dev) (o : Nat) (w : Word) : (setShdW d o w).hub.act = d.hub.act := rfl
@[simp] theorem setShdW_hub_hdr (d : Dev) (o : Nat) (w : Word) : (setShdW d o w).hub.hdr = d.hub.hdr := rfl
@[simp] theorem setShdW_hub_latch (d : Dev) (o : Nat) (w : Word) : (setShdW d o w).hub.latch = d.hub.latch := rfl
@[simp] theorem setShdW_hub_held (d : Dev) (o : Nat) (w : Word) : (setShdW d o w).hub.held = d.hub.held := rfl
@[simp] theorem setShdW_hub_woTaken (d : Dev) (o : Nat) (w : Word) : (setShdW d o w).hub.woTaken = d.hub.woTaken := rfl
@[simp] theorem setShdW_hub_stalled (d : Dev) (o : Nat) (w : Word) : (setShdW d o w).hub.stalled = d.hub.stalled := rfl
@[simp] theorem setShdW_hub_snapShd (d : Dev) (o : Nat) (w : Word) : (setShdW d o w).hub.snapShd = d.hub.snapShd := rfl
@[simp] theorem setShdW_hub_snapSum (d : Dev) (o : Nat) (w : Word) : (setShdW d o w).hub.snapSum = d.hub.snapSum := rfl
@[simp] theorem setShdW_hub_snapEhold (d : Dev) (o : Nat) (w : Word) : (setShdW d o w).hub.snapEhold = d.hub.snapEhold := rfl
@[simp] theorem setShdW_hub_snapLock (d : Dev) (o : Nat) (w : Word) : (setShdW d o w).hub.snapLock = d.hub.snapLock := rfl
@[simp] theorem setShdW_hub_safeMode (d : Dev) (o : Nat) (w : Word) : (setShdW d o w).hub.safeMode = d.hub.safeMode := rfl
@[simp] theorem setShdW_hub_tv (d : Dev) (o : Nat) (w : Word) : (setShdW d o w).hub.tv = d.hub.tv := rfl
@[simp] theorem setHdr_sys (d : Dev) (p : Nat) (h : PageHdr) : (setHdr d p h).sys = d.sys := rfl
@[simp] theorem setHdr_pci (d : Dev) (p : Nat) (h : PageHdr) : (setHdr d p h).pci = d.pci := rfl
@[simp] theorem setHdr_seats (d : Dev) (p : Nat) (h : PageHdr) : (setHdr d p h).seats = d.seats := rfl
@[simp] theorem setHdr_cmds (d : Dev) (p : Nat) (h : PageHdr) : (setHdr d p h).cmds = d.cmds := rfl
@[simp] theorem setHdr_log (d : Dev) (p : Nat) (h : PageHdr) : (setHdr d p h).log = d.log := rfl
@[simp] theorem setHdr_adm (d : Dev) (p : Nat) (h : PageHdr) : (setHdr d p h).adm = d.adm := rfl
@[simp] theorem setHdr_med (d : Dev) (p : Nat) (h : PageHdr) : (setHdr d p h).med = d.med := rfl
@[simp] theorem setHdr_chn (d : Dev) (p : Nat) (h : PageHdr) : (setHdr d p h).chn = d.chn := rfl
@[simp] theorem setHdr_cox (d : Dev) (p : Nat) (h : PageHdr) : (setHdr d p h).cox = d.cox := rfl
@[simp] theorem setHdr_stk (d : Dev) (p : Nat) (h : PageHdr) : (setHdr d p h).stk = d.stk := rfl
@[simp] theorem setHdr_trace (d : Dev) (p : Nat) (h : PageHdr) : (setHdr d p h).trace = d.trace := rfl
@[simp] theorem setHdr_keys (d : Dev) (p : Nat) (h : PageHdr) : (setHdr d p h).keys = d.keys := rfl
@[simp] theorem setHdr_mover (d : Dev) (p : Nat) (h : PageHdr) : (setHdr d p h).mover = d.mover := rfl
@[simp] theorem setHdr_mem (d : Dev) (p : Nat) (h : PageHdr) : (setHdr d p h).mem = d.mem := rfl
@[simp] theorem setHdr_array (d : Dev) (p : Nat) (h : PageHdr) : (setHdr d p h).array = d.array := rfl
@[simp] theorem setHdr_upd (d : Dev) (p : Nat) (h : PageHdr) : (setHdr d p h).upd = d.upd := rfl
@[simp] theorem setHdr_admin (d : Dev) (p : Nat) (h : PageHdr) : (setHdr d p h).admin = d.admin := rfl
@[simp] theorem setHdr_out (d : Dev) (p : Nat) (h : PageHdr) : (setHdr d p h).out = d.out := rfl
@[simp] theorem setHdr_free (d : Dev) (p : Nat) (h : PageHdr) : (setHdr d p h).free = d.free := rfl
@[simp] theorem setHdr_hub_act (d : Dev) (p : Nat) (h : PageHdr) : (setHdr d p h).hub.act = d.hub.act := rfl
@[simp] theorem setHdr_hub_shd (d : Dev) (p : Nat) (h : PageHdr) : (setHdr d p h).hub.shd = d.hub.shd := rfl
@[simp] theorem setHdr_hub_latch (d : Dev) (p : Nat) (h : PageHdr) : (setHdr d p h).hub.latch = d.hub.latch := rfl
@[simp] theorem setHdr_hub_held (d : Dev) (p : Nat) (h : PageHdr) : (setHdr d p h).hub.held = d.hub.held := rfl
@[simp] theorem setHdr_hub_woTaken (d : Dev) (p : Nat) (h : PageHdr) : (setHdr d p h).hub.woTaken = d.hub.woTaken := rfl
@[simp] theorem setHdr_hub_stalled (d : Dev) (p : Nat) (h : PageHdr) : (setHdr d p h).hub.stalled = d.hub.stalled := rfl
@[simp] theorem setHdr_hub_snapShd (d : Dev) (p : Nat) (h : PageHdr) : (setHdr d p h).hub.snapShd = d.hub.snapShd := rfl
@[simp] theorem setHdr_hub_snapSum (d : Dev) (p : Nat) (h : PageHdr) : (setHdr d p h).hub.snapSum = d.hub.snapSum := rfl
@[simp] theorem setHdr_hub_snapEhold (d : Dev) (p : Nat) (h : PageHdr) : (setHdr d p h).hub.snapEhold = d.hub.snapEhold := rfl
@[simp] theorem setHdr_hub_snapLock (d : Dev) (p : Nat) (h : PageHdr) : (setHdr d p h).hub.snapLock = d.hub.snapLock := rfl
@[simp] theorem setHdr_hub_safeMode (d : Dev) (p : Nat) (h : PageHdr) : (setHdr d p h).hub.safeMode = d.hub.safeMode := rfl
@[simp] theorem setHdr_hub_tv (d : Dev) (p : Nat) (h : PageHdr) : (setHdr d p h).hub.tv = d.hub.tv := rfl
@[simp] theorem wr_sys (d : Dev) (f : Fld) (v : Nat) : (wr d f v).sys = d.sys := rfl
@[simp] theorem wr_pci (d : Dev) (f : Fld) (v : Nat) : (wr d f v).pci = d.pci := rfl
@[simp] theorem wr_seats (d : Dev) (f : Fld) (v : Nat) : (wr d f v).seats = d.seats := rfl
@[simp] theorem wr_cmds (d : Dev) (f : Fld) (v : Nat) : (wr d f v).cmds = d.cmds := rfl
@[simp] theorem wr_log (d : Dev) (f : Fld) (v : Nat) : (wr d f v).log = d.log := rfl
@[simp] theorem wr_adm (d : Dev) (f : Fld) (v : Nat) : (wr d f v).adm = d.adm := rfl
@[simp] theorem wr_med (d : Dev) (f : Fld) (v : Nat) : (wr d f v).med = d.med := rfl
@[simp] theorem wr_chn (d : Dev) (f : Fld) (v : Nat) : (wr d f v).chn = d.chn := rfl
@[simp] theorem wr_cox (d : Dev) (f : Fld) (v : Nat) : (wr d f v).cox = d.cox := rfl
@[simp] theorem wr_stk (d : Dev) (f : Fld) (v : Nat) : (wr d f v).stk = d.stk := rfl
@[simp] theorem wr_trace (d : Dev) (f : Fld) (v : Nat) : (wr d f v).trace = d.trace := rfl
@[simp] theorem wr_keys (d : Dev) (f : Fld) (v : Nat) : (wr d f v).keys = d.keys := rfl
@[simp] theorem wr_mover (d : Dev) (f : Fld) (v : Nat) : (wr d f v).mover = d.mover := rfl
@[simp] theorem wr_mem (d : Dev) (f : Fld) (v : Nat) : (wr d f v).mem = d.mem := rfl
@[simp] theorem wr_array (d : Dev) (f : Fld) (v : Nat) : (wr d f v).array = d.array := rfl
@[simp] theorem wr_upd (d : Dev) (f : Fld) (v : Nat) : (wr d f v).upd = d.upd := rfl
@[simp] theorem wr_admin (d : Dev) (f : Fld) (v : Nat) : (wr d f v).admin = d.admin := rfl
@[simp] theorem wr_out (d : Dev) (f : Fld) (v : Nat) : (wr d f v).out = d.out := rfl
@[simp] theorem wr_free (d : Dev) (f : Fld) (v : Nat) : (wr d f v).free = d.free := rfl
@[simp] theorem wr_hub_shd (d : Dev) (f : Fld) (v : Nat) : (wr d f v).hub.shd = d.hub.shd := rfl
@[simp] theorem wr_hub_hdr (d : Dev) (f : Fld) (v : Nat) : (wr d f v).hub.hdr = d.hub.hdr := rfl
@[simp] theorem wr_hub_latch (d : Dev) (f : Fld) (v : Nat) : (wr d f v).hub.latch = d.hub.latch := rfl
@[simp] theorem wr_hub_held (d : Dev) (f : Fld) (v : Nat) : (wr d f v).hub.held = d.hub.held := rfl
@[simp] theorem wr_hub_woTaken (d : Dev) (f : Fld) (v : Nat) : (wr d f v).hub.woTaken = d.hub.woTaken := rfl
@[simp] theorem wr_hub_stalled (d : Dev) (f : Fld) (v : Nat) : (wr d f v).hub.stalled = d.hub.stalled := rfl
@[simp] theorem wr_hub_snapShd (d : Dev) (f : Fld) (v : Nat) : (wr d f v).hub.snapShd = d.hub.snapShd := rfl
@[simp] theorem wr_hub_snapSum (d : Dev) (f : Fld) (v : Nat) : (wr d f v).hub.snapSum = d.hub.snapSum := rfl
@[simp] theorem wr_hub_snapEhold (d : Dev) (f : Fld) (v : Nat) : (wr d f v).hub.snapEhold = d.hub.snapEhold := rfl
@[simp] theorem wr_hub_snapLock (d : Dev) (f : Fld) (v : Nat) : (wr d f v).hub.snapLock = d.hub.snapLock := rfl
@[simp] theorem wr_hub_safeMode (d : Dev) (f : Fld) (v : Nat) : (wr d f v).hub.safeMode = d.hub.safeMode := rfl
@[simp] theorem wr_hub_tv (d : Dev) (f : Fld) (v : Nat) : (wr d f v).hub.tv = d.hub.tv := rfl
@[simp] theorem wrShd_sys (d : Dev) (f : Fld) (v : Nat) : (wrShd d f v).sys = d.sys := rfl
@[simp] theorem wrShd_pci (d : Dev) (f : Fld) (v : Nat) : (wrShd d f v).pci = d.pci := rfl
@[simp] theorem wrShd_seats (d : Dev) (f : Fld) (v : Nat) : (wrShd d f v).seats = d.seats := rfl
@[simp] theorem wrShd_cmds (d : Dev) (f : Fld) (v : Nat) : (wrShd d f v).cmds = d.cmds := rfl
@[simp] theorem wrShd_log (d : Dev) (f : Fld) (v : Nat) : (wrShd d f v).log = d.log := rfl
@[simp] theorem wrShd_adm (d : Dev) (f : Fld) (v : Nat) : (wrShd d f v).adm = d.adm := rfl
@[simp] theorem wrShd_med (d : Dev) (f : Fld) (v : Nat) : (wrShd d f v).med = d.med := rfl
@[simp] theorem wrShd_chn (d : Dev) (f : Fld) (v : Nat) : (wrShd d f v).chn = d.chn := rfl
@[simp] theorem wrShd_cox (d : Dev) (f : Fld) (v : Nat) : (wrShd d f v).cox = d.cox := rfl
@[simp] theorem wrShd_stk (d : Dev) (f : Fld) (v : Nat) : (wrShd d f v).stk = d.stk := rfl
@[simp] theorem wrShd_trace (d : Dev) (f : Fld) (v : Nat) : (wrShd d f v).trace = d.trace := rfl
@[simp] theorem wrShd_keys (d : Dev) (f : Fld) (v : Nat) : (wrShd d f v).keys = d.keys := rfl
@[simp] theorem wrShd_mover (d : Dev) (f : Fld) (v : Nat) : (wrShd d f v).mover = d.mover := rfl
@[simp] theorem wrShd_mem (d : Dev) (f : Fld) (v : Nat) : (wrShd d f v).mem = d.mem := rfl
@[simp] theorem wrShd_array (d : Dev) (f : Fld) (v : Nat) : (wrShd d f v).array = d.array := rfl
@[simp] theorem wrShd_upd (d : Dev) (f : Fld) (v : Nat) : (wrShd d f v).upd = d.upd := rfl
@[simp] theorem wrShd_admin (d : Dev) (f : Fld) (v : Nat) : (wrShd d f v).admin = d.admin := rfl
@[simp] theorem wrShd_out (d : Dev) (f : Fld) (v : Nat) : (wrShd d f v).out = d.out := rfl
@[simp] theorem wrShd_free (d : Dev) (f : Fld) (v : Nat) : (wrShd d f v).free = d.free := rfl
@[simp] theorem wrShd_hub_act (d : Dev) (f : Fld) (v : Nat) : (wrShd d f v).hub.act = d.hub.act := rfl
@[simp] theorem wrShd_hub_hdr (d : Dev) (f : Fld) (v : Nat) : (wrShd d f v).hub.hdr = d.hub.hdr := rfl
@[simp] theorem wrShd_hub_latch (d : Dev) (f : Fld) (v : Nat) : (wrShd d f v).hub.latch = d.hub.latch := rfl
@[simp] theorem wrShd_hub_held (d : Dev) (f : Fld) (v : Nat) : (wrShd d f v).hub.held = d.hub.held := rfl
@[simp] theorem wrShd_hub_woTaken (d : Dev) (f : Fld) (v : Nat) : (wrShd d f v).hub.woTaken = d.hub.woTaken := rfl
@[simp] theorem wrShd_hub_stalled (d : Dev) (f : Fld) (v : Nat) : (wrShd d f v).hub.stalled = d.hub.stalled := rfl
@[simp] theorem wrShd_hub_snapShd (d : Dev) (f : Fld) (v : Nat) : (wrShd d f v).hub.snapShd = d.hub.snapShd := rfl
@[simp] theorem wrShd_hub_snapSum (d : Dev) (f : Fld) (v : Nat) : (wrShd d f v).hub.snapSum = d.hub.snapSum := rfl
@[simp] theorem wrShd_hub_snapEhold (d : Dev) (f : Fld) (v : Nat) : (wrShd d f v).hub.snapEhold = d.hub.snapEhold := rfl
@[simp] theorem wrShd_hub_snapLock (d : Dev) (f : Fld) (v : Nat) : (wrShd d f v).hub.snapLock = d.hub.snapLock := rfl
@[simp] theorem wrShd_hub_safeMode (d : Dev) (f : Fld) (v : Nat) : (wrShd d f v).hub.safeMode = d.hub.safeMode := rfl
@[simp] theorem wrShd_hub_tv (d : Dev) (f : Fld) (v : Nat) : (wrShd d f v).hub.tv = d.hub.tv := rfl
@[simp] theorem wr64_sys (d : Dev) (o v : Nat) : (wr64 d o v).sys = d.sys := rfl
@[simp] theorem wr64_pci (d : Dev) (o v : Nat) : (wr64 d o v).pci = d.pci := rfl
@[simp] theorem wr64_seats (d : Dev) (o v : Nat) : (wr64 d o v).seats = d.seats := rfl
@[simp] theorem wr64_cmds (d : Dev) (o v : Nat) : (wr64 d o v).cmds = d.cmds := rfl
@[simp] theorem wr64_log (d : Dev) (o v : Nat) : (wr64 d o v).log = d.log := rfl
@[simp] theorem wr64_adm (d : Dev) (o v : Nat) : (wr64 d o v).adm = d.adm := rfl
@[simp] theorem wr64_med (d : Dev) (o v : Nat) : (wr64 d o v).med = d.med := rfl
@[simp] theorem wr64_chn (d : Dev) (o v : Nat) : (wr64 d o v).chn = d.chn := rfl
@[simp] theorem wr64_cox (d : Dev) (o v : Nat) : (wr64 d o v).cox = d.cox := rfl
@[simp] theorem wr64_stk (d : Dev) (o v : Nat) : (wr64 d o v).stk = d.stk := rfl
@[simp] theorem wr64_trace (d : Dev) (o v : Nat) : (wr64 d o v).trace = d.trace := rfl
@[simp] theorem wr64_keys (d : Dev) (o v : Nat) : (wr64 d o v).keys = d.keys := rfl
@[simp] theorem wr64_mover (d : Dev) (o v : Nat) : (wr64 d o v).mover = d.mover := rfl
@[simp] theorem wr64_mem (d : Dev) (o v : Nat) : (wr64 d o v).mem = d.mem := rfl
@[simp] theorem wr64_array (d : Dev) (o v : Nat) : (wr64 d o v).array = d.array := rfl
@[simp] theorem wr64_upd (d : Dev) (o v : Nat) : (wr64 d o v).upd = d.upd := rfl
@[simp] theorem wr64_admin (d : Dev) (o v : Nat) : (wr64 d o v).admin = d.admin := rfl
@[simp] theorem wr64_out (d : Dev) (o v : Nat) : (wr64 d o v).out = d.out := rfl
@[simp] theorem wr64_free (d : Dev) (o v : Nat) : (wr64 d o v).free = d.free := rfl
@[simp] theorem wr64_hub_shd (d : Dev) (o v : Nat) : (wr64 d o v).hub.shd = d.hub.shd := rfl
@[simp] theorem wr64_hub_hdr (d : Dev) (o v : Nat) : (wr64 d o v).hub.hdr = d.hub.hdr := rfl
@[simp] theorem wr64_hub_latch (d : Dev) (o v : Nat) : (wr64 d o v).hub.latch = d.hub.latch := rfl
@[simp] theorem wr64_hub_held (d : Dev) (o v : Nat) : (wr64 d o v).hub.held = d.hub.held := rfl
@[simp] theorem wr64_hub_woTaken (d : Dev) (o v : Nat) : (wr64 d o v).hub.woTaken = d.hub.woTaken := rfl
@[simp] theorem wr64_hub_stalled (d : Dev) (o v : Nat) : (wr64 d o v).hub.stalled = d.hub.stalled := rfl
@[simp] theorem wr64_hub_snapShd (d : Dev) (o v : Nat) : (wr64 d o v).hub.snapShd = d.hub.snapShd := rfl
@[simp] theorem wr64_hub_snapSum (d : Dev) (o v : Nat) : (wr64 d o v).hub.snapSum = d.hub.snapSum := rfl
@[simp] theorem wr64_hub_snapEhold (d : Dev) (o v : Nat) : (wr64 d o v).hub.snapEhold = d.hub.snapEhold := rfl
@[simp] theorem wr64_hub_snapLock (d : Dev) (o v : Nat) : (wr64 d o v).hub.snapLock = d.hub.snapLock := rfl
@[simp] theorem wr64_hub_safeMode (d : Dev) (o v : Nat) : (wr64 d o v).hub.safeMode = d.hub.safeMode := rfl
@[simp] theorem setRaw_sys (d : Dev) (p : Nat) (w : Word) : (setRaw d p w).sys = d.sys := rfl
@[simp] theorem setRaw_pci (d : Dev) (p : Nat) (w : Word) : (setRaw d p w).pci = d.pci := rfl
@[simp] theorem setRaw_seats (d : Dev) (p : Nat) (w : Word) : (setRaw d p w).seats = d.seats := rfl
@[simp] theorem setRaw_cmds (d : Dev) (p : Nat) (w : Word) : (setRaw d p w).cmds = d.cmds := rfl
@[simp] theorem setRaw_log (d : Dev) (p : Nat) (w : Word) : (setRaw d p w).log = d.log := rfl
@[simp] theorem setRaw_adm (d : Dev) (p : Nat) (w : Word) : (setRaw d p w).adm = d.adm := rfl
@[simp] theorem setRaw_med (d : Dev) (p : Nat) (w : Word) : (setRaw d p w).med = d.med := rfl
@[simp] theorem setRaw_chn (d : Dev) (p : Nat) (w : Word) : (setRaw d p w).chn = d.chn := rfl
@[simp] theorem setRaw_cox (d : Dev) (p : Nat) (w : Word) : (setRaw d p w).cox = d.cox := rfl
@[simp] theorem setRaw_stk (d : Dev) (p : Nat) (w : Word) : (setRaw d p w).stk = d.stk := rfl
@[simp] theorem setRaw_trace (d : Dev) (p : Nat) (w : Word) : (setRaw d p w).trace = d.trace := rfl
@[simp] theorem setRaw_keys (d : Dev) (p : Nat) (w : Word) : (setRaw d p w).keys = d.keys := rfl
@[simp] theorem setRaw_mover (d : Dev) (p : Nat) (w : Word) : (setRaw d p w).mover = d.mover := rfl
@[simp] theorem setRaw_mem (d : Dev) (p : Nat) (w : Word) : (setRaw d p w).mem = d.mem := rfl
@[simp] theorem setRaw_array (d : Dev) (p : Nat) (w : Word) : (setRaw d p w).array = d.array := rfl
@[simp] theorem setRaw_upd (d : Dev) (p : Nat) (w : Word) : (setRaw d p w).upd = d.upd := rfl
@[simp] theorem setRaw_admin (d : Dev) (p : Nat) (w : Word) : (setRaw d p w).admin = d.admin := rfl
@[simp] theorem setRaw_out (d : Dev) (p : Nat) (w : Word) : (setRaw d p w).out = d.out := rfl
@[simp] theorem setRaw_free (d : Dev) (p : Nat) (w : Word) : (setRaw d p w).free = d.free := rfl
@[simp] theorem setRaw_hub_act (d : Dev) (p : Nat) (w : Word) : (setRaw d p w).hub.act = d.hub.act := rfl
@[simp] theorem setRaw_hub_shd (d : Dev) (p : Nat) (w : Word) : (setRaw d p w).hub.shd = d.hub.shd := rfl
@[simp] theorem setRaw_hub_latch (d : Dev) (p : Nat) (w : Word) : (setRaw d p w).hub.latch = d.hub.latch := rfl
@[simp] theorem setRaw_hub_held (d : Dev) (p : Nat) (w : Word) : (setRaw d p w).hub.held = d.hub.held := rfl
@[simp] theorem setRaw_hub_woTaken (d : Dev) (p : Nat) (w : Word) : (setRaw d p w).hub.woTaken = d.hub.woTaken := rfl
@[simp] theorem setRaw_hub_stalled (d : Dev) (p : Nat) (w : Word) : (setRaw d p w).hub.stalled = d.hub.stalled := rfl
@[simp] theorem setRaw_hub_snapShd (d : Dev) (p : Nat) (w : Word) : (setRaw d p w).hub.snapShd = d.hub.snapShd := rfl
@[simp] theorem setRaw_hub_snapSum (d : Dev) (p : Nat) (w : Word) : (setRaw d p w).hub.snapSum = d.hub.snapSum := rfl
@[simp] theorem setRaw_hub_snapEhold (d : Dev) (p : Nat) (w : Word) : (setRaw d p w).hub.snapEhold = d.hub.snapEhold := rfl
@[simp] theorem setRaw_hub_snapLock (d : Dev) (p : Nat) (w : Word) : (setRaw d p w).hub.snapLock = d.hub.snapLock := rfl
@[simp] theorem setRaw_hub_safeMode (d : Dev) (p : Nat) (w : Word) : (setRaw d p w).hub.safeMode = d.hub.safeMode := rfl
@[simp] theorem setRaw_hub_tv (d : Dev) (p : Nat) (w : Word) : (setRaw d p w).hub.tv = d.hub.tv := rfl
@[simp] theorem emit_hub (d : Dev) (o : Output) : (emit d o).hub = d.hub := rfl
@[simp] theorem emit_sys (d : Dev) (o : Output) : (emit d o).sys = d.sys := rfl
@[simp] theorem emit_pci (d : Dev) (o : Output) : (emit d o).pci = d.pci := rfl
@[simp] theorem emit_seats (d : Dev) (o : Output) : (emit d o).seats = d.seats := rfl
@[simp] theorem emit_cmds (d : Dev) (o : Output) : (emit d o).cmds = d.cmds := rfl
@[simp] theorem emit_log (d : Dev) (o : Output) : (emit d o).log = d.log := rfl
@[simp] theorem emit_adm (d : Dev) (o : Output) : (emit d o).adm = d.adm := rfl
@[simp] theorem emit_med (d : Dev) (o : Output) : (emit d o).med = d.med := rfl
@[simp] theorem emit_chn (d : Dev) (o : Output) : (emit d o).chn = d.chn := rfl
@[simp] theorem emit_cox (d : Dev) (o : Output) : (emit d o).cox = d.cox := rfl
@[simp] theorem emit_stk (d : Dev) (o : Output) : (emit d o).stk = d.stk := rfl
@[simp] theorem emit_trace (d : Dev) (o : Output) : (emit d o).trace = d.trace := rfl
@[simp] theorem emit_keys (d : Dev) (o : Output) : (emit d o).keys = d.keys := rfl
@[simp] theorem emit_mover (d : Dev) (o : Output) : (emit d o).mover = d.mover := rfl
@[simp] theorem emit_mem (d : Dev) (o : Output) : (emit d o).mem = d.mem := rfl
@[simp] theorem emit_array (d : Dev) (o : Output) : (emit d o).array = d.array := rfl
@[simp] theorem emit_upd (d : Dev) (o : Output) : (emit d o).upd = d.upd := rfl
@[simp] theorem emit_admin (d : Dev) (o : Output) : (emit d o).admin = d.admin := rfl
@[simp] theorem emit_free (d : Dev) (o : Output) : (emit d o).free = d.free := rfl
@[simp] theorem setCtl_hub (d : Dev) (fn : Nat) (c : FnCtl) : (setCtl d fn c).hub = d.hub := rfl
@[simp] theorem setCtl_sys (d : Dev) (fn : Nat) (c : FnCtl) : (setCtl d fn c).sys = d.sys := rfl
@[simp] theorem setCtl_seats (d : Dev) (fn : Nat) (c : FnCtl) : (setCtl d fn c).seats = d.seats := rfl
@[simp] theorem setCtl_cmds (d : Dev) (fn : Nat) (c : FnCtl) : (setCtl d fn c).cmds = d.cmds := rfl
@[simp] theorem setCtl_log (d : Dev) (fn : Nat) (c : FnCtl) : (setCtl d fn c).log = d.log := rfl
@[simp] theorem setCtl_adm (d : Dev) (fn : Nat) (c : FnCtl) : (setCtl d fn c).adm = d.adm := rfl
@[simp] theorem setCtl_med (d : Dev) (fn : Nat) (c : FnCtl) : (setCtl d fn c).med = d.med := rfl
@[simp] theorem setCtl_chn (d : Dev) (fn : Nat) (c : FnCtl) : (setCtl d fn c).chn = d.chn := rfl
@[simp] theorem setCtl_cox (d : Dev) (fn : Nat) (c : FnCtl) : (setCtl d fn c).cox = d.cox := rfl
@[simp] theorem setCtl_stk (d : Dev) (fn : Nat) (c : FnCtl) : (setCtl d fn c).stk = d.stk := rfl
@[simp] theorem setCtl_trace (d : Dev) (fn : Nat) (c : FnCtl) : (setCtl d fn c).trace = d.trace := rfl
@[simp] theorem setCtl_keys (d : Dev) (fn : Nat) (c : FnCtl) : (setCtl d fn c).keys = d.keys := rfl
@[simp] theorem setCtl_mover (d : Dev) (fn : Nat) (c : FnCtl) : (setCtl d fn c).mover = d.mover := rfl
@[simp] theorem setCtl_mem (d : Dev) (fn : Nat) (c : FnCtl) : (setCtl d fn c).mem = d.mem := rfl
@[simp] theorem setCtl_array (d : Dev) (fn : Nat) (c : FnCtl) : (setCtl d fn c).array = d.array := rfl
@[simp] theorem setCtl_upd (d : Dev) (fn : Nat) (c : FnCtl) : (setCtl d fn c).upd = d.upd := rfl
@[simp] theorem setCtl_admin (d : Dev) (fn : Nat) (c : FnCtl) : (setCtl d fn c).admin = d.admin := rfl
@[simp] theorem setCtl_out (d : Dev) (fn : Nat) (c : FnCtl) : (setCtl d fn c).out = d.out := rfl
@[simp] theorem setCtl_free (d : Dev) (fn : Nat) (c : FnCtl) : (setCtl d fn c).free = d.free := rfl
@[simp] theorem setSeat_hub (d : Dev) (n : Nat) (v : Seat) : (setSeat d n v).hub = d.hub := rfl
@[simp] theorem setSeat_sys (d : Dev) (n : Nat) (v : Seat) : (setSeat d n v).sys = d.sys := rfl
@[simp] theorem setSeat_pci (d : Dev) (n : Nat) (v : Seat) : (setSeat d n v).pci = d.pci := rfl
@[simp] theorem setSeat_cmds (d : Dev) (n : Nat) (v : Seat) : (setSeat d n v).cmds = d.cmds := rfl
@[simp] theorem setSeat_log (d : Dev) (n : Nat) (v : Seat) : (setSeat d n v).log = d.log := rfl
@[simp] theorem setSeat_adm (d : Dev) (n : Nat) (v : Seat) : (setSeat d n v).adm = d.adm := rfl
@[simp] theorem setSeat_med (d : Dev) (n : Nat) (v : Seat) : (setSeat d n v).med = d.med := rfl
@[simp] theorem setSeat_chn (d : Dev) (n : Nat) (v : Seat) : (setSeat d n v).chn = d.chn := rfl
@[simp] theorem setSeat_cox (d : Dev) (n : Nat) (v : Seat) : (setSeat d n v).cox = d.cox := rfl
@[simp] theorem setSeat_stk (d : Dev) (n : Nat) (v : Seat) : (setSeat d n v).stk = d.stk := rfl
@[simp] theorem setSeat_trace (d : Dev) (n : Nat) (v : Seat) : (setSeat d n v).trace = d.trace := rfl
@[simp] theorem setSeat_keys (d : Dev) (n : Nat) (v : Seat) : (setSeat d n v).keys = d.keys := rfl
@[simp] theorem setSeat_mover (d : Dev) (n : Nat) (v : Seat) : (setSeat d n v).mover = d.mover := rfl
@[simp] theorem setSeat_mem (d : Dev) (n : Nat) (v : Seat) : (setSeat d n v).mem = d.mem := rfl
@[simp] theorem setSeat_array (d : Dev) (n : Nat) (v : Seat) : (setSeat d n v).array = d.array := rfl
@[simp] theorem setSeat_upd (d : Dev) (n : Nat) (v : Seat) : (setSeat d n v).upd = d.upd := rfl
@[simp] theorem setSeat_admin (d : Dev) (n : Nat) (v : Seat) : (setSeat d n v).admin = d.admin := rfl
@[simp] theorem setSeat_out (d : Dev) (n : Nat) (v : Seat) : (setSeat d n v).out = d.out := rfl
@[simp] theorem setSeat_free (d : Dev) (n : Nat) (v : Seat) : (setSeat d n v).free = d.free := rfl
@[simp] theorem modCmds_hub (d : Dev) (f : List Cmd → List Cmd) : (modCmds d f).hub = d.hub := rfl
@[simp] theorem modCmds_sys (d : Dev) (f : List Cmd → List Cmd) : (modCmds d f).sys = d.sys := rfl
@[simp] theorem modCmds_pci (d : Dev) (f : List Cmd → List Cmd) : (modCmds d f).pci = d.pci := rfl
@[simp] theorem modCmds_seats (d : Dev) (f : List Cmd → List Cmd) : (modCmds d f).seats = d.seats := rfl
@[simp] theorem modCmds_log (d : Dev) (f : List Cmd → List Cmd) : (modCmds d f).log = d.log := rfl
@[simp] theorem modCmds_adm (d : Dev) (f : List Cmd → List Cmd) : (modCmds d f).adm = d.adm := rfl
@[simp] theorem modCmds_med (d : Dev) (f : List Cmd → List Cmd) : (modCmds d f).med = d.med := rfl
@[simp] theorem modCmds_chn (d : Dev) (f : List Cmd → List Cmd) : (modCmds d f).chn = d.chn := rfl
@[simp] theorem modCmds_cox (d : Dev) (f : List Cmd → List Cmd) : (modCmds d f).cox = d.cox := rfl
@[simp] theorem modCmds_stk (d : Dev) (f : List Cmd → List Cmd) : (modCmds d f).stk = d.stk := rfl
@[simp] theorem modCmds_trace (d : Dev) (f : List Cmd → List Cmd) : (modCmds d f).trace = d.trace := rfl
@[simp] theorem modCmds_keys (d : Dev) (f : List Cmd → List Cmd) : (modCmds d f).keys = d.keys := rfl
@[simp] theorem modCmds_mover (d : Dev) (f : List Cmd → List Cmd) : (modCmds d f).mover = d.mover := rfl
@[simp] theorem modCmds_mem (d : Dev) (f : List Cmd → List Cmd) : (modCmds d f).mem = d.mem := rfl
@[simp] theorem modCmds_array (d : Dev) (f : List Cmd → List Cmd) : (modCmds d f).array = d.array := rfl
@[simp] theorem modCmds_upd (d : Dev) (f : List Cmd → List Cmd) : (modCmds d f).upd = d.upd := rfl
@[simp] theorem modCmds_admin (d : Dev) (f : List Cmd → List Cmd) : (modCmds d f).admin = d.admin := rfl
@[simp] theorem modCmds_out (d : Dev) (f : List Cmd → List Cmd) : (modCmds d f).out = d.out := rfl
@[simp] theorem modCmds_free (d : Dev) (f : List Cmd → List Cmd) : (modCmds d f).free = d.free := rfl
@[simp] theorem tick_hub (d : Dev) : (tick d).hub = d.hub := rfl
@[simp] theorem tick_sys (d : Dev) : (tick d).sys = d.sys := rfl
@[simp] theorem tick_pci (d : Dev) : (tick d).pci = d.pci := rfl
@[simp] theorem tick_seats (d : Dev) : (tick d).seats = d.seats := rfl
@[simp] theorem tick_cmds (d : Dev) : (tick d).cmds = d.cmds := rfl
@[simp] theorem tick_log (d : Dev) : (tick d).log = d.log := rfl
@[simp] theorem tick_adm (d : Dev) : (tick d).adm = d.adm := rfl
@[simp] theorem tick_med (d : Dev) : (tick d).med = d.med := rfl
@[simp] theorem tick_chn (d : Dev) : (tick d).chn = d.chn := rfl
@[simp] theorem tick_cox (d : Dev) : (tick d).cox = d.cox := rfl
@[simp] theorem tick_stk (d : Dev) : (tick d).stk = d.stk := rfl
@[simp] theorem tick_trace (d : Dev) : (tick d).trace = d.trace := rfl
@[simp] theorem tick_keys (d : Dev) : (tick d).keys = d.keys := rfl
@[simp] theorem tick_mover (d : Dev) : (tick d).mover = d.mover := rfl
@[simp] theorem tick_mem (d : Dev) : (tick d).mem = d.mem := rfl
@[simp] theorem tick_array (d : Dev) : (tick d).array = d.array := rfl
@[simp] theorem tick_upd (d : Dev) : (tick d).upd = d.upd := rfl
@[simp] theorem tick_admin (d : Dev) : (tick d).admin = d.admin := rfl
@[simp] theorem tick_out (d : Dev) : (tick d).out = d.out := rfl

@[simp] theorem emit_out_eq (d : Dev) (o : Output) : (emit d o).out = o :: d.out := rfl
@[simp] theorem tick_free_eq (d : Dev) : (tick d).free = d.free + 1 := rfl

end Sys2Proof.Machine
end

