-- ==== Sys2Proof/Laws/Store.lean ====
section
/-!
SUPPORT. Laws of the sparse stores: reading back what was written, leaving every other key alone, and keeping the canonical form.
-/
namespace Sys2Proof.Machine
namespace SMap
variable {α : Type}

theorem get?_set_same (m : SMap α) (k : Nat) (v : α) : get? (set m k v) k = some v := by
  induction m with
  | nil => simp [set, get?]
  | cons e m ih =>
    obtain ⟨k', v'⟩ := e
    unfold set
    by_cases h1 : k < k'
    · simp [h1, get?]
    · by_cases h2 : k = k'
      · simp [h2, get?]
      · simp [h1, h2, get?, ih]

theorem get?_set_ne (m : SMap α) (k j : Nat) (v : α) (h : j ≠ k) : get? (set m k v) j = get? m j := by
  induction m with
  | nil => simp [set, get?, h]
  | cons e m ih =>
    obtain ⟨k', v'⟩ := e
    unfold set
    by_cases h1 : k < k'
    · simp [h1, get?, h]
    · by_cases h2 : k = k'
      · subst h2; simp [get?, h]
      · simp [h1, h2, get?, ih]

theorem get?_erase_same (m : SMap α) (k : Nat) : get? (erase m k) k = none := by
  induction m with
  | nil => simp [erase, get?]
  | cons e m ih =>
    obtain ⟨k', v'⟩ := e
    unfold erase
    by_cases h : k = k'
    · simp [h]; subst h; exact ih
    · simp [h, get?, ih]

theorem get?_erase_ne (m : SMap α) (k j : Nat) (h : j ≠ k) : get? (erase m k) j = get? m j := by
  induction m with
  | nil => simp [erase]
  | cons e m ih =>
    obtain ⟨k', v'⟩ := e
    unfold erase
    by_cases h1 : k = k'
    · subst h1; simp [get?, h, ih]
    · simp [h1, get?, ih]

theorem read_put_same [DecidableEq α] (d : Nat → α) (m : SMap α) (k : Nat) (v : α) : read d (put d m k v) k = v := by
  unfold read put getD
  by_cases h : v = d k
  · simp [h, get?_erase_same]
  · simp [h, get?_set_same]

theorem read_put_ne [DecidableEq α] (d : Nat → α) (m : SMap α) (k j : Nat) (v : α) (h : j ≠ k) :
    read d (put d m k v) j = read d m j := by
  unfold read put getD
  by_cases h1 : v = d k
  · simp [h1, get?_erase_ne _ _ _ h]
  · simp [h1, get?_set_ne _ _ _ _ h]

theorem risingFrom_mono {n n' : Nat} (m : SMap α) (h : n' ≤ n) (hm : risingFrom n m = true) : risingFrom n' m = true := by
  cases m with
  | nil => rfl
  | cons e m =>
    simp only [risingFrom, Bool.and_eq_true, decide_eq_true_eq] at hm ⊢
    exact ⟨by omega, hm.2⟩

theorem risingFrom_set (m : SMap α) (n k : Nat) (v : α) (h : n ≤ k) (hm : risingFrom n m = true) :
    risingFrom n (set m k v) = true := by
  induction m generalizing n with
  | nil => simp [set, risingFrom, h]
  | cons e m ih =>
    obtain ⟨k', v'⟩ := e
    simp only [risingFrom, Bool.and_eq_true, decide_eq_true_eq] at hm
    unfold set
    by_cases h1 : k < k'
    · simp only [h1, if_true, risingFrom, Bool.and_eq_true, decide_eq_true_eq]
      exact ⟨h, by omega, hm.2⟩
    · by_cases h2 : k = k'
      · subst h2; simp [risingFrom, h, hm.2]
      · simp only [h1, h2, if_false, risingFrom, Bool.and_eq_true, decide_eq_true_eq]
        exact ⟨hm.1, ih (k' + 1) (by omega) hm.2⟩

theorem risingFrom_erase (m : SMap α) (n k : Nat) (hm : risingFrom n m = true) : risingFrom n (erase m k) = true := by
  induction m generalizing n with
  | nil => rfl
  | cons e m ih =>
    obtain ⟨k', v'⟩ := e
    simp only [risingFrom, Bool.and_eq_true, decide_eq_true_eq] at hm
    unfold erase
    by_cases h1 : k = k'
    · simp only [h1, if_true]
      exact h1 ▸ risingFrom_mono _ (by omega) (ih (k' + 1) hm.2)
    · simp only [h1, if_false, risingFrom, Bool.and_eq_true, decide_eq_true_eq]
      exact ⟨hm.1, ih (k' + 1) hm.2⟩

theorem all_set (p : Nat × α → Bool) (m : SMap α) (k : Nat) (v : α) (hm : m.all p = true) (hv : p (k, v) = true) :
    (set m k v).all p = true := by
  induction m with
  | nil => simp [set, hv]
  | cons e m ih =>
    obtain ⟨k', v'⟩ := e
    simp only [List.all_cons, Bool.and_eq_true] at hm
    unfold set
    by_cases h1 : k < k'
    · simp only [h1, if_true, List.all_cons, hv, hm.1, hm.2, Bool.and_self]
    · by_cases h2 : k = k'
      · subst h2; simp [hv, hm.2]
      · simp only [h1, h2, if_false, List.all_cons, hm.1, Bool.true_and]
        exact ih hm.2

theorem all_erase (p : Nat × α → Bool) (m : SMap α) (k : Nat) (hm : m.all p = true) : (erase m k).all p = true := by
  induction m with
  | nil => rfl
  | cons e m ih =>
    obtain ⟨k', v'⟩ := e
    simp only [List.all_cons, Bool.and_eq_true] at hm
    unfold erase
    by_cases h1 : k = k'
    · simp only [h1, if_true]; exact h1 ▸ ih hm.2
    · simp only [h1, if_false, List.all_cons, hm.1, Bool.true_and]; exact ih hm.2

/-- Writing keeps the canonical form of a store with defaults. -/
theorem canon_put [DecidableEq α] (d : Nat → α) (m : SMap α) (k : Nat) (v : α) (hm : canon d m = true) :
    canon d (put d m k v) = true := by
  simp only [canon, wf, Bool.and_eq_true] at hm ⊢
  unfold put
  by_cases h : v = d k
  · simp only [h, if_true]
    exact ⟨risingFrom_erase m 0 k hm.1, all_erase _ m k hm.2⟩
  · simp only [h, if_false]
    exact ⟨risingFrom_set m 0 k v (by omega) hm.1, all_set _ m k v hm.2 (by simp [h])⟩

/-- Writing keeps the order of a store without defaults. -/
theorem wf_set (m : SMap α) (k : Nat) (v : α) (hm : wf m = true) : wf (set m k v) = true :=
  risingFrom_set m 0 k v (by omega) hm

end SMap
end Sys2Proof.Machine
end

