-- ==== Sys2Proof/Laws/Fields.lean ====
section
/-!
SUPPORT. Laws of the register fields: a field reads back what was written to it, a write leaves every other word and every disjoint
field alone, and the words and headers kept by each named update.
-/
namespace Sys2Proof.Machine

/-! ### Words, shadows and headers -/

theorem actW_setActW (d : Dev) (o o' : Nat) (w : Word) : actW (setActW d o w) o' = if o' = o then w else actW d o' := by
  by_cases h : o' = o
  · subst h; simp [actW, setActW, SMap.read_put_same]
  · simp [actW, setActW, h, SMap.read_put_ne]

@[simp] theorem actW_setActW_same (d : Dev) (o : Nat) (w : Word) : actW (setActW d o w) o = w := by simp [actW_setActW]

theorem actW_setActW_ne (d : Dev) {o o' : Nat} (w : Word) (h : o' ≠ o) : actW (setActW d o w) o' = actW d o' := by
  simp [actW_setActW, h]

theorem hdrOf_setHdr (d : Dev) (p q : Nat) (h : PageHdr) : hdrOf (setHdr d p h) q = if q = p then h else hdrOf d q := by
  by_cases e : q = p
  · subst e; simp [hdrOf, setHdr, SMap.read_put_same]
  · simp [hdrOf, setHdr, e, SMap.read_put_ne]

@[simp] theorem hdrOf_setHdr_same (d : Dev) (p : Nat) (h : PageHdr) : hdrOf (setHdr d p h) p = h := by simp [hdrOf_setHdr]

theorem hdrOf_setHdr_ne (d : Dev) {p q : Nat} (h : PageHdr) (e : q ≠ p) : hdrOf (setHdr d p h) q = hdrOf d q := by
  simp [hdrOf_setHdr, e]

theorem shdW_setShdW (d : Dev) (o o' : Nat) (w : Word) :
    shdW (setShdW d o w) o' = if o' = o then w &&& shMask o else shdW d o' := by
  by_cases h : o' = o
  · subst h; simp [shdW, setShdW, SMap.read_put_same]
  · simp [shdW, setShdW, h, SMap.read_put_ne]

/-- Words depend on the active store alone. -/
theorem actW_congr {d d' : Dev} (h : d'.hub.act = d.hub.act) (o : Nat) : actW d' o = actW d o := by simp [actW, h]

theorem hdrOf_congr {d d' : Dev} (h : d'.hub.hdr = d.hub.hdr) (p : Nat) : hdrOf d' p = hdrOf d p := by simp [hdrOf, h]

theorem rd_congr {d d' : Dev} (f : Fld) (h : actW d' f.off = actW d f.off) : rd d' f = rd d f := by simp [rd, h]

@[simp] theorem actW_setHdr (d : Dev) (p : Nat) (h : PageHdr) (o : Nat) : actW (setHdr d p h) o = actW d o := rfl
@[simp] theorem actW_setRaw (d : Dev) (p : Nat) (w : Word) (o : Nat) : actW (setRaw d p w) o = actW d o := rfl
@[simp] theorem actW_setShdW (d : Dev) (a : Nat) (w : Word) (o : Nat) : actW (setShdW d a w) o = actW d o := rfl
@[simp] theorem actW_emit (d : Dev) (x : Output) (o : Nat) : actW (emit d x) o = actW d o := rfl
@[simp] theorem actW_setSeat (d : Dev) (n : Nat) (v : Seat) (o : Nat) : actW (setSeat d n v) o = actW d o := rfl
@[simp] theorem actW_setCtl (d : Dev) (n : Nat) (v : FnCtl) (o : Nat) : actW (setCtl d n v) o = actW d o := rfl
@[simp] theorem actW_modCmds (d : Dev) (f : List Cmd → List Cmd) (o : Nat) : actW (modCmds d f) o = actW d o := rfl
@[simp] theorem hdrOf_setActW (d : Dev) (o : Nat) (w : Word) (p : Nat) : hdrOf (setActW d o w) p = hdrOf d p := rfl
@[simp] theorem hdrOf_wr (d : Dev) (f : Fld) (v p : Nat) : hdrOf (wr d f v) p = hdrOf d p := rfl
@[simp] theorem hdrOf_setShdW (d : Dev) (a : Nat) (w : Word) (p : Nat) : hdrOf (setShdW d a w) p = hdrOf d p := rfl
@[simp] theorem hdrOf_emit (d : Dev) (x : Output) (p : Nat) : hdrOf (emit d x) p = hdrOf d p := rfl

/-! ### Fields -/

theorem testBit_mask (lo wd i : Nat) : ((2 ^ wd - 1) * 2 ^ lo).testBit i = (decide (lo ≤ i) && decide (i < lo + wd)) := by
  rw [Nat.testBit_mul_two_pow, Nat.testBit_two_pow_sub_one]
  by_cases h : lo ≤ i
  · simp only [h, decide_true, Bool.true_and]; exact decide_eq_decide.2 (by omega)
  · simp [h]

theorem testBit_putBits (w : Word) (lo wd v i : Nat) (hi : i < 32) :
    (putBits w lo wd v).toNat.testBit i =
      if lo ≤ i ∧ i < lo + wd then v.testBit (i - lo) else w.toNat.testBit i := by
  simp only [BitVec.testBit_toNat, putBits, maskOf, BitVec.getLsbD_or, BitVec.getLsbD_and, BitVec.getLsbD_not,
    BitVec.getLsbD_ofNat, Nat.testBit_mul_two_pow, Nat.testBit_mod_two_pow, hi, decide_true, Bool.true_and]
  by_cases h1 : lo ≤ i
  · by_cases h2 : i < lo + wd
    · have : i - lo < wd := by omega
      simp [h1, h2, this]
    · have : ¬ i - lo < wd := by omega
      simp [h1, h2, this]
  · simp [h1]

theorem testBit_bitsOf (v lo wd i : Nat) : (bitsOf v lo wd).testBit i = (decide (i < wd) && v.testBit (i + lo)) := by
  simp [bitsOf, Nat.testBit_mod_two_pow, Nat.testBit_div_two_pow, Nat.add_comm]

theorem bitsOf_putBits_same (w : Word) (lo wd v : Nat) (h : lo + wd ≤ 32) :
    bitsOf (putBits w lo wd v).toNat lo wd = v % 2 ^ wd := by
  apply Nat.eq_of_testBit_eq
  intro i
  rw [testBit_bitsOf, Nat.testBit_mod_two_pow]
  by_cases hi : i < wd
  · rw [testBit_putBits _ _ _ _ _ (by omega)]
    simp [hi, show i + lo < lo + wd by omega]
  · simp [hi]

theorem bitsOf_putBits_disj (w : Word) (lo wd v lo' wd' : Nat) (h' : lo' + wd' ≤ 32)
    (hd : lo' + wd' ≤ lo ∨ lo + wd ≤ lo') : bitsOf (putBits w lo wd v).toNat lo' wd' = bitsOf w.toNat lo' wd' := by
  apply Nat.eq_of_testBit_eq
  intro i
  rw [testBit_bitsOf, testBit_bitsOf]
  by_cases hi : i < wd'
  · rw [testBit_putBits _ _ _ _ _ (by omega)]
    rw [if_neg (by omega)]
  · simp [hi]

@[simp] theorem actW_wr_same (d : Dev) (f : Fld) (v : Nat) : actW (wr d f v) f.off = putBits (actW d f.off) f.lo f.wd v := by
  simp [wr]

theorem actW_wr_ne (d : Dev) (f : Fld) (v : Nat) {o : Nat} (h : o ≠ f.off) : actW (wr d f v) o = actW d o := by
  simp [wr, actW_setActW, h]

/-- A field reads back what was written to it. -/
theorem rd_wr_same (d : Dev) (f : Fld) (v : Nat) (h : f.lo + f.wd ≤ 32) : rd (wr d f v) f = v % 2 ^ f.wd := by
  simp [rd, bitsOf_putBits_same, h]

/-- A write of a field leaves the fields of other words alone. -/
theorem rd_wr_off (d : Dev) (f g : Fld) (v : Nat) (h : g.off ≠ f.off) : rd (wr d f v) g = rd d g := by
  simp [rd, actW_wr_ne _ _ _ h]

/-- A write of a field leaves the disjoint fields of its word alone. -/
theorem rd_wr_disj (d : Dev) (f g : Fld) (v : Nat) (h : g.lo + g.wd ≤ 32) (hd : g.lo + g.wd ≤ f.lo ∨ f.lo + f.wd ≤ g.lo) :
    rd (wr d f v) g = rd d g := by
  by_cases e : g.off = f.off
  · rw [rd, rd, e, actW_wr_same, bitsOf_putBits_disj _ _ _ _ _ _ h hd]
  · exact rd_wr_off d f g v e

/-- A field of fewer than 32 bits is below its power of two. -/
theorem rd_lt (d : Dev) (f : Fld) : rd d f < 2 ^ f.wd := Nat.mod_lt _ (Nat.two_pow_pos _)

@[simp] theorem rd_setHdr (d : Dev) (p : Nat) (h : PageHdr) (f : Fld) : rd (setHdr d p h) f = rd d f := rfl
@[simp] theorem rd_setRaw (d : Dev) (p : Nat) (w : Word) (f : Fld) : rd (setRaw d p w) f = rd d f := rfl
@[simp] theorem rd_emit (d : Dev) (x : Output) (f : Fld) : rd (emit d x) f = rd d f := rfl
@[simp] theorem rd_setShdW (d : Dev) (a : Nat) (w : Word) (f : Fld) : rd (setShdW d a w) f = rd d f := rfl
@[simp] theorem rd_setSeat (d : Dev) (n : Nat) (v : Seat) (f : Fld) : rd (setSeat d n v) f = rd d f := rfl
@[simp] theorem rd_setCtl (d : Dev) (n : Nat) (v : FnCtl) (f : Fld) : rd (setCtl d n v) f = rd d f := rfl
@[simp] theorem rd_modCmds (d : Dev) (g : List Cmd → List Cmd) (f : Fld) : rd (modCmds d g) f = rd d f := rfl

end Sys2Proof.Machine
end

