-- ==== Sys2Proof/Laws/Frame.lean ====
section
/-!
SUPPORT. What each shared operation changes, said once: field and header writes, events and their log entries, and the settling of the
event outputs. A proof of what a command leaves alone composes these.
-/
namespace Sys2Proof.Machine

namespace ChangesOnly

theorem refl (ws ps : List Nat) (d : Dev) : ChangesOnly ws ps d d := ⟨fun _ _ => rfl, fun _ _ => rfl, rfl⟩

theorem mono {ws ws' ps ps' : List Nat} {d d' : Dev} (h : ChangesOnly ws ps d d') (hw : ws ⊆ ws') (hp : ps ⊆ ps') :
    ChangesOnly ws' ps' d d' :=
  ⟨fun o ho => h.words o (fun c => ho (hw c)), fun p q => h.heads p (fun c => q (hp c)), h.others⟩

theorem trans {ws ws' ps ps' : List Nat} {d d' d'' : Dev} (h : ChangesOnly ws ps d d') (h' : ChangesOnly ws' ps' d' d'') :
    ChangesOnly (ws ++ ws') (ps ++ ps') d d'' := by
  refine ⟨fun o ho => ?_, fun p hp => ?_, ?_⟩
  · rw [List.mem_append, not_or] at ho; rw [h'.words o ho.2, h.words o ho.1]
  · rw [List.mem_append, not_or] at hp; rw [h'.heads p hp.2, h.heads p hp.1]
  · have e := h.others
    have e' := h'.others
    rw [← e'] at e
    exact e

/-- Two changes within the same words and pages. -/
theorem step {ws ps : List Nat} {d d' d'' : Dev} (h : ChangesOnly ws ps d d') (h' : ChangesOnly ws ps d' d'') :
    ChangesOnly ws ps d d'' := (h.trans h').mono (by simp) (by simp)

theorem setActW (d : Dev) (o : Nat) (w : Word) : ChangesOnly [o] [] d (setActW d o w) :=
  ⟨fun _ h => actW_setActW_ne d w (by simpa using h), fun _ _ => rfl, rfl⟩

theorem wr (d : Dev) (f : Fld) (v : Nat) : ChangesOnly [f.off] [] d (wr d f v) := setActW d f.off _

theorem wr64 (d : Dev) (o v : Nat) : ChangesOnly [o, o + 4] [] d (wr64 d o v) :=
  (setActW d o _).trans (setActW _ (o + 4) _)

theorem setHdr (d : Dev) (p : Nat) (h : PageHdr) : ChangesOnly [] [p] d (setHdr d p h) :=
  ⟨fun _ _ => rfl, fun _ e => hdrOf_setHdr_ne d h (by simpa using e), rfl⟩

theorem setRaw (d : Dev) (p : Nat) (w : Word) : ChangesOnly [] [p] d (setRaw d p w) := setHdr d p _

theorem logPut (d : Dev) (code : Nat) (ps : List Word) : ChangesOnly logWords [0x7E] d (logPut d code ps) := by
  unfold Machine.logPut
  split
  · exact ((wr d F.LOG_LOST_COUNT _).trans (setRaw _ 0x7E _)).mono (by simp [logWords]) (by simp)
  · have h0 : ∀ l : Log, ChangesOnly [] [] d { d with log := l } := fun _ => ⟨fun _ _ => rfl, fun _ _ => rfl, rfl⟩
    have h1 := ((h0 { d.log with buf := ⟨0, rd d F.LOG_NEXT_N, d.sys.time, code, logSev code, ps⟩ :: d.log.buf }).trans
      (wr _ F.LOG_NEXT_N (rd d F.LOG_NEXT_N + 1))).trans (wr _ F.LOG_PEND_COUNT (d.log.buf.length + 1))
    simp only
    split
    · exact (h1.trans (setRaw _ 0x7E 0x100)).mono (by simp [logWords]) (by simp)
    · exact h1.mono (by simp [logWords]) (by simp)

theorem raiseArgs (d : Dev) (p b : Nat) (args : List Word) : RaisesOn p d (raiseArgs d p b args) := by
  unfold Machine.raiseArgs RaisesOn
  exact ((setRaw d p _).trans (logPut _ _ _)).mono (by simp) (by simp)

theorem raise (d : Dev) (p b : Nat) : RaisesOn p d (raise d p b) := raiseArgs d p b []

end ChangesOnly

theorem bitOf_eq (n b : Nat) : bitOf n b = n.testBit b := by
  simp [bitOf, Nat.testBit_eq_decide_div_mod_eq]; rfl

theorem evtSet_setRaw (d : Dev) (p b : Nat) (hb : b < 32) : evtSet (setRaw d p (BitVec.ofNat 32 (2 ^ b))) p b = true := by
  have h : (hdrOf (setRaw d p (BitVec.ofNat 32 (2 ^ b))) p).evtRaw = (hdrOf d p).evtRaw ||| BitVec.ofNat 32 (2 ^ b) := by simp [setRaw]
  unfold evtSet
  rw [h, bitOf_eq, BitVec.toNat_or, Nat.testBit_or, BitVec.toNat_ofNat, Nat.mod_eq_of_lt (Nat.pow_lt_pow_right (by decide) hb),
    Nat.testBit_two_pow_self, Bool.or_true]

/-- The event bit is set, on its page, by a raise. -/
theorem evtSet_raise (d : Dev) (p b : Nat) (hp : p ≠ 0x7E) (hb : b < 32) : evtSet (raise d p b) p b = true := by
  have h : ∀ ps, hdrOf (logPut (setRaw d p (BitVec.ofNat 32 (2 ^ b))) (256 * p + b) ps) p = hdrOf (setRaw d p (BitVec.ofNat 32 (2 ^ b))) p :=
    fun ps => (ChangesOnly.logPut _ _ ps).heads p (by simpa using hp)
  rw [evtSet, raise, raiseArgs, h]
  exact evtSet_setRaw d p b hb

/-- A raise leaves every word but those of the event log alone. -/
theorem actW_raise (d : Dev) (p b o : Nat) (h : o ∉ logWords) : actW (raise d p b) o = actW d o :=
  (ChangesOnly.raise d p b).words o h

theorem rd_raise (d : Dev) (p b : Nat) (f : Fld) (h : f.off ∉ logWords) : rd (raise d p b) f = rd d f :=
  rd_congr f (actW_raise d p b _ h)

/-! ### The settling of the outputs -/

theorem sendMsix_hub (d : Dev) (fn v : Nat) : (sendMsix d fn v).hub = d.hub := by
  unfold sendMsix; simp only; split
  · rfl
  · split <;> rfl

theorem eventMessage_hub (d : Dev) (port : Nat) : (eventMessage d port).hub = d.hub := sendMsix_hub ..

theorem wake_words (d : Dev) (c : Nat) : ChangesOnly [0x2078] [] d (wake d c) := by
  unfold wake; split
  · exact ((ChangesOnly.wr d F.PWR_PSTAT_WCAUSE c).trans (ChangesOnly.wr _ F.PWR_PSTAT_EXITING 1)).mono
      (by simp [F.PWR_PSTAT_WCAUSE, F.PWR_PSTAT_EXITING]) (by simp)
  · exact ChangesOnly.refl ..

/-- What sending a message changes: the pending vectors and the outputs. -/
theorem sendMsix_others (d : Dev) (fn v : Nat) :
    { sendMsix d fn v with pci := d.pci, out := d.out } = d := by
  unfold sendMsix; simp only; split
  · rfl
  · split <;> rfl

/-- What the settling of the outputs changes: PWR_PSTAT by a wake event, the pending vectors, the levels and the outputs. -/
theorem settle_shape (d : Dev) : ∃ d3 : Dev, settleEvents d = { d3 with sys := { d3.sys with
      orA := routedOr d 0, orB := routedOr d 1, alertLow := alertOr d || d.sys.dead } } ∧
    ∃ d2 : Dev, { d2 with pci := d.pci, out := d.out } = d ∧ d2.pci = { d.pci with pba := d2.pci.pba } ∧ (d3 = d2 ∨ d3 = wake d2 5) := by
  have msg : ∀ (x : Dev) port, { eventMessage x port with pci := x.pci, out := x.out } = x := fun x p => sendMsix_others ..
  have pba : ∀ (x : Dev) port, (eventMessage x port).pci = { x.pci with pba := (eventMessage x port).pci.pba } := fun x p => by
    unfold eventMessage sendMsix; simp only; split
    · rfl
    · split <;> rfl
  refine ⟨_, rfl, ?_⟩
  generalize hc : ((routedOr d 0 && !d.sys.orA) || (routedOr d 1 && !d.sys.orB) || ((alertOr d || d.sys.dead) && !d.sys.alertLow)) = c
  have key : ∀ x : Dev, { x with pci := d.pci, out := d.out } = d → x.pci = { d.pci with pba := x.pci.pba } → ∀ b : Bool, ∀ port,
      { (if b then eventMessage x port else x) with pci := d.pci, out := d.out } = d ∧
      (if b then eventMessage x port else x).pci = { d.pci with pba := (if b then eventMessage x port else x).pci.pba } := by
    intro x hx hp b port
    cases b with
    | false => exact ⟨hx, hp⟩
    | true =>
      simp only [if_true]
      constructor
      · have := msg x port
        rw [← this] at hx
        exact hx
      · rw [pba x port, hp]
  have k1 := key d rfl rfl (routedOr d 0 && !d.sys.orA) 0
  have k2 := key _ k1.1 k1.2 (routedOr d 1 && !d.sys.orB) 1
  refine ⟨_, k2.1, k2.2, ?_⟩
  cases c
  · left; simp
  · right; simp

end Sys2Proof.Machine
end

