-- ==== Sys2Proof/Laws/Hub.lean ====
section
/-!
SUPPORT. An access that reaches the hub and that nothing delays is served at once; the rows of single registers are such accesses.
-/
namespace Sys2Proof.Machine

/-- An access of an aligned word of an implemented page, in its header or of a page that answers, has no cause to be dropped. -/
theorem hubCause_none {d : Dev} {r : HubReq} (hk : r.ok = true) (h3 : r.off < 0x100000) (h4 : implemented (pageOf r.off) = true)
    (h5 : inPage r.off < 0x40 ∨ answers d (pageOf r.off) = true) : hubCause d r = none := by
  have : ¬ (0x100000 ≤ r.off) := by omega
  simp only [hubCause, h4, hk, this, ge_iff_le, Bool.not_true, if_false, Bool.false_eq_true]
  rcases h5 with h | h
  · have : ¬ 0x40 ≤ inPage r.off := by omega
    simp [this]
  · simp [h]

/-- An access with nothing before it, that neither stalls nor is refused, is served. -/
theorem hubRow_serve {s : State} {r : HubReq} (h0 : r.port < 2) (h1 : barOk s.dev (mgmtFn r.port) = true)
    (hs : s.dev.hub.stalled = []) (hb : badWrite s.dev r = false) (hst : hubStall s.dev r = false) :
    hubRow true r s = finish s (hubServe s.dev r) := by
  have hp : (r.port == 2) = false := by simp; omega
  simp only [hubRow, h0, h1, hb, decide_true, Bool.and_self, Bool.not_true, Bool.false_eq_true, if_false, hubDo, hs, List.isEmpty_nil,
    hst, Bool.or_self, hubOne, hp]

theorem hubServe_write {d : Dev} {port off : Nat} {v : Word} (hc : hubCause d (writeReq port off v) = none) :
    hubServe d (writeReq port off v) = writeWord d port off v := by
  unfold hubServe; rw [hc]; simp only [writeReq]

theorem hubServe_read {d : Dev} {port off : Nat} (hc : hubCause d (readReq port off) = none) :
    hubServe d (readReq port off) = emit (hubRead d port off).2 (.reg port (hubRead d port off).1) := by
  unfold hubServe; rw [hc]; simp only [readReq]

theorem badWrite_clean {d : Dev} {port off : Nat} {v : Word} (h : Clean off v) : badWrite d (writeReq port off v) = false := by
  simp only [badWrite, writeReq]
  split
  · rename_i e _; injection e with e; subst e; simpa [Clean] using h
  · rename_i e; cases e
  · rfl

theorem badWrite_read {d : Dev} {port off : Nat} : badWrite d (readReq port off) = false := by
  simp only [badWrite, readReq]; split <;> simp_all

theorem hubStall_open {d : Dev} {port off : Nat} {v : Word} (h : inPage off < 0x40 ∨ (hdrOf d (pageOf off)).cbusy = false) :
    hubStall d (writeReq port off v) = false := by
  simp only [hubStall, writeReq]
  split
  · rcases h with h | h
    · have : ¬ 0x40 ≤ inPage off := by omega
      simp [this]
    · simp [h]
  · rfl

theorem hubStall_read {d : Dev} {port off : Nat} : hubStall d (readReq port off) = false := by
  simp only [hubStall, readReq]; split <;> simp_all

/-- A write that is served runs `writeWord`. -/
theorem hubRow_write {s : State} {port off : Nat} {v : Word} (h : Writes s port off v) :
    hubRow true (writeReq port off v) s = finish s (writeWord s.dev port off v) := by
  obtain ⟨⟨h0, h1, hs⟩, -, h3, h4, h5, h6⟩ := h
  have hc : hubCause s.dev (writeReq port off v) = none := hubCause_none rfl h3 h4 (h5.imp id (fun x => x.1))
  have e := hubRow_serve (s := s) (r := writeReq port off v) h0 h1 hs (badWrite_clean h6) (hubStall_open (h5.imp id (fun x => x.2)))
  rw [hubServe_write hc] at e
  exact e

/-- A read that is served runs `hubRead`. -/
theorem hubRow_read {s : State} {port off : Nat} (hh : HostAt s port) (h3 : off < 0x100000)
    (h4 : implemented (pageOf off) = true) (h5 : inPage off < 0x40 ∨ answers s.dev (pageOf off) = true) :
    hubRow true (readReq port off) s = finish s (emit (hubRead s.dev port off).2 (.reg port (hubRead s.dev port off).1)) := by
  obtain ⟨h0, h1, hs⟩ := hh
  have hc : hubCause s.dev (readReq port off) = none := hubCause_none rfl h3 h4 h5
  have e := hubRow_serve (s := s) (r := readReq port off) h0 h1 hs badWrite_read hubStall_read
  rw [hubServe_read hc] at e
  exact e

theorem exec_regWrite (s : State) (port off : Nat) (v : Word) (h : off % 4 = 0) (h' : off < 0x100000) :
    exec (.regWrite (.bar0 port off) v) s = hubRow true (writeReq port off v) s := by
  show execRegWrite (.bar0 port off) v s = _
  simp only [execRegWrite, h, h', beq_self_eq_true, decide_true, Bool.and_self]

/-- A register-write row whose write is served. -/
theorem gives_of_row {c : Instr} {s : State} {port off : Nat} {v : Word} {P : Dev → Prop} {f : Bool}
    (hc : exec c s = hubRow f (writeReq port off v) s) (hf : f = true) (h : Writes s port off v) (hp : P (writeWord s.dev port off v)) :
    Gives c s P := by
  subst hf
  exact ⟨_, by rw [hc, hubRow_write h]; rfl, hp⟩

/-- A guarded command whose condition holds. -/
theorem gives_of_guard {c : Instr} {s : State} {b : Bool} {d d' : Dev} {P : Dev → Prop} (hc : exec c s = finish s (guardDev b d d'))
    (hb : b = true) (hp : P d') : Gives c s P := by
  subst hb
  exact ⟨_, hc, hp⟩

end Sys2Proof.Machine
end

