-- ==== Sys2Proof/Laws/Image.lean ====
section
/-!
SUPPORT. Image blocks of the firmware array: a block whose last word holds the CRC of the bytes before it passes its CRC (R403).
-/
namespace Sys2Proof.Machine

/-- A page of zeros with a word in its last place. -/
def crcPage (c : Nat) : Block := BitVec.ofNat 32768 (2 ^ (8 * 4092) * (c % 2 ^ 32))

/-- The CRC that an image block ends with when 15 pages are given and the last one is zero but for it. -/
def crcOf (ps : List Block) : Nat := crc32c (pageBytes ps ++ List.replicate 4092 0)

theorem blkBytes_length (b : Block) (n : Nat) : (blkBytes b n).length = n := by simp [blkBytes]

theorem pageBytes_length (ps : List Block) : (pageBytes ps).length = 4096 * ps.length := by
  induction ps with
  | nil => rfl
  | cons b l ih => simp only [pageBytes, List.flatMap_cons, List.length_append, blkBytes_length, List.length_cons] at *; omega

theorem pageBytes_append (a b : List Block) : pageBytes (a ++ b) = pageBytes a ++ pageBytes b := List.flatMap_append

/-- A word above `m` zero bytes, byte by byte. -/
theorem shifted_byte (m c i : Nat) (hi : i < m + 4) :
    2 ^ (8 * m) * (c % 2 ^ 32) / 2 ^ (8 * i) % 2 ^ 8 = (List.replicate m 0 ++ leBytes 4 c)[i]'(by simpa [leBytes] using hi) := by
  by_cases hl : i < m
  · rw [List.getElem_append_left (by simpa using hl), List.getElem_replicate]
    have e : (2 : Nat) ^ (8 * m) = 2 ^ (8 * i) * (2 ^ 8 * 2 ^ (8 * (m - i - 1))) := by
      rw [← Nat.pow_add, ← Nat.pow_add]; congr 1; omega
    rw [e, Nat.mul_assoc, Nat.mul_div_cancel_left _ (Nat.two_pow_pos _), Nat.mul_assoc, Nat.mul_mod_right]
  · rw [List.getElem_append_right (by simpa using hl)]
    have e : (2 : Nat) ^ (8 * i) = 2 ^ (8 * m) * 2 ^ (8 * (i - m)) := by
      rw [← Nat.pow_add]; congr 1; omega
    simp only [leBytes, List.getElem_map, List.getElem_range, List.length_replicate, bitsOf]
    rw [e, ← Nat.div_div_eq_div_mul, Nat.mul_div_cancel_left _ (Nat.two_pow_pos _)]
    have hk : i - m < 4 := by omega
    generalize i - m = k at hk ⊢
    have e2 : (2 : Nat) ^ 32 = 2 ^ (8 * k) * 2 ^ (32 - 8 * k) := by rw [← Nat.pow_add]; congr 1; omega
    rw [e2, Nat.mod_mul_right_div_self, Nat.mod_mod_of_dvd]
    exact Nat.pow_dvd_pow 2 (by omega)

/-- The bytes of a block of `m + 4` bytes with a word above `m` zero bytes. -/
theorem shifted_bytes (m c : Nat) (b : Block) (h : b.toNat = 2 ^ (8 * m) * (c % 2 ^ 32)) :
    blkBytes b (m + 4) = List.replicate m 0 ++ leBytes 4 c := by
  apply List.ext_getElem
  · rw [blkBytes_length, List.length_append, List.length_replicate]; simp [leBytes]
  intro i h1 h2
  have hi : i < m + 4 := by rw [blkBytes_length] at h1; exact h1
  rw [← shifted_byte m c i hi, ← h]
  simp only [blkBytes, List.getElem_map, List.getElem_range, bitsOf]

theorem toNat_shift (w m c : Nat) (h : w = 8 * m + 32) : (BitVec.ofNat w (2 ^ (8 * m) * (c % 2 ^ 32))).toNat = 2 ^ (8 * m) * (c % 2 ^ 32) := by
  rw [BitVec.toNat_ofNat]
  apply Nat.mod_eq_of_lt
  rw [h, Nat.pow_add]
  exact Nat.mul_lt_mul_of_pos_left (Nat.mod_lt _ (Nat.two_pow_pos _)) (Nat.two_pow_pos _)

theorem crcPage_bytes (c : Nat) : blkBytes (crcPage c) 4096 = List.replicate 4092 0 ++ leBytes 4 c :=
  shifted_bytes 4092 c (crcPage c) (toNat_shift 32768 4092 c rfl)

/-- A list of bytes that ends with the CRC of what is before it. -/
theorem crc_tail (l : List Nat) (n : Nat) (h : l.length = n) :
    ((l ++ leBytes 4 (crc32c l)).drop n == leBytes 4 (crc32c ((l ++ leBytes 4 (crc32c l)).take n))) = true := by
  subst h
  rw [List.drop_left, List.take_left]
  exact beq_self_eq_true _

/-- Fifteen pages and the page with their CRC are an image block that passes. -/
theorem imgBlockOk_crcPage (ps : List Block) (h : ps.length = 15) : imgBlockOk (ps ++ [crcPage (crcOf ps)]) = true := by
  have hb : pageBytes (ps ++ [crcPage (crcOf ps)]) = (pageBytes ps ++ List.replicate 4092 0) ++ leBytes 4 (crcOf ps) := by
    rw [pageBytes_append]
    have : pageBytes [crcPage (crcOf ps)] = List.replicate 4092 0 ++ leBytes 4 (crcOf ps) := by
      simp only [pageBytes, List.flatMap_cons, List.flatMap_nil, List.append_nil]
      exact crcPage_bytes _
    rw [this, List.append_assoc]
  have hl : (pageBytes ps ++ List.replicate 4092 0).length = 65532 := by
    rw [List.length_append, pageBytes_length, h, List.length_replicate]
  unfold imgBlockOk
  rw [hb]
  exact crc_tail _ _ hl

end Sys2Proof.Machine
end

