-- ==== Sys2Proof/Laws/Tables.lean ====
section
/-!
SUPPORT. The tables of the device: an entry reads back what was written to it, every other entry stays, and no register or header
changes.
-/
namespace Sys2Proof.Machine

theorem lunOf_setLun (d : Dev) (l j : Nat) (v : LunSt) : lunOf (setLun d l v) j = if j = l then v else lunOf d j := by
  split
  · next h => subst h; exact SMap.read_put_same ..
  · next h => exact SMap.read_put_ne _ _ _ _ _ h
@[simp] theorem lunOf_setLun_same (d : Dev) (l : Nat) (v : LunSt) : lunOf (setLun d l v) l = v := by simp [lunOf_setLun]
theorem lunOf_setLun_ne (d : Dev) {l j : Nat} (v : LunSt) (h : j ≠ l) : lunOf (setLun d l v) j = lunOf d j := by simp [lunOf_setLun, h]
@[simp] theorem actW_setLun (d : Dev) (l : Nat) (v : LunSt) (o : Nat) : actW (setLun d l v) o = actW d o := rfl
@[simp] theorem rd_setLun (d : Dev) (l : Nat) (v : LunSt) (f : Fld) : rd (setLun d l v) f = rd d f := rfl
@[simp] theorem hdrOf_setLun (d : Dev) (l : Nat) (v : LunSt) (p : Nat) : hdrOf (setLun d l v) p = hdrOf d p := rfl

theorem batOf_setBat (d : Dev) (b j : Nat) (v : Batten) : batOf (setBat d b v) j = if j = b then v else batOf d j := by
  split
  · next h => subst h; exact SMap.read_put_same ..
  · next h => exact SMap.read_put_ne _ _ _ _ _ h
@[simp] theorem batOf_setBat_same (d : Dev) (b : Nat) (v : Batten) : batOf (setBat d b v) b = v := by simp [batOf_setBat]
theorem batOf_setBat_ne (d : Dev) {b j : Nat} (v : Batten) (h : j ≠ b) : batOf (setBat d b v) j = batOf d j := by simp [batOf_setBat, h]
@[simp] theorem actW_setBat (d : Dev) (b : Nat) (v : Batten) (o : Nat) : actW (setBat d b v) o = actW d o := rfl
@[simp] theorem rd_setBat (d : Dev) (b : Nat) (v : Batten) (f : Fld) : rd (setBat d b v) f = rd d f := rfl
@[simp] theorem hdrOf_setBat (d : Dev) (b : Nat) (v : Batten) (p : Nat) : hdrOf (setBat d b v) p = hdrOf d p := rfl

theorem lunRecOf_setLunRec (d : Dev) (l j : Nat) (v : LunRec) : lunRecOf (setLunRec d l v) j = if j = l then v else lunRecOf d j := by
  split
  · next h => subst h; exact SMap.read_put_same ..
  · next h => exact SMap.read_put_ne _ _ _ _ _ h
@[simp] theorem lunRecOf_setLunRec_same (d : Dev) (l : Nat) (v : LunRec) : lunRecOf (setLunRec d l v) l = v := by simp [lunRecOf_setLunRec]
theorem lunRecOf_setLunRec_ne (d : Dev) {l j : Nat} (v : LunRec) (h : j ≠ l) : lunRecOf (setLunRec d l v) j = lunRecOf d j := by simp [lunRecOf_setLunRec, h]
@[simp] theorem actW_setLunRec (d : Dev) (l : Nat) (v : LunRec) (o : Nat) : actW (setLunRec d l v) o = actW d o := rfl
@[simp] theorem rd_setLunRec (d : Dev) (l : Nat) (v : LunRec) (f : Fld) : rd (setLunRec d l v) f = rd d f := rfl
@[simp] theorem hdrOf_setLunRec (d : Dev) (l : Nat) (v : LunRec) (p : Nat) : hdrOf (setLunRec d l v) p = hdrOf d p := rfl

theorem chOf_setCh (d : Dev) (c j : Nat) (v : Chn) : chOf (setCh d c v) j = if j = c then v else chOf d j := by
  split
  · next h => subst h; exact SMap.read_put_same ..
  · next h => exact SMap.read_put_ne _ _ _ _ _ h
@[simp] theorem chOf_setCh_same (d : Dev) (c : Nat) (v : Chn) : chOf (setCh d c v) c = v := by simp [chOf_setCh]
theorem chOf_setCh_ne (d : Dev) {c j : Nat} (v : Chn) (h : j ≠ c) : chOf (setCh d c v) j = chOf d j := by simp [chOf_setCh, h]
@[simp] theorem actW_setCh (d : Dev) (c : Nat) (v : Chn) (o : Nat) : actW (setCh d c v) o = actW d o := rfl
@[simp] theorem rd_setCh (d : Dev) (c : Nat) (v : Chn) (f : Fld) : rd (setCh d c v) f = rd d f := rfl
@[simp] theorem hdrOf_setCh (d : Dev) (c : Nat) (v : Chn) (p : Nat) : hdrOf (setCh d c v) p = hdrOf d p := rfl

theorem keySlot_setKeySlot (d : Dev) (n j : Nat) (v : KeySlot) : keySlot (setKeySlot d n v) j = if j = n then v else keySlot d j := by
  split
  · next h => subst h; exact SMap.read_put_same ..
  · next h => exact SMap.read_put_ne _ _ _ _ _ h
@[simp] theorem keySlot_setKeySlot_same (d : Dev) (n : Nat) (v : KeySlot) : keySlot (setKeySlot d n v) n = v := by simp [keySlot_setKeySlot]
theorem keySlot_setKeySlot_ne (d : Dev) {n j : Nat} (v : KeySlot) (h : j ≠ n) : keySlot (setKeySlot d n v) j = keySlot d j := by simp [keySlot_setKeySlot, h]
@[simp] theorem actW_setKeySlot (d : Dev) (n : Nat) (v : KeySlot) (o : Nat) : actW (setKeySlot d n v) o = actW d o := rfl
@[simp] theorem rd_setKeySlot (d : Dev) (n : Nat) (v : KeySlot) (f : Fld) : rd (setKeySlot d n v) f = rd d f := rfl
@[simp] theorem hdrOf_setKeySlot (d : Dev) (n : Nat) (v : KeySlot) (p : Nat) : hdrOf (setKeySlot d n v) p = hdrOf d p := rfl

theorem movOf_setMov (d : Dev) (ch j : Nat) (v : MovCh) : movOf (setMov d ch v) j = if j = ch then v else movOf d j := by
  split
  · next h => subst h; exact SMap.read_put_same ..
  · next h => exact SMap.read_put_ne _ _ _ _ _ h
@[simp] theorem movOf_setMov_same (d : Dev) (ch : Nat) (v : MovCh) : movOf (setMov d ch v) ch = v := by simp [movOf_setMov]
theorem movOf_setMov_ne (d : Dev) {ch j : Nat} (v : MovCh) (h : j ≠ ch) : movOf (setMov d ch v) j = movOf d j := by simp [movOf_setMov, h]
@[simp] theorem actW_setMov (d : Dev) (ch : Nat) (v : MovCh) (o : Nat) : actW (setMov d ch v) o = actW d o := rfl
@[simp] theorem rd_setMov (d : Dev) (ch : Nat) (v : MovCh) (f : Fld) : rd (setMov d ch v) f = rd d f := rfl
@[simp] theorem hdrOf_setMov (d : Dev) (ch : Nat) (v : MovCh) (p : Nat) : hdrOf (setMov d ch v) p = hdrOf d p := rfl

theorem strmOf_setStrm (d : Dev) (i j : Nat) (v : Strm) : strmOf (setStrm d i v) j = if j = i then v else strmOf d j := by
  split
  · next h => subst h; exact SMap.read_put_same ..
  · next h => exact SMap.read_put_ne _ _ _ _ _ h
@[simp] theorem strmOf_setStrm_same (d : Dev) (i : Nat) (v : Strm) : strmOf (setStrm d i v) i = v := by simp [strmOf_setStrm]
theorem strmOf_setStrm_ne (d : Dev) {i j : Nat} (v : Strm) (h : j ≠ i) : strmOf (setStrm d i v) j = strmOf d j := by simp [strmOf_setStrm, h]
@[simp] theorem actW_setStrm (d : Dev) (i : Nat) (v : Strm) (o : Nat) : actW (setStrm d i v) o = actW d o := rfl
@[simp] theorem rd_setStrm (d : Dev) (i : Nat) (v : Strm) (f : Fld) : rd (setStrm d i v) f = rd d f := rfl
@[simp] theorem hdrOf_setStrm (d : Dev) (i : Nat) (v : Strm) (p : Nat) : hdrOf (setStrm d i v) p = hdrOf d p := rfl

theorem ctlOf_setCtl (d : Dev) (fn j : Nat) (v : FnCtl) : ctlOf (setCtl d fn v) j = if j = fn then v else ctlOf d j := by
  split
  · next h => subst h; exact SMap.read_put_same ..
  · next h => exact SMap.read_put_ne _ _ _ _ _ h
@[simp] theorem ctlOf_setCtl_same (d : Dev) (fn : Nat) (v : FnCtl) : ctlOf (setCtl d fn v) fn = v := by simp [ctlOf_setCtl]
theorem ctlOf_setCtl_ne (d : Dev) {fn j : Nat} (v : FnCtl) (h : j ≠ fn) : ctlOf (setCtl d fn v) j = ctlOf d j := by simp [ctlOf_setCtl, h]
@[simp] theorem hdrOf_setCtl (d : Dev) (fn : Nat) (v : FnCtl) (p : Nat) : hdrOf (setCtl d fn v) p = hdrOf d p := rfl

theorem regOf_setReg (d : Dev) (k j : Nat) (v : OwnReg) : regOf (setReg d k v) j = if j = k then v else regOf d j := by
  split
  · next h => subst h; exact SMap.read_put_same ..
  · next h => exact SMap.read_put_ne _ _ _ _ _ h
@[simp] theorem regOf_setReg_same (d : Dev) (k : Nat) (v : OwnReg) : regOf (setReg d k v) k = v := by simp [regOf_setReg]
theorem regOf_setReg_ne (d : Dev) {k j : Nat} (v : OwnReg) (h : j ≠ k) : regOf (setReg d k v) j = regOf d j := by simp [regOf_setReg, h]
@[simp] theorem actW_setReg (d : Dev) (k : Nat) (v : OwnReg) (o : Nat) : actW (setReg d k v) o = actW d o := rfl
@[simp] theorem rd_setReg (d : Dev) (k : Nat) (v : OwnReg) (f : Fld) : rd (setReg d k v) f = rd d f := rfl
@[simp] theorem hdrOf_setReg (d : Dev) (k : Nat) (v : OwnReg) (p : Nat) : hdrOf (setReg d k v) p = hdrOf d p := rfl

@[simp] theorem seatOf?_setSeat_same (d : Dev) (n : Nat) (v : Seat) : seatOf? (setSeat d n v) n = some v := SMap.get?_set_same ..
theorem seatOf?_setSeat_ne (d : Dev) {n j : Nat} (v : Seat) (h : j ≠ n) : seatOf? (setSeat d n v) j = seatOf? d j := SMap.get?_set_ne _ _ _ _ h

@[simp] theorem actW_modNand (d : Dev) (f : Nand → Nand) (o : Nat) : actW (modNand d f) o = actW d o := rfl
@[simp] theorem rd_modNand (d : Dev) (f : Nand → Nand) (g : Fld) : rd (modNand d f) g = rd d g := rfl
@[simp] theorem hdrOf_modNand (d : Dev) (f : Nand → Nand) (p : Nat) : hdrOf (modNand d f) p = hdrOf d p := rfl
@[simp] theorem modNand_nand (d : Dev) (f : Nand → Nand) : (modNand d f).med.nand = f d.med.nand := rfl
@[simp] theorem modNand_modNand (d : Dev) (f g : Nand → Nand) : modNand (modNand d f) g = modNand d (fun n => g (f n)) := rfl
@[simp] theorem setArr_array (d : Dev) (a : FwArray) : (setArr d a).array = a := rfl
@[simp] theorem actW_setArr (d : Dev) (a : FwArray) (o : Nat) : actW (setArr d a) o = actW d o := rfl
@[simp] theorem hdrOf_setArr (d : Dev) (a : FwArray) (p : Nat) : hdrOf (setArr d a) p = hdrOf d p := rfl

end Sys2Proof.Machine
end

