-- ==== Sys2Proof/Laws/Updates.lean ====
section
/-!
SUPPORT. One lemma for each field of the device under each named update of the media, the LUNs, the channels, the keys and the turns: what
the update leaves as it was.
-/
namespace Sys2Proof.Machine

@[simp] theorem modNand_hub (d : Dev) (f : Nand → Nand) : (modNand d f).hub = d.hub := rfl
@[simp] theorem modNand_sys (d : Dev) (f : Nand → Nand) : (modNand d f).sys = d.sys := rfl
@[simp] theorem modNand_pci (d : Dev) (f : Nand → Nand) : (modNand d f).pci = d.pci := rfl
@[simp] theorem modNand_seats (d : Dev) (f : Nand → Nand) : (modNand d f).seats = d.seats := rfl
@[simp] theorem modNand_cmds (d : Dev) (f : Nand → Nand) : (modNand d f).cmds = d.cmds := rfl
@[simp] theorem modNand_log (d : Dev) (f : Nand → Nand) : (modNand d f).log = d.log := rfl
@[simp] theorem modNand_adm (d : Dev) (f : Nand → Nand) : (modNand d f).adm = d.adm := rfl
@[simp] theorem modNand_chn (d : Dev) (f : Nand → Nand) : (modNand d f).chn = d.chn := rfl
@[simp] theorem modNand_cox (d : Dev) (f : Nand → Nand) : (modNand d f).cox = d.cox := rfl
@[simp] theorem modNand_stk (d : Dev) (f : Nand → Nand) : (modNand d f).stk = d.stk := rfl
@[simp] theorem modNand_trace (d : Dev) (f : Nand → Nand) : (modNand d f).trace = d.trace := rfl
@[simp] theorem modNand_keys (d : Dev) (f : Nand → Nand) : (modNand d f).keys = d.keys := rfl
@[simp] theorem modNand_mover (d : Dev) (f : Nand → Nand) : (modNand d f).mover = d.mover := rfl
@[simp] theorem modNand_mem (d : Dev) (f : Nand → Nand) : (modNand d f).mem = d.mem := rfl
@[simp] theorem modNand_array (d : Dev) (f : Nand → Nand) : (modNand d f).array = d.array := rfl
@[simp] theorem modNand_upd (d : Dev) (f : Nand → Nand) : (modNand d f).upd = d.upd := rfl
@[simp] theorem modNand_admin (d : Dev) (f : Nand → Nand) : (modNand d f).admin = d.admin := rfl
@[simp] theorem modNand_out (d : Dev) (f : Nand → Nand) : (modNand d f).out = d.out := rfl
@[simp] theorem modNand_free (d : Dev) (f : Nand → Nand) : (modNand d f).free = d.free := rfl
@[simp] theorem modNand_med_m (d : Dev) (f : Nand → Nand) : (modNand d f).med.m = d.med.m := rfl
@[simp] theorem modNand_med_ring (d : Dev) (f : Nand → Nand) : (modNand d f).med.ring = d.med.ring := rfl
@[simp] theorem modNand_med_nextSlot (d : Dev) (f : Nand → Nand) : (modNand d f).med.nextSlot = d.med.nextSlot := rfl
@[simp] theorem modNand_med_reloc (d : Dev) (f : Nand → Nand) : (modNand d f).med.reloc = d.med.reloc := rfl
@[simp] theorem modNand_med_deltas (d : Dev) (f : Nand → Nand) : (modNand d f).med.deltas = d.med.deltas := rfl
@[simp] theorem modNand_med_chunkNow (d : Dev) (f : Nand → Nand) : (modNand d f).med.chunkNow = d.med.chunkNow := rfl
@[simp] theorem modNand_med_jmap (d : Dev) (f : Nand → Nand) : (modNand d f).med.jmap = d.med.jmap := rfl
@[simp] theorem modNand_med_jrecent (d : Dev) (f : Nand → Nand) : (modNand d f).med.jrecent = d.med.jrecent := rfl
@[simp] theorem modNand_med_scanBad (d : Dev) (f : Nand → Nand) : (modNand d f).med.scanBad = d.med.scanBad := rfl
@[simp] theorem modNand_med_nextTx (d : Dev) (f : Nand → Nand) : (modNand d f).med.nextTx = d.med.nextTx := rfl
@[simp] theorem modNand_med_eraseBatch (d : Dev) (f : Nand → Nand) : (modNand d f).med.eraseBatch = d.med.eraseBatch := rfl
@[simp] theorem modNand_med_sysWait (d : Dev) (f : Nand → Nand) : (modNand d f).med.sysWait = d.med.sysWait := rfl
@[simp] theorem modNand_med_window (d : Dev) (f : Nand → Nand) : (modNand d f).med.window = d.med.window := rfl
@[simp] theorem modNand_med_rot (d : Dev) (f : Nand → Nand) : (modNand d f).med.rot = d.med.rot := rfl
@[simp] theorem modNand_med_waitOpen (d : Dev) (f : Nand → Nand) : (modNand d f).med.waitOpen = d.med.waitOpen := rfl
@[simp] theorem modNand_med_waitReloc (d : Dev) (f : Nand → Nand) : (modNand d f).med.waitReloc = d.med.waitReloc := rfl
@[simp] theorem modNand_med_work (d : Dev) (f : Nand → Nand) : (modNand d f).med.work = d.med.work := rfl
@[simp] theorem modNand_med_jobs (d : Dev) (f : Nand → Nand) : (modNand d f).med.jobs = d.med.jobs := rfl
@[simp] theorem modNand_med_soft (d : Dev) (f : Nand → Nand) : (modNand d f).med.soft = d.med.soft := rfl
@[simp] theorem modNand_med_nextJob (d : Dev) (f : Nand → Nand) : (modNand d f).med.nextJob = d.med.nextJob := rfl
@[simp] theorem modNand_med_gcv (d : Dev) (f : Nand → Nand) : (modNand d f).med.gcv = d.med.gcv := rfl
@[simp] theorem modNand_med_rung1Cut (d : Dev) (f : Nand → Nand) : (modNand d f).med.rung1Cut = d.med.rung1Cut := rfl
@[simp] theorem modNand_med_folding (d : Dev) (f : Nand → Nand) : (modNand d f).med.folding = d.med.folding := rfl
@[simp] theorem modNand_med_ptlLeft (d : Dev) (f : Nand → Nand) : (modNand d f).med.ptlLeft = d.med.ptlLeft := rfl
@[simp] theorem modNand_med_ptlStart (d : Dev) (f : Nand → Nand) : (modNand d f).med.ptlStart = d.med.ptlStart := rfl
@[simp] theorem modNand_med_ptlSpent (d : Dev) (f : Nand → Nand) : (modNand d f).med.ptlSpent = d.med.ptlSpent := rfl
@[simp] theorem modNand_med_eolDone (d : Dev) (f : Nand → Nand) : (modNand d f).med.eolDone = d.med.eolDone := rfl
@[simp] theorem modNand_med_rebuild (d : Dev) (f : Nand → Nand) : (modNand d f).med.rebuild = d.med.rebuild := rfl
@[simp] theorem modNand_med_t0 (d : Dev) (f : Nand → Nand) : (modNand d f).med.t0 = d.med.t0 := rfl
@[simp] theorem shdW_modNand (d : Dev) (f : Nand → Nand) (o : Nat) : shdW (modNand d f) o = shdW d o := rfl
@[simp] theorem setBat_hub (d : Dev) (b : Nat) (v : Batten) : (setBat d b v).hub = d.hub := rfl
@[simp] theorem setBat_sys (d : Dev) (b : Nat) (v : Batten) : (setBat d b v).sys = d.sys := rfl
@[simp] theorem setBat_pci (d : Dev) (b : Nat) (v : Batten) : (setBat d b v).pci = d.pci := rfl
@[simp] theorem setBat_seats (d : Dev) (b : Nat) (v : Batten) : (setBat d b v).seats = d.seats := rfl
@[simp] theorem setBat_cmds (d : Dev) (b : Nat) (v : Batten) : (setBat d b v).cmds = d.cmds := rfl
@[simp] theorem setBat_log (d : Dev) (b : Nat) (v : Batten) : (setBat d b v).log = d.log := rfl
@[simp] theorem setBat_adm (d : Dev) (b : Nat) (v : Batten) : (setBat d b v).adm = d.adm := rfl
@[simp] theorem setBat_chn (d : Dev) (b : Nat) (v : Batten) : (setBat d b v).chn = d.chn := rfl
@[simp] theorem setBat_cox (d : Dev) (b : Nat) (v : Batten) : (setBat d b v).cox = d.cox := rfl
@[simp] theorem setBat_stk (d : Dev) (b : Nat) (v : Batten) : (setBat d b v).stk = d.stk := rfl
@[simp] theorem setBat_trace (d : Dev) (b : Nat) (v : Batten) : (setBat d b v).trace = d.trace := rfl
@[simp] theorem setBat_keys (d : Dev) (b : Nat) (v : Batten) : (setBat d b v).keys = d.keys := rfl
@[simp] theorem setBat_mover (d : Dev) (b : Nat) (v : Batten) : (setBat d b v).mover = d.mover := rfl
@[simp] theorem setBat_mem (d : Dev) (b : Nat) (v : Batten) : (setBat d b v).mem = d.mem := rfl
@[simp] theorem setBat_array (d : Dev) (b : Nat) (v : Batten) : (setBat d b v).array = d.array := rfl
@[simp] theorem setBat_upd (d : Dev) (b : Nat) (v : Batten) : (setBat d b v).upd = d.upd := rfl
@[simp] theorem setBat_admin (d : Dev) (b : Nat) (v : Batten) : (setBat d b v).admin = d.admin := rfl
@[simp] theorem setBat_out (d : Dev) (b : Nat) (v : Batten) : (setBat d b v).out = d.out := rfl
@[simp] theorem setBat_free (d : Dev) (b : Nat) (v : Batten) : (setBat d b v).free = d.free := rfl
@[simp] theorem setBat_med_m (d : Dev) (b : Nat) (v : Batten) : (setBat d b v).med.m = d.med.m := rfl
@[simp] theorem setBat_med_ring (d : Dev) (b : Nat) (v : Batten) : (setBat d b v).med.ring = d.med.ring := rfl
@[simp] theorem setBat_med_nextSlot (d : Dev) (b : Nat) (v : Batten) : (setBat d b v).med.nextSlot = d.med.nextSlot := rfl
@[simp] theorem setBat_med_reloc (d : Dev) (b : Nat) (v : Batten) : (setBat d b v).med.reloc = d.med.reloc := rfl
@[simp] theorem setBat_med_deltas (d : Dev) (b : Nat) (v : Batten) : (setBat d b v).med.deltas = d.med.deltas := rfl
@[simp] theorem setBat_med_chunkNow (d : Dev) (b : Nat) (v : Batten) : (setBat d b v).med.chunkNow = d.med.chunkNow := rfl
@[simp] theorem setBat_med_jmap (d : Dev) (b : Nat) (v : Batten) : (setBat d b v).med.jmap = d.med.jmap := rfl
@[simp] theorem setBat_med_jrecent (d : Dev) (b : Nat) (v : Batten) : (setBat d b v).med.jrecent = d.med.jrecent := rfl
@[simp] theorem setBat_med_scanBad (d : Dev) (b : Nat) (v : Batten) : (setBat d b v).med.scanBad = d.med.scanBad := rfl
@[simp] theorem setBat_med_nextTx (d : Dev) (b : Nat) (v : Batten) : (setBat d b v).med.nextTx = d.med.nextTx := rfl
@[simp] theorem setBat_med_eraseBatch (d : Dev) (b : Nat) (v : Batten) : (setBat d b v).med.eraseBatch = d.med.eraseBatch := rfl
@[simp] theorem setBat_med_sysWait (d : Dev) (b : Nat) (v : Batten) : (setBat d b v).med.sysWait = d.med.sysWait := rfl
@[simp] theorem setBat_med_window (d : Dev) (b : Nat) (v : Batten) : (setBat d b v).med.window = d.med.window := rfl
@[simp] theorem setBat_med_rot (d : Dev) (b : Nat) (v : Batten) : (setBat d b v).med.rot = d.med.rot := rfl
@[simp] theorem setBat_med_waitOpen (d : Dev) (b : Nat) (v : Batten) : (setBat d b v).med.waitOpen = d.med.waitOpen := rfl
@[simp] theorem setBat_med_waitReloc (d : Dev) (b : Nat) (v : Batten) : (setBat d b v).med.waitReloc = d.med.waitReloc := rfl
@[simp] theorem setBat_med_work (d : Dev) (b : Nat) (v : Batten) : (setBat d b v).med.work = d.med.work := rfl
@[simp] theorem setBat_med_jobs (d : Dev) (b : Nat) (v : Batten) : (setBat d b v).med.jobs = d.med.jobs := rfl
@[simp] theorem setBat_med_soft (d : Dev) (b : Nat) (v : Batten) : (setBat d b v).med.soft = d.med.soft := rfl
@[simp] theorem setBat_med_nextJob (d : Dev) (b : Nat) (v : Batten) : (setBat d b v).med.nextJob = d.med.nextJob := rfl
@[simp] theorem setBat_med_gcv (d : Dev) (b : Nat) (v : Batten) : (setBat d b v).med.gcv = d.med.gcv := rfl
@[simp] theorem setBat_med_rung1Cut (d : Dev) (b : Nat) (v : Batten) : (setBat d b v).med.rung1Cut = d.med.rung1Cut := rfl
@[simp] theorem setBat_med_folding (d : Dev) (b : Nat) (v : Batten) : (setBat d b v).med.folding = d.med.folding := rfl
@[simp] theorem setBat_med_ptlLeft (d : Dev) (b : Nat) (v : Batten) : (setBat d b v).med.ptlLeft = d.med.ptlLeft := rfl
@[simp] theorem setBat_med_ptlStart (d : Dev) (b : Nat) (v : Batten) : (setBat d b v).med.ptlStart = d.med.ptlStart := rfl
@[simp] theorem setBat_med_ptlSpent (d : Dev) (b : Nat) (v : Batten) : (setBat d b v).med.ptlSpent = d.med.ptlSpent := rfl
@[simp] theorem setBat_med_eolDone (d : Dev) (b : Nat) (v : Batten) : (setBat d b v).med.eolDone = d.med.eolDone := rfl
@[simp] theorem setBat_med_rebuild (d : Dev) (b : Nat) (v : Batten) : (setBat d b v).med.rebuild = d.med.rebuild := rfl
@[simp] theorem setBat_med_t0 (d : Dev) (b : Nat) (v : Batten) : (setBat d b v).med.t0 = d.med.t0 := rfl
@[simp] theorem shdW_setBat (d : Dev) (b : Nat) (v : Batten) (o : Nat) : shdW (setBat d b v) o = shdW d o := rfl
@[simp] theorem modBat_hub (d : Dev) (b : Nat) (f : Batten → Batten) : (modBat d b f).hub = d.hub := rfl
@[simp] theorem modBat_sys (d : Dev) (b : Nat) (f : Batten → Batten) : (modBat d b f).sys = d.sys := rfl
@[simp] theorem modBat_pci (d : Dev) (b : Nat) (f : Batten → Batten) : (modBat d b f).pci = d.pci := rfl
@[simp] theorem modBat_seats (d : Dev) (b : Nat) (f : Batten → Batten) : (modBat d b f).seats = d.seats := rfl
@[simp] theorem modBat_cmds (d : Dev) (b : Nat) (f : Batten → Batten) : (modBat d b f).cmds = d.cmds := rfl
@[simp] theorem modBat_log (d : Dev) (b : Nat) (f : Batten → Batten) : (modBat d b f).log = d.log := rfl
@[simp] theorem modBat_adm (d : Dev) (b : Nat) (f : Batten → Batten) : (modBat d b f).adm = d.adm := rfl
@[simp] theorem modBat_chn (d : Dev) (b : Nat) (f : Batten → Batten) : (modBat d b f).chn = d.chn := rfl
@[simp] theorem modBat_cox (d : Dev) (b : Nat) (f : Batten → Batten) : (modBat d b f).cox = d.cox := rfl
@[simp] theorem modBat_stk (d : Dev) (b : Nat) (f : Batten → Batten) : (modBat d b f).stk = d.stk := rfl
@[simp] theorem modBat_trace (d : Dev) (b : Nat) (f : Batten → Batten) : (modBat d b f).trace = d.trace := rfl
@[simp] theorem modBat_keys (d : Dev) (b : Nat) (f : Batten → Batten) : (modBat d b f).keys = d.keys := rfl
@[simp] theorem modBat_mover (d : Dev) (b : Nat) (f : Batten → Batten) : (modBat d b f).mover = d.mover := rfl
@[simp] theorem modBat_mem (d : Dev) (b : Nat) (f : Batten → Batten) : (modBat d b f).mem = d.mem := rfl
@[simp] theorem modBat_array (d : Dev) (b : Nat) (f : Batten → Batten) : (modBat d b f).array = d.array := rfl
@[simp] theorem modBat_upd (d : Dev) (b : Nat) (f : Batten → Batten) : (modBat d b f).upd = d.upd := rfl
@[simp] theorem modBat_admin (d : Dev) (b : Nat) (f : Batten → Batten) : (modBat d b f).admin = d.admin := rfl
@[simp] theorem modBat_out (d : Dev) (b : Nat) (f : Batten → Batten) : (modBat d b f).out = d.out := rfl
@[simp] theorem modBat_free (d : Dev) (b : Nat) (f : Batten → Batten) : (modBat d b f).free = d.free := rfl
@[simp] theorem modBat_med_m (d : Dev) (b : Nat) (f : Batten → Batten) : (modBat d b f).med.m = d.med.m := rfl
@[simp] theorem modBat_med_ring (d : Dev) (b : Nat) (f : Batten → Batten) : (modBat d b f).med.ring = d.med.ring := rfl
@[simp] theorem modBat_med_nextSlot (d : Dev) (b : Nat) (f : Batten → Batten) : (modBat d b f).med.nextSlot = d.med.nextSlot := rfl
@[simp] theorem modBat_med_reloc (d : Dev) (b : Nat) (f : Batten → Batten) : (modBat d b f).med.reloc = d.med.reloc := rfl
@[simp] theorem modBat_med_deltas (d : Dev) (b : Nat) (f : Batten → Batten) : (modBat d b f).med.deltas = d.med.deltas := rfl
@[simp] theorem modBat_med_chunkNow (d : Dev) (b : Nat) (f : Batten → Batten) : (modBat d b f).med.chunkNow = d.med.chunkNow := rfl
@[simp] theorem modBat_med_jmap (d : Dev) (b : Nat) (f : Batten → Batten) : (modBat d b f).med.jmap = d.med.jmap := rfl
@[simp] theorem modBat_med_jrecent (d : Dev) (b : Nat) (f : Batten → Batten) : (modBat d b f).med.jrecent = d.med.jrecent := rfl
@[simp] theorem modBat_med_scanBad (d : Dev) (b : Nat) (f : Batten → Batten) : (modBat d b f).med.scanBad = d.med.scanBad := rfl
@[simp] theorem modBat_med_nextTx (d : Dev) (b : Nat) (f : Batten → Batten) : (modBat d b f).med.nextTx = d.med.nextTx := rfl
@[simp] theorem modBat_med_eraseBatch (d : Dev) (b : Nat) (f : Batten → Batten) : (modBat d b f).med.eraseBatch = d.med.eraseBatch := rfl
@[simp] theorem modBat_med_sysWait (d : Dev) (b : Nat) (f : Batten → Batten) : (modBat d b f).med.sysWait = d.med.sysWait := rfl
@[simp] theorem modBat_med_window (d : Dev) (b : Nat) (f : Batten → Batten) : (modBat d b f).med.window = d.med.window := rfl
@[simp] theorem modBat_med_rot (d : Dev) (b : Nat) (f : Batten → Batten) : (modBat d b f).med.rot = d.med.rot := rfl
@[simp] theorem modBat_med_waitOpen (d : Dev) (b : Nat) (f : Batten → Batten) : (modBat d b f).med.waitOpen = d.med.waitOpen := rfl
@[simp] theorem modBat_med_waitReloc (d : Dev) (b : Nat) (f : Batten → Batten) : (modBat d b f).med.waitReloc = d.med.waitReloc := rfl
@[simp] theorem modBat_med_work (d : Dev) (b : Nat) (f : Batten → Batten) : (modBat d b f).med.work = d.med.work := rfl
@[simp] theorem modBat_med_jobs (d : Dev) (b : Nat) (f : Batten → Batten) : (modBat d b f).med.jobs = d.med.jobs := rfl
@[simp] theorem modBat_med_soft (d : Dev) (b : Nat) (f : Batten → Batten) : (modBat d b f).med.soft = d.med.soft := rfl
@[simp] theorem modBat_med_nextJob (d : Dev) (b : Nat) (f : Batten → Batten) : (modBat d b f).med.nextJob = d.med.nextJob := rfl
@[simp] theorem modBat_med_gcv (d : Dev) (b : Nat) (f : Batten → Batten) : (modBat d b f).med.gcv = d.med.gcv := rfl
@[simp] theorem modBat_med_rung1Cut (d : Dev) (b : Nat) (f : Batten → Batten) : (modBat d b f).med.rung1Cut = d.med.rung1Cut := rfl
@[simp] theorem modBat_med_folding (d : Dev) (b : Nat) (f : Batten → Batten) : (modBat d b f).med.folding = d.med.folding := rfl
@[simp] theorem modBat_med_ptlLeft (d : Dev) (b : Nat) (f : Batten → Batten) : (modBat d b f).med.ptlLeft = d.med.ptlLeft := rfl
@[simp] theorem modBat_med_ptlStart (d : Dev) (b : Nat) (f : Batten → Batten) : (modBat d b f).med.ptlStart = d.med.ptlStart := rfl
@[simp] theorem modBat_med_ptlSpent (d : Dev) (b : Nat) (f : Batten → Batten) : (modBat d b f).med.ptlSpent = d.med.ptlSpent := rfl
@[simp] theorem modBat_med_eolDone (d : Dev) (b : Nat) (f : Batten → Batten) : (modBat d b f).med.eolDone = d.med.eolDone := rfl
@[simp] theorem modBat_med_rebuild (d : Dev) (b : Nat) (f : Batten → Batten) : (modBat d b f).med.rebuild = d.med.rebuild := rfl
@[simp] theorem modBat_med_t0 (d : Dev) (b : Nat) (f : Batten → Batten) : (modBat d b f).med.t0 = d.med.t0 := rfl
@[simp] theorem actW_modBat (d : Dev) (b : Nat) (f : Batten → Batten) (o : Nat) : actW (modBat d b f) o = actW d o := rfl
@[simp] theorem shdW_modBat (d : Dev) (b : Nat) (f : Batten → Batten) (o : Nat) : shdW (modBat d b f) o = shdW d o := rfl
@[simp] theorem hdrOf_modBat (d : Dev) (b : Nat) (f : Batten → Batten) (p : Nat) : hdrOf (modBat d b f) p = hdrOf d p := rfl
@[simp] theorem setLun_hub (d : Dev) (l : Nat) (v : LunSt) : (setLun d l v).hub = d.hub := rfl
@[simp] theorem setLun_sys (d : Dev) (l : Nat) (v : LunSt) : (setLun d l v).sys = d.sys := rfl
@[simp] theorem setLun_pci (d : Dev) (l : Nat) (v : LunSt) : (setLun d l v).pci = d.pci := rfl
@[simp] theorem setLun_seats (d : Dev) (l : Nat) (v : LunSt) : (setLun d l v).seats = d.seats := rfl
@[simp] theorem setLun_cmds (d : Dev) (l : Nat) (v : LunSt) : (setLun d l v).cmds = d.cmds := rfl
@[simp] theorem setLun_log (d : Dev) (l : Nat) (v : LunSt) : (setLun d l v).log = d.log := rfl
@[simp] theorem setLun_adm (d : Dev) (l : Nat) (v : LunSt) : (setLun d l v).adm = d.adm := rfl
@[simp] theorem setLun_med (d : Dev) (l : Nat) (v : LunSt) : (setLun d l v).med = d.med := rfl
@[simp] theorem setLun_chn (d : Dev) (l : Nat) (v : LunSt) : (setLun d l v).chn = d.chn := rfl
@[simp] theorem setLun_stk (d : Dev) (l : Nat) (v : LunSt) : (setLun d l v).stk = d.stk := rfl
@[simp] theorem setLun_trace (d : Dev) (l : Nat) (v : LunSt) : (setLun d l v).trace = d.trace := rfl
@[simp] theorem setLun_keys (d : Dev) (l : Nat) (v : LunSt) : (setLun d l v).keys = d.keys := rfl
@[simp] theorem setLun_mover (d : Dev) (l : Nat) (v : LunSt) : (setLun d l v).mover = d.mover := rfl
@[simp] theorem setLun_mem (d : Dev) (l : Nat) (v : LunSt) : (setLun d l v).mem = d.mem := rfl
@[simp] theorem setLun_array (d : Dev) (l : Nat) (v : LunSt) : (setLun d l v).array = d.array := rfl
@[simp] theorem setLun_upd (d : Dev) (l : Nat) (v : LunSt) : (setLun d l v).upd = d.upd := rfl
@[simp] theorem setLun_admin (d : Dev) (l : Nat) (v : LunSt) : (setLun d l v).admin = d.admin := rfl
@[simp] theorem setLun_out (d : Dev) (l : Nat) (v : LunSt) : (setLun d l v).out = d.out := rfl
@[simp] theorem setLun_free (d : Dev) (l : Nat) (v : LunSt) : (setLun d l v).free = d.free := rfl
@[simp] theorem shdW_setLun (d : Dev) (l : Nat) (v : LunSt) (o : Nat) : shdW (setLun d l v) o = shdW d o := rfl
@[simp] theorem modLun_hub (d : Dev) (l : Nat) (f : LunSt → LunSt) : (modLun d l f).hub = d.hub := rfl
@[simp] theorem modLun_sys (d : Dev) (l : Nat) (f : LunSt → LunSt) : (modLun d l f).sys = d.sys := rfl
@[simp] theorem modLun_pci (d : Dev) (l : Nat) (f : LunSt → LunSt) : (modLun d l f).pci = d.pci := rfl
@[simp] theorem modLun_seats (d : Dev) (l : Nat) (f : LunSt → LunSt) : (modLun d l f).seats = d.seats := rfl
@[simp] theorem modLun_cmds (d : Dev) (l : Nat) (f : LunSt → LunSt) : (modLun d l f).cmds = d.cmds := rfl
@[simp] theorem modLun_log (d : Dev) (l : Nat) (f : LunSt → LunSt) : (modLun d l f).log = d.log := rfl
@[simp] theorem modLun_adm (d : Dev) (l : Nat) (f : LunSt → LunSt) : (modLun d l f).adm = d.adm := rfl
@[simp] theorem modLun_med (d : Dev) (l : Nat) (f : LunSt → LunSt) : (modLun d l f).med = d.med := rfl
@[simp] theorem modLun_chn (d : Dev) (l : Nat) (f : LunSt → LunSt) : (modLun d l f).chn = d.chn := rfl
@[simp] theorem modLun_stk (d : Dev) (l : Nat) (f : LunSt → LunSt) : (modLun d l f).stk = d.stk := rfl
@[simp] theorem modLun_trace (d : Dev) (l : Nat) (f : LunSt → LunSt) : (modLun d l f).trace = d.trace := rfl
@[simp] theorem modLun_keys (d : Dev) (l : Nat) (f : LunSt → LunSt) : (modLun d l f).keys = d.keys := rfl
@[simp] theorem modLun_mover (d : Dev) (l : Nat) (f : LunSt → LunSt) : (modLun d l f).mover = d.mover := rfl
@[simp] theorem modLun_mem (d : Dev) (l : Nat) (f : LunSt → LunSt) : (modLun d l f).mem = d.mem := rfl
@[simp] theorem modLun_array (d : Dev) (l : Nat) (f : LunSt → LunSt) : (modLun d l f).array = d.array := rfl
@[simp] theorem modLun_upd (d : Dev) (l : Nat) (f : LunSt → LunSt) : (modLun d l f).upd = d.upd := rfl
@[simp] theorem modLun_admin (d : Dev) (l : Nat) (f : LunSt → LunSt) : (modLun d l f).admin = d.admin := rfl
@[simp] theorem modLun_out (d : Dev) (l : Nat) (f : LunSt → LunSt) : (modLun d l f).out = d.out := rfl
@[simp] theorem modLun_free (d : Dev) (l : Nat) (f : LunSt → LunSt) : (modLun d l f).free = d.free := rfl
@[simp] theorem actW_modLun (d : Dev) (l : Nat) (f : LunSt → LunSt) (o : Nat) : actW (modLun d l f) o = actW d o := rfl
@[simp] theorem shdW_modLun (d : Dev) (l : Nat) (f : LunSt → LunSt) (o : Nat) : shdW (modLun d l f) o = shdW d o := rfl
@[simp] theorem hdrOf_modLun (d : Dev) (l : Nat) (f : LunSt → LunSt) (p : Nat) : hdrOf (modLun d l f) p = hdrOf d p := rfl
@[simp] theorem setCh_hub (d : Dev) (c : Nat) (v : Chn) : (setCh d c v).hub = d.hub := rfl
@[simp] theorem setCh_sys (d : Dev) (c : Nat) (v : Chn) : (setCh d c v).sys = d.sys := rfl
@[simp] theorem setCh_pci (d : Dev) (c : Nat) (v : Chn) : (setCh d c v).pci = d.pci := rfl
@[simp] theorem setCh_seats (d : Dev) (c : Nat) (v : Chn) : (setCh d c v).seats = d.seats := rfl
@[simp] theorem setCh_cmds (d : Dev) (c : Nat) (v : Chn) : (setCh d c v).cmds = d.cmds := rfl
@[simp] theorem setCh_log (d : Dev) (c : Nat) (v : Chn) : (setCh d c v).log = d.log := rfl
@[simp] theorem setCh_adm (d : Dev) (c : Nat) (v : Chn) : (setCh d c v).adm = d.adm := rfl
@[simp] theorem setCh_med (d : Dev) (c : Nat) (v : Chn) : (setCh d c v).med = d.med := rfl
@[simp] theorem setCh_cox (d : Dev) (c : Nat) (v : Chn) : (setCh d c v).cox = d.cox := rfl
@[simp] theorem setCh_stk (d : Dev) (c : Nat) (v : Chn) : (setCh d c v).stk = d.stk := rfl
@[simp] theorem setCh_trace (d : Dev) (c : Nat) (v : Chn) : (setCh d c v).trace = d.trace := rfl
@[simp] theorem setCh_keys (d : Dev) (c : Nat) (v : Chn) : (setCh d c v).keys = d.keys := rfl
@[simp] theorem setCh_mover (d : Dev) (c : Nat) (v : Chn) : (setCh d c v).mover = d.mover := rfl
@[simp] theorem setCh_mem (d : Dev) (c : Nat) (v : Chn) : (setCh d c v).mem = d.mem := rfl
@[simp] theorem setCh_array (d : Dev) (c : Nat) (v : Chn) : (setCh d c v).array = d.array := rfl
@[simp] theorem setCh_upd (d : Dev) (c : Nat) (v : Chn) : (setCh d c v).upd = d.upd := rfl
@[simp] theorem setCh_admin (d : Dev) (c : Nat) (v : Chn) : (setCh d c v).admin = d.admin := rfl
@[simp] theorem setCh_out (d : Dev) (c : Nat) (v : Chn) : (setCh d c v).out = d.out := rfl
@[simp] theorem setCh_free (d : Dev) (c : Nat) (v : Chn) : (setCh d c v).free = d.free := rfl
@[simp] theorem shdW_setCh (d : Dev) (c : Nat) (v : Chn) (o : Nat) : shdW (setCh d c v) o = shdW d o := rfl
@[simp] theorem setKeySlot_hub (d : Dev) (n : Nat) (k : KeySlot) : (setKeySlot d n k).hub = d.hub := rfl
@[simp] theorem setKeySlot_sys (d : Dev) (n : Nat) (k : KeySlot) : (setKeySlot d n k).sys = d.sys := rfl
@[simp] theorem setKeySlot_pci (d : Dev) (n : Nat) (k : KeySlot) : (setKeySlot d n k).pci = d.pci := rfl
@[simp] theorem setKeySlot_seats (d : Dev) (n : Nat) (k : KeySlot) : (setKeySlot d n k).seats = d.seats := rfl
@[simp] theorem setKeySlot_cmds (d : Dev) (n : Nat) (k : KeySlot) : (setKeySlot d n k).cmds = d.cmds := rfl
@[simp] theorem setKeySlot_log (d : Dev) (n : Nat) (k : KeySlot) : (setKeySlot d n k).log = d.log := rfl
@[simp] theorem setKeySlot_adm (d : Dev) (n : Nat) (k : KeySlot) : (setKeySlot d n k).adm = d.adm := rfl
@[simp] theorem setKeySlot_med (d : Dev) (n : Nat) (k : KeySlot) : (setKeySlot d n k).med = d.med := rfl
@[simp] theorem setKeySlot_chn (d : Dev) (n : Nat) (k : KeySlot) : (setKeySlot d n k).chn = d.chn := rfl
@[simp] theorem setKeySlot_cox (d : Dev) (n : Nat) (k : KeySlot) : (setKeySlot d n k).cox = d.cox := rfl
@[simp] theorem setKeySlot_stk (d : Dev) (n : Nat) (k : KeySlot) : (setKeySlot d n k).stk = d.stk := rfl
@[simp] theorem setKeySlot_trace (d : Dev) (n : Nat) (k : KeySlot) : (setKeySlot d n k).trace = d.trace := rfl
@[simp] theorem setKeySlot_mover (d : Dev) (n : Nat) (k : KeySlot) : (setKeySlot d n k).mover = d.mover := rfl
@[simp] theorem setKeySlot_mem (d : Dev) (n : Nat) (k : KeySlot) : (setKeySlot d n k).mem = d.mem := rfl
@[simp] theorem setKeySlot_array (d : Dev) (n : Nat) (k : KeySlot) : (setKeySlot d n k).array = d.array := rfl
@[simp] theorem setKeySlot_upd (d : Dev) (n : Nat) (k : KeySlot) : (setKeySlot d n k).upd = d.upd := rfl
@[simp] theorem setKeySlot_admin (d : Dev) (n : Nat) (k : KeySlot) : (setKeySlot d n k).admin = d.admin := rfl
@[simp] theorem setKeySlot_out (d : Dev) (n : Nat) (k : KeySlot) : (setKeySlot d n k).out = d.out := rfl
@[simp] theorem setKeySlot_free (d : Dev) (n : Nat) (k : KeySlot) : (setKeySlot d n k).free = d.free := rfl
@[simp] theorem shdW_setKeySlot (d : Dev) (n : Nat) (k : KeySlot) (o : Nat) : shdW (setKeySlot d n k) o = shdW d o := rfl
@[simp] theorem maskLost_hub (d : Dev) (c : Nat) : (maskLost d c).hub = d.hub := rfl
@[simp] theorem maskLost_sys (d : Dev) (c : Nat) : (maskLost d c).sys = d.sys := rfl
@[simp] theorem maskLost_pci (d : Dev) (c : Nat) : (maskLost d c).pci = d.pci := rfl
@[simp] theorem maskLost_seats (d : Dev) (c : Nat) : (maskLost d c).seats = d.seats := rfl
@[simp] theorem maskLost_cmds (d : Dev) (c : Nat) : (maskLost d c).cmds = d.cmds := rfl
@[simp] theorem maskLost_log (d : Dev) (c : Nat) : (maskLost d c).log = d.log := rfl
@[simp] theorem maskLost_adm (d : Dev) (c : Nat) : (maskLost d c).adm = d.adm := rfl
@[simp] theorem maskLost_med (d : Dev) (c : Nat) : (maskLost d c).med = d.med := rfl
@[simp] theorem maskLost_chn (d : Dev) (c : Nat) : (maskLost d c).chn = d.chn := rfl
@[simp] theorem maskLost_cox (d : Dev) (c : Nat) : (maskLost d c).cox = d.cox := rfl
@[simp] theorem maskLost_stk (d : Dev) (c : Nat) : (maskLost d c).stk = d.stk := rfl
@[simp] theorem maskLost_trace (d : Dev) (c : Nat) : (maskLost d c).trace = d.trace := rfl
@[simp] theorem maskLost_mover (d : Dev) (c : Nat) : (maskLost d c).mover = d.mover := rfl
@[simp] theorem maskLost_mem (d : Dev) (c : Nat) : (maskLost d c).mem = d.mem := rfl
@[simp] theorem maskLost_array (d : Dev) (c : Nat) : (maskLost d c).array = d.array := rfl
@[simp] theorem maskLost_upd (d : Dev) (c : Nat) : (maskLost d c).upd = d.upd := rfl
@[simp] theorem maskLost_admin (d : Dev) (c : Nat) : (maskLost d c).admin = d.admin := rfl
@[simp] theorem maskLost_out (d : Dev) (c : Nat) : (maskLost d c).out = d.out := rfl
@[simp] theorem maskLost_free (d : Dev) (c : Nat) : (maskLost d c).free = d.free := rfl
@[simp] theorem actW_maskLost (d : Dev) (c : Nat) (o : Nat) : actW (maskLost d c) o = actW d o := rfl
@[simp] theorem shdW_maskLost (d : Dev) (c : Nat) (o : Nat) : shdW (maskLost d c) o = shdW d o := rfl
@[simp] theorem hdrOf_maskLost (d : Dev) (c : Nat) (p : Nat) : hdrOf (maskLost d c) p = hdrOf d p := rfl
@[simp] theorem rrServed_hub (d : Dev) (link seat : Nat) : (rrServed d link seat).hub = d.hub := rfl
@[simp] theorem rrServed_sys (d : Dev) (link seat : Nat) : (rrServed d link seat).sys = d.sys := rfl
@[simp] theorem rrServed_pci (d : Dev) (link seat : Nat) : (rrServed d link seat).pci = d.pci := rfl
@[simp] theorem rrServed_seats (d : Dev) (link seat : Nat) : (rrServed d link seat).seats = d.seats := rfl
@[simp] theorem rrServed_log (d : Dev) (link seat : Nat) : (rrServed d link seat).log = d.log := rfl
@[simp] theorem rrServed_adm (d : Dev) (link seat : Nat) : (rrServed d link seat).adm = d.adm := rfl
@[simp] theorem rrServed_med (d : Dev) (link seat : Nat) : (rrServed d link seat).med = d.med := rfl
@[simp] theorem rrServed_chn (d : Dev) (link seat : Nat) : (rrServed d link seat).chn = d.chn := rfl
@[simp] theorem rrServed_cox (d : Dev) (link seat : Nat) : (rrServed d link seat).cox = d.cox := rfl
@[simp] theorem rrServed_stk (d : Dev) (link seat : Nat) : (rrServed d link seat).stk = d.stk := rfl
@[simp] theorem rrServed_trace (d : Dev) (link seat : Nat) : (rrServed d link seat).trace = d.trace := rfl
@[simp] theorem rrServed_keys (d : Dev) (link seat : Nat) : (rrServed d link seat).keys = d.keys := rfl
@[simp] theorem rrServed_mover (d : Dev) (link seat : Nat) : (rrServed d link seat).mover = d.mover := rfl
@[simp] theorem rrServed_mem (d : Dev) (link seat : Nat) : (rrServed d link seat).mem = d.mem := rfl
@[simp] theorem rrServed_array (d : Dev) (link seat : Nat) : (rrServed d link seat).array = d.array := rfl
@[simp] theorem rrServed_upd (d : Dev) (link seat : Nat) : (rrServed d link seat).upd = d.upd := rfl
@[simp] theorem rrServed_admin (d : Dev) (link seat : Nat) : (rrServed d link seat).admin = d.admin := rfl
@[simp] theorem rrServed_out (d : Dev) (link seat : Nat) : (rrServed d link seat).out = d.out := rfl
@[simp] theorem rrServed_free (d : Dev) (link seat : Nat) : (rrServed d link seat).free = d.free := rfl
@[simp] theorem actW_rrServed (d : Dev) (link seat : Nat) (o : Nat) : actW (rrServed d link seat) o = actW d o := rfl
@[simp] theorem shdW_rrServed (d : Dev) (link seat : Nat) (o : Nat) : shdW (rrServed d link seat) o = shdW d o := rfl
@[simp] theorem hdrOf_rrServed (d : Dev) (link seat : Nat) (p : Nat) : hdrOf (rrServed d link seat) p = hdrOf d p := rfl
@[simp] theorem coreTake_hub (d : Dev) (k n : Nat) : (coreTake d k n).hub = d.hub := rfl
@[simp] theorem coreTake_sys (d : Dev) (k n : Nat) : (coreTake d k n).sys = d.sys := rfl
@[simp] theorem coreTake_pci (d : Dev) (k n : Nat) : (coreTake d k n).pci = d.pci := rfl
@[simp] theorem coreTake_seats (d : Dev) (k n : Nat) : (coreTake d k n).seats = d.seats := rfl
@[simp] theorem coreTake_log (d : Dev) (k n : Nat) : (coreTake d k n).log = d.log := rfl
@[simp] theorem coreTake_adm (d : Dev) (k n : Nat) : (coreTake d k n).adm = d.adm := rfl
@[simp] theorem coreTake_med (d : Dev) (k n : Nat) : (coreTake d k n).med = d.med := rfl
@[simp] theorem coreTake_chn (d : Dev) (k n : Nat) : (coreTake d k n).chn = d.chn := rfl
@[simp] theorem coreTake_cox (d : Dev) (k n : Nat) : (coreTake d k n).cox = d.cox := rfl
@[simp] theorem coreTake_stk (d : Dev) (k n : Nat) : (coreTake d k n).stk = d.stk := rfl
@[simp] theorem coreTake_trace (d : Dev) (k n : Nat) : (coreTake d k n).trace = d.trace := rfl
@[simp] theorem coreTake_keys (d : Dev) (k n : Nat) : (coreTake d k n).keys = d.keys := rfl
@[simp] theorem coreTake_mover (d : Dev) (k n : Nat) : (coreTake d k n).mover = d.mover := rfl
@[simp] theorem coreTake_mem (d : Dev) (k n : Nat) : (coreTake d k n).mem = d.mem := rfl
@[simp] theorem coreTake_array (d : Dev) (k n : Nat) : (coreTake d k n).array = d.array := rfl
@[simp] theorem coreTake_upd (d : Dev) (k n : Nat) : (coreTake d k n).upd = d.upd := rfl
@[simp] theorem coreTake_admin (d : Dev) (k n : Nat) : (coreTake d k n).admin = d.admin := rfl
@[simp] theorem coreTake_out (d : Dev) (k n : Nat) : (coreTake d k n).out = d.out := rfl
@[simp] theorem coreTake_free (d : Dev) (k n : Nat) : (coreTake d k n).free = d.free := rfl
@[simp] theorem actW_coreTake (d : Dev) (k n : Nat) (o : Nat) : actW (coreTake d k n) o = actW d o := rfl
@[simp] theorem shdW_coreTake (d : Dev) (k n : Nat) (o : Nat) : shdW (coreTake d k n) o = shdW d o := rfl
@[simp] theorem hdrOf_coreTake (d : Dev) (k n : Nat) (p : Nat) : hdrOf (coreTake d k n) p = hdrOf d p := rfl
@[simp] theorem pullServed_hub (d : Dev) (c : Cmd) : (pullServed d c).hub = d.hub := by unfold pullServed; split <;> rfl
@[simp] theorem pullServed_sys (d : Dev) (c : Cmd) : (pullServed d c).sys = d.sys := by unfold pullServed; split <;> rfl
@[simp] theorem pullServed_pci (d : Dev) (c : Cmd) : (pullServed d c).pci = d.pci := by unfold pullServed; split <;> rfl
@[simp] theorem pullServed_seats (d : Dev) (c : Cmd) : (pullServed d c).seats = d.seats := by unfold pullServed; split <;> rfl
@[simp] theorem pullServed_log (d : Dev) (c : Cmd) : (pullServed d c).log = d.log := by unfold pullServed; split <;> rfl
@[simp] theorem pullServed_adm (d : Dev) (c : Cmd) : (pullServed d c).adm = d.adm := by unfold pullServed; split <;> rfl
@[simp] theorem pullServed_med (d : Dev) (c : Cmd) : (pullServed d c).med = d.med := by unfold pullServed; split <;> rfl
@[simp] theorem pullServed_chn (d : Dev) (c : Cmd) : (pullServed d c).chn = d.chn := by unfold pullServed; split <;> rfl
@[simp] theorem pullServed_cox (d : Dev) (c : Cmd) : (pullServed d c).cox = d.cox := by unfold pullServed; split <;> rfl
@[simp] theorem pullServed_stk (d : Dev) (c : Cmd) : (pullServed d c).stk = d.stk := by unfold pullServed; split <;> rfl
@[simp] theorem pullServed_trace (d : Dev) (c : Cmd) : (pullServed d c).trace = d.trace := by unfold pullServed; split <;> rfl
@[simp] theorem pullServed_keys (d : Dev) (c : Cmd) : (pullServed d c).keys = d.keys := by unfold pullServed; split <;> rfl
@[simp] theorem pullServed_mover (d : Dev) (c : Cmd) : (pullServed d c).mover = d.mover := by unfold pullServed; split <;> rfl
@[simp] theorem pullServed_mem (d : Dev) (c : Cmd) : (pullServed d c).mem = d.mem := by unfold pullServed; split <;> rfl
@[simp] theorem pullServed_array (d : Dev) (c : Cmd) : (pullServed d c).array = d.array := by unfold pullServed; split <;> rfl
@[simp] theorem pullServed_upd (d : Dev) (c : Cmd) : (pullServed d c).upd = d.upd := by unfold pullServed; split <;> rfl
@[simp] theorem pullServed_admin (d : Dev) (c : Cmd) : (pullServed d c).admin = d.admin := by unfold pullServed; split <;> rfl
@[simp] theorem pullServed_out (d : Dev) (c : Cmd) : (pullServed d c).out = d.out := by unfold pullServed; split <;> rfl
@[simp] theorem pullServed_free (d : Dev) (c : Cmd) : (pullServed d c).free = d.free := by unfold pullServed; split <;> rfl
@[simp] theorem actW_pullServed (d : Dev) (c : Cmd) (o : Nat) : actW (pullServed d c) o = actW d o := by unfold pullServed; split <;> rfl
@[simp] theorem shdW_pullServed (d : Dev) (c : Cmd) (o : Nat) : shdW (pullServed d c) o = shdW d o := by unfold pullServed; split <;> rfl
@[simp] theorem hdrOf_pullServed (d : Dev) (c : Cmd) (p : Nat) : hdrOf (pullServed d c) p = hdrOf d p := by unfold pullServed; split <;> rfl
@[simp] theorem nandOut_hub (d : Dev) (l : Nat) (c : List NandCyc) : (nandOut d l c).hub = d.hub := by unfold nandOut; split <;> rfl
@[simp] theorem nandOut_sys (d : Dev) (l : Nat) (c : List NandCyc) : (nandOut d l c).sys = d.sys := by unfold nandOut; split <;> rfl
@[simp] theorem nandOut_pci (d : Dev) (l : Nat) (c : List NandCyc) : (nandOut d l c).pci = d.pci := by unfold nandOut; split <;> rfl
@[simp] theorem nandOut_seats (d : Dev) (l : Nat) (c : List NandCyc) : (nandOut d l c).seats = d.seats := by unfold nandOut; split <;> rfl
@[simp] theorem nandOut_cmds (d : Dev) (l : Nat) (c : List NandCyc) : (nandOut d l c).cmds = d.cmds := by unfold nandOut; split <;> rfl
@[simp] theorem nandOut_log (d : Dev) (l : Nat) (c : List NandCyc) : (nandOut d l c).log = d.log := by unfold nandOut; split <;> rfl
@[simp] theorem nandOut_adm (d : Dev) (l : Nat) (c : List NandCyc) : (nandOut d l c).adm = d.adm := by unfold nandOut; split <;> rfl
@[simp] theorem nandOut_med (d : Dev) (l : Nat) (c : List NandCyc) : (nandOut d l c).med = d.med := by unfold nandOut; split <;> rfl
@[simp] theorem nandOut_chn (d : Dev) (l : Nat) (c : List NandCyc) : (nandOut d l c).chn = d.chn := by unfold nandOut; split <;> rfl
@[simp] theorem nandOut_cox (d : Dev) (l : Nat) (c : List NandCyc) : (nandOut d l c).cox = d.cox := by unfold nandOut; split <;> rfl
@[simp] theorem nandOut_stk (d : Dev) (l : Nat) (c : List NandCyc) : (nandOut d l c).stk = d.stk := by unfold nandOut; split <;> rfl
@[simp] theorem nandOut_trace (d : Dev) (l : Nat) (c : List NandCyc) : (nandOut d l c).trace = d.trace := by unfold nandOut; split <;> rfl
@[simp] theorem nandOut_keys (d : Dev) (l : Nat) (c : List NandCyc) : (nandOut d l c).keys = d.keys := by unfold nandOut; split <;> rfl
@[simp] theorem nandOut_mover (d : Dev) (l : Nat) (c : List NandCyc) : (nandOut d l c).mover = d.mover := by unfold nandOut; split <;> rfl
@[simp] theorem nandOut_mem (d : Dev) (l : Nat) (c : List NandCyc) : (nandOut d l c).mem = d.mem := by unfold nandOut; split <;> rfl
@[simp] theorem nandOut_array (d : Dev) (l : Nat) (c : List NandCyc) : (nandOut d l c).array = d.array := by unfold nandOut; split <;> rfl
@[simp] theorem nandOut_upd (d : Dev) (l : Nat) (c : List NandCyc) : (nandOut d l c).upd = d.upd := by unfold nandOut; split <;> rfl
@[simp] theorem nandOut_admin (d : Dev) (l : Nat) (c : List NandCyc) : (nandOut d l c).admin = d.admin := by unfold nandOut; split <;> rfl
@[simp] theorem nandOut_free (d : Dev) (l : Nat) (c : List NandCyc) : (nandOut d l c).free = d.free := by unfold nandOut; split <;> rfl
@[simp] theorem actW_nandOut (d : Dev) (l : Nat) (c : List NandCyc) (o : Nat) : actW (nandOut d l c) o = actW d o := by unfold nandOut; split <;> rfl
@[simp] theorem shdW_nandOut (d : Dev) (l : Nat) (c : List NandCyc) (o : Nat) : shdW (nandOut d l c) o = shdW d o := by unfold nandOut; split <;> rfl
@[simp] theorem hdrOf_nandOut (d : Dev) (l : Nat) (c : List NandCyc) (p : Nat) : hdrOf (nandOut d l c) p = hdrOf d p := by unfold nandOut; split <;> rfl
@[simp] theorem maskSeed_hub (d : Dev) (c : Nat) : (maskSeed d c).hub = d.hub := by unfold maskSeed; split <;> rfl
@[simp] theorem maskSeed_sys (d : Dev) (c : Nat) : (maskSeed d c).sys = d.sys := by unfold maskSeed; split <;> rfl
@[simp] theorem maskSeed_pci (d : Dev) (c : Nat) : (maskSeed d c).pci = d.pci := by unfold maskSeed; split <;> rfl
@[simp] theorem maskSeed_seats (d : Dev) (c : Nat) : (maskSeed d c).seats = d.seats := by unfold maskSeed; split <;> rfl
@[simp] theorem maskSeed_cmds (d : Dev) (c : Nat) : (maskSeed d c).cmds = d.cmds := by unfold maskSeed; split <;> rfl
@[simp] theorem maskSeed_log (d : Dev) (c : Nat) : (maskSeed d c).log = d.log := by unfold maskSeed; split <;> rfl
@[simp] theorem maskSeed_adm (d : Dev) (c : Nat) : (maskSeed d c).adm = d.adm := by unfold maskSeed; split <;> rfl
@[simp] theorem maskSeed_med (d : Dev) (c : Nat) : (maskSeed d c).med = d.med := by unfold maskSeed; split <;> rfl
@[simp] theorem maskSeed_chn (d : Dev) (c : Nat) : (maskSeed d c).chn = d.chn := by unfold maskSeed; split <;> rfl
@[simp] theorem maskSeed_cox (d : Dev) (c : Nat) : (maskSeed d c).cox = d.cox := by unfold maskSeed; split <;> rfl
@[simp] theorem maskSeed_stk (d : Dev) (c : Nat) : (maskSeed d c).stk = d.stk := by unfold maskSeed; split <;> rfl
@[simp] theorem maskSeed_trace (d : Dev) (c : Nat) : (maskSeed d c).trace = d.trace := by unfold maskSeed; split <;> rfl
@[simp] theorem maskSeed_mover (d : Dev) (c : Nat) : (maskSeed d c).mover = d.mover := by unfold maskSeed; split <;> rfl
@[simp] theorem maskSeed_mem (d : Dev) (c : Nat) : (maskSeed d c).mem = d.mem := by unfold maskSeed; split <;> rfl
@[simp] theorem maskSeed_array (d : Dev) (c : Nat) : (maskSeed d c).array = d.array := by unfold maskSeed; split <;> rfl
@[simp] theorem maskSeed_upd (d : Dev) (c : Nat) : (maskSeed d c).upd = d.upd := by unfold maskSeed; split <;> rfl
@[simp] theorem maskSeed_admin (d : Dev) (c : Nat) : (maskSeed d c).admin = d.admin := by unfold maskSeed; split <;> rfl
@[simp] theorem maskSeed_out (d : Dev) (c : Nat) : (maskSeed d c).out = d.out := by unfold maskSeed; split <;> rfl
@[simp] theorem actW_maskSeed (d : Dev) (c : Nat) (o : Nat) : actW (maskSeed d c) o = actW d o := by unfold maskSeed; split <;> rfl
@[simp] theorem shdW_maskSeed (d : Dev) (c : Nat) (o : Nat) : shdW (maskSeed d c) o = shdW d o := by unfold maskSeed; split <;> rfl
@[simp] theorem hdrOf_maskSeed (d : Dev) (c : Nat) (p : Nat) : hdrOf (maskSeed d c) p = hdrOf d p := by unfold maskSeed; split <;> rfl

@[simp] theorem modNand_med_nand (d : Dev) (f : Nand → Nand) : (modNand d f).med.nand = f d.med.nand := rfl

end Sys2Proof.Machine
end

