-- ==== Sys2Proof/WellFormed.lean ====
section
/-!
DEFINITION. Which commands are well formed: every operand names something the manual has (a port, a function, a seat, a window, a
tag, a LUN, a page, a channel, a slot, a rail, a PLL, a domain, a memory) or has the length the manual gives it.
-/
namespace Sys2Proof

/-- A function code: port, link and a VF number of 0 to 64 (R120, R122). -/
def fnOk (fn : Nat) : Bool := fn < 1024 && fn % 128 ≤ 64

/-- Variants, the silicon revision B0 and spare fuses (R2, R4, R385). -/
def fuseOk (f : Fuse) : Bool := f.variant < 3 && f.srev == 0x10 && f.vendor < 0x10000 && f.hrLeft.all (fun n => n < 256)

/-- Lanes, speed code and payload code of a link (R114, R117). -/
def linkOk (c : LinkCfg) : Bool :=
  [1, 2, 4, 8, 16].contains c.width && 1 ≤ c.speed && c.speed ≤ 6 && c.mps < 4 && c.vfs ≤ 64
    && (c.flit || c.speed ≤ 5) && c.dev.mrrs ≤ 5 && c.dev.cto < 16 && c.bme.all (fun v => v ≤ 64) && c.mse.all (fun v => v ≤ 64)

/-- A register target is an aligned word. -/
def targetOk : RegTarget → Bool
  | .bar0 port off => port < 2 && off % 4 == 0 && off < 0x100000
  | .bar2 fn off => fnOk fn && off % 4 == 0 && off < 0x40000
  | .bar4 fn off => fnOk fn && off % 4 == 0 && off < 0x10000

/-- The failed step of a training (R302). -/
def trainOk (r : TrainRes) : Bool := r.chn < 64 && r.fail ≤ 7 && r.tgtOk < 65536

/-- The step at which a codeword decoded, and its retry level (R313, R314). -/
def cwOk (c : CwRes) : Bool := c.step ≤ 3 && c.level < 64 && c.zeros ≤ 36864

/-- Cause codes of a descriptor's end (R369). -/
def descOk (r : DescRes) : Bool := r.bad ≤ 7 && r.bus ≤ 6

/-- An HBM region, or none (R219). -/
def findingOk : MemFinding → Bool
  | .clean => true
  | .wrote _ region => region < 8
  | .corrected _ _ region => region < 8
  | .poisoned _ _ => true
  | .planted _ _ region _ => region < 8
  | .pass => true

/-- Well-formedness of a command. -/
def Instr.wf : Instr → Bool
  | .pwrgdAonRise => true
  | .pwrgdAonFall => true
  | .crystalStable bootSel smb _ => bootSel < 4 && smb < 8
  | .railGood rail => rail < 14
  | .pllsLocked fuse => fuseOk fuse
  | .fuseMapLoaded _ => true
  | .hbmTrained _ => true
  | .zeroFillComplete bad => bad.all (fun m => m < 111)
  | .bankVerified bank _ => bank < 2
  | .firmwareInitialised => true
  | .firmwareReadyTimeout => true
  | .railLost rail => rail < 14
  | .pfailAssert => true
  | .flushSealDone => true
  | .flushEaveWriteDone _ dead => dead.all (fun l => l < 4096)
  | .flushMetaDone => true
  | .flushRecordDone => true
  | .warmRestart => true
  | .crystalFailure => true
  | .pllUnlock pll => pll < 23
  | .pllRelock pll => pll < 23
  | .pllRelockTimeout pll => pll < 23
  | .portPllRetry port _ => port < 2
  | .refclkLoss port => port < 2
  | .perstAssert port => port < 2
  | .perstDeassert port => port < 2
  | .thermalSample temps answered _ => temps.length == 10 && temps.all (fun t => t < 65536) && answered.length == 10
  | .thermalTrip => true
  | .alarm src => src < 6
  | .entropyStop => true
  | .drbgReseed _ => true
  | .drbgSeeded => true
  | .maskingReseed => true
  | .almLatchClear port _ => port < 2
  | .catchFire port _ => port < 2
  | .catchComplete group => group < 8
  | .shadowDiscard port page => port < 2 && page < 256
  | .evtTestWrite port page _ => port < 2 && page < 256
  | .evtRawClear port page _ => port < 2 && page < 256
  | .aliasAccess port addr _ => port < 2 && (addr % 4 == 0 && 0x2000000 ≤ addr && addr < 0x4000000)
  | .regWrite target _ => targetOk target
  | .bar0InvalidAccess port off _ _ => port < 2 && off < 0x4000000
  | .crossingTimeout port off _ => port < 2 && (off % 4 == 0 && off < 0x100000)
  | .pairLoRead port off => port < 2 && (off % 4 == 0 && off < 0x100000)
  | .tvScrub upsets => upsets.all (fun u => u.off % 4 == 0 && u.off < 0x100000)
  | .cfgCommit port => port < 2
  | .imageCheckComplete => true
  | .cfgReopen port => port < 2
  | .reopenComplete => true
  | .trainStageDone results => results.all trainOk
  | .verifyDone media => media.volBad.all (fun v => v < 64) && media.eaveBad.all (fun e => e.1 < 4096)
  | .replayDone _ => true
  | .scanDone bad => bad.all (fun p => p < 2 ^ 45)
  | .foldDone progBad failed => progBad.all (fun e => e.1 < 2 ^ 24 && e.2.1 < 65536 && e.2.2 < 64) && failed.all (fun e => e.1 < 4096 && e.2 < 65536)
  | .migrateStepDone permille _ => permille ≤ 1000
  | .domainGate port dom => port < 2 && dom < 32
  | .domainUngate port dom => port < 2 && dom < 32
  | .domdone => true
  | .groupRegateTimer group => group < 16
  | .idleThreshold n => (1 ≤ n && n ≤ 3)
  | .psEntryDone => true
  | .psctlWake port => port < 2
  | .psExitComplete => true
  | .linkUp port link cfg => port < 2 && link < 4 && linkOk cfg
  | .ratechg port link cfg => port < 2 && link < 4 && linkOk cfg
  | .dlDown port link => port < 2 && link < 4
  | .linkL1Idle port link => port < 2 && link < 4
  | .flr fn => fnOk fn
  | .busMasterDisable fn _ => fnOk fn
  | .barDecodeDisabled fn bar _ => fnOk fn && bar < 6
  | .bar2InvalidAccess fn off _ => fnOk fn && off < 0x40000
  | .pasidTlp fn => fnOk fn
  | .seatReq fn _ => fnOk fn
  | .seatRel fn _ => fnOk fn
  | .seatReleaseComplete seat => seat < 512
  | .seatSqtDoorbell fn win tail => fnOk fn && win < 32 && tail < 32
  | .seatCqhDoorbell fn win head => fnOk fn && win < 32 && head < 32
  | .seatReset fn win _ => fnOk fn && win < 32
  | .seatResetComplete seat => seat < 512
  | .seatKick port _ => port < 2
  | .seatCqintTimer seat => seat < 512
  | .entryFetched seat entry _ => seat < 512 && entry.length == 16
  | .entryRefetch seat entry _ => seat < 512 && entry.length == 16
  | .entryFetchFailed seat => seat < 512
  | .reapComplete seat => seat < 512
  | .write seat tag => seat < 512 && tag < 32
  | .read seat tag => seat < 512 && tag < 32
  | .flush seat tag => seat < 512 && tag < 32
  | .discard seat tag => seat < 512 && tag < 32
  | .writeFill seat tag => seat < 512 && tag < 32
  | .verify seat tag => seat < 512 && tag < 32
  | .gatherWrite seat tag => seat < 512 && tag < 32
  | .abort seat tag => seat < 512 && tag < 32
  | .streamOpen seat tag => seat < 512 && tag < 32
  | .streamClose seat tag => seat < 512 && tag < 32
  | .streamQuery seat tag => seat < 512 && tag < 32
  | .sanitise seat tag => seat < 512 && tag < 32
  | .format seat tag _ => seat < 512 && tag < 32
  | .fwLoad seat tag _ _ _ => seat < 512 && tag < 32
  | .fwCommit seat tag _ => seat < 512 && tag < 32
  | .fwActivate seat tag => seat < 512 && tag < 32
  | .logRead seat tag => seat < 512 && tag < 32
  | .keyLoad seat tag _ => seat < 512 && tag < 32
  | .keyRetire seat tag => seat < 512 && tag < 32
  | .volumeSet seat tag _ => seat < 512 && tag < 32
  | .dataPullComplete seat tag _ => seat < 512 && tag < 32
  | .transferResume seat tag => seat < 512 && tag < 32
  | .sealComplete seat tag => seat < 512 && tag < 32
  | .programComplete lun _ => lun < 4096
  | .stripePadClose batten _ => batten < 2 ^ 24
  | .pageReadComplete lun cws => lun < 4096 && cws.all cwOk
  | .softDecodeComplete lun cw => lun < 4096 && cwOk cw
  | .reconstructionComplete lun others _ => lun < 4096 && others.all (fun e => e.1 < 32 && e.2.all cwOk)
  | .decryptComplete seat tag _ => seat < 512 && tag < 32
  | .zeroingReadComplete seat tag _ => seat < 512 && tag < 32
  | .nandOpTimeout lun _ => lun < 4096
  | .eraseComplete lun _ => lun < 4096
  | .eraseSuspended lun => lun < 4096
  | .coxSlot => true
  | .tokenFill => true
  | .strokeSample inp => inp.first.all (fun e => e.1 < 66)
  | .stktArm port _ => port < 2
  | .stktForce port _ => port < 2
  | .stktStop port _ => port < 2
  | .stktRdataRead port => port < 2
  | .journalChunkStart => true
  | .early => true
  | .journalChunkDurable _ => true
  | .validWalkDone => true
  | .patrolRateTick => true
  | .readDisturbLimit batten => batten < 2 ^ 24
  | .chnIso port chn _ => port < 2 && chn < 64
  | .hostIsolationDone chn => chn < 64
  | .chnTrain port chn _ => port < 2 && chn < 64
  | .trainingDone res => trainOk res
  | .zqShortTimer chn => chn < 64
  | .trackingCheck chn eye moves => chn < 64 && eye < 256 && moves.all (fun m => m.1 < 8)
  | .memScrubPass mem finding => mem < 111 && findingOk finding
  | .leakTick mem => mem < 111
  | .memInjArm port _ => port < 2
  | .softRepair port _ => port < 2
  | .hardRepair port _ => port < 2
  | .rpdone => true
  | .reservationExtend slot => slot < 64
  | .reservationDurable slot _ => slot < 64
  | .keyRetireEffect slot => slot < 64
  | .dmcTailWrite port ch _ => port < 2 && ch < 32
  | .dmcEnable port ch _ => port < 2 && ch < 32
  | .dmcStop port ch _ => port < 2 && ch < 32
  | .dmcReset port ch _ => port < 2 && ch < 32
  | .descriptorFetched ch words _ => ch < 32 && words.length == 16
  | .descriptorComplete ch res => ch < 32 && descOk res
  | .barrierReadComplete ch cause => ch < 32 && cause ≤ 4
  | .fwaReadPage port _ => port < 2
  | .fwaProgramPage port _ => port < 2
  | .fwaEraseBlock port _ => port < 2
  | .fwaOpDone _ => true
  | .fwaResumeTimer bank => bank < 2
  | .fwaDataAccess port _ => port < 2
  | .fwaSet port _ => port < 2
  | .fwaOpen port _ => port < 2
  | .fwaClose port _ => port < 2
  | .fwaClear port _ => port < 2
  | .fwaOwnerOpDone => true
  | .activationDrainDone => true
  | .activationDrainTimeout => true
  | .activationQuiesceDone => true
  | .activated => true
  | .activationFallback => true
  | .sanitiseStepDone => true
  | .mediaInitDone bad => bad.all (fun e => e.1 < 4096 && e.2 < 65536)
  | .pflEholdWrite port _ => port < 2
  | .mapLookup port _ => port < 2
  | .ldpcCounterClear port => port < 2
  | .trngRandRead port => port < 2
  | .smbusReadStatus => true
  | .smbusReadTemperature => true
  | .smbusReadSensors => true
  | .smbusReadPower => true
  | .smbusReadIdentity => true
  | .smbusSetOffset bytes => bytes.length == 4 && bytes.all (fun b => b < 256)
  | .smbusReadRegister _ => true
  | .smbusAlertResponse => true
  | .programSuspended lun => lun < 4096
  | .linkL1Exit port link => port < 2 && link < 4
  | .pllLockFailure => true
  | .msixVectorUnmask fn vec => fnOk fn && vec < 2048
  | .fwaMinimumRunElapsed bank => bank < 2
  | .tapInstruction _ => true
  | .pfailDeassert => true
  | .tamperDeassert => true
  | .crystalReturn => true
  | .refclkReturn port => port < 2

end Sys2Proof
end

