-- ==== Sys2Proof/Tests/Slice0.lean ====
section
/-!
SUPPORT. Tests: ill-formed commands are refused by WellFormed, worked examples of the manual, and for each statement a concrete
state and operands that meet its hypotheses, clause by clause.
-/
set_option Elab.async false

namespace Sys2Proof.Tests
open Sys2Proof.Machine

/-! ### Small states -/

/-- A state with no command waiting. -/
def st (d : Dev) : State := { State.reset with dev := d }

/-- Pages whose block registers answer. -/
def on (d : Dev) (ps : List Nat) : Dev := ps.foldl (fun d p => setHdr d p { hdrOf d p with on := true }) d

/-- The AON domain runs, every rail is good, link 0 of both ports is up, and both management functions reach BAR0. -/
def hostDev : Dev :=
  let d := State.reset.dev
  wrs { d with sys := { d.sys with pwrgd := true, aon := true, rails := allRails, portsFree := true, perstLow := [], refPresent := [0, 1] },
               pci := { d.pci with bme := [0, 512], mse := [0, 512] } }
    [(F.PRT_LSTAT_UP 0 0, 1), (F.PRT_LSTAT_UP 1 0, 1), (F.PWR_DOMSTAT_ON, 2 ^ 30 - 1), (F.CLK_STAT_LOCK, 2 ^ 23 - 1)]

/-- GLB_BOOT.STAGE is READY. -/
def readyDev : Dev := wr hostDev F.GLB_BOOT_STAGE 6

/-- CFG_GATE.STATE is ACCEPTED. -/
def accDev : Dev := wr readyDev F.CFG_GATE_STATE 4

/-- In RECOVER, at a stage. -/
def recDev (stage : Nat) : Dev := wrs accDev [(F.GLB_STAT_MODE, 0), (F.GLB_STAT_RSTAGE, stage)]

/-- The management seat of port A, and a class D seat of function 5. -/
def seats2 : SMap Seat := [(0, { fn := 0 }), (2, { fn := 5, classD := true })]

/-- A command of a seat in its tag 31, ready to start, with an opcode and the words from DW1 on. -/
def cmdA (seat opc : Nat) (ws : List Word) : Cmd :=
  { seat := seat, tag := 31, seq := 7, entry := BitVec.ofNat 32 (opc + 31 * 2 ^ 8) :: ws, stage := .ready }

/-- That command waits in an accepted device; function 5 may use the bus. -/
def cmdDev (c : Cmd) : Dev :=
  { accDev with seats := seats2, cmds := { accDev.cmds with list := [c], nextSeq := 8 },
                pci := { accDev.pci with bme := [0, 5, 512], mse := [0, 5, 512] } }

/-- What a command answers on a small device, read by `f`; none for a stop. -/
def after {α : Type} (c : Instr) (d : Dev) (f : Dev → α) : Option α :=
  match exec c (st d) with
  | .next t => some (f t.dev)
  | _ => none

/-! ### WellFormed: for each check, commands it refuses -/

/-- Operands that no check refuses. -/
def linkGood : LinkCfg := { width := 16, speed := 6, flit := true, l0p := false, mps := 3, vfs := 64, aspmL1 := false, bme := [64], mse := [0] }
def trainGood : TrainRes :=
  { chn := 63, fail := 7, tgtOk := 65535, dsk0 := 0, dsk1 := 0, dsk2 := 0, dsk3 := 0, rvref := 0, post := 0, weye := 0, reye := 0, us := 0 }
def descGood : DescRes := { bad := 7, bus := 6, sub := 0, at_ := 0, diff := none, data := [], wbOk := true }

theorem wf_bootSel : Instr.wf (.crystalStable 3 0 false) = true ∧ Instr.wf (.crystalStable 4 0 false) = false := by decide +kernel

theorem wf_smb : Instr.wf (.crystalStable 0 7 false) = true ∧ Instr.wf (.crystalStable 0 8 false) = false := by decide +kernel

def withRail (k : Nat) : List Instr :=
  [.railGood k, .railLost k]
theorem wf_rail : (withRail 13).all Instr.wf = true ∧ (withRail 14).any Instr.wf = false := by decide +kernel

def withBank (k : Nat) : List Instr :=
  [.bankVerified k ⟨none, true, true⟩, .fwaResumeTimer k, .fwaMinimumRunElapsed k]
theorem wf_bank : (withBank 1).all Instr.wf = true ∧ (withBank 2).any Instr.wf = false := by decide +kernel

def withPll (k : Nat) : List Instr :=
  [.pllUnlock k, .pllRelock k, .pllRelockTimeout k]
theorem wf_pll : (withPll 22).all Instr.wf = true ∧ (withPll 23).any Instr.wf = false := by decide +kernel

def withPort (k : Nat) : List Instr :=
  [.portPllRetry k false, .refclkLoss k, .perstAssert k, .perstDeassert k, .almLatchClear k 0, .catchFire k 0, .shadowDiscard k 0,
   .evtTestWrite k 0 0, .evtRawClear k 0 0, .aliasAccess k 0x2000000 none, .bar0InvalidAccess k 0 false false, .crossingTimeout k 0 false,
   .pairLoRead k 0, .cfgCommit k, .cfgReopen k, .domainGate k 0, .domainUngate k 0, .psctlWake k, .linkUp k 0 linkGood,
   .ratechg k 0 linkGood, .dlDown k 0, .linkL1Idle k 0, .seatKick k 0, .stktArm k 0, .stktForce k 0, .stktStop k 0, .stktRdataRead k,
   .chnIso k 0 0, .chnTrain k 0 0, .memInjArm k 0, .softRepair k 0, .hardRepair k 0, .dmcTailWrite k 0 0, .dmcEnable k 0 0, .dmcStop k 0 0,
   .dmcReset k 0 0, .fwaReadPage k 0, .fwaProgramPage k 0, .fwaEraseBlock k 0, .fwaDataAccess k none, .fwaSet k 0, .fwaOpen k 0,
   .fwaClose k 0, .fwaClear k 0, .pflEholdWrite k 0, .mapLookup k 0, .ldpcCounterClear k, .trngRandRead k, .linkL1Exit k 0, .refclkReturn k]
theorem wf_port : (withPort 1).all Instr.wf = true ∧ (withPort 2).any Instr.wf = false := by decide +kernel

theorem wf_src : Instr.wf (.alarm 5) = true ∧ Instr.wf (.alarm 6) = false := by decide +kernel

theorem wf_group : Instr.wf (.catchComplete 7) = true ∧ Instr.wf (.catchComplete 8) = false := by decide +kernel

def withPage (k : Nat) : List Instr :=
  [.shadowDiscard 0 k, .evtTestWrite 0 k 0, .evtRawClear 0 k 0]
theorem wf_page : (withPage 255).all Instr.wf = true ∧ (withPage 256).any Instr.wf = false := by decide +kernel

theorem wf_permille : Instr.wf (.migrateStepDone 1000 false) = true ∧ Instr.wf (.migrateStepDone 1001 false) = false := by decide +kernel

def withDom (k : Nat) : List Instr :=
  [.domainGate 0 k, .domainUngate 0 k]
theorem wf_dom : (withDom 31).all Instr.wf = true ∧ (withDom 32).any Instr.wf = false := by decide +kernel

def withLink (k : Nat) : List Instr :=
  [.linkUp 0 k linkGood, .ratechg 0 k linkGood, .dlDown 0 k, .linkL1Idle 0 k, .linkL1Exit 0 k]
theorem wf_link : (withLink 3).all Instr.wf = true ∧ (withLink 4).any Instr.wf = false := by decide +kernel

def withFn (k : Nat) : List Instr :=
  [.flr k, .busMasterDisable k false, .barDecodeDisabled k 0 false, .bar2InvalidAccess k 0 false, .pasidTlp k, .seatReq k 0, .seatRel k 0,
   .seatSqtDoorbell k 0 0, .seatCqhDoorbell k 0 0, .seatReset k 0 0, .msixVectorUnmask k 0]
theorem wf_fn : (withFn 576).all Instr.wf = true ∧ (withFn 577).any Instr.wf = false := by decide +kernel

theorem wf_bar : Instr.wf (.barDecodeDisabled 0 5 false) = true ∧ Instr.wf (.barDecodeDisabled 0 6 false) = false := by decide +kernel

def withSeat (k : Nat) : List Instr :=
  [.seatReleaseComplete k, .seatResetComplete k, .seatCqintTimer k, .entryFetched k (List.replicate 16 0) .none,
   .entryRefetch k (List.replicate 16 0) .none, .entryFetchFailed k, .reapComplete k, .write k 0, .read k 0, .flush k 0, .discard k 0,
   .writeFill k 0, .verify k 0, .gatherWrite k 0, .abort k 0, .streamOpen k 0, .streamClose k 0, .streamQuery k 0, .sanitise k 0,
   .format k 0 false, .fwLoad k 0 [] none none, .fwCommit k 0 ⟨none, true, true⟩, .fwActivate k 0, .logRead k 0,
   .keyLoad k 0 ⟨none, 1, true⟩, .keyRetire k 0, .volumeSet k 0 false, .dataPullComplete k 0 (.fail 1), .transferResume k 0,
   .sealComplete k 0, .decryptComplete k 0 false, .zeroingReadComplete k 0 false]
theorem wf_seat : (withSeat 511).all Instr.wf = true ∧ (withSeat 512).any Instr.wf = false := by decide +kernel

def withWin (k : Nat) : List Instr :=
  [.seatSqtDoorbell 0 k 0, .seatCqhDoorbell 0 k 0, .seatReset 0 k 0]
theorem wf_win : (withWin 31).all Instr.wf = true ∧ (withWin 32).any Instr.wf = false := by decide +kernel

theorem wf_tail : Instr.wf (.seatSqtDoorbell 0 0 31) = true ∧ Instr.wf (.seatSqtDoorbell 0 0 32) = false := by decide +kernel

theorem wf_head : Instr.wf (.seatCqhDoorbell 0 0 31) = true ∧ Instr.wf (.seatCqhDoorbell 0 0 32) = false := by decide +kernel

def withTag (k : Nat) : List Instr :=
  [.write 0 k, .read 0 k, .flush 0 k, .discard 0 k, .writeFill 0 k, .verify 0 k, .gatherWrite 0 k, .abort 0 k, .streamOpen 0 k,
   .streamClose 0 k, .streamQuery 0 k, .sanitise 0 k, .format 0 k false, .fwLoad 0 k [] none none, .fwCommit 0 k ⟨none, true, true⟩,
   .fwActivate 0 k, .logRead 0 k, .keyLoad 0 k ⟨none, 1, true⟩, .keyRetire 0 k, .volumeSet 0 k false, .dataPullComplete 0 k (.fail 1),
   .transferResume 0 k, .sealComplete 0 k, .decryptComplete 0 k false, .zeroingReadComplete 0 k false]
theorem wf_tag : (withTag 31).all Instr.wf = true ∧ (withTag 32).any Instr.wf = false := by decide +kernel

def withLun (k : Nat) : List Instr :=
  [.programComplete k false, .pageReadComplete k [], .softDecodeComplete k ⟨3, 0, 0, 0, 0⟩, .reconstructionComplete k [] [], .nandOpTimeout k false,
   .eraseComplete k false, .eraseSuspended k, .programSuspended k]
theorem wf_lun : (withLun 4095).all Instr.wf = true ∧ (withLun 4096).any Instr.wf = false := by decide +kernel

def withBatten (k : Nat) : List Instr :=
  [.stripePadClose k false, .readDisturbLimit k]
theorem wf_batten : (withBatten 16777215).all Instr.wf = true ∧ (withBatten 16777216).any Instr.wf = false := by decide +kernel

def withChn (k : Nat) : List Instr :=
  [.chnIso 0 k 0, .hostIsolationDone k, .chnTrain 0 k 0, .zqShortTimer k, .trackingCheck k 0 []]
theorem wf_chn : (withChn 63).all Instr.wf = true ∧ (withChn 64).any Instr.wf = false := by decide +kernel

theorem wf_eye : Instr.wf (.trackingCheck 0 255 []) = true ∧ Instr.wf (.trackingCheck 0 256 []) = false := by decide +kernel

def withMem (k : Nat) : List Instr :=
  [.memScrubPass k .clean, .leakTick k]
theorem wf_mem : (withMem 110).all Instr.wf = true ∧ (withMem 111).any Instr.wf = false := by decide +kernel

def withSlot (k : Nat) : List Instr :=
  [.reservationExtend k, .reservationDurable k false, .keyRetireEffect k]
theorem wf_slot : (withSlot 63).all Instr.wf = true ∧ (withSlot 64).any Instr.wf = false := by decide +kernel

def withCh (k : Nat) : List Instr :=
  [.dmcTailWrite 0 k 0, .dmcEnable 0 k 0, .dmcStop 0 k 0, .dmcReset 0 k 0, .descriptorFetched k (List.replicate 16 0) [],
   .descriptorComplete k descGood, .barrierReadComplete k 0]
theorem wf_ch : (withCh 31).all Instr.wf = true ∧ (withCh 32).any Instr.wf = false := by decide +kernel

theorem wf_vec : Instr.wf (.msixVectorUnmask 0 2047) = true ∧ Instr.wf (.msixVectorUnmask 0 2048) = false := by decide +kernel

theorem wf_function_vf : Instr.wf (.flr 960) = true ∧ Instr.wf (.flr 961) = false ∧ Instr.wf (.flr 1024) = false := by decide +kernel

theorem wf_regate_group : Instr.wf (.groupRegateTimer 15) = true ∧ Instr.wf (.groupRegateTimer 16) = false := by decide +kernel

theorem wf_idle : Instr.wf (.idleThreshold 1) = true ∧ Instr.wf (.idleThreshold 3) = true ∧ Instr.wf (.idleThreshold 0) = false ∧
    Instr.wf (.idleThreshold 4) = false := by decide +kernel

theorem wf_cause : Instr.wf (.reconstructionComplete 0 [(31, [⟨3, 63, 0, 0, 36864⟩])] [true]) = true ∧
    Instr.wf (.reconstructionComplete 0 [(32, [])] []) = false ∧ Instr.wf (.reconstructionComplete 0 [(31, [⟨4, 0, 0, 0, 0⟩])] []) = false ∧
    Instr.wf (.barrierReadComplete 0 4) = true ∧ Instr.wf (.barrierReadComplete 0 5) = false := by decide +kernel

theorem wf_offsets : Instr.wf (.aliasAccess 0 0x3FFFFFC none) = true ∧ Instr.wf (.aliasAccess 0 0x4000000 none) = false ∧
    Instr.wf (.aliasAccess 0 0x1FFFFFC none) = false ∧ Instr.wf (.aliasAccess 0 0x2000002 none) = false ∧
    Instr.wf (.bar0InvalidAccess 0 0x4000000 false true) = false ∧ Instr.wf (.crossingTimeout 0 0x100000 false) = false ∧
    Instr.wf (.crossingTimeout 0 2 false) = false ∧ Instr.wf (.pairLoRead 0 0x100000) = false ∧ Instr.wf (.pairLoRead 0 1) = false ∧
    Instr.wf (.regWrite (.bar0 2 0) 0) = false ∧ Instr.wf (.regWrite (.bar0 0 0x100000) 0) = false ∧
    Instr.wf (.regWrite (.bar0 0 2) 0) = false ∧ Instr.wf (.regWrite (.bar2 65 0) 0) = false ∧ Instr.wf (.regWrite (.bar2 0 0x40000) 0) = false ∧
    Instr.wf (.regWrite (.bar2 0 2) 0) = false ∧ Instr.wf (.regWrite (.bar4 0 0x10000) 0) = false ∧
    Instr.wf (.regWrite (.bar4 65 0) 0) = false ∧ Instr.wf (.regWrite (.bar4 0 2) 0) = false ∧ Instr.wf (.bar2InvalidAccess 0 0x40000 false) = false ∧
    Instr.wf (.tvScrub [⟨0x100000, false, 0, 0, 0⟩]) = false ∧ Instr.wf (.tvScrub [⟨2, false, 0, 0, 0⟩]) = false := by decide +kernel

theorem wf_lengths : Instr.wf (.thermalSample (List.replicate 9 0) (List.replicate 10 true) 0) = false ∧
    Instr.wf (.thermalSample (List.replicate 10 65536) (List.replicate 10 true) 0) = false ∧
    Instr.wf (.thermalSample (List.replicate 10 0) (List.replicate 11 true) 0) = false ∧
    Instr.wf (.entryFetched 0 (List.replicate 15 0) .none) = false ∧ Instr.wf (.entryRefetch 0 (List.replicate 17 0) .none) = false ∧
    Instr.wf (.descriptorFetched 0 (List.replicate 15 0) []) = false ∧ Instr.wf (.smbusSetOffset [0, 0, 0]) = false ∧
    Instr.wf (.smbusSetOffset [0, 0, 0, 256]) = false := by decide +kernel

theorem wf_links : Instr.wf (.linkUp 0 0 { linkGood with width := 0 }) = false ∧ Instr.wf (.linkUp 0 0 { linkGood with width := 17 }) = false ∧
    Instr.wf (.linkUp 0 0 { linkGood with speed := 0 }) = false ∧ Instr.wf (.ratechg 0 0 { linkGood with speed := 7 }) = false ∧
    Instr.wf (.ratechg 0 0 { linkGood with mps := 4 }) = false ∧ Instr.wf (.ratechg 0 0 { linkGood with vfs := 65 }) = false ∧
    Instr.wf (.linkUp 0 0 { linkGood with flit := false }) = false ∧ Instr.wf (.linkUp 0 0 { linkGood with width := 3 }) = false ∧
    Instr.wf (.ratechg 0 0 { linkGood with dev := { mrrs := 6 } }) = false ∧ Instr.wf (.ratechg 0 0 { linkGood with dev := { cto := 16 } }) = false ∧
    Instr.wf (.ratechg 0 0 { linkGood with bme := [65] }) = false ∧ Instr.wf (.ratechg 0 0 { linkGood with mse := [65] }) = false := by decide +kernel

theorem wf_results : Instr.wf (.pllsLocked { variant := 3 }) = false ∧ Instr.wf (.pllsLocked { hrLeft := [256] }) = false ∧
    Instr.wf (.pllsLocked { srev := 0x11 }) = false ∧ Instr.wf (.pllsLocked { vendor := 0x10000 }) = false ∧
    Instr.wf (.flushEaveWriteDone [] [4096]) = false ∧ Instr.wf (.scanDone [2 ^ 45]) = false ∧ Instr.wf (.verifyDone ⟨true, [], [(4096, 0, 0)], []⟩) = false ∧
    Instr.wf (.foldDone [] [(4096, 0)]) = false ∧ Instr.wf (.foldDone [] [(0, 65536)]) = false ∧ Instr.wf (.foldDone [(0, 0, 64)] []) = false ∧
    Instr.wf (.foldDone [(2 ^ 24, 0, 0)] []) = false ∧ Instr.wf (.foldDone [(0, 65536, 0)] []) = false ∧ Instr.wf (.pageReadComplete 0 [⟨3, 63, 0, 0, 36865⟩]) = false ∧
   
    Instr.wf (.zeroFillComplete (some 111)) = false ∧ Instr.wf (.verifyDone ⟨true, [64], [], []⟩) = false ∧
    Instr.wf (.trainStageDone [{ trainGood with chn := 64 }]) = false ∧ Instr.wf (.trainingDone { trainGood with fail := 8 }) = false ∧
    Instr.wf (.trainingDone { trainGood with tgtOk := 65536 }) = false ∧ Instr.wf (.pageReadComplete 0 [⟨4, 0, 0, 0, 0⟩]) = false ∧
    Instr.wf (.softDecodeComplete 0 ⟨3, 64, 0, 0, 0⟩) = false ∧ Instr.wf (.strokeSample ⟨0, 0, 0, [(66, 0)]⟩) = false ∧
    Instr.wf (.trackingCheck 0 0 [(8, true)]) = false ∧ Instr.wf (.descriptorComplete 0 { descGood with bad := 8 }) = false ∧
    Instr.wf (.descriptorComplete 0 { descGood with bus := 7 }) = false ∧ Instr.wf (.mediaInitDone [(4096, 0)]) = false ∧
    Instr.wf (.mediaInitDone [(0, 65536)]) = false ∧
    Instr.wf (.memScrubPass 0 (.wrote 0 8)) = false ∧ Instr.wf (.memScrubPass 0 (.corrected 0 0 8)) = false ∧
    Instr.wf (.memScrubPass 0 (.planted 0 0 8 .unused)) = false := by decide +kernel

/-! ### The hypotheses of the statements are met: queue, outputs, registers -/

theorem witness_EmptyQueueIdles : (st State.reset.dev).pending = [] ∧ State.reset.dev.sys.aon = false ∧ hostDev.sys.aon = true := by
  decide +kernel

theorem witness_CommandKeepsQueue : (after .tokenFill hostDev (fun _ => true)) = some true := by decide +kernel

theorem witness_OnlyReservedBitsRefused : hostWrite .tokenFill = false ∧ hostWrite (.flr 5) = false := by decide +kernel

theorem witness_EveryStepSettlesOutputs : Settled State.reset.dev ∧
    after .pwrgdAonFall State.reset.dev (fun d => decide (Settled d)) = some true := by decide +kernel

/-- An enabled event of page 2, routed to both ports, with the messages of one port unmasked. -/
def evtDev (port : Nat) : Dev :=
  let d := setHdr hostDev 2 { hdrOf hostDev 2 with evtRaw := 1, evtEn := 1 }
  { d with pci := { d.pci with vecOn := [2048 * mgmtFn port + rd d (F.PRT_EVTVEC_VEC port)], msixEn := [mgmtFn 0, mgmtFn 1] } }

theorem witness_OutputsFollowEvents : routedOr (evtDev 0) 0 = true ∧ (evtDev 0).sys.orA = false ∧ rd (evtDev 0) F.PFL_STAT_STATE = 0 ∧
    msixLive (evtDev 0) (mgmtFn 0) = true ∧ vecOpen (evtDev 0) (mgmtFn 0) (rd (evtDev 0) (F.PRT_EVTVEC_VEC 0)) = true ∧
    routedOr (evtDev 0) 1 = true ∧ (evtDev 0).sys.orB = false ∧ msixLive (evtDev 0) (mgmtFn 1) = true ∧
    vecOpen (evtDev 0) (mgmtFn 1) (rd (evtDev 0) (F.PRT_EVTVEC_VEC 1)) = false := by decide +kernel

theorem witness_OutputsFollowEvents_quiet : routedOr hostDev 0 = hostDev.sys.orA ∧ routedOr hostDev 1 = hostDev.sys.orB ∧
    (∀ port, port ≤ 1 → msixLive hostDev (mgmtFn port) = false) := by decide +kernel

theorem witness_RegistersReadBack : State.reset.dev.hub.act.canon resetWord = true ∧ State.reset.dev.hub.shd.canon shReset = true ∧
    F.GLB_BOOT_STAGE.lo + F.GLB_BOOT_STAGE.wd ≤ 32 ∧ F.MEM_UEADDR_WORD.lo + F.MEM_UEADDR_WORD.wd ≤ 32 ∧
    F.CLK_STAT_REFB.off = F.CLK_STAT_LOCK.off ∧ (F.CLK_STAT_REFB.lo + F.CLK_STAT_REFB.wd ≤ F.CLK_STAT_LOCK.lo ∨
      F.CLK_STAT_LOCK.lo + F.CLK_STAT_LOCK.wd ≤ F.CLK_STAT_REFB.lo) ∧ 2 ^ 64 - 1 < 2 ^ 64 := by decide +kernel

theorem witness_EventsRaisedAndLogged : State.reset.dev.log.buf.length < 65536 ∧
    65536 ≤ (List.replicate 65536 (⟨0, 0, 0, 0, 0, []⟩ : LogEnt)).length := by
  rw [List.length_replicate]; decide +kernel

theorem witness_RowsAreRegisterWrites : Writes (st (on hostDev [0x12])) 1 0x12090 0x80000002 ∧ bitOf (0x80000002 : Word).toNat 31 = true ∧
    Writes (st hostDev) 0 0x100 0xFF ∧ Writes (st (on hostDev [0x7C])) 0 (dmcOff 31 0) 4 ∧ bitOf (4 : Word).toNat 2 = true := by decide +kernel

/-- The word has a row that meets a condition. -/
def rowIs (off : Nat) (f : RegRow → Bool) : Bool := (regRow? off).any f

theorem witness_PlainWriteByKinds : Writes (st hostDev) 0 0x1044 0xFFFFFFFF ∧
    rowIs 0x1044 (fun r => writablePair r = false && r.wo1 = 0 && r.sh = 0) = true ∧ acting 0x1044 = false := by decide +kernel

theorem witness_PlainWriteByKinds_shadow : Writes (st readyDev) 0 0x1058 1 ∧ rd readyDev F.CFG_GATE_STATE = 0 ∧
    rowIs 0x1058 (fun r => writablePair r = false && r.wo1 = 0 && r.sh ≠ 0 && imageMask r ≠ 0) = true ∧ imagePage (pageOf 0x1058) = true ∧
    acting 0x1058 = false ∧ readyDev.sys.testEn = false ∧ rd readyDev F.GLB_BOOT_STAGE ≠ 0xF := by decide +kernel

theorem witness_PlainWriteByKinds_state : rd accDev F.CFG_GATE_STATE ∉ [0, 3] ∧ Writes (st accDev) 1 0x1058 1 := by decide +kernel

theorem witness_ReservedBitWriteRefused : HostAt (st hostDev) 0 ∧ implemented (pageOf 0x1040) = true ∧ answers hostDev (pageOf 0x1040) = true ∧
    ¬ Clean 0x1040 0xFFFFFFFF ∧ implemented (pageOf 0x10FFC) = true ∧ ¬ Clean 0x1FFC 1 := by decide +kernel

theorem witness_PairsHeldAndLatched : Writes (st (on hostDev [0x20])) 1 0x20060 5 ∧ Writes (st (on hostDev [0x20])) 1 0x20064 5 ∧
    rowIs 0x20060 (fun r => r.pair = 1 && writablePair r && r.wo1 = 0 && r.sh = 0 && imageMask r = 0 && r.rw ≠ 0) = true ∧
    rowIs 0x20064 (fun r => r.pair = 2 && writablePair r && r.wo1 = 0 && r.sh = 0 && imageMask r = 0 && r.rw ≠ 0) = true ∧
    SMap.get? (SMap.set [] (2 * 0x20060 + 1) 7 : SMap Word) (2 * 0x20060 + 1) = some 7 := by decide +kernel

theorem witness_PairsHeldAndLatched_shadow : rowIs 159808 (fun r => r.pair = 1 && writablePair r && r.wo1 = 0 && r.sh ≠ 0) = true ∧
    rowIs 159812 (fun r => r.pair = 2 && writablePair r && r.wo1 = 0 && r.sh ≠ 0) = true ∧
    Writes (st (on hostDev [0x27])) 1 159812 0x7F := by decide +kernel

theorem witness_PairsHeldAndLatched_read : HostAt (st hostDev) 1 ∧ inPage 0x6050 ≥ 0x40 ∧ implemented (pageOf 0x6050) = true ∧
    answers hostDev (pageOf 0x6050) = true ∧ rowIs 0x6050 (fun r => r.pair = 1) = true ∧ rowIs 0x6054 (fun r => r.pair = 2) = true ∧
    SMap.get? (SMap.set [] 1 (0x6050, 7) : SMap (Nat × Word)) 1 = some (0x6050, 7) := by decide +kernel

theorem witness_AliasTouchesOneBit : HostAt (st (on hostDev [0x10])) 0 ∧ Open (st (on hostDev [0x10])) 0x10040 ∧ implemented 0x10 = true ∧
    aliasOff (0x2000000 + 0x10040 * 32 + 9 * 4) = 0x10040 ∧
    rowIs 0x10040 (fun r => r.pair = 0 && r.sh = 0 && r.tv = 0 && r.ro = 0 && r.w1c = 0 && r.w1s = 0 && r.wo1 = 0 && bitOf r.rw.toNat 9) = true ∧
    acting 0x10040 = false ∧ 0x10040 ∉ [0x1E080, 0x7304C] := by decide +kernel

theorem witness_AliasTouchesOneBit_ends : aliasOff 0x2000000 = 0 ∧ aliasBit 0x2000000 = 0 ∧ aliasOff 0x3FFFFFC = 0xFFFFC ∧
    aliasBit 0x3FFFFFC = 31 := by decide +kernel

theorem witness_WriteOnceTakesFirstWrite : Writes (st hostDev) 1 0x160 1 ∧ hostDev.hub.woTaken.contains 0x160 = false ∧
    Writes (st { hostDev with hub := { hostDev.hub with woTaken := [0x160] } }) 1 0x160 0 := by decide +kernel

theorem witness_EventAndShadowHeaderWrites : Writes (st hostDev) 0 0x201C 0x100 ∧ bitOf (0x100 &&& evtMask 2).toNat 8 = true ∧
    Writes (st hostDev) 1 0x7E010 0x31F ∧ implemented 0x7E = true ∧ (hdrOf hostDev 0).cbusy = false := by decide +kernel

theorem witness_InvalidAccessDropped : rdB hostDev F.GLB_OFFACC_VALID = false ∧ rdB (wr hostDev F.GLB_OFFACC_VALID 1) F.GLB_OFFACC_VALID = true ∧
    HostAt (st hostDev) 1 ∧ 0x3FFFFFF % 4 ≠ 0 ∧ implemented (pageOf (targetOff 0x0E000)) = false ∧ targetOff 0x100000 ≥ 0x100000 := by
  decide +kernel

theorem witness_InvalidAccessDropped_crossing : HostAt (st (on hostDev [0x10])) 1 ∧ implemented (pageOf 0x10040) = true ∧
    islandOf (pageOf 0x10040) ≠ 0 ∧ answers (on hostDev [0x10]) (pageOf 0x10040) = true ∧ answers hostDev (pageOf 0x10040) = false := by
  decide +kernel

theorem witness_ReservedPagesReadZero : HostAt (st hostDev) 0 ∧ implemented (pageOf 0xE000) = false ∧ implemented (pageOf 0xFFFFC) = false ∧
    rdB hostDev F.GLB_OFFACC_VALID = false := by decide +kernel

theorem witness_StalledAccessesKeepOrder : hubStall hostDev ⟨0, 0x40, none, none, true⟩ = false ∧
    hubStall (hubOne hostDev ⟨0, 0x40, none, none, true⟩) ⟨1, 0x44, none, none, true⟩ = false := by decide +kernel

theorem witness_CatchFiresAndEnds : Writes (st readyDev) 0 0x100 (BitVec.ofNat 32 (2 ^ 7)) ∧ accepted readyDev = false ∧
    Writes (st accDev) 0 0x100 (BitVec.ofNat 32 (2 ^ 0)) ∧ accepted accDev = true ∧
    bitOf (rd (voteAll accDev) F.GLB_CATCH_DONE_DONE) 7 = true ∧
    bitOf (rd (voteAll (wr accDev F.GLB_CATCH_DONE_DONE 0x7F)) F.GLB_CATCH_DONE_DONE) 7 = false ∧ alive accDev = true ∧
    bitOf (rd (wr accDev F.GLB_CATCH_DONE_DONE 0x7F) F.GLB_CATCH_DONE_QUEUED) 7 = false := by decide +kernel

theorem witness_RefusedPageKeepsValues : let d := setHdr (setShdW hostDev 0x28040 0) 0x28 { hdrOf hostDev 0x28 with pend := true }
    (hdrOf d 0x28).pend = true ∧ catchNew d 0x28 = true ∧ answers (on d [0x28]) 0x28 = true ∧ pageCheck d 0x28 = some (0x40, 0x80) := by decide +kernel

/-- One copy, and then every copy, of PFL_EHOLD is upset. -/
def upDev (a b c : Word) : Dev := { hostDev with hub := { hostDev.hub with tv := [(2 * 0x5040, ⟨a, b, c⟩)] } }

theorem witness_VoteRepairsOneCopy : alive (upDev 4 0 0) = true ∧ (upDev 4 0 0).hub.tv = [(2 * 0x5040, ⟨4, 0, 0⟩)] ∧ tvFields 0x5040 = [(0, 20)] ∧
    (([4, 0, 0] : List Word).filter (fun x => bitsOf x.toNat 0 20 ≠ 0)).length = 1 ∧ tvFields 0x80 = [(0, 3)] ∧
    (([8, 0, 7] : List Word).filter (fun x => bitsOf x.toNat 0 3 ≠ 0)).length = 1 := by decide +kernel

theorem witness_VoteRepairsOneCopy_lost : alive (upDev 1 2 0x80000) = true ∧ (upDev 1 2 0x80000).hub.tv = [(2 * 0x5040, ⟨1, 2, 0x80000⟩)] ∧
    bitsOf (1 : Word).toNat 0 20 ≠ bitsOf (2 : Word).toNat 0 20 ∧ bitsOf (1 : Word).toNat 0 20 ≠ bitsOf (0x80000 : Word).toNat 0 20 ∧
    bitsOf (2 : Word).toNat 0 20 ≠ bitsOf (0x80000 : Word).toNat 0 20 := by decide +kernel

/-- R60: with one copy of PFL_EHOLD upset the read gives the majority, VFIX is raised, and the copies agree again. -/
theorem test_vote : after (.pairLoRead 0 0x5040) (upDev 4 0 0) (fun d => (rd d F.PFL_EHOLD_MJ, d.hub.tv, evtSet d 5 1)) =
    some (rd hostDev F.PFL_EHOLD_MJ, [], true) := by decide +kernel

/-! ### Supplies, clocks, bring-up, flush -/

/-- PWRGD_AON is high and the AON domain waits for the crystal. -/
def coldDev : Dev := { State.reset.dev with sys := { State.reset.dev.sys with pwrgd := true, rails := allRails } }

/-- GLB_BOOT.STAGE of a running AON domain. -/
def bootDev (n : Nat) : Dev := wr hostDev F.GLB_BOOT_STAGE n

theorem witness_PowerOnReset : aonRailsGood { State.reset.dev with sys := { State.reset.dev.sys with rails := 2 ^ 0 + 2 ^ 12 } } = true ∧
    State.reset.dev.sys.pwrgd = false ∧ coldDev.sys.pwrgd = true ∧ coldDev.sys.aon = false ∧ aonRailsGood coldDev = true ∧
    coldDev.sys.xtalBad = false ∧ coldDev.sys.rails = allRails ∧ 2 ^ 0 + 2 ^ 12 ≠ allRails := by decide +kernel

theorem witness_RailsTracked : bitOf State.reset.dev.sys.rails 13 = false ∧ bitOf (hostDev.sys.rails - 2 ^ 13) 13 = false ∧
    bitOf hostDev.sys.rails 0 = true ∧ bitOf hostDev.sys.rails 12 = true ∧ bitOf hostDev.sys.rails 13 = true ∧ hostDev.sys.aon = true ∧
    hostDev.sys.rails < 2 ^ 14 ∧ hostDev.sys.dead = false ∧ bitOf hostDev.sys.rails 3 = true ∧ bitOf hostDev.sys.rails 4 = true ∧
    bitOf { hostDev.sys with everGood := allRails }.everGood 13 = true ∧ { hostDev.sys with dead := true }.aon = true := by decide +kernel

theorem witness_PowerOnSequence : (bootDev 2).sys.aon = true ∧ stage (bootDev 2) = 2 ∧ stage (bootDev 3) = 3 ∧ stage (bootDev 4) = 4 ∧
    (bootDev 4).sys.hbmOk = false ∧ (bootDev 4).sys.zeroDone = false ∧ (bootDev 4).sys.verifiedBank = none ∧ 110 < 111 ∧
    (let d := { bootDev 4 with sys := { (bootDev 4).sys with hbmOk := true, verifiedBank := some 1 } }
     serving d = true ∧ stage d = 4 ∧ d.sys.hbmOk = true ∧ d.sys.zeroDone = false ∧ d.sys.verifiedBank = some 1) := by decide +kernel

/-- An image of 64 KiB: a sound header, erased pages, and a last page whose last word is the CRC of the block (R403). -/
def hdrPage : Block := blkOfWords [0x4B4F4A46, 1, 0x1000000, 1, 65536] 0
def imgHead : List Block := hdrPage :: List.replicate 14 erasedPage

/-- Both banks hold that image and no bank record, and slot 3 of the fuse map trusts its key. -/
def withImg (d : Dev) : Dev :=
  let img : ArrBlock := { pages := [(0, hdrPage), (15, crcPage (crcOf imgHead))] }
  { d with sys := { d.sys with fuse := { d.sys.fuse with trusted := 8 } },
           array := { d.array with blocks := [(0, img), (1020, {}), (1021, {}), (1024, img), (2044, {}), (2045, {})] } }

theorem hdrPage_ok : (imgHdr hdrPage).ok = true ∧ (imgHdr hdrPage).length = 65536 := by decide +kernel

theorem bankHdr_withImg (d : Dev) (b : Nat) (hb : b ≤ 1) : bankHdr (withImg d) b = imgHdr hdrPage := by
  obtain rfl | rfl : b = 0 ∨ b = 1 := by omega
  all_goals simp [bankHdr, arrPage, withImg, arrKey, SMap.get?]

theorem imgPages_withImg (d : Dev) (b : Nat) (hb : b ≤ 1) : imgPages (withImg d) b 0 = imgHead ++ [crcPage (crcOf imgHead)] := by
  generalize h : imgHead = g
  obtain rfl | rfl : b = 0 ∨ b = 1 := by omega
  all_goals simp [imgPages, arrPage, withImg, arrKey, SMap.get?, List.range, List.range.loop, h]
  all_goals simp [← h, imgHead, List.replicate]

/-- R87, R403: both banks verify under the trusted key. -/
theorem imgVerifies_withImg (d : Dev) (b : Nat) (hb : b ≤ 1) (ok : Bool) : imgVerifies (withImg d) b ⟨some 3, true, ok⟩ = some 3 := by
  have hc : bankCrcs (withImg d) b = true := by
    unfold bankCrcs
    rw [bankHdr_withImg d b hb, hdrPage_ok.2]
    simp only [Nat.reduceDiv, List.range, List.range.loop, List.all_cons, List.all_nil, Bool.and_true]
    rw [imgPages_withImg d b hb]
    exact imgBlockOk_crcPage imgHead rfl
  have ht : bitOf (withImg d).sys.fuse.trusted 3 = true := by show bitOf 8 3 = true; decide
  simp only [imgVerifies, bankHdr_withImg d b hb, hc, hdrPage_ok.1, ht]
  rfl

theorem witness_FirmwareStarts_image : (imgVerifies (withImg (bootDev 4)) (preferredBank (withImg (bootDev 4))) ⟨some 3, true, true⟩).isSome = true ∧
    (imgVerifies (withImg (bootDev 5)) (1 - rd (bootDev 5) F.FWA_BANK_EXEC) ⟨some 3, true, true⟩).isSome = true := by
  have h : preferredBank (withImg (bootDev 4)) ≤ 1 := by decide +kernel
  rw [imgVerifies_withImg _ _ h, imgVerifies_withImg _ _ (by omega)]
  exact ⟨rfl, rfl⟩

theorem witness_FirmwareStarts : serving (bootDev 4) = true ∧ stage (bootDev 4) = 4 ∧ (bootDev 4).sys.bankFailed = false ∧ stage (bootDev 5) = 5 ∧
    stage (bootDev 6) = 6 ∧
    (imgVerifies (withImg (bootDev 4)) 1 ⟨some 2, true, true⟩).isSome = false ∧ { (bootDev 4).sys with bankFailed := true }.bankFailed = true ∧
    (bootDev 4).sys.verifiedBank = none ∧ (bootDev 5).upd.tried.contains (1 - rd (bootDev 5) F.FWA_BANK_EXEC) = false ∧
    ({ (bootDev 5).upd with tried := [1] }).tried.contains (1 - rd (bootDev 5) F.FWA_BANK_EXEC) = true := by decide +kernel

theorem witness_PllLockFollowed : alive readyDev = true ∧ bitOf (rd readyDev F.CLK_STAT_LOCK) 22 = true ∧
    (let d := setBit readyDev F.CLK_STAT_LOCK 22 false
     bitOf (rd d F.CLK_STAT_LOCK) 22 = false ∧ stage d ≥ 3 ∧ pllDomainOn d 22 = true ∧ d.sys.refPresent.contains 1 = true ∧ domOn d 17 = true) ∧
    (let d := setBit readyDev F.CLK_STAT_LOCK 4 false
     bitOf (rd d F.CLK_STAT_LOCK) 4 = false ∧ pllDomainOn d 4 = true ∧ stage d ≥ 3) ∧
    (let d0 := setBit readyDev F.CLK_STAT_LOCK 20 false
     let d := { d0 with sys := { d0.sys with pllDead := [15] } }
     bitOf (rd d F.CLK_STAT_LOCK) 20 = false ∧ pllDomainOn d 20 = true ∧ stage d ≥ 3 ∧ pllBroken d (20 - 5) = true) ∧ pllBroken readyDev 15 = false ∧
    (let d0 := setBit readyDev F.CLK_STAT_LOCK 22 false
     let d := { d0 with sys := { d0.sys with portDead := [1] } }
     bitOf (rd d F.CLK_STAT_LOCK) 22 = false ∧ d.sys.portDead.contains (22 - 21) = true) ∧
    (let d := setBit readyDev F.CLK_STAT_LOCK 20 false
     bitOf (rd d F.CLK_STAT_LOCK) 20 = false ∧ pllDomainOn d 20 = true) := by decide +kernel

theorem witness_ClocksLostAndBack : alive hostDev = true ∧ hostDev.sys.refPresent.contains 1 = true ∧ hostDev.sys.aon = true ∧
    hostDev.sys.xtalBad = false := by decide +kernel

/-- PFL_STAT.STATE of a device that flushes. -/
def flushDev (n : Nat) : Dev := wr accDev F.PFL_STAT_STATE n

/-- A set that WRITE has added. -/
def setA1 : EaveSet := { num := 1, gen := 0, t0 := 0, t1 := 0, bytes := 0, exts := [], deltas := [], counters := [], doubt := [], folded := false, valid := false }
def writtenDev (n : Nat) : Dev := modNand (flushDev n) (fun x => { x with eaves := [setA1] })

theorem witness_FlushStartsAndSteps : accDev.sys.dead = false ∧ flushing (flushDev 2) = true ∧ flushing readyDev = false ∧ accepted readyDev = false ∧
    (let d := wrs accDev [(F.THM_HOT_T, 0x700), (F.THM_TRIP_T, 0x6FF)]
     serving d = true ∧ rdS16 d F.THM_HOT_T > rdS16 d F.THM_TRIP_T ∧ stage d ≠ 0xF) ∧ inFlush (flushDev 2) 2 = true ∧
    inFlush (flushDev 3) 3 = true ∧ (flushDev 3).cox.luns.all (fun e => e.2.exec.isNone) = true ∧ inFlush (writtenDev 4) 4 = true ∧
    lastSet? (writtenDev 4) = some setA1 ∧ inFlush (writtenDev 5) 5 = true ∧ lastSet? (writtenDev 5) = some setA1 := by decide +kernel

theorem witness_WarmRestartKeeps :
    let d := wrs { flushDev 6 with sys := { (flushDev 6).sys with restartCause := 6 } } [(F.THM_HOT_T, 0x640), (F.THM_TRIP_T, 0x6E0)]
    alive d = true ∧ rd d F.PFL_STAT_STATE = 6 ∧ d.sys.pfailLow = false ∧ d.sys.rails = allRails ∧ d.sys.xtalBad = false ∧
    stage d ≠ 0xF ∧ rdS16 d F.THM_HOT_T = rdS16 d F.THM_TRIP_T - 160 := by decide +kernel

/-! ### Temperatures, alarms, random numbers -/

theorem witness_ThermalSampleShown :
    let ts := [400, 0xFFFF, 1, 2, 3, 4, 5, 6, 7, 8]
    let an := [true, true, true, true, true, true, true, true, true, false]
    ts.length = 10 ∧ an.length = 10 ∧ (∀ t ∈ ts, t < 65536) ∧ (hottest ts (badSensors ts an)).isSome = true ∧
    (∃ n ∈ badSensors ts an, n ∉ hostDev.admin.excluded) := by decide +kernel

theorem witness_ThermalSampleShown_warn :
    let d := wrs hostDev [(F.THM_WARN_T, 399), (F.THM_PEAK_T, 399)]
    tempOf 400 > rdS16 d F.THM_PEAK_T ∧ tempOf 400 > rdS16 d F.THM_WARN_T ∧ tempOf 351 ≤ rdS16 d F.THM_WARN_T - 48 ∧ d.admin.warnOff = false := by
  decide +kernel

theorem witness_AlarmResponse : rdB (wr hostDev F.ALM_TAMPEN_EN 0) F.ALM_TAMPEN_EN = false ∧ almTAMPER ≤ almENTROPY ∧
    rdB (wr hostDev F.ALM_TAMPEN_EN 1) F.ALM_TAMPEN_EN = true ∧ serving hostDev = true ∧ serving (flushDev 6) = false ∧
    (flushDev 6).sys.aon = true ∧ Writes (st hostDev) 1 0x604C 0x3F ∧
    (let d := wrs hostDev [(F.TRNG_STAT_SEEDED, 1), (F.TRNG_STAT_FAIL, 1)]
     d.sys.aon = true ∧ rdB d F.TRNG_STAT_SEEDED = true ∧ rdB d F.TRNG_STAT_FAIL = true) := by decide +kernel

theorem witness_RandomNumbers : rdB hostDev F.TRNG_STAT_SEEDED = false ∧ hostDev.sys.portsFree = true ∧ alive hostDev = true ∧
    HostAt (st hostDev) 1 ∧ answers hostDev 0x73 = true ∧
    (let d := wr hostDev F.TRNG_STAT_SEEDED 1
     rdB d F.TRNG_STAT_SEEDED = true ∧ rdB d F.TRNG_STAT_FAIL = false ∧ HostAt (st d) 0 ∧ answers d 0x73 = true ∧ domOn d 21 = true) := by decide +kernel

/-! ### Domains and power states -/

theorem witness_DomainGating : Writes (st hostDev) 1 0x2040 (BitVec.ofNat 32 (0x10000 + 0x100 + 31)) ∧ serving hostDev = true ∧
    inTransition hostDev = false ∧ inTransition (wr accDev F.PWR_PSTAT_ENTERING 1) = true ∧ domCause hostDev 1 31 true = 7 ∧ domCause hostDev 1 30 false = 7 ∧
    Writes (st accDev) 0 0x2040 (BitVec.ofNat 32 (0x10000 + 0x100 + 15)) ∧ domCause (wr accDev F.PWR_DOMCMD_BUSY 1) 0 31 true = 8 ∧
    domCause accDev 0 15 true = 0 ∧ domCause accDev 0 15 false = 0 ∧ domOn accDev 15 = true ∧
    hostOff accDev 15 = false ∧ (let d := wrs accDev [(F.PWR_DOMSTAT_ON, 2 ^ 15 - 1), (F.PWR_DOMHOST_HOST, 2 ^ 15)]
     domCause d 0 15 true = 0 ∧ hostOff d 15 = true ∧ domOn d 15 = false ∧ domCause d 0 15 false = 0) ∧
    (let d := wr accDev F.PWR_DOMSTAT_ON (2 ^ 15 - 1)
     domCause d 0 15 true = 0 ∧ hostOff d 15 = false ∧ domOn d 15 = false) := by decide +kernel

theorem witness_DomainGating_ends : groupQuiet accDev 15 = true ∧ serving accDev = true ∧ domPend accDev 15 = false ∧ inTransition accDev = false ∧
    domPend (setHdr accDev 0x6C { hdrOf accDev 0x6C with pend := true }) 15 = true ∧
    ({ accDev.sys with domOp := some ⟨15, true, 0⟩, readOpen := [15] } : Sys).readOpen.contains 15 = true ∧
    hostOff (powerOff accDev 15) (22 + 15 / 4) = false ∧
    (let d := powerOff (wrs accDev [(F.PWR_DOMSTAT_ON, 2 ^ 15 + 2 ^ 25), (F.PWR_DOMHOST_HOST, 2 ^ 25)]) 15
     hostOff d (22 + 15 / 4) = true ∧ ∀ i, i < 4 → domOn d (4 * (15 / 4) + i) = false) := by decide +kernel

/-- An idle device in DRIFT with every power state enabled and its links in L1. -/
def driftDev : Dev := wrs accDev [(F.GLB_STAT_MODE, 5), (F.PWR_PSEN_P1EN, 1), (F.PWR_PSEN_P2EN, 1), (F.PWR_PSEN_P3EN, 1),
  (F.PRT_LSTAT_L1 0 0, 1), (F.PRT_LSTAT_L1 1 0, 1)]

theorem witness_PowerStateCycle : serving driftDev = true ∧ accepted driftDev = true ∧ rd driftDev F.GLB_STAT_MODE = 5 ∧
    (∀ n, n < 4 → 1 ≤ n → psEnabled driftDev n = true ∧ rd driftDev F.PWR_PSTAT_STATE < n ∧ idleFor driftDev n = true) ∧
    inTransition driftDev = false ∧ linksInL1 driftDev = true ∧ Writes (st driftDev) 1 0x2074 ((actW driftDev 0x2074 &&& 2) ||| 1) := by
  decide +kernel

theorem witness_PowerStateCycle_ends : rdB (wr driftDev F.PWR_PSTAT_ENTERING 1) F.PWR_PSTAT_ENTERING = true ∧ driftDev.sys.domHeld = [] ∧
    driftDev.sys.psTarget < 4 ∧ (let d := wrs driftDev [(F.PWR_PSTAT_STATE, 3), (F.PWR_PSTAT_EXITING, 1)]
      rdB d F.PWR_PSTAT_EXITING = true ∧ rdB d F.PWR_PSTAT_ENTERING = false ∧ serving d = true ∧ rd d F.PWR_PSTAT_STATE ≠ 0) := by
  decide +kernel

/-! ### Links, functions, seats, fetching -/

/-- Link 0 of port B is down; nothing else keeps it down. -/
def downDev : Dev := wr hostDev (F.PRT_LSTAT_UP 1 0) 0

theorem witness_LinkStateShown : portCanTrain downDev 1 = true ∧ linkExists downDev 1 0 = true ∧ linkUpB downDev 1 0 = false ∧
    16 ≤ linkLanes downDev 1 ∧ 6 + bitsOf (linkCfgOf downDev 1) 12 2 ≤ 6 ∧ linkUpB hostDev 1 0 = true ∧ alive hostDev = true ∧ linkGood.l0p = false ∧
    linkBusy hostDev 1 0 = false ∧ linkFits hostDev 1 linkGood = true ∧ linkFits hostDev 1 { linkGood with speed := 7 } = false ∧ linkRate linkGood % 2 ^ 16 ≠ rd hostDev (F.PRT_RATE_RATE 1 0) := by decide +kernel

/-- A configuration that leaves every enable of the link as it is takes nothing from a function. -/
theorem witness_LinkStateShown_keeps (f : Nat) : cfgLoses hostDev 1 0 { linkGood with bme := [0] } f = false := by
  have h : f % 128 < 128 := Nat.mod_lt _ (by omega)
  simp only [cfgLoses]
  generalize f % 128 = r at *
  have h2 : ∀ r, r < 128 → ((bmeOn hostDev (512 * 1 + 128 * 0 + r) && (decide (r > 64) || !([0] : List Nat).contains r)) ||
      (bmeOn hostDev (512 * 1 + 128 * 0 + 0) && (decide (0 > 64) || !([0] : List Nat).contains 0)) ||
      (decide (r > 64) && decide (r ≤ rd hostDev (F.PRT_LSTAT_VFS 1 0)))) = false := by decide +kernel
  rw [Bool.and_eq_false_iff]
  exact .inr (h2 r h)

theorem witness_LinkStateShown_l1 :
    let d := { hostDev with pci := { hostDev.pci with aspm := [4] } }
    linkUpB d 1 0 = true ∧ d.pci.aspm.contains (4 * 1 + 0) = true ∧ (d.seats.any (fun e => e.2.fn / 128 == 4 && e.2.classD && !e.2.idle)) = false ∧
    rdB (wr hostDev (F.PRT_LSTAT_L1 1 0) 1) (F.PRT_LSTAT_L1 1 0) = true ∧
    rdB (wr hostDev (F.PRT_LSTAT_L1 1 3) 1) (F.PRT_LSTAT_L1 1 3) = true := by decide +kernel

theorem witness_FunctionsReset : linkUpB hostDev 1 0 = true ∧ alive hostDev = true ∧ bitOf (rd hostDev F.PWR_DOMHOST_HOST) (16 + 1) = false ∧
    linkUpB hostDev (fnPort 576) (fnLink 576) = true ∧ fnVf 576 = 64 ∧ linkUpB hostDev (fnPort 512) (fnLink 512) = true ∧ fnVf 512 = 0 := by
  decide +kernel

theorem witness_PciAnswers : alive hostDev = true ∧ linkUpB hostDev (fnPort 5) (fnLink 5) = true ∧ mseOn hostDev 5 = false ∧ barExists 5 2 = true ∧
    barExists 0 0 = true ∧ barExists 5 0 = false ∧ barOk hostDev 0 = true ∧ barOk hostDev 512 = true ∧
    (let d := { hostDev with pci := { hostDev.pci with pba := [2048 * 512 + 2047] } }
     barOk d 512 = true ∧ d.pci.pba.contains (2048 * 512 + 2047) = true ∧ msixLive d 512 = false ∧
     msixLive { d with pci := { d.pci with msixEn := [512] } } 512 = true ∧ d.pci.msixFm.contains 512 = false) ∧
    hostDev.pci.pba = [] := by decide +kernel

theorem witness_SeatAttaches : barOk (cmdDev (cmdA 2 2 [])) 5 = true ∧ serving accDev = true ∧ (0x800207FF : Word) &&& ~~~ seatReqMask = 0 ∧
    bitOf (0x800207FF : Word).toNat 31 = true ∧ seatReqStatus (cmdDev (cmdA 2 2 [])) 5 (0x800207FF : Word).toNat = 0 ∧
    seatReqStatus readyDev 512 (0x80040000 : Word).toNat = 0 ∧ seatReqStatus hostDev 0 (0x80000000 : Word).toNat = 1 ∧
    barOk hostDev 0 = true := by decide +kernel

/-- The seat of function 5 with other fields, and no command. -/
def seatDev (v : Seat) : Dev := { cmdDev (cmdA 2 2 []) with seats := [(0, { fn := 0 }), (2, v)], cmds := {} }

theorem witness_SeatDetachesAndResets : barOk (seatDev { fn := 5 }) 5 = true ∧ (0x8000001F : Word) &&& ~~~ seatRelMask = 0 ∧
    (ctlOf (seatDev { fn := 5 }) 5).relDone = true ∧ seatAt? (seatDev { fn := 5 }) 5 (bitsOf (0x8000001F : Word).toNat 0 5) = none ∧
    seatOf? (seatDev { fn := 5, releasing := true }) 2 = some { fn := 5, releasing := true } ∧
    seatQuiet (seatDev { fn := 5, releasing := true }) 2 = true ∧
    Writes (st (on (seatDev { fn := 5 }) [0x12])) 0 0x12090 0x80000001 ∧ (0x80000001 : Word).toNat % 512 ≤ 1 ∧
    seatOf? (seatDev { fn := 5 }) 511 = none ∧ (0x80000002 : Word).toNat % 512 = 2 ∧
    Writes (st (on (seatDev { fn := 5 }) [0x12])) 0 0x12090 0x80000002 ∧
    seatOf? (seatDev { fn := 5, reapAt := some 3 }) 2 = some { fn := 5, reapAt := some 3 } ∧
    reapHolds (seatDev { fn := 5, reapAt := some 3 }) 2 { fn := 5, reapAt := some 3 } = false ∧
    (let d := { cmdDev { cmdA 2 opREAD [] with prog := { bad := true } } with seats := [(2, { fn := 5, reapAt := some 3, kicked := true })] }
     reapHolds d 2 { fn := 5, reapAt := some 3, kicked := true } = true) ∧ rowIs 0x12090 (fun _ => true) = true := by decide +kernel

theorem witness_SeatDetachesAndResets_reset : seatAt? (seatDev { fn := 5 }) 5 0 = some 2 ∧ (0x101 : Word) &&& ~~~ seatCtlMask = 0 ∧
    bitOf (0x101 : Word).toNat 0 = true ∧ (seatDev { fn := 5 }).cmds.list.filter (fun c => c.seat == 2 && !c.orphan) = [] ∧
    ({ fn := 5, resetting := true } : Seat).resetLater = false ∧
    seatOf? (seatDev { fn := 5, sqt := 31, sqh := 31, resetting := true, resetTail := some 31 }) 2 =
      some { fn := 5, sqt := 31, sqh := 31, resetting := true, resetTail := some 31 } := by decide +kernel

theorem witness_DoorbellsStored : seatAt? (seatDev { fn := 5, win := 31 }) 5 31 = some 2 ∧ serving (seatDev { fn := 5 }) = true ∧
    ({ fn := 5, waiting := [⟨0, 31, 0, 0, 0, 0, 0⟩], cqt := 30 } : Seat).waiting = ⟨0, 31, 0, 0, 0, 0, 0⟩ :: [] ∧ (30 + 1) % 32 ≠ 0 % 32 ∧ serving (seatDev { fn := 5 }) = true ∧
    ringReachable (seatDev { fn := 5 }) { fn := 5 } = true ∧
    bitsOf ({ fn := 5, cqint := 0xFF } : Seat).cqint 0 8 ≠ 0 ∧ ({ fn := 5, unsig := 1 } : Seat).ien = true := by decide +kernel

theorem witness_EntryFetch : mayFetch (seatDev { fn := 5, sqt := 0, sqh := 31 }) { fn := 5, sqt := 0, sqh := 31 } = true ∧
    seatOf? (seatDev { fn := 5, sqt := 0, sqh := 31, badPhase := 3 }) 2 = some { fn := 5, sqt := 0, sqh := 31, badPhase := 3 } ∧
    mayFetch (seatDev { fn := 5, sqt := 1, badPhase := 3 }) { fn := 5, sqt := 1, badPhase := 3 } = true ∧
    bitOf (0x80000001 : Word).toNat 31 = ({ fn := 5 } : Seat).sqPhase ∧ bitOf (1 : Word).toNat 31 ≠ ({ fn := 5 } : Seat).sqPhase := by
  decide +kernel

theorem witness_ChecksInOrder :
    let d := { cmdDev (cmdA 2 1 []) with cmds := { list := [{ cmdA 2 1 [] with seq := 6 }, cmdA 2 1 []] } }
    cmdOf? d 7 = some (cmdA 2 1 []) ∧ (d.cmds.list.filter (fun x => x.seq < 7)).any (fun x => x.seat == 2 && x.tag == 31 && !x.orphan) = true ∧
    tagWaits (seatDev { fn := 5, waiting := [⟨0, 31, 0, 0, 0, 0, 0⟩] }) 2 31 = true ∧ tagWaits d 2 31 = false ∧
    accepted readyDev = false ∧ accepted d = true ∧ opcodeOk true 2 0x12 = true ∧ opcodeOk true 2 0x13 = false ∧ opcodeOk false 2 0x10 = false ∧
    opcodeOk false 1 0x48 = true ∧ opcodeOk false 2 0x40 = false := by decide +kernel

/-- A volume of 2^18 blocks. -/
def volDev (c : Cmd) : Dev := wrs (cmdDev c) [(F.VOL_ID_EN 63, 1), (F.VOL_ID_VOL 63, 0), (F.VOL_CAP_LO_BLK 63, 2 ^ 18)]

theorem witness_ChecksInOrder_fields :
    let c := cmdA 2 opREAD [0, 2 ^ 18 - 1, 0, 2]
    check4 (volDev (cmdA 2 opREAD [0x10000, 0, 0, 1])) true (cmdA 2 opREAD [0x30000, 0, 0, 1]) ≠ none ∧
    check4 (cmdDev c) true c = none ∧ volEntry? (cmdDev c) (cVol c) = none ∧ volEntry? (volDev c) (cVol c) = some 63 ∧
    check4 (volDev c) true c = none ∧ usesRange (cOpc c) = true ∧ cLba c + cLen c > volBlocks (volDev c) (cVol c) ∧
    cLba (cmdA 2 opREAD [0, 2 ^ 18, 0, 0]) + cLen (cmdA 2 opREAD [0, 2 ^ 18, 0, 0]) ≤ volBlocks (volDev c) (cVol c) ∧
    check4 (volDev c) true (cmdA 2 opREAD [0, 2 ^ 18, 0, 0]) = none ∧ cLen (cmdA 2 opREAD [0, 2 ^ 18, 0, 0]) = 0 ∧
    usesLen opREAD = true := by decide +kernel

theorem witness_CompletionEntryWritten : (cmdA 2 1 []).orphan = false ∧ seatOf? (seatDev { fn := 5, cqt := 31, cqh := 1 }) 2 =
    some { fn := 5, cqt := 31, cqh := 1 } ∧ cqFull { fn := 5, cqt := 31, cqh := 1 } = false ∧
    ringReachable (seatDev { fn := 5, cqt := 31, cqh := 1 }) { fn := 5, cqt := 31, cqh := 1 } = true ∧
    cqFull { fn := 5, cqt := 31, cqh := 0 } = true ∧ ringReachable hostDev { fn := 5 } = false := by decide +kernel

/-! ### Configuration gate and RECOVER -/

/-- Shadow words of an image that passes every check: four channels of one LUN each, TLC pages, width 4, no volume. -/
def imageDev : Dev :=
  let d := [(0x26040, 0x20100 + 1), (0x26044, 0x10000 + 16), (0x26048, 2048), (0x26054, 4), (0x26058, 1800), (0x2605C, 1), (0x26060, 1),
      (0x26064, 0x10000), (0x2606C, 2000), (0x26070, 2000), (0x26074, 1), (0x2607C, 1), (0x26090, 900), (0x30040, 1), (0x31040, 1), (0x32040, 1),
      (0x33040, 1), (0x4070, 0x5F0), (0x4074, 0x640), (0x1F044, 1), (0x1F050, 1), (0x1F054, 16),
      (0x1F058, 17), (0x1F05C, 4), (0x1F060, 21), (0x1F064, 8), (0x1F068, 29), (0x1F06C, 16)].foldl (fun d e => setShdW d e.1 (BitVec.ofNat 32 e.2)) (wrs readyDev [(F.CFG_GATE_STATE, 2), (F.MEDIA_OPSUP_MAX, 1)])
  { d with hub := { d.hub with snapShd := d.hub.shd, snapEhold := 0xFFFFF } }

theorem witness_ConfigurationGate : stageReady hostDev = false ∧ Writes (st hostDev) 0 0x1040 1 ∧ stageReady accDev = true ∧
    rd accDev F.CFG_GATE_STATE ∈ [2, 4] ∧ rd readyDev F.CFG_GATE_STATE ∉ [2, 4] ∧ (∀ k, k < 16 → groupDeclared (voteAll readyDev) k = false) ∧
    Writes (st accDev) 1 0x1040 2 := by decide +kernel

theorem foldl_lt {α : Type} {f : Nat → α → Nat} (h : ∀ a x, a < 2 ^ 32 → f a x < 2 ^ 32) (l : List α) {a : Nat} (ha : a < 2 ^ 32) :
    l.foldl f a < 2 ^ 32 := by
  induction l generalizing a with
  | nil => exact ha
  | cons x l ih => exact ih (h a x ha)

theorem crc32cByte_lt (acc b : Nat) (h : acc < 2 ^ 32) : crc32cByte acc b < 2 ^ 32 := by
  refine foldl_lt (fun a i ha => ?_) _ (Nat.xor_lt_two_pow h (by omega))
  show (if a % 2 == 1 then (a / 2) ^^^ 0x82F63B78 else a / 2) < 2 ^ 32
  split
  · exact Nat.xor_lt_two_pow (by omega) (by decide)
  · omega

theorem imageCrc_lt (d : Dev) : imageCrc d < 2 ^ 32 := by
  unfold imageCrc
  refine Nat.xor_lt_two_pow (foldl_lt (fun a e ha => ?_) _ (by decide)) (by decide)
  exact foldl_lt crc32cByte_lt _ ha

/-- The image with a captured checksum. -/
def withSum (d : Dev) (w : Word) : Dev := { d with hub := { d.hub with snapSum := w } }

theorem imageCrc_withSum (d : Dev) (w : Word) : imageCrc (atSnapshot (withSum d w)) = imageCrc (atSnapshot d) := rfl

theorem witness_ConfigurationGate_checksum (d : Dev) :
    imageCrc (atSnapshot (withSum d (BitVec.ofNat 32 (imageCrc (atSnapshot d))))) =
      (withSum d (BitVec.ofNat 32 (imageCrc (atSnapshot d)))).hub.snapSum.toNat ∧
    imageCrc (atSnapshot (withSum d (BitVec.ofNat 32 (imageCrc (atSnapshot d) + 1)))) ≠
      (withSum d (BitVec.ofNat 32 (imageCrc (atSnapshot d) + 1))).hub.snapSum.toNat := by
  have h := imageCrc_lt (atSnapshot d)
  rw [imageCrc_withSum, imageCrc_withSum]
  show _ = (BitVec.ofNat 32 _).toNat ∧ _ ≠ (BitVec.ofNat 32 _).toNat
  simp only [BitVec.toNat_ofNat]
  omega

theorem witness_ConfigurationGate_pages : serving imageDev = true ∧ rd imageDev F.CFG_GATE_STATE = 2 ∧
    imagePageFault (atSnapshot imageDev) = none := by decide +kernel

theorem witness_ConfigurationGate_accepts : imageFault (allPages.foldl applyPage (atSnapshot imageDev)) = none := by decide +kernel

theorem witness_ConfigurationGate_refuses :
    imagePageFault (atSnapshot { imageDev with hub := { imageDev.hub with snapShd := [] } }) = some (4, 0x74, 0x80) ∧
    imageFault (allPages.foldl applyPage (atSnapshot { imageDev with hub := { imageDev.hub with snapEhold := 0 } })) = some (5, 0x5040) := by
  decide +kernel

theorem witness_ConfigurationGate_reopen : (let d := wr accDev F.GLB_STAT_RECOVERED 1
    Writes (st d) 0 0x1040 2 ∧ reopenCause d = 0 ∧ d.cmds.reopening = false ∧
    reopenCause { d with cmds := { d.cmds with reopening := true } } = 0) ∧ reopenCause accDev = 3 ∧ serving accDev = true ∧
    reopenDrained { accDev with cmds := { accDev.cmds with reopening := true } } = true := by decide +kernel

/-- A flush set with one extent, and no free batten for it. -/
def foldDev : Dev :=
  let d := recDev 5
  { d with med := { d.med with nand := { d.med.nand with
               eaves := [{ num := 1, gen := 0, t0 := 0, t1 := 0, bytes := 4096, exts := [{ ext := {}, cmd := 0, portion := 0 }], deltas := [],
                           counters := [], doubt := [], folded := false, valid := true }] } } }

/-- A flush set with two extents and two battens in the window. -/
def foldMedia : Dev :=
  let d := wrs foldDev ([(F.MEDIA_GEOM0_Q, 1), (F.MEDIA_GEOM0_L, 1), (F.MEDIA_GEOM0_NU, 8), (F.MEDIA_BATW_W, 4)] ++
    (List.range 4).flatMap (fun c => [(F.CHN_MAP_TGT c, 1), (F.CHN_STAT_STATE c, chSERVE)]))
  let d1 := modNand d (fun n => { n with
    w := 4, luns := [0, 64, 128, 192], grp := [0, 64, 128, 192], bats := [(2, { st := .window }), (3, { st := .window })] })
  { d1 with med := { d1.med with window := [2, 3] } }

/-- R280, R318: the program at position 1 of the first stripe fails: the first extent goes to the next batten, the second stays; the batten is
a victim with position 1 FAILING. -/
theorem test_fold_program_failed :
    (foldPlaced [(2, 0, 1)] foldMedia [{ tag := { n := 4 } }, { tag := { n := 4 } }]).map (fun r =>
      (r.2.map Prod.fst, (batOf r.1 2).failed, (batOf r.1 2).failing, (batOf r.1 2).st)) =
    some ([placeKey 3 0, placeKey 2 4], [(0, 1)], [1], .victim) := by decide +kernel

theorem witness_RecoverStagesFollow_fold : inStage foldDev 5 = true ∧ (foldAll foldDev [] []).isNone = true ∧
    (foldAll (wr (recDev 5) F.FWU_STATE_MIGPEND 1) [] []).any (fun d => rdB d F.FWU_STATE_MIGPEND) = true ∧
    (foldAll (recDev 5) [] []).any (fun d => !rdB d F.FWU_STATE_MIGPEND && decide (resumeOp? d = none) && !d.hub.safeMode) = true := by
  decide +kernel

/-- Nothing on new media: no flash, no journal, no eaves. -/
theorem witness_RecoverStagesFollow : inStage (recDev 1) 1 = true ∧ inStage (recDev 2) 2 = true ∧ inStage (recDev 3) 3 = true ∧
    inStage (recDev 4) 4 = true ∧ inStage (recDev 5) 5 = true ∧ inStage (recDev 6) 6 = true ∧
    trainReady (recDev 1) [] = true ∧ catchQuiet (recDev 2) = true ∧ mediaFault (recDev 2) ⟨true, [], [], []⟩ = some (0x11, 0x1058) ∧
    mediaFault (wr (recDev 2) F.CFG_CTRL_NEWMEDIA 1) ⟨true, [], [], []⟩ = none := by decide +kernel

/-- R302: a channel that trains holds TRAIN until it has a result. -/
theorem witness_RecoverStagesFollow_train : let d := wr (recDev 1) (F.CHN_STAT_STATE 63) chTRAIN
    trainReady d [trainGood] = true ∧ trainReady d [] = false := by decide +kernel

/-! ### Data commands, streams, keys -/

/-- A command is ready at its seat and tag. -/
def ready (c : Cmd) : Bool := readyCmd? (cmdDev c) c.seat 31 (cOpc c) == some c

/-- A started command of the data seat, 2 portions long. -/
def runA (opc : Nat) (p : Prog) : Cmd := { cmdA 2 opc [0, 255, 0, 2] with stage := .run, prog := p }

theorem witness_WritesRun : ready (cmdA 2 opWRITE [0, 255, 0, 2]) = true ∧ ready (cmdA 2 opFILL [0, 0, 0, 1]) = true ∧
    ready (cmdA 2 opGATHER [0, 0, 0, 1, 0, 0, 0, 0, 0, 4096, 1]) = true := by decide +kernel

/-- A device with four LUNs, erased eave blocks, a ring of 1 GiB, and the largest energy declared. -/
def roomDev (c : Cmd) : Dev :=
  let d := wrs (cmdDev c) [(F.PFL_EHOLD_MJ, 0xFFFFF), (F.BUF_SIZE 2, 16), (F.MEDIA_GEOM0_Q, 4), (F.MEDIA_GEOM0_L, 3), (F.MEDIA_GEOM0_NU, 1000),
    (F.MEDIA_GEOM1_NUSLC, 48), (F.MEDIA_BATW_W, 4), (F.MEDIA_RSLC_MBS, 400), (F.MEDIA_RPROG_MBS, 100), (F.MEDIA_EM_PJ, 250),
    (F.MEDIA_TPROG_US, 1800), (F.CHN_MAP_TGT 0, 1), (F.CHN_MAP_TGT 1, 1), (F.CHN_MAP_TGT 2, 1), (F.CHN_MAP_TGT 3, 1),
    (F.CHN_STAT_STATE 0, 2), (F.CHN_STAT_STATE 1, 2), (F.CHN_STAT_STATE 2, 2), (F.CHN_STAT_STATE 3, 2), (F.ADM_RPOWER_RPOWER, 0xFFFFFF),
    (F.CRY_STAT_LEVEL, 1), (F.PRT_RATE_RATE 0 0, 6000), (F.GLB_STAT_MODE, 1)]
  modNand d (fun n =>
    { n with formatted := true, w := 4, nlun := 4, luns := [0, 64, 128, 192], grp := [0, 64, 128, 192], geom := [0, 3000],
             lunRec := [0, 64, 128, 192].map (fun l => (l, { eave := [2996, 2997, 2998, 2999] })) })

/-- A device that flushes with a set begun, eave blocks for it, and one unsealed page of data in its ring. -/
def fullDev (n : Nat) : Dev :=
  let d := modNand (wrs (roomDev (cmdA 2 opFLUSH [])) [(F.PFL_STAT_STATE, n), (F.MEDIA_GEOM1_NUSLC, 1)]) (fun x => { x with eaves := [setA1] })
  { d with med := { d.med with ring := [(0, { ext := { tag := { n := 1, seq := 1 }, data := [0] }, cmd := 7, portion := 0 })] } }

/-- R229: its places suffice in each step; a device without eave blocks has none. -/
theorem witness_FlushStartsAndSteps_places :
    inFlush (fullDev 3) 3 = true ∧ eavePageCount (fullDev 3) = 1 ∧ (eaveWritten (fullDev 3) [] []).pages.length = 1 ∧
    (let d := { writtenDev 3 with med := { (writtenDev 3).med with ring := (fullDev 3).med.ring } }
     (eaveWritten d [] []).pages.length < eavePageCount d) ∧ metaPageCount setA1 = 1 ∧
    lastSet? (fullDev 4) = some setA1 ∧ (metaPlaces (fullDev 4) setA1).length = 2 ∧ (metaPlaces (writtenDev 4) setA1).length = 0 ∧
    (placePairs 1 (placesLeft (fullDev 5) setA1 2)).length = 2 ∧ (placePairs 1 (placesLeft (writtenDev 5) setA1 2)).length = 0 := by
  decide +kernel

theorem witness_WritesRun_issue :
    let c := { cmdA 2 opFILL [0, 256, 0, 512] with stage := .run, prog := { issued := 1, pulled := 1, done := 1 } }
    cmdOf? (cmdDev c) 7 = some c ∧ c.seq = 7 ∧ c.prog.issued ≤ c.prog.pulled ∧ c.prog.issued ≤ c.prog.done ∧ c.ending = none ∧
    c.prog.issued < cPortions c ∧ c.orphan = false ∧
    ((seatOf? (cmdDev c) c.seat).bind Seat.reapAt).isSome = false ∧ patchWait (cmdDev c) c c.prog.issued = false ∧
    roomFor (cmdDev c) c (portBytes c c.prog.issued) = false ∧ cmdOf? (roomDev c) 7 = some c ∧
    ((seatOf? (roomDev c) c.seat).bind Seat.reapAt).isSome = false ∧ patchWait (roomDev c) c c.prog.issued = false ∧
    roomFor (roomDev c) c (portBytes c c.prog.issued) = true := by decide +kernel

theorem witness_WritesRun_pull : let c := runA opWRITE { issued := 1 }
    runCmd? (cmdDev c) 2 31 (fun c => (isDataWrite c && !(cOpc c == opFILL)) || cOpc c == opVERIFY) = some c ∧ isDataWrite c = true ∧
    dataPull c = true ∧ pullTurn (cmdDev c) c = true ∧ ([3] : List Block).length = portLen (cLba c) (cLen c) 0 := by decide +kernel

/-- R26: the second pull of a write is served while its first portion is not sealed. -/
theorem witness_WritesRun_pull_ahead : let c := runA opWRITE { issued := 2, pulled := 1, data := [3] }
    dataPull c = true ∧ pullTurn (cmdDev c) c = true ∧ ([3] : List Block).length = portLen (cLba c) (cLen c) c.prog.pulled := by decide +kernel

theorem witness_WritesRun_resume : let c := { runA opWRITE { issued := 1, pulled := 1, done := 1 } with stage := .paused }
    runCmd? (cmdDev c) 2 31 (fun c => c.stage == .paused) = some c ∧ cOpc c ≠ opDISCARD ∧ isStarted c = true := by decide +kernel

theorem witness_WritesRun_resume_discard : let c := { runA opDISCARD {} with stage := .paused }
    runCmd? (cmdDev c) 2 31 (fun c => c.stage == .paused) = some c ∧ cOpc c = opDISCARD ∧ isStarted c = false ∧
    (cmdDev c).cmds.activating = false ∧ (cmdDev c).cmds.reopening = false ∧ seatReaps (cmdDev c) c = false ∧
    (let d := { cmdDev c with cmds := { (cmdDev c).cmds with activating := true } }
     runCmd? d 2 31 (fun c => c.stage == .paused) = some c ∧ d.cmds.activating = true) := by decide +kernel

/-- Patch space is missing for a write of two blocks: the patch area holds no extent. -/
theorem witness_WritesRun_patch : let c := cmdA 2 opWRITE [0, 255, 0, 2]
    let d := wr (cmdDev c) F.MAP_PLIM_MIB 0
    cmdOf? d 7 = some c ∧ c.prog.issued = 0 ∧ c.prog.issued ≤ c.prog.pulled ∧ c.ending = none ∧ c.prog.issued < cPortions c ∧ c.orphan = false ∧
    ((seatOf? d c.seat).bind Seat.reapAt).isSome = false ∧ d.cmds.activating = false ∧ d.cmds.reopening = false ∧
    patchWait d c c.prog.issued = true ∧ rd d F.MAP_STAT_PFULL = 0 := by decide +kernel

/-- Slot 0 is the REST key of volume 0 and may still seal. -/
def restDev (c : Cmd) : Dev :=
  let d := wrs (cmdDev c) [(F.KEY_STAT_STATE 0, ksLOADED), (F.KEY_STAT_ROLE 0, roleREST), (F.KEY_STAT_VOL 0, 0)]
  setKeySlot d 0 { mat := 5, mark := 2 ^ 20 }

theorem witness_WritesRun_seal : let c := runA opWRITE { issued := 1, pulled := 1, data := [3] }
    let d := voteAll (wr (restDev c) F.GLB_STAT_MODE 4)
    runCmd? d 2 31 isWriteKind = some c ∧ cOpc c ≠ opDISCARD ∧ sealReady d c = true ∧ contractWrite d c = false ∧
    coreTurn d 0 (portionInv d c c.prog.done) = true := by
  decide +kernel

theorem witness_WritesRun_seal_contract :
    let c := { cmdA 2 opWRITE [0xBF00, 255, 0, 2] with stage := .run, prog := { issued := 1, pulled := 1, data := [3] } }
    let d := voteAll (wrs (restDev c) [(F.GLB_STAT_MODE, 1), (F.STRM_STAT_OPEN 63, 1)])
    runCmd? d 2 31 isWriteKind = some c ∧ sealReady d c = true ∧ contractWrite d c = true ∧ clockHeld d 2 = false := by decide +kernel

theorem witness_ReadsRun : ready (cmdA 2 opREAD [0, 0, 0, 1]) = true ∧ ready (cmdA 2 opVERIFY [0, 0, 0, 1]) = true ∧
    cPortions (runA opREAD { done := 2 }) = 2 ∧ (runA opREAD { done := 1 }).ending = none ∧
    (let c := runA opREAD { done := 1 }
     (piecesOf (cmdDev c).med.m (portKey c 1) (portFirst c 1) (portLen (cLba c) (cLen c) 1)).1 = []) := by decide +kernel

/-- Course 0 of volume 0 lies in the flash, in batten 3. -/
def mappedDev (c : Cmd) : Dev :=
  let d := cmdDev c
  { d with med := { d.med with m := { map := [(0, .course 3 0 0 false false)] } } }

theorem witness_ReadsRun_mapped : let c := runA opREAD {}
    (piecesOf (mappedDev c).med.m (portKey c 0) (portFirst c 0) (portLen (cLba c) (cLen c) 0)).1 ≠ [] := by decide +kernel

/-- A read job of a command whose only unit has decoded, over a damaged extent. -/
def jobA : ReadJob :=
  { id := 0, why := .host 7, cls := 4, units := [{ batten := 3, stripe := 0, pos := 0, off := 0, bytes := 4096, st := .done }],
    exts := [{ tag := { dmg := true } }] }

theorem witness_ReadsRun_decrypt : let c := { runA opREAD {} with entry := [BitVec.ofNat 32 (opREAD + 31 * 2 ^ 8), 1, 255, 0, 2] }
    let d := voteAll { cmdDev c with med := { (cmdDev c).med with jobs := [jobA] } }
    runCmd? d 2 31 isReadKind = some c ∧ hostJob? d 7 = some jobA ∧ jobRead jobA = true ∧ jobUnreadable jobA = false ∧ pushable d c = true ∧
    coreTurn d 1 (jobInv jobA) = true ∧ jobA.exts ≠ [] ∧ (∀ e ∈ jobA.exts, (openSlot? d e).isSome = true ∨ e.tag.dmg = true) ∧ cOpc c = opREAD ∧ cHold c = true := by
  decide +kernel

theorem witness_ReadsRun_verify : let c := runA opVERIFY { issued := 1 }
    runCmd? (cmdDev c) 2 31 (fun c => (isDataWrite c && !(cOpc c == opFILL)) || cOpc c == opVERIFY) = some c ∧ cOpc c = opVERIFY ∧
    dataPull c = true ∧ pullTurn (cmdDev c) c = true ∧ ([3] : List Block).length = portLen (cLba c) (cLen c) c.prog.pulled := by decide +kernel

theorem witness_ReadsRun_zeroing : let c := runA opREAD { bad := true }
    runCmd? (cmdDev c) 2 31 (fun c => c.prog.bad) = some c := by decide +kernel

theorem witness_FlushDiscardAbort : ready (cmdA 2 opFLUSH []) = true ∧ (cmdDev (cmdA 2 opFLUSH [])).cmds.list = [cmdA 2 opFLUSH []] ∧
    (cmdDev (cmdA 2 opFLUSH [])).med.ring = [] ∧ (cmdDev (cmdA 2 opFLUSH [])).med.deltas = [] ∧ chunkDeltas (cmdDev (cmdA 2 opFLUSH [])) = [] ∧
    ready (cmdA 2 opDISCARD [0, 255, 0, 2]) = true ∧
    (∀ k, k < cPortions (cmdA 2 opDISCARD [0, 255, 0, 2]) → seatOrderOk (cmdDev (cmdA 2 opDISCARD [0, 255, 0, 2])) (cmdA 2 opDISCARD [0, 255, 0, 2]) k = true) := by
  decide +kernel

theorem witness_FlushDiscardAbort_course : let c := { cmdA 2 opDISCARD [0, 256, 0, 256] with stage := .run }
    cmdOf? (cmdDev c) c.seq = some c ∧ cLen c = 256 ∧ cLba c % 256 = 0 ∧ c.prog.done = 0 ∧ c.ending = none ∧ slotsOf (cmdDev c) c.seq = [] := by
  decide +kernel

theorem witness_FlushDiscardAbort_seal : let c := { runA opDISCARD { issued := 1 } with entry := (cmdA 2 opDISCARD [0, 0, 0, 2]).entry }
    let d := voteAll { restDev c with med := { (restDev c).med with jobs := [{ jobA with why := .host 7 }] } }
    runCmd? d 2 31 isWriteKind = some c ∧ cOpc c = opDISCARD ∧ hostJob? d c.seq = some jobA ∧ jobRead jobA = true ∧ jobUnreadable jobA = false ∧
    canSeal d c.kslot 1 = true ∧ coreTurn d 0 (jobInv jobA + 1) = true := by decide +kernel

/-- An ABORT of a tag, fetched after another command of the seat with tag 30. -/
def abortA (tag : Nat) : Cmd := cmdA 2 opABORT [0, 0, 0, 0, 0, 0, 0, 0, 0, BitVec.ofNat 32 tag]
def abortDev (tag : Nat) (t : Cmd) : Dev :=
  { cmdDev (abortA tag) with cmds := { list := [{ t with tag := 30, seq := 6 }, abortA tag], nextSeq := 8 } }

theorem witness_FlushDiscardAbort_abort : ready (abortA 31) = true ∧ cOp (abortA 31) 0 % 32 = (abortA 31).tag ∧
    abortTarget? (abortDev 0 (cmdA 2 opREAD [])) (abortA 0) = none ∧
    (abortTarget? (abortDev 30 (cmdA 2 opREAD [])) (abortA 30)).any (fun t => !(cOpc t == opABORT) && !isStarted t) = true ∧
    (abortTarget? (abortDev 30 (abortA 31)) (abortA 30)).any (fun t => cOpc t == opABORT) = true ∧
    (readyCmd? (abortDev 30 (runA opFLUSH {})) 2 31 opABORT).isSome = true := by decide +kernel

/-- The tag of a started command is aborted. -/
def abortsRun (opc : Nat) (p : Cmd → Bool) : Bool :=
  (abortTarget? (abortDev 30 (runA opc { issued := 1 })) (abortA 30)).any (fun t => isStarted t && p t)

theorem witness_FlushDiscardAbort_started : abortsRun opFLUSH (fun t => cOpc t == opFLUSH) = true ∧ abortsRun opWRITE isWriteKind = true ∧
    abortsRun opREAD isReadKind = true ∧ abortsRun opCLOSE (fun t => !isWriteKind t && !isReadKind t) = true := by decide +kernel

theorem witness_StreamCommands : let c := cmdA 2 opOPEN [0, 0, 0, 0, 0, 0, 0, 0, 0, 0x10001, 0xFFFFFF, 0]
    ready c = true ∧ admitTest (cmdDev c) c.seat 1 1 0xFFFFFF (cTmin c) ≠ 0 ∧ admitTest (roomDev c) c.seat 1 1 0 (cTmin c) = 0 ∧ ready (cmdA 2 opCLOSE [0xBF00]) = true ∧
    ready (cmdA 2 opQUERY [0x8000]) = true ∧ ownStream (cmdDev (cmdA 2 opQUERY [0x8000])) (cmdA 2 opQUERY [0x8000]) = false ∧
    (let d := wrs (cmdDev (cmdA 2 opQUERY [0xBF00])) [(F.STRM_STAT_OPEN 63, 1), (F.STRM_STAT_SEAT 63, 2)]
     ownStream d (cmdA 2 opQUERY [0xBF00]) = true ∧ fnReachable (wr d (F.PRT_LSTAT_UP 0 0) 1) 5 = true ∧ openStreams d = [63] ∧
     serving d = true) := by decide +kernel

/-- A KEY_LOAD into slot 63, of 48 bytes of the MEK role. -/
def loadA : Cmd := cmdA 0 opKEYLOAD [0, 0, 0, 0, 0, 0, 0, 0, 0, 63, 48]
def matA : List Nat := 2 :: List.replicate 47 0

theorem witness_KeyCommands : matA.length = cOp loadA 1 ∧ loadA.aux = 0 ∧
    (let v := voteAll (cmdDev loadA)
     readyCmd? v 0 31 opKEYLOAD = some loadA ∧ pullTurn v loadA = true ∧
     (match keyOpen (pullServed v loadA) loadA matA with | .error _ => true | .ok _ => false) = true ∧ foldEnded (pullServed v loadA) = true) ∧
    (let v := voteAll (wr (cmdDev loadA) F.TRNG_STAT_SEEDED 1)
     readyCmd? v 0 31 opKEYLOAD = some loadA ∧ pullTurn v loadA = true ∧
     (match keyOpen (pullServed v loadA) loadA matA with
      | .error _ => false
      | .ok l => l.role == 2 && !(l.role == roleREST) && l.slot < 64 && l.role < 4) = true) := by decide +kernel

/-- A REST key of volume 0 in the clear, its bytes pulled, before FOLD has ended (R332). -/
def restMat : List Nat := [roleREST, 0, 1] ++ List.replicate 45 0

theorem witness_KeyCommands_waits : let c := { loadA with aux := 1 }
    let d := { recDev 5 with seats := seats2, cmds := { accDev.cmds with list := [c], nextSeq := 8 },
                             pci := { accDev.pci with bme := [0, 5, 512], mse := [0, 5, 512] } }
    let v := voteAll (wrs d [(F.TRNG_STAT_SEEDED, 1), (F.VOL_ID_EN 63, 1), (F.VOL_ID_VOL 63, 0)])
    readyCmd? v 0 31 opKEYLOAD = some c ∧ c.aux = 1 ∧ restMat.length = cOp c 1 ∧ foldEnded v = false ∧
    (match keyOpen v c restMat with | .error _ => false | .ok l => l.role == roleREST) = true := by decide +kernel

/-- A KEY_RETIRE or VOLUME_SET of slot 0. -/
def retA : Cmd := cmdA 0 opKEYRET []
def setA : Cmd := cmdA 0 opVOLSET []

theorem witness_KeyCommands_retire : ready retA = true ∧ slotLoaded (cmdDev retA) (retSlot retA) = false ∧
    slotLoaded (restDev retA) (retSlot retA) = true ∧ readyCmd? (restDev retA) 0 31 opKEYRET = some retA ∧
    (let v := voteAll (restDev { retA with stage := .wait })
     running v = true ∧ v.cmds.list.filter (fun c => cOpc c == opKEYRET && c.stage == .wait && retSlot c == 0) ≠ [] ∧
     slotLoaded v 0 = true ∧ slotInUse v 0 = false) := by decide +kernel

theorem witness_KeyCommands_volume : ready setA = true ∧ slotIs (cmdDev setA) 0 roleREST = false ∧ slotIs (restDev setA) 0 roleREST = true ∧
    rd (restDev setA) (F.KEY_STAT_VOL 0) = cVol setA ∧ bitOf (cOp setA 0) 8 = false ∧
    rd (restDev setA) (F.KEY_STAT_KGEN 0) = curGen (restDev setA) (cVol setA) := by decide +kernel

theorem witness_KeyCommands_reserve : (let v := voteAll (wr64 (restDev setA) (F.KEY_CNT 0) (2 ^ 19))
     running v = true ∧ sealsMore v 0 = true ∧ (keySlot v 0).extending = false ∧ (keySlot v 0).mark ≤ rd64 v (F.KEY_CNT 0) + 2 ^ 19) ∧
    (let d := voteAll (modNand (setKeySlot (restDev setA) 0 { mat := 5, mark := 2 ^ 20, extending := true }) (fun n => { n with vols := [(0, {})] }))
     running d = true ∧ (keySlot d 0).extending = true ∧ slotLoaded d 0 = true ∧ (volRec? d (rd d (F.KEY_STAT_VOL 0))).isSome = true) := by decide +kernel

/-! ### Administration and firmware -/

def sanA : Cmd := cmdA 0 opSANITISE [0, 0, 0, 0, 0, 0, 0, 0, 0, 2]
def fmtA : Cmd := cmdA 0 opFORMAT []
def logA : Cmd := cmdA 0 opLOG [0, 0, 0, 1]

/-- MAINTAIN, with the first FORMAT of new media still to come. -/
def newDev (c : Cmd) : Dev := wrs (cmdDev c) [(F.GLB_STAT_MODE, 4), (F.CFG_CTRL_NEWMEDIA, 1)]

theorem witness_AdministrativeOperations : ready sanA = true ∧ ready fmtA = true ∧ ready logA = true ∧
    modeRefuses (wr (cmdDev sanA) F.GLB_STAT_MODE 1) sanA = true ∧
    (let d := wr (cmdDev sanA) F.GLB_STAT_MODE 4
     adminRefuses d sanA = false ∧ modeRefuses d sanA = false ∧ adminRefuses d fmtA = false ∧ modeRefuses d fmtA = false ∧ newMedia d = false) ∧
    newMedia (newDev fmtA) = true ∧ adminRefuses (newDev fmtA) fmtA = false ∧ modeRefuses (newDev fmtA) fmtA = false ∧
    seatOf? (cmdDev logA) 0 = some { fn := 0 } ∧ fnReachable (cmdDev logA) 0 = true := by decide +kernel

/-- A SANITISE at a step. -/
def sanDev (op step permille : Nat) : Dev :=
  wrs { cmdDev sanA with cmds := {} } [(F.ADMIN_PROG_BUSY, 1), (F.ADMIN_PROG_OP, op), (F.ADMIN_PROG_STEP, step), (F.ADMIN_PROG_PERMILLE, permille)]

theorem witness_AdministrativeOperations_steps : sanitising (sanDev 1 1 0) = true ∧ sanitising (sanDev 2 1 0) = true ∧
    adminAlone (sanDev 2 1 0) = true ∧ rd (sanDev 2 5 1000) F.ADMIN_PROG_STEP = 5 ∧ rd (sanDev 2 4 989) F.ADMIN_PROG_PERMILLE < 990 ∧
    rd (sanDev 2 4 990) F.ADMIN_PROG_PERMILLE ≥ 990 ∧ rd (sanDev 2 4 990) F.ADMIN_PROG_STEP = 4 ∧ cpuRuns (sanDev 2 4 990) = true ∧
    adminBusy (sanDev 4 1 0) = true ∧ adminOp (sanDev 4 1 0) = 4 := by decide +kernel

def fwLoadA (lba : Nat) : Cmd := cmdA 0 opFWLOAD [0, BitVec.ofNat 32 lba, 0, 0]
def commitA : Cmd := cmdA 0 opFWCOMMIT []
def actA : Cmd := cmdA 0 opFWACT []

/-- The inactive bank holds a sound image, in a state of the update. -/
def imgDev (state : Nat) (c : Cmd) : Dev :=
  withImg (wr (cmdDev c) F.FWU_STATE_STATE state)

/-- Blocks of a FW_LOAD whose first pull fails. -/
theorem witness_FirmwareUpdateRuns_blocks : pullFits (cmdA 0 opFWLOAD [0, 16, 0, 16]) (List.replicate 16 0) (some (0, 6)) = true ∧
    (some (0, 6) : Option (Nat × Nat)).any (fun e => e.1 == 0) = true ∧ 16 ≤ rd (wr (cmdDev (fwLoadA 16)) F.FWU_NEXT_LBA 16) F.FWU_NEXT_LBA := by
  decide +kernel

theorem witness_FirmwareUpdateRuns : readyCmd? (voteAll (cmdDev (fwLoadA 16))) 0 31 opFWLOAD = some (fwLoadA 16) ∧
    pullTurn (voteAll (cmdDev (fwLoadA 16))) (fwLoadA 16) = true ∧ pullFits (fwLoadA 16) [] none = true ∧
    (cmdDev (fwLoadA 16)).array.ops = [] ∧ cLba (fwLoadA 16) ≠ 0 ∧
    fwuState (cmdDev (fwLoadA 16)) ≠ fuLOADING ∧ bankBad (imgDev fuLOADED commitA) (targetBank (imgDev fuLOADED commitA)) = false ∧
    (let d := imgDev fuLOADED commitA
     bankBad { d with array := { d.array with blocks := [(arrKey (targetBank d) 1023, { pages := [], failed := true })] } } (targetBank d) = true) := by
  decide +kernel

theorem witness_FirmwareUpdateRuns_commit : ready commitA = true ∧ commitCause (voteAll (cmdDev commitA)) ⟨some 3, true, true⟩ = some 4 ∧
    (recordPlace (imgDev fuLOADED commitA) (targetBank (imgDev fuLOADED commitA))).isSome = true := by decide +kernel

/-- The vote leaves the image as it is. -/
theorem vote_imgDev : voteAll (imgDev fuLOADED commitA) = imgDev fuLOADED commitA := by rfl

theorem witness_FirmwareUpdateRuns_commits (ok : Bool) : readyCmd? (voteAll (imgDev fuLOADED commitA)) 0 31 opFWCOMMIT = some commitA ∧
    commitCause (voteAll (imgDev fuLOADED commitA)) ⟨some 3, true, ok⟩ = none := by
  rw [vote_imgDev]
  refine ⟨by decide +kernel, ?_⟩
  have h : targetBank (imgDev fuLOADED commitA) ≤ 1 := by decide +kernel
  have h1 : fwuState (imgDev fuLOADED commitA) = fuLOADED ∧
      ¬ rd (imgDev fuLOADED commitA) F.FWU_FVER_FVER < rd (imgDev fuLOADED commitA) F.FWU_MFVER_FVER ∧
      ¬ rd (imgDev fuLOADED commitA) F.FWU_FVER_FVMIN > rd (imgDev fuLOADED commitA) F.FWU_MFVER_FVER ∧
      bankBad (imgDev fuLOADED commitA) (targetBank (imgDev fuLOADED commitA)) = false := by decide +kernel
  have h2 : imgVerifies (imgDev fuLOADED commitA) (targetBank (imgDev fuLOADED commitA)) ⟨some 3, true, ok⟩ = some 3 := imgVerifies_withImg _ _ h ok
  simp only [commitCause, h1.1, h1.2.1, h1.2.2.1, h1.2.2.2, h2]
  rfl

theorem witness_FirmwareUpdateRuns_activate : readyCmd? (voteAll (cmdDev actA)) 0 31 opFWACT = some actA ∧ fwuState (voteAll (cmdDev actA)) ≠ fuCOMMITTED ∧
    fwuState (imgDev fuCOMMITTED actA) = fuCOMMITTED ∧ sanitising (imgDev fuCOMMITTED actA) = false ∧
    hardRepairing (imgDev fuCOMMITTED actA) = false ∧
    modeRefuses (wr (imgDev fuCOMMITTED actA) F.GLB_STAT_MODE 4) actA = false ∧ modeRefuses (wr (imgDev fuCOMMITTED actA) F.GLB_STAT_MODE 1) actA = true ∧
    hardRepairing { imgDev fuCOMMITTED actA with mem := { repair := some (0, 1) } } = true ∧
    (let d := { imgDev fuACTIVATING actA with upd := { step := 1, cmd := 7 } }
     cpuRuns d = true ∧ drained d = true) ∧
    (let d := { imgDev fuACTIVATING actA with upd := { step := 2, cmd := 7 } }
     cpuRuns d = true ∧ targetBank d < 2) ∧ (cmdOf? (imgDev fuACTIVATING actA) 7).isSome = true ∧ cmdOf? (imgDev fuACTIVATING actA) 9 = none ∧
    drained { imgDev fuACTIVATING (runA opREAD {}) with upd := { step := 1, cmd := 6 } } = false := by decide +kernel

/-! ### The firmware array -/

theorem witness_FirmwareArrayOperations : Writes (st (on accDev [0xC])) 0 0xC058 0x80000000 ∧ Writes (st (on accDev [0xC])) 1 0xC058 0x80000001 ∧
    Writes (st (on accDev [0xC])) 1 0xC058 0x80000002 ∧ opOfBank? accDev 1 = none ∧ rawCause accDev = none ∧
    rawCause { accDev with sys := { accDev.sys with pfailLow := true } } = some 2 ∧
    arrRefuse accDev 1 1021 63 2 = none ∧ arrRefuse accDev 1 1022 0 2 = some faLOCKED ∧
    Writes (st (on accDev [0xC])) 0 0xC064 0xFFFFFFFF := by decide +kernel

/-- An operation of bank 1. -/
def opDev (o : ArrOp) : Dev := { accDev with array := { accDev.array with ops := [o] } }

theorem witness_FirmwareArrayOperations_end :
    let o : ArrOp := { bank := 1, block := 1023, page := 0, op := 2 }
    alive (opDev o) = true ∧ flushing (opDev o) = false ∧ o.susp = false ∧ o.reads = [] ∧ o.bank < 2 ∧ o.block < 1024 ∧ o.op ≠ 1 ∧
    (opDev { o with susp := true }).array.ops.any (fun o => o.bank == 1 && o.susp) = true ∧
    opOfBank? (opDev { o with minRun := true }) 1 = some { o with minRun := true } := by decide +kernel

theorem witness_FirmwareArrayOperations_owner : Writes (st (on accDev [0xC])) 0 0xC078 0x80000F41 ∧
    Writes (st (on accDev [0xC])) 0 0xC078 0x80000002 ∧ Writes (st (on accDev [0xC])) 0 0xC078 0x80000003 ∧
    Writes (st (on accDev [0xC])) 1 0xC078 0x80000F44 ∧ (0x80000F41 : Word).toNat % 8 = 1 ∧
    16 * bitsOf (0x80000F41 : Word).toNat 6 1 + bitsOf (0x80000F41 : Word).toNat 8 4 = 31 ∧ accDev.array.owner = none ∧
    regOf accDev 31 = {} ∧ regBlocked { pwd := some 0, wrong := 3 } = true ∧ regBlocked { pwd := some 0, wrong := 2 } = false := by
  decide +kernel

/-! ### Flash, journal, channels -/

/-- Channel 63 serves; LUN 4032 is its first. -/
def servDev : Dev := wr accDev (F.CHN_STAT_STATE 63) chSERVE

/-- That LUN executes an operation. -/
def lunDev (v : LunSt) : Dev := { servDev with cox := { servDev.cox with luns := [(4032, v)] } }
def opA (k : OpKind) : FOp := { kind := k, cls := 3, batten := 0, stripe := 0, pos := 0 }

theorem witness_FlashOperationsEnd : execOp? (lunDev { exec := some (opA .prog) }) 4032 .prog = some (opA .prog) ∧
    execOp? (lunDev { exec := some (opA .read) }) 4032 .read = some (opA .read) ∧
    execOp? (lunDev { exec := some (opA .erase) }) 4032 .erase = some (opA .erase) ∧
    (lunOf (lunDev { exec := some (opA .prog), asking := true }) 4032).asking = true ∧
    (lunOf (lunDev { exec := some (opA .prog), asking := true }) 4032).asleep = none ∧
    execOp? (lunDev { exec := some (opA .prog), asking := true, asleep := some (opA .erase) }) 4032 .prog = some (opA .prog) ∧
    mediaOn readyDev = false ∧ running accDev = true ∧ accepted accDev = true ∧
    (let d := wrs accDev [(F.ADMIN_PROG_BUSY, 1), (F.ADMIN_PROG_OP, 2), (F.ADMIN_PROG_STEP, 3)]
     mediaOn d = false ∧ domOn d 29 = true ∧ running d = true ∧ accepted d = true) ∧
    (let d := add64 readyDev F.COX_SLOT 1
     mediaOn d = false ∧ domOn d 29 = true ∧ running d = true ∧ 0 < rd64 d F.COX_SLOT) ∧
    (opA .prog).cls = 3 ∧ (opA .prog).susp = 0 ∧
    readUnit? (lunDev { exec := some (opA .read) }) (opA .read) = none ∧ mediaOn servDev = true ∧ domOn servDev 29 = true ∧ chnState servDev (lunChn 4032) = chSERVE ∧
    execOp? (lunDev { exec := some (opA .erase), asking := true }) 4032 .erase = some (opA .erase) ∧
    (let d := wr (lunDev { exec := some { opA .erase with susp := 7 }, asking := true }) F.MEDIA_TESUS_ESMAX 8
     execOp? d 4032 .erase = some { opA .erase with susp := 7 } ∧ 7 + 1 = rd d F.MEDIA_TESUS_ESMAX ∧ 0 + 1 ≠ rd d F.MEDIA_TESUS_ESMAX) ∧
    (let d := wr (lunDev { exec := some (opA .prog) }) F.PFL_STAT_STATE 3
     execOp? d 4032 .prog = none ∧ flushProg? d 4032 = some (opA .prog)) := by decide +kernel

/-- A read job with one unit of one codeword, on a batten whose member at position 0 is LUN 4032. -/
def readDev (s : RuSt) (soft : List (Nat × Nat)) (rid : List Nat) : Dev :=
  let d := lunDev { exec := some (opA .read) }
  { d with med := { d.med with
              nand := { d.med.nand with w := 1, luns := [4032], grp := [4032] },
              soft := [{ job := 0, batten := 0, stripe := 0, pos := 0, cw := 0, cls := 6, dom := 0, dec := some 0 }],
              jobs := [{ id := 0, why := .patrol 0, cls := 6, units := [{ batten := 0, stripe := 0, pos := 0, off := 0, bytes := 4096, st := s,
                                                                          cws := [0], soft := soft, rid := rid }] }] } }

theorem witness_FlashOperationsEnd_read : (readUnit? (readDev .placed [] []) (opA .read)).any (fun u => u.cws.length == 1 &&
      resultOk (readDev .placed [] []) u.cfg u.batten u.stripe u.pos ⟨1, 0, 0, 0, 0⟩) = true ∧ (opA .read).soft = false ∧
    (readUnit? (readDev .placed [(0, 0)] []) { opA .read with soft := true }).isSome = true ∧
    (softAt? (readDev .soft [(0, 0)] []) 4032).any (fun x => x.2.2.cw == 0) = true ∧ clockHeld (readDev .soft [(0, 0)] []) 3 = false ∧
    (waitUnit? (readDev .ridge [] [0]) 4032 .ridge).any (fun x => (unitGroups (readDev .ridge [] [0]) x.2).all (domOn (readDev .ridge [] [0])) &&
      reconOk (readDev .ridge [] [0]) x.2 [] [true]) = true := by
  decide +kernel

/-- Batten 0 in a state, in a group of four LUNs. -/
def batDev (v : Batten) : Dev := setBat (roomDev sanA) 0 v

theorem witness_FlashOperationsEnd_batten : mediaOn (batDev { st := .opened }) = true ∧ (batOf (batDev { st := .opened }) 0).st = .opened ∧
    (batOf (batDev { st := .opened }) 0).role ≠ .system ∧ writerDue (batDev { st := .opened }) (batOf (batDev { st := .opened }) 0).role = false ∧
    (let d := batDev { st := .opened, role := .gc }
     let d1 := { d with med := { d.med with waitReloc := [0] } }
     (batOf d1 0).role ≠ .system ∧ writerDue d1 (batOf d1 0).role = true) ∧ (batOf (batDev { st := .opened, role := .system }) 0).role = .system ∧
    (batOf (batDev { st := .erasing }) 0).toErase = [] ∧
    (batOf (batDev { st := .erasing }) (batDev { st := .erasing }).med.nand.sysPair.1).wptr + 16 ≤ sysCw (batDev { st := .erasing }) ∧ (batOf (batDev { st := .erasing }) 0).st = .erasing ∧
    0 < stripeCw (batDev { st := .opened, wptr := 1 }) ∧ (batOf (batDev { st := .opened, wptr := 1 }) 0).wptr % stripeCw (batDev { st := .opened, wptr := 1 }) ≠ 0 ∧
    (SMap.set [] 3 { ext := {}, cmd := 7, portion := 0 } : SMap RingSlot).get? 3 = some { ext := {}, cmd := 7, portion := 0 } := by
  decide +kernel

/-- A chunk of one page in batten 0, with the members that have passed. -/
def chunkDev (done : List Nat) : Dev :=
  let d := batDev { st := .opened, wptr := 4, passed := done }
  { d with med := { d.med with chunkNow := some { parts := [(0, 0, 4)] } } }

theorem witness_JournalAndUpkeep_durable : mediaOn (chunkDev []) = true ∧ (chunkDev []).med.chunkNow = some { parts := [(0, 0, 4)] } ∧
    chunkPassed (chunkDev []) { parts := [(0, 0, 4)] } = false ∧ chunkPassed (chunkDev [0, 1, 2, 3]) { parts := [(0, 0, 4)] } = true := by
  decide +kernel

theorem witness_JournalAndUpkeep : canChunk (roomDev sanA) = true ∧ (roomDev sanA).mem.recopy ≤ 1 ∧ earlyDue (roomDev sanA) = true ∧
    (inRecover (roomDev sanA) = false ∧ 6 ≤ rd (wrs (roomDev sanA) [(F.GLB_STAT_MODE, 0), (F.GLB_STAT_RSTAGE, 6)]) F.GLB_STAT_RSTAGE) ∧ rdB (wr (roomDev sanA) F.GC_STAT_WALK 1) F.GC_STAT_WALK = true ∧
    recovering (roomDev sanA) = false ∧
    (let d := wr (roomDev sanA) F.PTL_PERIOD_DAYS 1
     rd d F.PTL_PERIOD_DAYS * 86400 - (d.sys.time - d.med.ptlStart) / 1000000000 ≠ 0) ∧
    rd (wr (roomDev sanA) F.PTL_PERIOD_DAYS 0) F.PTL_PERIOD_DAYS * 86400 - 0 = 0 ∧
    (let d := wr (batDev { st := .closed, reads := [(2, 5001)] }) F.WEAR_RDTH_KREADS 5
     mediaOn d = true ∧ (batOf d 0).st = .closed ∧ (batOf d 0).reads.any (fun e => e.2 > rd d F.WEAR_RDTH_KREADS * 1000) = true) := by
  decide +kernel

/-- Channel 3 of roomDev serves; a stream with a rate is open; batten 0 has its member at another channel out of service. -/
def isoDev (rate : Nat) (out : Bool) : Dev :=
  let d0 := wrs (batDev { st := .closed }) [(F.STRM_STAT_OPEN 63, 1), (F.STRM_CONTRACT_RATE 63, rate)]
  let d := { d0 with med := { d0.med with m := { map := [(0, .course 0 0 0 false false)] },
                                          nand := { d0.med.nand with flash := [(0, { tag := { n := 256 } })] } } }
  if out then setLunRec d 64 { failedB := true } else d

/-- What ISO of channel 3 finds against it (R306). -/
def isoWhy (d : Dev) : Bool × Bool × Bool :=
  let left := ((healthyLuns d).filter (fun l => !lunLeaving d l && !onChn 3 l)).length
  (chnState d 3 == chSERVE, decide (rMediaOf left (rd d F.MEDIA_RPROG_MBS) (batW d) - d.med.rung1Cut < judgedRates d), exposes d 3)

theorem witness_ChannelCommands_why : isoWhy accDev = (false, false, false) ∧ isoWhy (isoDev 65535 false) = (true, true, false) ∧
    isoWhy (isoDev 0 true) = (true, false, true) ∧ isoWhy (isoDev 0 false) = (true, false, false) := by decide +kernel

theorem witness_ChannelCommands : Writes (st (on servDev [0x6F])) 1 (0x30058 + 0x1000 * 63) 5 ∧ chnState servDev 63 = chSERVE ∧
    bitOf (5 : Word).toNat 0 = true ∧ bitOf (5 : Word).toNat 1 = false ∧ Writes (st (on accDev [0x30])) 0 0x30058 1 ∧ chnState accDev 0 ≠ chSERVE ∧
    (let d := { servDev with chn := [(63, { isolating := true })] }
     (chOf d 63).isolating = true ∧ chnQuiet d 63 = true ∧ running d = true ∧ accepted d = true ∧ eaveReady d = true) ∧
    Writes (st (on (wr accDev (F.CHN_STAT_STATE 63) chISO) [0x6F])) 0 (0x30058 + 0x1000 * 63) 2 ∧ groupPll accDev 63 = true ∧
    chnState (wr accDev (F.CHN_STAT_STATE 63) chISO) 63 = chISO := by decide +kernel

theorem witness_ChannelCommands_ends :
    let r : TrainRes := { chn := 63, fail := 3, tgtOk := 0, dsk0 := 0, dsk1 := 0, dsk2 := 0, dsk3 := 0, rvref := 0, post := 0, weye := 0, reye := 0, us := 0 }
    let d := wrs accDev [(F.CHN_STAT_STATE 63, chTRAIN), (F.GLB_STAT_MODE, 1)]
    running d = true ∧ clockHeld d 20 = false ∧ accepted d = true ∧ inRecover d = false ∧
    r.chn < 64 ∧ chnState d r.chn = chTRAIN ∧ 1 ≤ r.fail ∧ r.fail ≤ 3 ∧ trainFail d r ≠ 0 ∧
    (let w := wrs d [(F.CHN_MAP_TGT 63, 3), (F.CHN_DRV_DQSLEW 63, 0)]
     trainFail w { r with fail := 0, tgtOk := 3, weye := 255, reye := 255 } = 0 ∧ chnState (trainEnd w { r with fail := 0, tgtOk := 3, weye := 255, reye := 255 }) 63 = chSERVE) ∧
    chnState (pllPass (trainEnd d r) r.chn (trainFail d r)) r.chn = chISO ∧ running servDev = true ∧ chnState servDev 63 = chSERVE ∧
    (let s := { wr servDev (F.CHN_STAT_RATE 63) 11 with chn := [(63, { low := 2 })] }
     chnState s 63 = chSERVE ∧ 2 * min 0 255 < rxWindow (rd s (F.CHN_STAT_RATE 63)) ∧ 3 ≤ (chOf s 63).low + 1 ∧
     ¬ 2 * min 255 255 < rxWindow (rd s (F.CHN_STAT_RATE 63))) := by decide +kernel

/-! ### Stroke, traces, memory, data mover, side buses -/

theorem witness_StrokeTraceAndMemory : running accDev = true ∧ domOn accDev 29 = true ∧
    Writes (st (on accDev [0x1E])) 1 0x1E060 0x80000000 ∧ Writes (st (on accDev [0x1E])) 1 0x1E060 0x40000000 ∧
    Writes (st (on accDev [0x1E])) 0 0x1E060 0x20000000 ∧ rd (wr accDev F.STKT_STAT_STATE 1) F.STKT_STAT_STATE = 1 ∧
    rd accDev F.STKT_STAT_STATE ≠ 1 ∧ rd accDev F.STKT_STAT_STATE ≠ 2 ∧ rd accDev F.STKT_STAT_STATE ≠ 3 ∧
    HostAt (st (on accDev [0x1E])) 1 ∧ answers (on accDev [0x1E]) 0x1E = true := by decide +kernel

theorem witness_StrokeTraceAndMemory_mem : alive accDev = true ∧ memOn accDev 110 = true ∧ memOn accDev 0 = true ∧ stage accDev ≠ 0xF ∧
    Writes (st (on accDev [0x7])) 1 0x7048 0x8000006E ∧ bitsOf (0x8000006E : Word).toNat 0 7 ≤ 110 ∧ bitsOf (0x8000006E : Word).toNat 8 3 ≠ 6 ∧
    Writes (st (on accDev [0x7])) 1 0x7048 0x8000006F ∧ bitsOf (0x8000006F : Word).toNat 0 7 > 110 ∧
    stageReady accDev = true ∧ Writes (st (on accDev [0x7])) 0 0x7068 0x80000000 ∧ Writes (st (on accDev [0x7])) 0 0x7068 0x80000001 ∧
    repairRefused accDev false (actW accDev 0x7064).toNat = 0 ∧ repairRefused accDev true (actW accDev 0x7064).toNat ≠ 0 ∧
    alive { accDev with mem := { accDev.mem with repair := some (5, 0) } } = true ∧
    (let d := { wrs accDev [(F.GLB_STAT_MODE, 4), (F.MEM_HRLEFT 0, 1)] with mem := { soft := [(actW accDev 0x7064).toNat] } }
     repairRefused d true (actW d 0x7064).toNat = 0) := by
  decide +kernel

theorem witness_DataMoverCommands : Writes (st (on accDev [0x7C])) 1 (dmcOff 31 0x14) 16 ∧ ringLen accDev 31 ≤ (16 : Word).toNat % 4096 ∧
    Writes (st (on accDev [0x7C])) 1 (dmcOff 31 0x14) 15 ∧ (15 : Word).toNat % 4096 < ringLen accDev 31 ∧
    rdB accDev (F.DMC_CTL_EN 31) = false ∧ Writes (st (on accDev [0x79])) 0 (dmcOff 0 0) 1 ∧ Writes (st (on accDev [0x79])) 0 (dmcOff 0 0) 2 ∧
    Writes (st (on accDev [0x79])) 0 (dmcOff 0 0) 4 ∧ fnEnabled accDev (rd (wr accDev (F.DMC_FN_FNA 0) 1) (F.DMC_FN_FNA 0)) = false ∧
    mvState accDev 31 ∈ [mvOFF, mvSTOPPED, mvDETACHED] ∧ mvState (setMvState accDev 31 mvIDLE) 31 = mvIDLE ∧
    (movOf accDev 31).cap = [] ∧ mvState (setMvState accDev 31 mvRUN) 31 ∉ [mvOFF, mvSTOPPED, mvDETACHED] := by decide +kernel

theorem witness_DataMoverCommands_run :
    let d := voteAll (wrs (setMvState accDev 31 mvWAIT) [(F.DMC_STAT_HEAD 31, 15), (F.DMC_TAIL_TAIL 31, 0)])
    let c : DescCap := { clear := false }
    running d = true ∧ mvState d 31 = mvWAIT ∧ (movOf d 31).stopping = none ∧ (movOf d 31).cap.length ≤ 8 ∧
    rd d (F.DMC_STAT_HEAD 31) ≠ rd d (F.DMC_TAIL_TAIL 31) ∧ (movOf { d with mover := [(31, { cap := [c] })] } 31).cap = c :: [] ∧
    c.clear = false ∧ ({} : DescCap).clear = true := by decide +kernel

/-- Channel 31 runs at a captured descriptor with these words. -/
def descDev (c : DescCap) : Dev := { setMvState accDev 31 mvRUN with mover := [(31, { cap := [c] })] }

/-- The COPY deciphers in mode 2 under slot 0, a SERVICE key. -/
theorem witness_DataMoverCommands_ciphers :
    let c : DescCap := { words := [0x80000001, 1, 0, 0, 0, 0, 0, 0, 0, 0, 2688] }
    let d := voteAll (setKeySlot (wrs (descDev c) [(F.KEY_STAT_STATE 0, ksLOADED), (F.KEY_STAT_ROLE 0, roleSERVICE), (F.CRS_CTL_GEN, 1)]) 0 { mat := 5 })
    running d = true ∧ (movOf d 31).cap = [c] ∧ c.clear = true ∧ channelTurn d 31 c = true ∧ descCiphers d 31 c = true ∧ serviceOpen d = true ∧
    coreTurn d 3 1 = true ∧
    dataFits c.words (descEnd d 31 (movOf d 31) c ⟨0, 0, 0, 0, none, [7], true⟩) ⟨0, 0, 0, 0, none, [7], true⟩ = true := by decide +kernel

/-- A COPY of one byte from function 0, and a NOP. -/
theorem witness_DataMoverCommands_complete :
    let copy : DescCap := { words := [0x80000001, 1], bad := 0 }
    let nop : DescCap := { words := [0x80000000, 0], bad := 0 }
    running (voteAll (descDev copy)) = true ∧ descReads copy = true ∧ channelTurn (descDev copy) 31 copy = true ∧ descCiphers (descDev copy) 31 copy = false ∧
    dataFits copy.words (descEnd (descDev copy) 31 (movOf (descDev copy) 31) copy ⟨0, 0, 0, 0, none, [7], true⟩) ⟨0, 0, 0, 0, none, [7], true⟩ = true ∧
    descReads nop = false ∧ channelTurn (descDev nop) 31 nop = true := by decide +kernel

theorem witness_LookupsAndSideBuses : rowIs 0x5040 (fun _ => true) = true ∧ Writes (st (on accDev [0x20])) 0 0x20064 0x3FFFFF ∧ Writes (st (on accDev [0x28])) 1 0x2804C 0x100 ∧
    Writes (st readyDev) 0 0x5040 0xFFFFF ∧ accepted readyDev = false ∧ hostDev.sys.aon = true ∧ hostDev.sys.pwrgd = true ∧
    hostDev.hub.stalled = [] ∧ hostDev.sys.testEn = false ∧ tapEffect hostDev .idcode = .idcode ∧ tapEffect hostDev .highz = .bypass ∧
    ({ hostDev.sys with alertLow := true } : Sys).alertLow = true := by decide +kernel

/-! ### Worked examples of the manual -/

/-- Register Model, the bit alias: alias address 0x022A_02A0 is bit 8 of EVT_EN of page 0x15, and writing 1 there sets that bit alone. -/
theorem test_alias_address : aliasOff 0x022A02A0 = 0x15014 ∧ aliasBit 0x022A02A0 = 8 ∧
    after (.aliasAccess 0 0x022A02A0 (some 1)) (on hostDev [0x15]) (fun d => (hdrOf d 0x15).evtEn) = some 0x100 := by decide +kernel

/-- Host Links, R118: a ×8 link at 32 GT/s without flit mode, MPS 128 B, has RATE 2,493. -/
theorem test_link_rate : linkRate { width := 8, speed := 5, flit := false, l0p := false, mps := 0, vfs := 0, aspmL1 := false, bme := [], mse := [] } = 2493 := by
  decide +kernel

/-- Seats 0 to 40 but 37 are attached; the PF of link 1 on port B has written its ring bases. -/
def attachDev : Dev :=
  let d := wr { accDev with seats := ((List.range 41).filter (fun n => n ≠ 37)).map (fun n => (n, { fn := 5, win := n % 32 })),
                            pci := { accDev.pci with bme := [640], mse := [640] } } (F.PRT_LSTAT_UP 1 1) 1
  setCtl d 640 { sqb := 0x4012340800, cqb := 0x4012350200 }

/-- Host Links, R124: SEAT_REQ 0x8003_0011 attaches seat 37 in window 0, and SEAT_RSP reads 0x8000_0025. -/
theorem test_seat_attach : after (.seatReq 640 0x80030011) attachDev (fun d => (bar2Word d 640 0x24, (seatOf? d 37).map Seat.vec)) =
    some (0x80000025, some 17) := by decide +kernel

/-- Commands, ABORT: the write of 1,536 blocks from block 1,152 has 7 course portions. -/
theorem test_course_portions : cPortions { cmdA 2 opWRITE [0, 0x480, 0, 0x600] with entry := [0x80030901, 0, 0x480, 0, 0x600] } = 7 ∧
    cVol { cmdA 2 opWRITE [] with entry := [0x80030901] } = 3 ∧ cTag [0x80030901] = 9 ∧
    portLen 0x480 0x600 0 = 128 ∧ portLen 0x480 0x600 1 = 256 ∧ portLen 0x480 0x600 6 = 128 := by decide +kernel

/-- Commands, ABORT: the completion of tag 9 reads 0x8169_0005, 0x0000_0408; that of tag 10 reads 0x816A_0000. -/
theorem test_completion_words : (cqeWords { sqh := 11 } ⟨0, 9, stABORTED, 4, 4, 0, 0⟩).1 = 0x81690005 ∧
    (cqeWords { sqh := 11 } ⟨0, 9, stABORTED, 8, 4, 0, 0⟩).2.1 = 0x408 ∧ (cqeWords { sqh := 11 } ⟨0, 10, stSUCCESS, 0, 0, 0, 0⟩).1 = 0x816A0000 := by
  decide +kernel

/-- HBM Regions, R223 to R227: the ceiling of 2,500 mJ with 2,048 LUNs is 3,429,090,909 B, R_flush 200 GB/s, PFL_EC 300, PFL_EMIN 155. -/
theorem test_energy_term : energyTerm ⟨2500, 2048, 400, 250, 1800⟩ = 3429090909 ∧ rFlush ⟨2500, 2048, 400, 250, 1800⟩ = 200000000000 ∧
    ecPj ⟨2500, 2048, 400, 250, 1800⟩ = 300 ∧ eMin ⟨2500, 2048, 400, 250, 1800⟩ = 155 ∧ energyTerm ⟨4000, 2048, 400, 200, 1800⟩ = 6172000000 := by
  decide +kernel

/-- Media, R265: with W 16, Q 4, L 3 and N_U 48, offset 20,000 lies in stripe 27, position 12, plane 0, page 83, codeword 0. -/
theorem test_batten_offset :
    let d := wrs accDev [(F.MEDIA_GEOM0_Q, 4), (F.MEDIA_GEOM0_L, 3), (F.MEDIA_GEOM0_NU, 48), (F.MEDIA_BATW_W, 16)]
    offStripe d 20000 = 27 ∧ offPos d 20000 = 12 ∧ offPlace d 20000 = (0, 83, 0) ∧ batCw d * 4 = 138240 := by decide +kernel

/-- Streams, R173 to R178: the single stream in CAPTURE, and channel 17 leaving the reference magazine (Live Service). -/
theorem test_admission_terms : rMediaOf 2048 128 16 = 22118 ∧ rCryptoOf 4 1 = 30000 ∧ rCapWith (modeCeiling 1) 22118 30000 0xFFFFFF = 20000 ∧
    bufTerm 3850 5000 16 48 = 253525 ∧ tSumMiB (5000 * 600) = 28610230 ∧ rMediaOf 2016 128 16 = 21772 := by decide +kernel

/-- Register index: an ISO write of channel 25 behind a gated island leaves GLB_OFFACC at 0xA004_9058. -/
theorem test_gated_access : after (.regWrite (.bar0 0 0x49058) 1) hostDev (fun d => actW d 0x108) = some 0xA0049058 := by decide +kernel

/-- Memory Protection: MEMx_BKT of memory 5 is at 0x80E0; an error with INC 4 raises LEVEL by 4, and above THR 64 LEVEL returns to 0. -/
theorem test_leaky_bucket : (F.MEMx_BKT_INC 5).off = 0x80E0 ∧
    (let d := on (wrs accDev [(F.MEMx_BKT_INC 5, 4), (F.MEMx_BKT_THR 5, 64), (F.MEMx_LVL_LEVEL 5, 60)]) [8]
     after (.memScrubPass 5 (.corrected 0 0 7)) d (fun d => rd d (F.MEMx_LVL_LEVEL 5)) = some 64 ∧
     after (.memScrubPass 5 (.corrected 0 0 7)) (wr d (F.MEMx_LVL_LEVEL 5) 62) (fun d => (rd d (F.MEMx_LVL_LEVEL 5), evtSet d 8 8)) =
       some (0, true)) := by decide +kernel

/-- Control loops: the slots of loops 5, 37, 64 and 65. -/
theorem test_loop_slots : (F.STKL_CTL_ACTIVE 5).off = 0x1A2C0 ∧ (F.STKL_CTL_ACTIVE 37).off = 0x1C1C0 ∧ (F.STKL_CTL_ACTIVE 64).off = 0x1D6C0 ∧
    (F.STKL_CTL_ACTIVE 65).off = 0x1D740 := by decide +kernel

/-- Channel 30 of the data mover, at a descriptor that is fetched. -/
def moveDev (idx dw0 count : Nat) : Dev :=
  let d := wrs (setMvState accDev 30 mvRUN) [(F.DMC_RSIZE_LOG2 30, 6), (F.DMC_CTL_EN 30, 1), (F.DMC_STAT_HEAD 30, 4), (F.DMC_TAIL_TAIL 30, 4)]
  { d with mover := [(30, { cap := [{ idx := idx, words := [BitVec.ofNat 32 dw0, BitVec.ofNat 32 count] }] })] }

/-- Data Mover: entry 2 ends BAD with DW0 0x0120_0001 and DMV_LAST names channel 30, STATUS 1, CAUSE 2; entry 3 ends DONE with 0x0008_0001. -/
theorem test_descriptor_written :
    after (.descriptorComplete 30 ⟨2, 0, 0, 0, none, [], true⟩) (moveDev 2 0x80000001 4096) (fun d =>
      (d.out.any (fun o => match o with | .memWrite _ _ ws => ws.contains 0x01200001 | _ => false), rd d F.DMV_LAST_CH, rd d F.DMV_LAST_STATUS,
        rd d F.DMV_LAST_CAUSE)) = some (true, 30, 1, 2) ∧
    after (.descriptorComplete 30 ⟨0, 0, 0, 0, none, [], true⟩) (moveDev 3 0x80080001 0) (fun d =>
      (d.out.any (fun o => match o with | .memWrite _ _ ws => ws.contains 0x00080001 | _ => false), mvState d 30)) = some (true, mvIDLE) := by
  decide +kernel

/-! ### One step each: the order of a queue, the words of the table -/

/-- The command at the front runs, and the rest of the queue stays. -/
theorem test_queue_order : (match step { st hostDev with pending := [.refclkLoss 1, .refclkReturn 1] } with
    | .next t => decide (t.pending = [.refclkReturn 1]) && !t.dev.sys.refPresent.contains 1
    | _ => false) = true := by decide +kernel

/-- No row of the table has bits (log entry 5). -/
theorem test_no_words : decodeTableWord 32 0 = none ∧ (State.reset.withFetchWord 32 0xFFFFFFFF = State.reset) := by decide +kernel

/-- R70: a reserved bit is refused, and nothing else is. -/
theorem test_reserved_bit : after (.regWrite (.bar0 0 0x160) 2) hostDev (fun _ => ()) = none ∧
    after (.regWrite (.bar0 0 0x160) 1) hostDev (fun d => rd d F.GLB_UPDLOCK_LOCK) = some 1 := by decide +kernel

/-- R423: the hottest of the sensors that count, ties to the lower number. -/
theorem test_hottest : after (.thermalSample [400, 416, 416, 400, 400, 400, 400, 400, 400, 400] (List.replicate 10 true) 5) hostDev
    (fun d => (rd d F.THM_HOT_SRC, rd d F.THM_HOT_T)) = some (1, 416) := by decide +kernel

/-- R92, R93: domain 30 does not exist, and the refusal names it. -/
theorem test_domain_refused : after (.domainGate 0 30) hostDev (fun d => (rd d F.PWR_DOMERR_CAUSE, rd d F.PWR_DOMERR_DOMAIN)) = some (7, 30) := by
  decide +kernel

/-- R126: an entry with the wrong phase leaves the head. -/
theorem test_phase : after (.entryFetched 2 (List.replicate 16 0) .none) (seatDev { fn := 5, sqt := 1 })
    (fun d => (seatOf? d 2).map (fun v => (v.sqh, v.badPhase))) = some (some (0, 1)) := by decide +kernel

/-- R159: a FLUSH with nothing to cover completes with SUCCESS in the first slot of its ring. -/
theorem test_flush : after (.flush 2 31) (cmdDev (cmdA 2 opFLUSH [])) (fun d => d.out.any (fun o => match o with
    | .cqe 2 0 _ w _ _ _ => bitsOf w.toNat 0 16 == 0 && bitsOf w.toNat 16 5 == 31
    | _ => false)) = some true := by decide +kernel

/-- R31: a READ of an unmapped block pushes a block of zeros. -/
theorem test_read_unmapped : after (.read 2 31) (cmdDev (cmdA 2 opREAD [0, 0, 0, 1])) (fun d => d.out.any (fun o => match o with
    | .push 2 31 0 [b] => b == 0
    | _ => false)) = some true := by decide +kernel

/-- R22: idling advances the time base by 40 ns (log entry 3). -/
theorem test_idle : (match step (st hostDev) with | .next t => t.dev.sys.time | _ => 0) = 40 := by decide +kernel

/-- Package, R459 to R463: CB22 is NAND37_DQS_T, AU60 is PETn_B[9], AA30 is VDD_SRAM and AA31 VSS; 1,627 balls are VSS and 12 reserved. -/
theorem test_package : rowName 59 = "CB" ∧ ballAt 59 22 = .nand 37 .dqsT ∧ rowName 35 = "AU" ∧ ballAt 35 60 = .pet 1 9 true ∧
    ballAt 35 59 = .vss ∧ ballAt 35 62 = .vss ∧ rowName 20 = "AA" ∧ ballAt 20 30 = .supply 2 ∧ ballAt 20 31 = .vss ∧
    ((List.range 4096).filter (fun n => ballAt (n / 64 + 1) (n % 64 + 1) == .vss)).length = 1627 ∧
    ((List.range 4096).filter (fun n => ballAt (n / 64 + 1) (n % 64 + 1) == .reserved)).length = 12 := by decide +kernel
end Sys2Proof.Tests
end

section
/-!
PROOFS. Accesses that are not served (R40, R41, R67 to R69): what GLB_OFFACC and its counter record, how the hub drops such an access,
and the reserved pages (R454).
-/
namespace Sys2Proof.Machine

/-! ### Writes of several fields -/

/-- Two fields that share no bit. -/
abbrev FldApart (f g : Fld) : Prop := f.off ≠ g.off ∨ f.lo + f.wd ≤ g.lo ∨ g.lo + g.wd ≤ f.lo

theorem wrs_cons (d : Dev) (e : Fld × Nat) (l : List (Fld × Nat)) : wrs d (e :: l) = wrs (wr d e.1 e.2) l := rfl

theorem rd_wr_apart (d : Dev) {f g : Fld} (v : Nat) (hg : g.lo + g.wd ≤ 32) (h : FldApart g f) : rd (wr d f v) g = rd d g :=
  h.elim (rd_wr_off d f g v) (rd_wr_disj d f g v hg)

/-- Writes of fields leave a field that shares no bit with them alone. -/
theorem rd_wrs_apart (d : Dev) {f : Fld} (l : List (Fld × Nat)) (hf : f.lo + f.wd ≤ 32) (h : ∀ g ∈ l.map Prod.fst, FldApart f g) :
    rd (wrs d l) f = rd d f := by
  induction l generalizing d with
  | nil => rfl
  | cons e l ih =>
    simp only [List.map_cons, List.forall_mem_cons] at h
    rw [wrs_cons, ih _ h.2, rd_wr_apart d e.2 hf h.1]

/-- Of several fields that share no bit, each reads back the value written to it. -/
theorem rd_wrs_mem (d : Dev) {f : Fld} {v : Nat} {l : List (Fld × Nat)} (hl : (l.map Prod.fst).Pairwise FldApart) (hm : (f, v) ∈ l)
    (hf : f.lo + f.wd ≤ 32) : rd (wrs d l) f = v % 2 ^ f.wd := by
  induction l generalizing d with
  | nil => cases hm
  | cons e l ih =>
    simp only [List.map_cons, List.pairwise_cons] at hl
    rw [wrs_cons]
    rcases List.mem_cons.1 hm with rfl | hm
    · rw [rd_wrs_apart _ l hf hl.1, rd_wr_same d f v hf]
    · exact ih _ hl.2 hm

theorem ChangesOnly.wrs {ws : List Nat} (d : Dev) (l : List (Fld × Nat)) (h : ∀ g ∈ l.map Prod.fst, g.off ∈ ws) :
    ChangesOnly ws [] d (wrs d l) := by
  induction l generalizing d with
  | nil => exact .refl ..
  | cons e l ih =>
    simp only [List.map_cons, List.forall_mem_cons] at h
    exact ((ChangesOnly.wr d e.1 e.2).mono (by simpa using h.1) (by simp)).step (ih _ h.2)

/-- A saturating counter holds the sum, or its largest value. -/
theorem rd_satAdd_same (d : Dev) (f : Fld) (n : Nat) (hf : f.lo + f.wd ≤ 32) :
    rd (satAdd d f n) f = min (rd d f + n) (2 ^ f.wd - 1) := by
  have hp := Nat.two_pow_pos f.wd
  rw [satAdd, rd_wr_same d f _ hf, Nat.mod_eq_of_lt (by omega)]

/-! ### The record of dropped accesses (R69) -/

/-- Fields and values of the record of an access that is not served. -/
def offAccRecord (port : Nat) (write : Bool) (cause off : Nat) : List (Fld × Nat) :=
  [(F.GLB_OFFACC_VALID, 1), (F.GLB_OFFACC_PORT, port), (F.GLB_OFFACC_WRITE, b2n write), (F.GLB_OFFACC_CAUSE, cause),
    (F.GLB_OFFACC_OFFSET, off)]

theorem offAccRecord_pairwise (port : Nat) (w : Bool) (cause off : Nat) :
    ((offAccRecord port w cause off).map Prod.fst).Pairwise FldApart := by
  show [F.GLB_OFFACC_VALID, F.GLB_OFFACC_PORT, F.GLB_OFFACC_WRITE, F.GLB_OFFACC_CAUSE, F.GLB_OFFACC_OFFSET].Pairwise FldApart
  decide

theorem offAccRecord_off (port : Nat) (w : Bool) (cause off : Nat) :
    ∀ g ∈ (offAccRecord port w cause off).map Prod.fst, g.off = 0x108 := by
  show ∀ g ∈ [F.GLB_OFFACC_VALID, F.GLB_OFFACC_PORT, F.GLB_OFFACC_WRITE, F.GLB_OFFACC_CAUSE, F.GLB_OFFACC_OFFSET], g.off = 0x108
  decide

section
variable (d : Dev) (port : Nat) (w : Bool) (cause off : Nat)

/-- A record that stands stays: the access is counted alone. -/
theorem offAcc_of_valid (h : rdB d F.GLB_OFFACC_VALID = true) :
    offAcc d port w cause off = satAdd d F.GLB_OFFACC_CNT_COUNT 1 := by
  simp [offAcc, h]

/-- With no record standing the access is counted and recorded. -/
theorem offAcc_of_clear (h : rdB d F.GLB_OFFACC_VALID = false) :
    offAcc d port w cause off = wrs (satAdd d F.GLB_OFFACC_CNT_COUNT 1) (offAccRecord port w cause off) := by
  simp [offAcc, h, offAccRecord]

theorem actW_offAcc_of_valid (h : rdB d F.GLB_OFFACC_VALID = true) : actW (offAcc d port w cause off) 0x108 = actW d 0x108 := by
  rw [offAcc_of_valid d port w cause off h, satAdd, actW_wr_ne _ _ _ (by decide)]

/-- Each field of a fresh record reads back its value. -/
theorem rd_offAcc_of_clear {f : Fld} {v : Nat} (h : rdB d F.GLB_OFFACC_VALID = false) (hm : (f, v) ∈ offAccRecord port w cause off)
    (hf : f.lo + f.wd ≤ 32) (hv : v < 2 ^ f.wd) : rd (offAcc d port w cause off) f = v := by
  rw [offAcc_of_clear d port w cause off h, rd_wrs_mem _ (offAccRecord_pairwise ..) hm hf, Nat.mod_eq_of_lt hv]

/-- Every access that is not served counts, up to the largest value of the counter. -/
theorem rd_offAcc_count :
    rd (offAcc d port w cause off) F.GLB_OFFACC_CNT_COUNT = min (rd d F.GLB_OFFACC_CNT_COUNT + 1) (2 ^ 16 - 1) := by
  have hcnt := rd_satAdd_same d F.GLB_OFFACC_CNT_COUNT 1 (by decide)
  cases h : rdB d F.GLB_OFFACC_VALID with
  | true => rw [offAcc_of_valid d port w cause off h]; exact hcnt
  | false =>
    have hoff := offAccRecord_off port w cause off
    rw [offAcc_of_clear d port w cause off h, rd_wrs_apart _ _ (by decide) fun g hg => .inl (by rw [hoff g hg]; decide)]
    exact hcnt

theorem ChangesOnly.offAcc : ChangesOnly [0x108, 0x10C] [] d (offAcc d port w cause off) := by
  have hcnt : ChangesOnly [0x108, 0x10C] [] d (satAdd d F.GLB_OFFACC_CNT_COUNT 1) :=
    (ChangesOnly.wr d F.GLB_OFFACC_CNT_COUNT _).mono (by decide) (by simp)
  cases h : rdB d F.GLB_OFFACC_VALID with
  | true => rw [offAcc_of_valid d port w cause off h]; exact hcnt
  | false =>
    rw [offAcc_of_clear d port w cause off h]
    exact hcnt.step (ChangesOnly.wrs _ _ fun g hg => by simp [offAccRecord_off port w cause off g hg])

end

/-! ### Event bits, on any page -/

theorem evtSet_congr {d d' : Dev} {p : Nat} (b : Nat) (h : hdrOf d' p = hdrOf d p) : evtSet d' p b = evtSet d p b := by
  simp [evtSet, h]

/-- Setting event bits clears none. -/
theorem evtSet_setRaw_of_set {d : Dev} {p b : Nat} (q : Nat) (w : Word) (h : evtSet d p b = true) : evtSet (setRaw d q w) p b = true := by
  by_cases e : p = q
  · subst e
    have hraw : (hdrOf (setRaw d p w) p).evtRaw = (hdrOf d p).evtRaw ||| w := by simp [setRaw]
    rw [evtSet, bitOf_eq] at h ⊢
    rw [hraw, BitVec.toNat_or, Nat.testBit_or, h, Bool.true_or]
  · rw [evtSet_congr b ((ChangesOnly.setRaw d q w).heads p (by simpa using e)), h]

/-- A log entry clears no event bit, those of page LOG with them. -/
theorem evtSet_logPut_of_set {d : Dev} {p b : Nat} (code : Nat) (ps : List Word) (h : evtSet d p b = true) :
    evtSet (logPut d code ps) p b = true := by
  unfold logPut
  split
  · exact evtSet_setRaw_of_set _ _ h
  · dsimp only
    split
    · exact evtSet_setRaw_of_set _ _ h
    · exact h

/-- A raise sets its event bit, on page LOG as on any other. -/
theorem evtSet_raise_same (d : Dev) (p : Nat) {b : Nat} (hb : b < 32) : evtSet (raise d p b) p b = true :=
  evtSet_logPut_of_set _ _ (evtSet_setRaw d p b hb)

/-! ### The cause of an access that is not served -/

theorem hubCause_misfit (d : Dev) {r : HubReq} (hk : r.ok = false) : hubCause d r = some 3 := by simp [hubCause, hk]

theorem hubCause_unmapped (d : Dev) {r : HubReq} (hk : r.ok = true) (h : r.off ≥ 0x100000) : hubCause d r = some 4 := by
  simp only [hubCause, hk, h, Bool.not_true, Bool.false_eq_true, if_false, if_true]

theorem hubCause_reserved (d : Dev) {r : HubReq} (hk : r.ok = true) (h : r.off < 0x100000) (hi : implemented (pageOf r.off) = false) :
    hubCause d r = some 1 := by
  simp only [hubCause, hk, Nat.not_le.2 h, hi, ge_iff_le, Bool.not_true, Bool.not_false, Bool.false_eq_true, if_false, if_true]

theorem hubCause_gated {d : Dev} {r : HubReq} (hk : r.ok = true) (h : r.off < 0x100000) (hi : implemented (pageOf r.off) = true)
    (hb : inPage r.off ≥ 0x40) (ha : answers d (pageOf r.off) = false) : hubCause d r = some 0 := by
  simp only [hubCause, hk, Nat.not_le.2 h, hi, hb, ha, decide_true, Bool.and_self, Bool.not_true, Bool.not_false,
    Bool.false_eq_true, if_false, if_true]

/-! ### The hub drops it -/

/-- An access with a cause other than a gated island is recorded; a read returns 0 (R40, R41). -/
theorem hubServe_drop {d : Dev} {r : HubReq} {c : Nat} (hc : hubCause d r = some c) (h0 : c ≠ 0) :
    hubServe d r = if r.value.isSome then offAcc d r.port true c r.off else emit (offAcc d r.port false c r.off) (.reg r.port 0) := by
  unfold hubServe
  rw [hc]
  cases r.value <;> simp [h0]

/-- An access of a page that does not answer is recorded with cause 0 and raises OFFA; a read returns 0 (R68). -/
theorem hubServe_gated {d : Dev} {r : HubReq} (hc : hubCause d r = some 0) :
    hubServe d r = if r.value.isSome then raise (offAcc d r.port true 0 r.off) (pageOf r.off) 4
      else emit (raise (offAcc d r.port false 0 r.off) (pageOf r.off) 4) (.reg r.port 0) := by
  unfold hubServe
  rw [hc]
  cases r.value <;> simp

theorem badWrite_of_cause {d : Dev} {r : HubReq} {c : Nat} (hc : hubCause d r = some c) : badWrite d r = false := by
  simp [badWrite, hc]

theorem hubStall_of_cause {d : Dev} {r : HubReq} {c : Nat} (hc : hubCause d r = some c) : hubStall d r = false := by
  simp [hubStall, hc]

/-- A command whose access has a cause not to be served: nothing delays or refuses it. -/
theorem gives_of_cause {i : Instr} {s : State} {r : HubReq} {c : Nat} {P : Dev → Prop} (hi : exec i s = hubRow true r s)
    (hh : HostAt s r.port) (hc : hubCause s.dev r = some c) (hp : P (hubServe s.dev r)) : Gives i s P := by
  obtain ⟨h0, h1, hs⟩ := hh
  exact ⟨_, hi.trans (hubRow_serve h0 h1 hs (badWrite_of_cause hc) (hubStall_of_cause hc)), hp⟩

/-! ### The rows -/

theorem exec_pairLoRead (s : State) (port off : Nat) (h : off % 4 = 0) (h' : off < 0x100000) :
    exec (.pairLoRead port off) s = hubRow true (readReq port off) s := by
  show execPairLoRead port off s = _
  simp only [execPairLoRead, h, h', beq_self_eq_true, decide_true, Bool.and_self]

/-- The request of an access of BAR0 that the hub cannot serve. -/
def invalidReq (port off : Nat) (w whole : Bool) : HubReq :=
  ⟨port, targetOff off, if w then some 0 else none, none, whole && off % 4 == 0⟩

/-- The cause of an access of BAR0 that the hub cannot serve: no aligned word, beyond the pages, a reserved page (R40, R41). -/
def invalidCause (off : Nat) (whole : Bool) : Nat :=
  if whole = false ∨ off % 4 ≠ 0 then 3 else if targetOff off ≥ 0x100000 then 4 else 1

/-- The access is no aligned word, or no implemented page serves it. -/
abbrev InvalidBar0 (off : Nat) (whole : Bool) : Prop :=
  whole = false ∨ off % 4 ≠ 0 ∨ targetOff off ≥ 0x100000 ∨ implemented (pageOf (targetOff off)) = false

theorem exec_bar0InvalidAccess (s : State) (port : Nat) {off : Nat} (w : Bool) {whole : Bool} (h : off < 0x4000000)
    (hv : InvalidBar0 off whole) : exec (.bar0InvalidAccess port off w whole) s = hubRow true (invalidReq port off w whole) s := by
  have hfit : (!(whole && off % 4 == 0) || decide (targetOff off ≥ 0x100000) || !implemented (pageOf (targetOff off))) = true := by
    simp only [Bool.or_eq_true, Bool.not_eq_true', Bool.and_eq_false_iff, beq_eq_false_iff_ne, decide_eq_true_eq, or_assoc]
    exact hv
  show execBar0InvalidAccess port off w whole s = _
  simp only [execBar0InvalidAccess, h, hfit, decide_true, Bool.and_self, invalidReq]

theorem hubCause_invalidReq (d : Dev) (port : Nat) {off : Nat} (w : Bool) {whole : Bool} (hv : InvalidBar0 off whole) :
    hubCause d (invalidReq port off w whole) = some (invalidCause off whole) := by
  unfold invalidCause
  by_cases hm : whole = false ∨ off % 4 ≠ 0
  · rw [if_pos hm]
    have hk : (whole && off % 4 == 0) = false := by rwa [Bool.and_eq_false_iff, beq_eq_false_iff_ne]
    exact hubCause_misfit d hk
  · rw [if_neg hm]
    obtain ⟨hw, ha⟩ := not_or.1 hm
    have hk : (whole && off % 4 == 0) = true := by
      rw [eq_true_of_ne_false hw, Decidable.not_not.1 ha]; rfl
    by_cases hu : targetOff off ≥ 0x100000
    · rw [if_pos hu]
      exact hubCause_unmapped d hk hu
    · rw [if_neg hu]
      have hi : implemented (pageOf (targetOff off)) = false := ((hv.resolve_left hw).resolve_left ha).resolve_left hu
      exact hubCause_reserved d hk (Nat.not_le.1 hu) hi

/-- What the hub leaves after an access of BAR0 that it cannot serve. -/
theorem hubServe_invalidReq (d : Dev) (port : Nat) {off : Nat} (w : Bool) {whole : Bool} (hv : InvalidBar0 off whole) :
    hubServe d (invalidReq port off w whole) = if w then offAcc d port w (invalidCause off whole) (targetOff off)
      else emit (offAcc d port w (invalidCause off whole) (targetOff off)) (.reg port 0) := by
  have h0 : invalidCause off whole ≠ 0 := by
    unfold invalidCause; split
    · decide
    · split <;> decide
  rw [hubServe_drop (hubCause_invalidReq d port w hv) h0]
  cases w <;> simp only [invalidReq, Bool.false_eq_true, if_true, if_false, Option.isSome]

/-- An invalid access of BAR0 is dropped and recorded with its cause. -/
theorem gives_bar0InvalidAccess {s : State} {port off : Nat} (w : Bool) {whole : Bool} (hh : HostAt s port) (h : off < 0x4000000)
    (hv : InvalidBar0 off whole) : Gives (.bar0InvalidAccess port off w whole) s fun d =>
      d = if w then offAcc s.dev port w (invalidCause off whole) (targetOff off)
        else emit (offAcc s.dev port w (invalidCause off whole) (targetOff off)) (.reg port 0) :=
  gives_of_cause (exec_bar0InvalidAccess s port w h hv) hh (hubCause_invalidReq _ port w hv) (hubServe_invalidReq _ port w hv)

/-- A crossing that times out is recorded with cause 2 and raises OFFA on its page (R67). -/
theorem gives_crossingTimeout {s : State} {port off : Nat} (w : Bool) (hh : HostAt s port) (ha : off % 4 = 0) (h : off < 0x100000)
    (hi : implemented (pageOf off) = true) (hb : inPage off ≥ 0x40) (hx : islandOf (pageOf off) ≠ 0)
    (hans : answers s.dev (pageOf off) = true) : Gives (.crossingTimeout port off w) s fun d => evtSet d (pageOf off) 4 = true ∧
      d = if w then raise (offAcc s.dev port w 2 off) (pageOf off) 4
        else emit (raise (offAcc s.dev port w 2 off) (pageOf off) 4) (.reg port 0) := by
  obtain ⟨hport, hbar, hst⟩ := hh
  have hevt := evtSet_raise_same (offAcc s.dev port w 2 off) (pageOf off) (b := 4) (by decide)
  refine gives_of_guard (c := .crossingTimeout port off w) rfl ?_ ⟨?_, rfl⟩
  · simp [hport, hbar, ha, h, hi, hb, hx, hans, hst]
  · cases w <;> exact hevt

/-- Settles O17: the record of GLB_OFFACC, then each kind of access that the hub does not serve. -/
theorem invalidAccessDropped : Obligations.InvalidAccessDropped := by
  refine ⟨fun d port w cause off hport hcause hoff => ⟨actW_offAcc_of_valid d port w cause off, fun h => ?_,
    rd_offAcc_count d port w cause off, ChangesOnly.offAcc d port w cause off⟩, ?_, ?_, ?_⟩
  · have field {f : Fld} {v : Nat} := rd_offAcc_of_clear d port w cause off (f := f) (v := v) h
    have hw : b2n w < 2 := by cases w <;> decide
    exact ⟨field (by simp [offAccRecord]) (by decide) (by decide), field (by simp [offAccRecord]) (by decide) hport,
      field (by simp [offAccRecord]) (by decide) hw, field (by simp [offAccRecord]) (by decide) hcause,
      field (by simp [offAccRecord]) (by decide) hoff⟩
  · intro s port off w whole hh hoff hv
    exact gives_bar0InvalidAccess w hh hoff hv
  · intro s port off w hh ha hoff hi hb hx hans
    exact gives_crossingTimeout w hh ha hoff hi hb hx hans
  · intro s port off v hh ha hoff hi hb hans
    have hc : hubCause s.dev (writeReq port off v) = some 0 := hubCause_gated rfl hoff hi hb hans
    refine gives_of_cause (exec_regWrite s port off v ha hoff) hh hc ?_
    rw [hubServe_gated hc]
    exact ⟨evtSet_raise_same _ _ (by decide), rfl⟩

/-! ### Reserved pages -/

theorem implemented_false_iff (p : Nat) : implemented p = false ↔
    p ∈ [0x0E, 0x0F, 0x2A, 0x2B, 0x2C, 0x2D, 0x2E, 0x2F, 0x74, 0x75, 0x76, 0x77] ∨ 0x7F ≤ p := by
  simp only [implemented, Bool.or_eq_false_iff, Bool.and_eq_false_iff, decide_eq_false_iff_not, List.mem_cons, List.not_mem_nil, or_false]
  omega

theorem lt_of_implemented {p : Nat} (h : implemented p = true) : p < 0x7F := by
  refine Nat.lt_of_not_le fun hp => ?_
  have hf := (implemented_false_iff p).2 (.inr hp)
  exact absurd (hf.symm.trans h) (by decide)

/-- GLB_EVTSUM4 to 7 have no implemented page to sum (R49, R454). -/
theorem evtSum_eq_zero (d : Dev) {k : Nat} (hk : 4 ≤ k) : evtSum d k = 0 := by
  have hnone (e : Nat × PageHdr) : (e.1 / 32 == k && implemented e.1 && !(e.2.evtRaw &&& e.2.evtEn == 0)) = false := by
    by_cases hi : implemented e.1 = true
    · have := lt_of_implemented hi
      have hne : (e.1 / 32 == k) = false := by rw [beq_eq_false_iff_ne]; omega
      rw [hne, Bool.false_and, Bool.false_and]
    · rw [eq_false_of_ne_true hi, Bool.and_false, Bool.false_and]
  simp only [evtSum, hnone, Bool.false_eq_true, if_false]
  induction d.hub.hdr with
  | nil => rfl
  | cons e l ih => exact ih

/-- A read of GLB_EVTSUMk is the sum of its pages' events. -/
theorem readWord_evtSum (d : Dev) {k : Nat} (hk : k < 8) : readWord d (0x120 + 4 * k) = evtSum d k := by
  have hsh : shMask (0x120 + 4 * k) = 0 := by
    have : ∀ i < 8, shMask (0x120 + 4 * i) = 0 := by decide
    exact this k hk
  have hblk : ¬ inPage (0x120 + 4 * k) < 0x40 := by unfold inPage; omega
  have hlive : liveWord d (0x120 + 4 * k) = evtSum d k := by
    have hlow : 0x120 + 4 * k < 0x14000 := by omega
    have hin : 0x120 ≤ 0x120 + 4 * k ∧ 0x120 + 4 * k < 0x140 := by omega
    have hidx : (0x120 + 4 * k - 0x120) / 4 = k := by omega
    simp only [liveWord, hlow, if_true, viewLow, hin.1, hin.2, decide_true, Bool.and_self, hidx]
  simp only [readWord, hblk, if_false, viewWord, hsh, beq_self_eq_true, Bool.true_or, if_true, hlive]

/-- Settles O18: the list of reserved pages, and cause 1 for every access of one. -/
theorem reservedPagesReadZero : Obligations.ReservedPagesReadZero := by
  refine ⟨fun p _ => implemented_false_iff p, by decide +kernel, ?_, ?_, ?_⟩
  · intro s port off v hh ha hoff hi
    have htgt : targetOff off = off := if_pos (by omega)
    have hcause : invalidCause off true = 1 := by
      rw [invalidCause, htgt, if_neg (by simp [ha]), if_neg (by omega)]
    have hv : InvalidBar0 off true := .inr (.inr (.inr (by rw [htgt, hi])))
    have hrd : hubCause s.dev (readReq port off) = some 1 := hubCause_reserved _ rfl hoff hi
    have hwr : hubCause s.dev (writeReq port off v) = some 1 := hubCause_reserved _ rfl hoff hi
    have hbad (w : Bool) := gives_bar0InvalidAccess w hh (by omega) hv
    rw [hcause, htgt] at hbad
    exact ⟨gives_of_cause (exec_pairLoRead s port off ha hoff) hh hrd (hubServe_drop hrd (by decide)), hbad false,
      gives_of_cause (exec_regWrite s port off v ha hoff) hh hwr (hubServe_drop hwr (by decide)), hbad true⟩
  · intro d port w off _ _ h
    exact rd_offAcc_of_clear d port w 1 off h (by simp [offAccRecord]) (by decide) (by decide)
  · intro d k hk hk8
    rw [readWord_evtSum d hk8, evtSum_eq_zero d hk]

end Sys2Proof.Machine
end

section
/-!
PROOFS. What a command can answer (R70, R132): a next state whose queue is the old one and whose outputs are settled, or the refusal
of a write that sets a reserved bit; idling; the reset state.
-/
namespace Sys2Proof.Machine

/-! ### The answers of a command -/

/-- The outcome is a next state with settled outputs, or the refusal of a reserved bit. -/
def EndsOrRefused (s : State) (x : Host.Outcome State Fault Refusal) : Prop := (∃ d, x = finish s d) ∨ x = .refused .reservedBitChanged

theorem endsOrRefused_finish (s : State) (d : Dev) : EndsOrRefused s (finish s d) := .inl ⟨d, rfl⟩

theorem endsOrRefused_refused (s : State) : EndsOrRefused s (.refused .reservedBitChanged) := .inr rfl

theorem EndsOrRefused.ite {s : State} {c : Prop} [Decidable c] {a b : Host.Outcome State Fault Refusal} (ha : EndsOrRefused s a)
    (hb : EndsOrRefused s b) : EndsOrRefused s (if c then a else b) := by
  split
  · exact ha
  · exact hb

theorem hubRow_answers (fits : Bool) (r : HubReq) (s : State) : EndsOrRefused s (hubRow fits r s) :=
  .ite (endsOrRefused_finish s _) (.ite (endsOrRefused_refused s) (endsOrRefused_finish s _))

/-- An access that sets no reserved bit is not refused. -/
theorem hubRow_finishes {fits : Bool} {r : HubReq} {s : State} (h : badWrite s.dev r = false) :
    ∃ d, hubRow fits r s = finish s d := by
  unfold hubRow
  split
  · exact ⟨_, rfl⟩
  · rw [h]
    exact ⟨_, rfl⟩

theorem bar2Write_answers (fn off : Nat) (v : Word) (s : State) : EndsOrRefused s (bar2Write fn off v s) := by
  refine .ite (endsOrRefused_finish s _) (.ite (.ite (endsOrRefused_refused s) (endsOrRefused_finish s _)) ?_)
  split
  · exact endsOrRefused_finish s _
  · exact .ite (endsOrRefused_refused s) (endsOrRefused_finish s _)

/-! ### Writes of rows that carry no value of host software: none sets a reserved bit -/

theorem mkWord_or_clean : ∀ a b c e : Bool,
    ((mkWord [(10, 1, b2n a), (9, 1, b2n b), (8, 1, b2n c), (0, 1, b2n e)] ||| 2) &&& ~~~ (0x703 : Word)) = 0 := by decide

/-- A write of PAGE_CTRL as it reads, with SHADOW_DISCARD, sets no reserved bit. -/
theorem clean_discard (d : Dev) (page : Nat) : Clean (0x1000 * page + 8) (hdrWord d page 8 ||| 2) := by
  have hin : inPage (0x1000 * page + 8) = 8 := by unfold inPage; omega
  have hm : knownMask (0x1000 * page + 8) = 0x703 := by simp [knownMask, hin, hdrMask]
  rw [Clean, hm]
  exact mkWord_or_clean _ _ _ _

theorem clean_domCmd {dom : Nat} (h : dom < 32) :
    Clean 0x2040 (BitVec.ofNat 32 (0x10100 + dom)) ∧ Clean 0x2040 (BitVec.ofNat 32 (0x10000 + dom)) := by
  revert dom
  have hm : knownMask 0x2040 = 0x8001011F := by decide +kernel
  simp only [Clean, hm]
  decide

theorem clean_psctl (w : Word) : Clean 0x2074 ((w &&& 2) ||| 1) := by
  have hm : knownMask 0x2074 = 3 := by decide +kernel
  rw [Clean, hm]
  ext i hi
  simp only [BitVec.getElem_and, BitVec.getElem_or, BitVec.getElem_not]
  have : ∀ j (hj : j < 32), (((2 : Word)[j] = true ∨ (1 : Word)[j] = true) → (3 : Word)[j] = true) := by decide
  have := this i hi
  cases h2 : (2 : Word)[i] <;> cases h1 : (1 : Word)[i] <;> simp_all

theorem badWrite_value_none (d : Dev) {r : HubReq} (h : r.value = none) : badWrite d r = false := by
  unfold badWrite
  split <;> simp_all

theorem badWrite_bar0Invalid (d : Dev) (port off : Nat) (w whole : Bool) (h : (!(whole && off % 4 == 0) || decide (targetOff off ≥ 0x100000)
    || !implemented (pageOf (targetOff off))) = true) : badWrite d (invalidReq port off w whole) = false := by
  have hv : InvalidBar0 off whole := by
    simpa only [Bool.or_eq_true, Bool.not_eq_true', Bool.and_eq_false_iff, beq_eq_false_iff_ne, decide_eq_true_eq, or_assoc] using h
  exact badWrite_of_cause (hubCause_invalidReq d port w hv)

/-- An access that no implemented page serves is never refused. -/
theorem exec_bar0InvalidAccess_finishes (s : State) (port off : Nat) (w whole : Bool) :
    ∃ d, exec (.bar0InvalidAccess port off w whole) s = finish s d := by
  show ∃ d, execBar0InvalidAccess port off w whole s = finish s d
  unfold execBar0InvalidAccess
  cases h : (!(whole && off % 4 == 0) || decide (targetOff off ≥ 0x100000) || !implemented (pageOf (targetOff off))) with
  | false =>
    refine ⟨s.dev, ?_⟩
    dsimp only [hubRow]
    rw [h, Bool.and_false, Bool.false_and, Bool.false_and]
    rfl
  | true => exact hubRow_finishes (badWrite_bar0Invalid s.dev port off w whole h)

theorem exec_domCmd_finishes (s : State) (port dom n : Nat) (h : dom < 32 → Clean 0x2040 (BitVec.ofNat 32 (n + dom))) :
    ∃ d, hubRow (dom < 32) (writeReq port 0x2040 (BitVec.ofNat 32 (n + dom))) s = finish s d := by
  by_cases hd : dom < 32
  · exact hubRow_finishes (badWrite_clean (h hd))
  · refine ⟨s.dev, ?_⟩
    rw [hubRow, decide_eq_false hd]
    rfl

/-! ### Every command -/

/-- Every command ends with its outputs settled, but for a write of host software that is refused for a reserved bit (R70). -/
theorem exec_answers (c : Instr) (s : State) :
    (∃ d, exec c s = finish s d) ∨ (exec c s = .refused .reservedBitChanged ∧ hostWrite c = true) := by
  cases c with
  | almLatchClear | catchFire | evtTestWrite | evtRawClear | aliasAccess | seatKick | stktArm | stktForce | stktStop | chnIso | chnTrain
  | memInjArm | softRepair | hardRepair | dmcTailWrite | dmcEnable | dmcStop | dmcReset | fwaReadPage | fwaProgramPage | fwaEraseBlock
  | fwaDataAccess | fwaSet | fwaOpen | fwaClose | fwaClear | pflEholdWrite | mapLookup =>
    exact (hubRow_answers _ _ s).imp_right (⟨·, rfl⟩)
  | regWrite target v =>
    cases target with
    | bar0 => exact (hubRow_answers _ _ s).imp_right (⟨·, rfl⟩)
    | bar2 => exact (bar2Write_answers _ _ v s).imp_right (⟨·, rfl⟩)
    | bar4 => exact .inl ⟨_, rfl⟩
  | seatReq | seatRel | seatReset => exact (EndsOrRefused.ite (endsOrRefused_refused s) (endsOrRefused_finish s _)).imp_right (⟨·, rfl⟩)
  | cfgCommit | cfgReopen | ldpcCounterClear =>
    exact .inl (hubRow_finishes (badWrite_clean (by decide +kernel)))
  | psctlWake => exact .inl (hubRow_finishes (badWrite_clean (clean_psctl _)))
  | shadowDiscard _ page => exact .inl (hubRow_finishes (badWrite_clean (clean_discard s.dev page)))
  | domainGate port dom => exact .inl (exec_domCmd_finishes s port dom _ fun h => (clean_domCmd h).1)
  | domainUngate port dom => exact .inl (exec_domCmd_finishes s port dom _ fun h => (clean_domCmd h).2)
  | bar0InvalidAccess port off w whole => exact .inl (exec_bar0InvalidAccess_finishes s port off w whole)
  | pairLoRead | stktRdataRead | trngRandRead => exact .inl (hubRow_finishes badWrite_read)
  | _ => exact .inl ⟨_, rfl⟩

/-- A next state is the old one with a settled device. -/
theorem exec_next {c : Instr} {s t : State} (h : exec c s = .next t) : ∃ d, t = { s with dev := settleEvents d } := by
  rcases exec_answers c s with ⟨d, hd⟩ | ⟨hr, -⟩
  · rw [hd] at h
    exact ⟨d, (Host.Outcome.next.inj h).symm⟩
  · rw [hr] at h
    cases h

/-! ### The settling of the outputs (R132) -/

/-- The wake event changes PWR_PSTAT alone. -/
theorem wake_act (d : Dev) (c : Nat) : { wake d c with hub := { (wake d c).hub with act := d.hub.act } } = d := by
  unfold wake
  split <;> rfl

/-- What the settling of the outputs leaves alone: everything but PWR_PSTAT, the pending vectors, the levels and the outputs. -/
theorem settleEvents_frame (d : Dev) :
    { settleEvents d with hub := { (settleEvents d).hub with act := d.hub.act }
                          sys := { (settleEvents d).sys with orA := d.sys.orA, orB := d.sys.orB, alertLow := d.sys.alertLow }
                          pci := d.pci, out := d.out } = d := by
  obtain ⟨d3, hs, d2, h2, -, h3⟩ := settle_shape d
  rw [hs]
  rcases h3 with rfl | rfl
  · rw [← h2]
  · have hw := wake_act d2 5
    generalize wake d2 5 = w at hw ⊢
    rw [← h2, ← hw]

/-- The settling of the outputs changes no header. -/
theorem settleEvents_hdr (d : Dev) : (settleEvents d).hub.hdr = d.hub.hdr := congrArg (·.hub.hdr) (settleEvents_frame d)

theorem settleEvents_dead (d : Dev) : (settleEvents d).sys.dead = d.sys.dead := congrArg (·.sys.dead) (settleEvents_frame d)

theorem routedOr_congr {d d' : Dev} (h : d'.hub.hdr = d.hub.hdr) (port : Nat) : routedOr d' port = routedOr d port := by
  rw [routedOr, routedOr, h]

theorem alertOr_congr {d d' : Dev} (h : d'.hub.hdr = d.hub.hdr) : alertOr d' = alertOr d := by rw [alertOr, alertOr, h]

theorem settleEvents_orA (d : Dev) : (settleEvents d).sys.orA = routedOr d 0 := rfl
theorem settleEvents_orB (d : Dev) : (settleEvents d).sys.orB = routedOr d 1 := rfl
theorem settleEvents_alertLow (d : Dev) : (settleEvents d).sys.alertLow = (alertOr d || d.sys.dead) := rfl

/-- After the settling the outputs agree with the events. -/
theorem settled_settleEvents (d : Dev) : Settled (settleEvents d) := by
  have hh := settleEvents_hdr d
  refine ⟨?_, ?_, ?_⟩
  · rw [routedOr_congr hh, settleEvents_orA]
  · rw [routedOr_congr hh, settleEvents_orB]
  · rw [alertOr_congr hh, settleEvents_dead, settleEvents_alertLow]

theorem settled_of_exec {c : Instr} {s t : State} (h : exec c s = .next t) : Settled t.dev := by
  obtain ⟨d, rfl⟩ := exec_next h
  exact settled_settleEvents d

/-- Idling changes the time alone. -/
theorem settled_idle {s : State} (h : Settled s.dev) : Settled (idle s).dev := by
  unfold idle
  split
  · exact h
  · exact h

/-- Settles O5: every command ends with the settling of the outputs, and idling changes the time alone. -/
theorem everyStepSettlesOutputs : Obligations.EveryStepSettlesOutputs := by
  refine ⟨fun s t hs h => ?_, fun c s t => settled_of_exec⟩
  unfold step at h
  split at h
  · cases h
    exact settled_idle hs
  · exact settled_of_exec h

/-- Settles O3: the only next state of a command replaces the device alone. -/
theorem commandKeepsQueue : Obligations.CommandKeepsQueue := by
  intro c s t h
  obtain ⟨d, rfl⟩ := exec_next h
  rfl

/-- Settles O4: by the answers of every command. -/
theorem onlyReservedBitsRefused : Obligations.OnlyReservedBitsRefused := by
  refine ⟨fun c s => ?_, fun c s hw => ?_⟩
  · exact (exec_answers c s).imp (fun ⟨d, hd⟩ => ⟨_, hd⟩) And.left
  · rcases exec_answers c s with ⟨d, hd⟩ | ⟨-, hh⟩
    · exact ⟨_, hd⟩
    · rw [hh] at hw
      cases hw

/-- Settles O1: by the definition of a step. -/
theorem frontCommandRuns : Obligations.FrontCommandRuns := fun _ _ _ => rfl

/-- Settles O2: an empty queue idles, with the time base running while the AON domain does. -/
theorem emptyQueueIdles : Obligations.EmptyQueueIdles := by
  intro s hs
  refine ⟨fun ha => ?_, fun ha => ?_⟩
  · simp only [step, hs, idle, ha, Bool.false_eq_true, if_false]
  · simp only [step, hs, idle, ha, if_true]

/-! ### The reset state -/

theorem actW_reset (off : Nat) : actW State.reset.dev off = resetWord off := rfl
theorem shdW_reset (off : Nat) : shdW State.reset.dev off = resetWord off &&& shMask off := rfl
theorem hdrOf_reset (p : Nat) : hdrOf State.reset.dev p = hdrDefault p := rfl

/-- Settles O6: nothing is stored at reset, so every word and header is its default. -/
theorem resetState : Obligations.ResetState := by
  refine ⟨⟨rfl, rfl, rfl⟩, rfl, actW_reset, shdW_reset, fun p => ?_, fun p => ?_, rfl, by decide +kernel, by decide +kernel, rfl⟩
  · rw [evtPend, hdrOf_reset]
    exact BitVec.and_zero
  · rw [hdrOf_reset]
    rfl

end Sys2Proof.Machine
end

section
/-!
PROOFS. What the settling of the outputs sends and leaves alone (R132, R229, R420).
-/
namespace Sys2Proof.Machine

theorem mem_nins (n m : Nat) (l : List Nat) : m ∈ nins n l ↔ m = n ∨ m ∈ l := by
  induction l with
  | nil => simp [nins]
  | cons a l ih =>
    unfold nins
    split
    · simp
    · split
      · next h => subst h; simp
      · simp only [List.mem_cons, ih]
        exact or_left_comm

/-! ### One message -/

/-- No message is sent in a flush, nor for a function that may send none. -/
theorem sendMsix_silent {d : Dev} {fn : Nat} (vec : Nat) (h : rd d F.PFL_STAT_STATE ≠ 0 ∨ msixLive d fn = false) : sendMsix d fn vec = d := by
  have hc : (!(rd d F.PFL_STAT_STATE == 0) || !msixLive d fn) = true := by
    rcases h with h | h <;> simp [h]
  rw [sendMsix, if_pos hc]

theorem sendMsix_open {d : Dev} {fn vec : Nat} (h0 : rd d F.PFL_STAT_STATE = 0) (hl : msixLive d fn = true) (hv : vecOpen d fn vec = true) :
    sendMsix d fn vec = emit d (.msix fn vec) := by
  simp [sendMsix, h0, hl, hv]

theorem sendMsix_masked {d : Dev} {fn vec : Nat} (h0 : rd d F.PFL_STAT_STATE = 0) (hl : msixLive d fn = true) (hv : vecOpen d fn vec = false) :
    sendMsix d fn vec = { d with pci := { d.pci with pba := nins (2048 * fn + vec) d.pci.pba } } := by
  simp [sendMsix, h0, hl, hv]

/-- A message joins the outputs or the pending vectors; nothing leaves them. -/
theorem sendMsix_keeps (d : Dev) (fn vec : Nat) :
    (∀ o ∈ d.out, o ∈ (sendMsix d fn vec).out) ∧ (∀ v ∈ d.pci.pba, v ∈ (sendMsix d fn vec).pci.pba) := by
  unfold sendMsix
  dsimp only
  split
  · exact ⟨fun _ h => h, fun _ h => h⟩
  · split
    · exact ⟨fun _ h => List.mem_cons_of_mem _ h, fun _ h => h⟩
    · exact ⟨fun _ h => h, fun v h => (mem_nins _ v _).2 (.inr h)⟩

/-- What a message does not change decides whether the next one is sent. -/
theorem sendMsix_sight (d : Dev) (fn vec fn' vec' : Nat) : rd (sendMsix d fn vec) = rd d ∧ msixLive (sendMsix d fn vec) fn' = msixLive d fn' ∧
    vecOpen (sendMsix d fn vec) fn' vec' = vecOpen d fn' vec' := by
  unfold sendMsix
  dsimp only
  split
  · exact ⟨rfl, rfl, rfl⟩
  · split <;> exact ⟨rfl, rfl, rfl⟩

/-! ### The settling -/

/-- The messages of the ports whose OR rises, port A first. -/
def messagesOf (d : Dev) : Dev :=
  let d1 := if routedOr d 0 && !d.sys.orA then eventMessage d 0 else d
  if routedOr d 1 && !d.sys.orB then eventMessage d1 1 else d1

theorem wake_out (d : Dev) (c : Nat) : (wake d c).out = d.out ∧ (wake d c).pci = d.pci :=
  ⟨congrArg (·.out) (wake_act d c), congrArg (·.pci) (wake_act d c)⟩

/-- The outputs and the pending vectors after the settling are those of the messages. -/
theorem settleEvents_out (d : Dev) : (settleEvents d).out = (messagesOf d).out ∧ (settleEvents d).pci = (messagesOf d).pci := by
  unfold settleEvents
  dsimp only
  split
  · exact wake_out (messagesOf d) 5
  · exact ⟨rfl, rfl⟩

theorem messagesOf_silent {d : Dev} (hA : routedOr d 0 = d.sys.orA ∨ eventMessage d 0 = d) (hB : routedOr d 1 = d.sys.orB ∨ eventMessage d 1 = d) :
    messagesOf d = d := by
  have h1 : (if routedOr d 0 && !d.sys.orA then eventMessage d 0 else d) = d := by
    rcases hA with h | h
    · simp [h]
    · rw [h, ite_self]
  unfold messagesOf
  rw [h1]
  rcases hB with h | h
  · simp [h]
  · show (if _ then eventMessage d 1 else d) = d
    rw [h, ite_self]

/-- A message of port A stays, whatever port B sends. -/
theorem messagesOf_keeps_portA {d : Dev} (h : (routedOr d 0 && !d.sys.orA) = true) :
    (∀ o ∈ (eventMessage d 0).out, o ∈ (messagesOf d).out) ∧ (∀ v ∈ (eventMessage d 0).pci.pba, v ∈ (messagesOf d).pci.pba) := by
  unfold messagesOf
  rw [if_pos h]
  dsimp only
  split
  · exact sendMsix_keeps ..
  · exact ⟨fun _ h => h, fun _ h => h⟩

/-- The message of port B is sent after that of port A, by the masks as they were. -/
theorem messagesOf_portB {d : Dev} (h : (routedOr d 1 && !d.sys.orB) = true) : ∃ x : Dev, rd x = rd d ∧
    (∀ fn, msixLive x fn = msixLive d fn) ∧ (∀ fn vec, vecOpen x fn vec = vecOpen d fn vec) ∧ messagesOf d = eventMessage x 1 := by
  unfold messagesOf
  rw [if_pos h]
  split
  · have hs := sendMsix_sight d (mgmtFn 0) (rd d (F.PRT_EVTVEC_VEC 0))
    exact ⟨_, (hs 0 0).1, fun fn => (hs fn 0).2.1, fun fn vec => (hs fn vec).2.2, rfl⟩
  · exact ⟨d, rfl, fun _ => rfl, fun _ _ => rfl, rfl⟩

/-- The message of a port: sent where its vector is open, recorded pending where it is masked. -/
theorem eventMessage_effect {d : Dev} {port : Nat} (h0 : rd d F.PFL_STAT_STATE = 0) (hl : msixLive d (mgmtFn port) = true) :
    (vecOpen d (mgmtFn port) (rd d (F.PRT_EVTVEC_VEC port)) = true →
      Output.msix (mgmtFn port) (rd d (F.PRT_EVTVEC_VEC port)) ∈ (eventMessage d port).out) ∧
    (vecOpen d (mgmtFn port) (rd d (F.PRT_EVTVEC_VEC port)) = false →
      2048 * mgmtFn port + rd d (F.PRT_EVTVEC_VEC port) ∈ (eventMessage d port).pci.pba) := by
  refine ⟨fun hv => ?_, fun hv => ?_⟩
  · rw [eventMessage, sendMsix_open h0 hl hv]
    exact List.mem_cons_self
  · rw [eventMessage, sendMsix_masked h0 hl hv]
    exact (mem_nins _ _ _).2 (.inl rfl)

theorem actW_settleEvents (d : Dev) {o : Nat} (h : o ≠ 0x2078) : actW (settleEvents d) o = actW d o := by
  obtain ⟨d3, hs, d2, h2, -, h3⟩ := settle_shape d
  have hd2 : actW d2 o = actW d o := actW_congr (congrArg (·.hub.act) h2) o
  rw [hs]
  rcases h3 with rfl | rfl
  · exact hd2
  · exact ((wake_words d2 5).words o (by simpa using h)).trans hd2

/-- Settles O7: the levels by definition, the messages of each port, and the frame of the settling. -/
theorem outputsFollowEvents : Obligations.OutputsFollowEvents := by
  refine ⟨settleEvents_alertLow, fun d port hp hr ho h0 hl => ?_, fun d h => ?_, fun d hA hB => ?_, fun d => ?_⟩
  · rw [(settleEvents_out d).1, (settleEvents_out d).2]
    obtain rfl | rfl : port = 0 ∨ port = 1 := by omega
    · have hrise : (routedOr d 0 && !d.sys.orA) = true := by
        rw [hr, show d.sys.orA = false from ho]
        rfl
      have hm := eventMessage_effect h0 hl
      have hk := messagesOf_keeps_portA hrise
      exact ⟨fun hv => hk.1 _ (hm.1 hv), fun hv => hk.2 _ (hm.2 hv)⟩
    · have hrise : (routedOr d 1 && !d.sys.orB) = true := by
        rw [hr, show d.sys.orB = false from ho]
        rfl
      obtain ⟨x, hrd, hlive, hopen, hx⟩ := messagesOf_portB hrise
      have hm := eventMessage_effect (d := x) (port := 1) (by rw [hrd, h0]) (by rw [hlive, hl])
      rw [hrd, hopen] at hm
      rw [hx]
      exact hm
  · rw [(settleEvents_out d).1, (settleEvents_out d).2]
    have hm : ∀ port ≤ 1, eventMessage d port = d := fun port hp => sendMsix_silent _ (h.symm.imp_right fun h => h port hp)
    rw [messagesOf_silent (.inr (hm 0 (by decide))) (.inr (hm 1 (by decide)))]
    exact ⟨rfl, rfl⟩
  · rw [(settleEvents_out d).1, (settleEvents_out d).2, messagesOf_silent (.inl hA) (.inl hB)]
    exact ⟨rfl, rfl⟩
  · have hf := settleEvents_frame d
    exact ⟨fun off h => actW_settleEvents d h, hdrOf_congr (settleEvents_hdr d), congrArg (·.hub.shd) hf, congrArg (·.med) hf,
      congrArg (·.keys) hf, congrArg (·.seats) hf, congrArg (·.cmds) hf, congrArg (·.sys.time) hf, congrArg (·.log) hf⟩

end Sys2Proof.Machine
end

section
/-!
PROOFS. The register store (R9, R50) and the event log (R433): what is written reads back, and nothing else changes.
-/
namespace Sys2Proof.Machine

/-! ### 64-bit pairs -/

/-- The low word of a pair after a write of the pair. -/
theorem actW_wr64_lo (d : Dev) (o v : Nat) : actW (wr64 d o v) o = BitVec.ofNat 32 v := by
  rw [wr64, actW_setActW_ne _ _ (by omega), actW_setActW_same]

theorem actW_wr64_hi (d : Dev) (o v : Nat) : actW (wr64 d o v) (o + 4) = BitVec.ofNat 32 (v / 2 ^ 32) := by
  rw [wr64, actW_setActW_same]

theorem actW_wr64_ne (d : Dev) {o o' : Nat} (v : Nat) (h : o' ≠ o) (h4 : o' ≠ o + 4) : actW (wr64 d o v) o' = actW d o' := by
  rw [wr64, actW_setActW_ne _ _ h4, actW_setActW_ne _ _ h]

/-- A pair reads back the value written to it, modulo 2^64. -/
theorem rd64_wr64_same (d : Dev) (o v : Nat) : rd64 (wr64 d o v) o = v % 2 ^ 64 := by
  rw [rd64, actW_wr64_lo, actW_wr64_hi, BitVec.toNat_ofNat, BitVec.toNat_ofNat]
  omega

theorem rd_wr64 (d : Dev) {o : Nat} (v : Nat) {f : Fld} (h : f.off ≠ o) (h4 : f.off ≠ o + 4) : rd (wr64 d o v) f = rd d f :=
  rd_congr f (actW_wr64_ne d v h h4)

theorem rd64_congr {d d' : Dev} (o : Nat) (h : ∀ x ∈ [o, o + 4], actW d' x = actW d x) : rd64 d' o = rd64 d o := by
  rw [rd64, rd64, h o (by simp), h (o + 4) (by simp)]

theorem rd64_lt (d : Dev) (o : Nat) : rd64 d o < 2 ^ 64 := by
  have h1 := (actW d o).isLt
  have h2 := (actW d (o + 4)).isLt
  unfold rd64
  omega

theorem shdW_congr {d d' : Dev} (h : d'.hub.shd = d.hub.shd) (o : Nat) : shdW d' o = shdW d o := by simp [shdW, h]

/-- Settles O8: the laws of the stores, of fields, of counters and of pairs. -/
theorem registersReadBack : Obligations.RegistersReadBack := by
  refine ⟨⟨fun d o w => ⟨actW_setActW_same d o w, ChangesOnly.setActW d o w⟩, fun d o w h => SMap.canon_put _ _ _ _ h,
    fun d o w => ⟨?_, fun o' h => ?_⟩, fun d o w h => SMap.canon_put _ _ _ _ h, fun d p h => ⟨hdrOf_setHdr_same d p h, ChangesOnly.setHdr d p h⟩⟩,
    rd_wr_same, fun d f g v hg h => rd_wr_apart d v hg ?_, fun d f n => rd_satAdd_same d f n, fun d o v hv => ?_⟩
  · rw [shdW_setShdW, if_pos rfl]
  · rw [shdW_setShdW, if_neg h]
  · exact h
  · rw [rd64_wr64_same, Nat.mod_eq_of_lt hv]

/-! ### Raising an event, and the log -/

theorem hdrOf_setRaw_same (d : Dev) (p : Nat) (w : Word) : hdrOf (setRaw d p w) p = { hdrOf d p with evtRaw := (hdrOf d p).evtRaw ||| w } :=
  hdrOf_setHdr_same ..

/-- A raise sets its bit in the header of its page, and leaves the rest of the header alone. -/
theorem hdrOf_raiseArgs_same (d : Dev) {p : Nat} (b : Nat) (args : List Word) (hp : p ≠ 0x7E) : hdrOf (raiseArgs d p b args) p =
    { hdrOf d p with evtRaw := (hdrOf d p).evtRaw ||| BitVec.ofNat 32 (2 ^ b) } :=
  ((ChangesOnly.logPut _ _ _).heads p (by simpa using hp)).trans (hdrOf_setRaw_same ..)

theorem hdrOf_raise_same (d : Dev) {p : Nat} (b : Nat) (hp : p ≠ 0x7E) : hdrOf (raise d p b) p =
    { hdrOf d p with evtRaw := (hdrOf d p).evtRaw ||| BitVec.ofNat 32 (2 ^ b) } := hdrOf_raiseArgs_same d b [] hp

/-- A raise of another page leaves a header alone. -/
theorem hdrOf_raise_ne (d : Dev) {p q : Nat} (b : Nat) (h : q ≠ p) (hq : q ≠ 0x7E) : hdrOf (raise d p b) q = hdrOf d q :=
  (ChangesOnly.raise d p b).heads q (by simp [h, hq])

/-- An entry that a full buffer drops. -/
theorem logPut_full {d : Dev} (code : Nat) (ps : List Word) (h : 65536 ≤ d.log.buf.length) :
    logPut d code ps = setRaw (satAdd d F.LOG_LOST_COUNT 1) 0x7E 0x200 := if_pos h

/-- An entry joins the front of the buffered log. -/
theorem logPut_buf {d : Dev} (code : Nat) (ps : List Word) (h : d.log.buf.length < 65536) :
    (logPut d code ps).log.buf = ⟨0, rd d F.LOG_NEXT_N, d.sys.time, code, logSev code, ps⟩ :: d.log.buf := by
  rw [logPut, if_neg (by omega)]
  dsimp only
  split <;> rfl

/-- An entry advances LOG_NEXT. -/
theorem rd_logPut_next {d : Dev} (code : Nat) (ps : List Word) (h : d.log.buf.length < 65536) :
    rd (logPut d code ps) F.LOG_NEXT_N = (rd d F.LOG_NEXT_N + 1) % 2 ^ 32 := by
  have hw (x : Dev) (m : Nat) : rd (wr (wr x F.LOG_NEXT_N (rd d F.LOG_NEXT_N + 1)) F.LOG_PEND_COUNT m) F.LOG_NEXT_N =
      (rd d F.LOG_NEXT_N + 1) % 2 ^ 32 := by
    rw [rd_wr_apart _ _ (by decide) (by decide)]
    exact rd_wr_same x F.LOG_NEXT_N _ (by decide)
  rw [logPut, if_neg (by omega)]
  dsimp only
  split
  · exact hw _ _
  · exact hw _ _

/-- Settles O9: the header after a raise, and the two cases of a log entry. -/
theorem eventsRaisedAndLogged : Obligations.EventsRaisedAndLogged := by
  refine ⟨fun d p b hp hb => ⟨evtSet_raise d p b hp hb, hdrOf_raise_same d b hp, ChangesOnly.raise d p b⟩, fun d code ps => ⟨fun h => ?_, fun h => ?_⟩⟩
  · exact ⟨_, _, logPut_buf code ps h, rfl, rfl, rfl, rfl, rfl, rd_logPut_next code ps h⟩
  · rw [logPut_full code ps h]
    refine ⟨rfl, evtSet_setRaw (b := 9) _ 0x7E (by decide), ?_⟩
    exact rd_satAdd_same d F.LOG_LOST_COUNT 1 (by decide)

end Sys2Proof.Machine
end

section
/-!
PROOFS. Register accesses that the hub serves (R40 to R72): writes by the kinds of the fields, rows of single registers, 64-bit pairs,
the window of aliased bits, write-once words and the words of the page headers.
-/
namespace Sys2Proof.Machine

/-! ### Rows of the register tables -/

theorem inPage_of_regRow {off : Nat} {r : RegRow} (h : regRow? off = some r) : ¬ inPage off < 0x40 := by
  intro hlt
  rw [regRow?, if_pos hlt] at h
  cases h

theorem shMask_of_regRow {off : Nat} {r : RegRow} (h : regRow? off = some r) : shMask off = r.sh := by simp [shMask, h]

theorem tvMask_of_regRow {off : Nat} {r : RegRow} (h : regRow? off = some r) : tvMask off = r.tv := by simp [tvMask, h]

/-- Every row of the register tables. -/
def tableRows : List RegRow :=
  Rows.memx ++ Rows.memxp ++ Rows.strm ++ Rows.stkld ++ Rows.stklp ++ Rows.stklt ++ Rows.vol ++ Rows.key ++ Rows.keyp ++ Rows.dmc ++
    (List.range 0x7F).flatMap pageRows

theorem pageRows_of_ge {p : Nat} (h : 0x7F ≤ p) : pageRows p = [] := by
  unfold pageRows
  simp (disch := omega) only [beq_iff_eq, Bool.or_eq_true, Bool.and_eq_true, decide_eq_true_eq, if_neg]

theorem pageRows_subset (p : Nat) {r : RegRow} (h : r ∈ pageRows p) : r ∈ tableRows := by
  rcases Nat.lt_or_ge p 0x7F with hp | hp
  · exact List.mem_append_right _ (List.mem_flatMap.2 ⟨p, List.mem_range.2 hp, h⟩)
  · rw [pageRows_of_ge hp] at h
    cases h

theorem rowsAt_subset (off : Nat) {r : RegRow} (h : r ∈ (rowsAt off).1) : r ∈ tableRows := by
  have hin : ∀ l : List RegRow, l ∈ [Rows.memx, Rows.memxp, Rows.strm, Rows.stkld, Rows.stklp, Rows.stklt, Rows.vol, Rows.key, Rows.keyp,
      Rows.dmc, []] → r ∈ l → r ∈ tableRows := by
    intro l hl hr
    simp only [List.mem_cons, List.not_mem_nil, or_false] at hl
    simp only [tableRows, List.mem_append]
    rcases hl with rfl | rfl | rfl | rfl | rfl | rfl | rfl | rfl | rfl | rfl | rfl
    all_goals first
      | simp only [hr, true_or, or_true]
      | cases hr
  unfold rowsAt at h
  dsimp only at h
  repeat' split at h
  all_goals first
    | exact pageRows_subset _ h
    | exact hin _ (by simp) h

theorem mem_tableRows {off : Nat} {r : RegRow} (h : regRow? off = some r) : r ∈ tableRows := by
  rw [regRow?, if_neg (inPage_of_regRow h)] at h
  exact rowsAt_subset off (List.mem_of_find?_eq_some h)

/-- Halves of pairs are neither voted nor write-once (R51, R60, R71). -/
theorem tv_of_pair {off : Nat} {r : RegRow} (h : regRow? off = some r) (hp : r.pair ≠ 0) : r.tv = 0 := by
  have : ∀ x ∈ tableRows, x.pair ≠ 0 → x.tv = 0 := by decide +kernel
  exact this r (mem_tableRows h) hp

/-! ### Writes by the kinds of the fields -/

/-- The gate moves to STAGED by a write of a configuration word (R102, R113). -/
def gateMoves (d : Dev) (off : Nat) (r : RegRow) : Prop :=
  imagePage (pageOf off) = true ∧ imageMask r ≠ 0 ∧ off ≠ 0x80 ∧ rd d F.CFG_GATE_STATE ∈ [0, 3] ∧ rd d F.GLB_BOOT_STAGE ≠ 0xF ∧
    d.sys.testEn = false

theorem touchConfig_moves {d : Dev} {off : Nat} {r : RegRow} (h : gateMoves d off r) : touchConfig d off r = wr d F.CFG_GATE_STATE 1 := by
  obtain ⟨hp, hm, ho, hs, hb, ht⟩ := h
  simp only [List.mem_cons, List.not_mem_nil, or_false] at hs
  rw [touchConfig, if_pos]
  simp only [Bool.and_eq_true, Bool.not_eq_true', beq_eq_false_iff_ne, Bool.or_eq_true, beq_iff_eq]
  exact ⟨⟨⟨⟨⟨hp, hm⟩, ho⟩, hs⟩, hb⟩, ht⟩

theorem touchConfig_stays {d : Dev} {off : Nat} {r : RegRow} (h : ¬ gateMoves d off r) : touchConfig d off r = d := by
  rw [touchConfig, if_neg]
  intro hc
  apply h
  simpa [gateMoves, and_assoc] using hc

theorem ChangesOnly.touchConfig (d : Dev) (off : Nat) (r : RegRow) : ChangesOnly [0x1040] [] d (touchConfig d off r) := by
  by_cases h : gateMoves d off r
  · rw [touchConfig_moves h]
    exact ChangesOnly.wr d F.CFG_GATE_STATE 1
  · rw [touchConfig_stays h]
    exact .refl ..

/-- The active word after a write by kinds: RW takes the bits, W1C clears them. -/
def activeTaken (d : Dev) (off : Nat) (r : RegRow) (v : Word) : Dev :=
  if r.rw ||| r.w1c == 0 then d
  else setActW (if r.tv == 0 then d else tvTaken d off false) off (((actW d off &&& ~~~ r.rw) ||| (v &&& r.rw)) &&& ~~~ (v &&& r.w1c))

/-- The shadow after a write by kinds. -/
def shadowTaken (d : Dev) (off : Nat) (r : RegRow) (v : Word) : Dev := if r.sh == 0 then d else shadowWrite d off v

/-- A write of a word that is not write-once: the active word, the shadow, the gate. -/
theorem storeWord_eq (d : Dev) (off : Nat) {r : RegRow} (v : Word) (h : r.wo1 = 0) :
    storeWord d off r v = touchConfig (shadowTaken (activeTaken d off r v) off r v) off r := by
  simp only [storeWord, h, beq_self_eq_true, Bool.not_true, Bool.false_eq_true, if_false]
  rfl

theorem kindWord_of_none {r : RegRow} (h : r.rw ||| r.w1c = 0) (old v : Word) : kindWord r old v = old := by
  obtain ⟨h1, h2⟩ := BitVec.or_eq_zero_iff.1 h
  rw [kindWord, h1, h2, BitVec.and_zero, BitVec.or_zero]
  exact (BitVec.and_allOnes ▸ BitVec.and_allOnes : (old &&& BitVec.allOnes 32) &&& BitVec.allOnes 32 = old)

/-- A write of active bits changes the word by the kinds, and beside it at most the copies of voted words. -/
theorem activeTaken_frame (d : Dev) (off : Nat) (r : RegRow) (v : Word) :
    actW (activeTaken d off r v) off = kindWord r (actW d off) v ∧ (∀ o, o ≠ off → actW (activeTaken d off r v) o = actW d o) ∧
    { activeTaken d off r v with hub := { (activeTaken d off r v).hub with act := d.hub.act, tv := d.hub.tv } } = d := by
  unfold activeTaken
  split
  · next h => exact ⟨(kindWord_of_none (by simpa using h) _ _).symm, fun _ _ => rfl, rfl⟩
  · refine ⟨actW_setActW_same .., fun o ho => ?_, ?_⟩
    · rw [actW_setActW_ne _ _ ho]
      split <;> rfl
    · split <;> rfl

/-- A write of shadow bits sets PEND of its page, and changes beside the shadow at most the copies of voted words. -/
theorem shadowTaken_frame {d : Dev} {off : Nat} {r : RegRow} (v : Word) (hr : regRow? off = some r) :
    (∀ o, shdW (shadowTaken d off r v) o = if o = off ∧ r.sh ≠ 0 then v &&& r.sh else shdW d o) ∧
    (hdrOf (shadowTaken d off r v) (pageOf off)).pend = ((hdrOf d (pageOf off)).pend || !(r.sh == 0)) ∧
    (∀ p, p ≠ pageOf off → hdrOf (shadowTaken d off r v) p = hdrOf d p) ∧
    { shadowTaken d off r v with hub := { (shadowTaken d off r v).hub with shd := d.hub.shd, hdr := d.hub.hdr, tv := d.hub.tv } } = d := by
  unfold shadowTaken
  split
  · next h =>
    have hsh : ¬ r.sh ≠ 0 := fun c => c (eq_of_beq h)
    exact ⟨fun o => by rw [if_neg fun c => hsh c.2], by rw [h, Bool.not_true, Bool.or_false], fun _ _ => rfl, rfl⟩
  · next h =>
    have hsh : r.sh ≠ 0 := fun c => h (beq_iff_eq.2 c)
    refine ⟨fun o => ?_, ?_, fun p hp => ?_, ?_⟩
    · have hs : shdW (shadowWrite d off v) o = if o = off then v &&& shMask off else shdW (if tvMask off == 0 then d else tvTaken d off true) o :=
        shdW_setShdW ..
      rw [hs, shMask_of_regRow hr]
      simp only [hsh, ne_eq, not_false_eq_true, and_true]
      split
      · rfl
      · split <;> rfl
    · rw [shadowWrite, hdrOf_setHdr_same]
      rw [beq_eq_false_iff_ne.2 hsh, Bool.not_false, Bool.or_true]
    · rw [shadowWrite, hdrOf_setHdr_ne _ _ hp, hdrOf_setShdW]
      split <;> rfl
    · unfold shadowWrite
      split <;> rfl

/-! ### The word that a write names -/

theorem writeWord_row {d : Dev} {port off : Nat} {r : RegRow} (v : Word) (hr : regRow? off = some r) :
    writeWord d port off v = if writablePair r then pairWrite d port off r v else oneWrite d port off r v := by
  simp only [writeWord, inPage_of_regRow hr, if_false, hr]

/-- A word with no action of its own is written by its kinds alone. -/
theorem oneWrite_plain {d : Dev} {port off : Nat} (r : RegRow) (v : Word) (ha : acting off = false) (h4 : off % 4 = 0) :
    oneWrite d port off r v = storeWord d off r v := by
  simp only [acting, Bool.or_eq_false_iff, Bool.and_eq_false_iff, decide_eq_false_iff_not, beq_eq_false_iff_ne, List.contains_eq_mem,
    List.mem_cons, List.not_mem_nil, or_false, not_or] at ha
  obtain ⟨⟨hl, hc⟩, hm⟩ := ha
  have hlow : actLow d (storeWord d off r v) port off v = none := by
    have hpwd : (decide (0xC068 ≤ off) && decide (off ≤ 0xC074)) = false := by
      simp only [Bool.and_eq_false_iff, decide_eq_false_iff_not]
      omega
    simp only [actLow, hl, hpwd, beq_iff_eq, Bool.or_eq_true, or_self, if_false, Bool.false_eq_true]
  have hhigh : actHigh d (storeWord d off r v) off v = none := by
    have hchn : (decide (0x30 ≤ pageOf off) && decide (pageOf off ≤ 0x6F) && inPage off == 0x58) = false := by
      simp only [Bool.and_eq_false_iff, decide_eq_false_iff_not, beq_eq_false_iff_ne]
      exact hc
    simp only [actHigh, hl, hchn, beq_iff_eq, if_false, Bool.false_eq_true]
    rcases hm with hp | hs
    · rw [if_neg (by simp only [Bool.and_eq_true, decide_eq_true_eq]; omega)]
    · simp only [hs, if_false, ite_self]
  rw [oneWrite]
  cases (decide (off < 0x12000) || pageOf off == 0x13) with
  | true => exact congrArg (Option.getD · (storeWord d off r v)) hlow
  | false => exact congrArg (Option.getD · (storeWord d off r v)) hhigh

/-- Settles O10: a served write is `writeWord`; each row is the write of its register by definition. -/
theorem rowsAreRegisterWrites : Obligations.RowsAreRegisterWrites := by
  refine ⟨fun s port off v h => ?_, fun s port v => ?_⟩
  · exact gives_of_row (exec_regWrite s port off v h.2.1 h.2.2.1) rfl h rfl
  · have row {off : Nat} (h : off % 4 = 0) (h' : off < 0x100000) : exec (.regWrite (.bar0 port off) v) s = hubRow true (writeReq port off v) s :=
      exec_regWrite s port off v h h'
    have hdmc (ch o : Nat) (hc : ch < 32) (ho : o ∈ [0, 0x14]) : dmcOff ch o % 4 = 0 ∧ dmcOff ch o < 0x100000 := by
      simp only [List.mem_cons, List.not_mem_nil, or_false] at ho
      unfold dmcOff
      omega
    have fits {off : Nat} {f : Bool} (hf : f = true) (h : off % 4 = 0) (h' : off < 0x100000) :
        hubRow f (writeReq port off v) s = exec (.regWrite (.bar0 port off) v) s := by rw [row h h', hf]
    refine ⟨fits rfl (by decide) (by decide), fits rfl (by decide) (by decide), fits rfl (by decide) (by decide), fits rfl (by decide) (by decide),
      fits rfl (by decide) (by decide), fun page hp => ⟨fits (decide_eq_true hp) (by omega) (by omega), fits (decide_eq_true hp) (by omega) (by omega)⟩,
      fun hb => ⟨fits hb (by decide) (by decide), fits hb (by decide) (by decide), fits hb (by decide) (by decide)⟩, fun ch hc => ⟨?_, fun hb => ?_⟩⟩
    · obtain ⟨h4, hlt⟩ := hdmc ch 0x14 hc (by decide)
      exact fits (decide_eq_true hc) h4 hlt
    · obtain ⟨h4, hlt⟩ := hdmc ch 0 hc (by decide)
      exact fits (by rw [hb, decide_eq_true hc]; rfl) h4 hlt

end Sys2Proof.Machine
end

section
/-!
PROOFS. Plain writes, reserved bits, 64-bit pairs, the window of aliased bits, the write-once word and the event words of the headers (R45 to R72).
-/
namespace Sys2Proof.Machine

/-! ### Plain writes (R50) -/

theorem ne_gate_of_not_acting {off : Nat} (h : acting off = false) : off ≠ 0x1040 := by
  rintro rfl
  exact absurd h (by decide)

theorem shadowTaken_act (d : Dev) (off : Nat) (r : RegRow) (v : Word) (o : Nat) : actW (shadowTaken d off r v) o = actW d o := by
  unfold shadowTaken
  split
  · rfl
  · unfold shadowWrite
    split <;> rfl

/-- Before the gate follows, a write changes active words other than its own nowhere. -/
theorem actW_taken_ne (d : Dev) {off o : Nat} (r : RegRow) (v : Word) (h : o ≠ off) :
    actW (shadowTaken (activeTaken d off r v) off r v) o = actW d o :=
  (shadowTaken_act _ off r v o).trans ((activeTaken_frame d off r v).2.1 o h)

/-- Before the gate follows, a write changes the register stores alone. -/
theorem taken_others {d : Dev} {off : Nat} {r : RegRow} (v : Word) (hr : regRow? off = some r) :
    { shadowTaken (activeTaken d off r v) off r v with hub := d.hub } = d := by
  have ha := (activeTaken_frame d off r v).2.2
  have hs := (shadowTaken_frame (d := activeTaken d off r v) v hr).2.2.2
  generalize shadowTaken (activeTaken d off r v) off r v = x at hs ⊢
  generalize activeTaken d off r v = y at ha hs
  rw [← ha, ← hs]

theorem activeTaken_hdr (d : Dev) (off : Nat) (r : RegRow) (v : Word) (p : Nat) : hdrOf (activeTaken d off r v) p = hdrOf d p :=
  hdrOf_congr (congrArg (·.hub.hdr) (activeTaken_frame d off r v).2.2) p

theorem activeTaken_shd (d : Dev) (off : Nat) (r : RegRow) (v : Word) (o : Nat) : shdW (activeTaken d off r v) o = shdW d o :=
  shdW_congr (congrArg (·.hub.shd) (activeTaken_frame d off r v).2.2) o

theorem touchConfig_others (d : Dev) (off : Nat) (r : RegRow) :
    { touchConfig d off r with hub := { (touchConfig d off r).hub with act := d.hub.act } } = d := by
  by_cases h : gateMoves d off r
  · rw [touchConfig_moves h]; rfl
  · rw [touchConfig_stays h]

/-- The stage of the start is read-only: no configuration word holds it. -/
theorem imageMask_bootStage {r : RegRow} (hr : regRow? 0x144 = some r) : imageMask r = 0 := by
  have : ∀ x ∈ regRow? 0x144, imageMask x = 0 := by decide +kernel
  exact this r hr

/-- Settles O11: the active word, the shadow and the gate, one after the other. -/
theorem plainWriteByKinds : Obligations.PlainWriteByKinds := by
  intro s port off v r hw hr hpair hwo hact
  have hne := ne_gate_of_not_acting hact
  have hword : writeWord s.dev port off v = storeWord s.dev off r v := by
    rw [writeWord_row v hr, hpair, if_neg Bool.false_ne_true, oneWrite_plain r v hact hw.2.1]
  refine gives_of_row (exec_regWrite s port off v hw.2.1 hw.2.2.1) rfl hw ?_
  rw [hword, storeWord_eq _ _ v hwo]
  obtain ⟨hown, -, -⟩ := activeTaken_frame s.dev off r v
  obtain ⟨hshd, hpend, hhdr, -⟩ := shadowTaken_frame (d := activeTaken s.dev off r v) v hr
  have hgate (o : Nat) (ho : o ≠ off) := actW_taken_ne s.dev r v ho
  have hoth := taken_others (d := s.dev) v hr
  have hact0 (o : Nat) := shadowTaken_act (activeTaken s.dev off r v) off r v o
  generalize shadowTaken (activeTaken s.dev off r v) off r v = x at *
  have hrd : rd x F.CFG_GATE_STATE = rd s.dev F.CFG_GATE_STATE := rd_congr _ (hgate 0x1040 hne.symm)
  have htc := ChangesOnly.touchConfig x off r
  have htw (o : Nat) (ho : o ≠ 0x1040) : actW (touchConfig x off r) o = actW x o := htc.words o (by simpa using ho)
  have hth (p : Nat) : hdrOf (touchConfig x off r) p = hdrOf x p := htc.heads p (by simp)
  have hto := touchConfig_others x off r
  have hsys : x.sys = s.dev.sys := congrArg (·.sys) hoth
  refine ⟨?_, fun o ho hg => ?_, fun o => ?_, ?_, fun p hp => ?_, fun hst => ?_, fun hst hip him hoff hte hbs => ?_,
    (congrArg (·.med) hto).trans (congrArg (·.med) hoth), (congrArg (·.keys) hto).trans (congrArg (·.keys) hoth),
    (congrArg (·.seats) hto).trans (congrArg (·.seats) hoth), (congrArg (·.cmds) hto).trans (congrArg (·.cmds) hoth),
    (congrArg (·.sys) hto).trans hsys, (congrArg (·.log) hto).trans (congrArg (·.log) hoth), (congrArg (·.out) hto).trans (congrArg (·.out) hoth)⟩
  · rw [htw off hne, hact0, hown]
  · rw [htw o hg, hgate o ho]
  · have htshd : (touchConfig x off r).hub.shd = x.hub.shd := congrArg (·.hub.shd) hto
    rw [shdW_congr htshd, hshd, activeTaken_shd]
  · rw [hth, hpend, activeTaken_hdr]
  · rw [hth, hhdr p hp, activeTaken_hdr]
  · rw [touchConfig_stays fun hm => hst (hrd ▸ hm.2.2.2.1), hrd]
  · have hoff144 : off ≠ 0x144 := by
      rintro rfl
      exact him (imageMask_bootStage hr)
    have hstage : rd x F.GLB_BOOT_STAGE = rd s.dev F.GLB_BOOT_STAGE := rd_congr _ (hgate 0x144 hoff144.symm)
    have hmoves : gateMoves x off r := ⟨hip, him, hoff, hrd ▸ hst, hstage ▸ hbs, hsys ▸ hte⟩
    rw [touchConfig_moves hmoves]
    exact rd_wr_same x F.CFG_GATE_STATE 1 (by decide)

/-! ### Reserved bits (R70) -/

theorem badWrite_dirty {d : Dev} {port off : Nat} {v : Word} (hc : hubCause d (writeReq port off v) = none) (h : ¬ Clean off v) :
    badWrite d (writeReq port off v) = true := by
  unfold badWrite
  rw [hc]
  show (!(v &&& ~~~ knownMask off == 0)) = true
  rw [Bool.not_eq_true', beq_eq_false_iff_ne]
  exact h

/-- Settles O12: the write reaches the hub, which refuses it. -/
theorem reservedBitWriteRefused : Obligations.ReservedBitWriteRefused := by
  intro s port off v hh h4 hlt hi ha hd
  obtain ⟨hport, hbar, -⟩ := hh
  have hc : hubCause s.dev (writeReq port off v) = none := hubCause_none rfl hlt hi (.inr ha)
  have hreach : (!(true && decide ((writeReq port off v).port < 2) && barOk s.dev (mgmtFn (writeReq port off v).port))) = false := by
    show (!(true && decide (port < 2) && barOk s.dev (mgmtFn port))) = false
    rw [hbar, decide_eq_true hport]
    rfl
  rw [exec_regWrite s port off v h4 hlt, hubRow, hreach, if_neg Bool.false_ne_true, badWrite_dirty hc hd, if_pos rfl]

/-! ### 64-bit pairs (R51) -/

theorem pairWrite_lo (d : Dev) (port off : Nat) {r : RegRow} (v : Word) (h : r.pair = 1) :
    pairWrite d port off r v = { d with hub := { d.hub with held := SMap.set d.hub.held (2 * off + port) v } } := by
  rw [pairWrite, h]; rfl

/-- The device without the held half of a pair. -/
def dropHeld (d : Dev) (lo port : Nat) : Dev := { d with hub := { d.hub with held := SMap.erase d.hub.held (2 * lo + port) } }

theorem pairWrite_hi {d : Dev} {port lo : Nat} {rl r : RegRow} (w v : Word) (hl : regRow? lo = some rl) (h : r.pair = 2)
    (hheld : SMap.get? d.hub.held (2 * lo + port) = some w) :
    pairWrite d port (lo + 4) r v = pairTaken (storeWord (storeWord (dropHeld d lo port) lo rl w) (lo + 4) r v) (lo + 4) := by
  rw [pairWrite, h, if_neg (by decide), Nat.add_sub_cancel]
  dsimp only
  rw [hl, hheld]
  rfl

/-- Words that a map look-up writes: MAP_QENT and MAP_QFINE (R261). -/
def lookupWords : List Nat := [0x20068, 0x2006C, 0x20070, 0x20074]

theorem ChangesOnly.mapLookup (d : Dev) : ChangesOnly lookupWords [] d (mapLookup d) :=
  (ChangesOnly.wr64 d F.MAP_QENT _).trans (ChangesOnly.wr64 _ F.MAP_QFINE _)

theorem pairTaken_frame (d : Dev) (hi : Nat) : ChangesOnly lookupWords [] d (pairTaken d hi) := by
  unfold pairTaken
  split
  · exact ChangesOnly.mapLookup d
  · exact .refl ..

theorem storeWord_others {d : Dev} {off : Nat} {r : RegRow} (v : Word) (hr : regRow? off = some r) (hwo : r.wo1 = 0) :
    (storeWord d off r v).hub.held = d.hub.held := by
  rw [storeWord_eq d off v hwo]
  have h1 : (touchConfig (shadowTaken (activeTaken d off r v) off r v) off r).hub.held = (shadowTaken (activeTaken d off r v) off r v).hub.held :=
    congrArg (·.hub.held) (touchConfig_others _ off r)
  have h2 : (shadowTaken (activeTaken d off r v) off r v).hub.held = (activeTaken d off r v).hub.held :=
    congrArg (·.hub.held) (shadowTaken_frame (d := activeTaken d off r v) v hr).2.2.2
  have h3 : (activeTaken d off r v).hub.held = d.hub.held := congrArg (·.hub.held) (activeTaken_frame d off r v).2.2
  rw [h1, h2, h3]

/-- A write of a word moves the gate at most, beside its own word. -/
theorem actW_storeWord_ne {d : Dev} {off o : Nat} {r : RegRow} (v : Word) (hwo : r.wo1 = 0) (h : o ≠ off) (hg : o ≠ 0x1040) :
    actW (storeWord d off r v) o = actW d o := by
  rw [storeWord_eq d off v hwo, (ChangesOnly.touchConfig _ off r).words o (by simpa using hg), actW_taken_ne d r v h]

theorem actW_storeWord_same {d : Dev} {off : Nat} {r : RegRow} (v : Word) (hwo : r.wo1 = 0) (hg : off ≠ 0x1040) :
    actW (storeWord d off r v) off = kindWord r (actW d off) v := by
  rw [storeWord_eq d off v hwo, (ChangesOnly.touchConfig _ off r).words off (by simpa using hg), shadowTaken_act, (activeTaken_frame d off r v).1]

theorem shdW_storeWord {d : Dev} {off : Nat} {r : RegRow} (v : Word) (hr : regRow? off = some r) (hwo : r.wo1 = 0) (o : Nat) :
    shdW (storeWord d off r v) o = if o = off ∧ r.sh ≠ 0 then v &&& r.sh else shdW d o := by
  have ht : (touchConfig (shadowTaken (activeTaken d off r v) off r v) off r).hub.shd = (shadowTaken (activeTaken d off r v) off r v).hub.shd :=
    congrArg (·.hub.shd) (touchConfig_others _ off r)
  rw [storeWord_eq d off v hwo, shdW_congr ht, (shadowTaken_frame (d := activeTaken d off r v) v hr).1, activeTaken_shd]

theorem pend_storeWord {d : Dev} {off : Nat} {r : RegRow} (v : Word) (hr : regRow? off = some r) (hwo : r.wo1 = 0) :
    (hdrOf (storeWord d off r v) (pageOf off)).pend = ((hdrOf d (pageOf off)).pend || !(r.sh == 0)) := by
  rw [storeWord_eq d off v hwo, (ChangesOnly.touchConfig _ off r).heads _ (by simp), (shadowTaken_frame (d := activeTaken d off r v) v hr).2.1,
    activeTaken_hdr]

/-- CFG_GATE and the words of a look-up are no halves of writable pairs. -/
theorem pairWord_apart {off : Nat} {r : RegRow} (hr : regRow? off = some r) (h : writablePair r = true) : off ∉ 0x1040 :: lookupWords := by
  intro hm
  have : ∀ o ∈ 0x1040 :: lookupWords, ∀ x ∈ regRow? o, writablePair x = false := by decide +kernel
  exact absurd h (by rw [this off hm r hr]; decide)

theorem hubRead_plain {d : Dev} {port off : Nat} {r : RegRow} (hr : regRow? off = some r) (htv : r.tv = 0)
    (hs : off ∉ [0x1E080, 0xC064, 0x7304C]) :
    hubRead d port off = if r.pair == 0 then (readWord d off, d) else pairRead d port off r.pair := by
  have hv : voteAt d off = d := by rw [voteAt, tvMask_of_regRow hr, htv]; rfl
  simp only [List.mem_cons, List.not_mem_nil, or_false, not_or] at hs
  simp only [hubRead, hv, beq_iff_eq, hs, if_false, hr]

/-- The words that a read acts on are no halves of pairs. -/
theorem pairWord_reads {off : Nat} {r : RegRow} (hr : regRow? off = some r) (h : r.pair ≠ 0) : off ∉ [0x1E080, 0xC064, 0x7304C] := by
  intro hm
  have : ∀ o ∈ [0x1E080, 0xC064, 0x7304C], ∀ x ∈ regRow? o, x.pair = 0 := by decide +kernel
  exact h (this off hm r hr)

theorem gives_pairLoRead {s : State} {port off : Nat} {P : Dev → Prop} (hh : HostAt s port) (h4 : off % 4 = 0) (hlt : off < 0x100000)
    (hi : implemented (pageOf off) = true) (ha : answers s.dev (pageOf off) = true)
    (hp : P (emit (hubRead s.dev port off).2 (.reg port (hubRead s.dev port off).1))) : Gives (.pairLoRead port off) s P :=
  ⟨_, (exec_pairLoRead s port off h4 hlt).trans (hubRow_read hh hlt hi (.inr ha)), hp⟩

/-- Settles O13: the held half and the two stores of a write; the latch of a read. -/
theorem pairsHeldAndLatched : Obligations.PairsHeldAndLatched := by
  refine ⟨fun s port lo v w r rl hl hr hpl hpr hwl hwr hol hor => ⟨fun hw => ?_, fun hw hheld => ?_⟩, fun s port lo rl r hh h4 hlt hin hi ha hl hpl hr hpr hpg => ?_⟩
  · refine gives_of_row (exec_regWrite s port lo w hw.2.1 hw.2.2.1) rfl hw ?_
    rw [writeWord_row w hl, hwl, if_pos rfl, pairWrite_lo _ _ _ _ hpl]
    exact ⟨fun _ => rfl, fun _ => rfl, SMap.get?_set_same ..⟩
  · refine gives_of_row (exec_regWrite s port (lo + 4) v hw.2.1 hw.2.2.1) rfl hw ?_
    rw [writeWord_row v hr, hwr, if_pos rfl, pairWrite_hi w v hl hpr hheld]
    have hal := pairWord_apart hl hwl
    have hah := pairWord_apart hr hwr
    rw [List.mem_cons, not_or] at hal hah
    generalize hd1 : storeWord (dropHeld s.dev lo port) lo rl w = d1
    have hpt := pairTaken_frame (storeWord d1 (lo + 4) r v) (lo + 4)
    have hpo := hpt.others
    refine ⟨fun _ _ _ _ _ _ => ⟨?_, ?_⟩, fun hsl hsh => ⟨?_, ?_, ?_⟩, ?_⟩
    · rw [hpt.words lo (hal.2), actW_storeWord_ne v hor (by omega) hal.1, ← hd1, actW_storeWord_same w hol hal.1]
      rfl
    · rw [hpt.words (lo + 4) (hah.2), actW_storeWord_same v hor hah.1, ← hd1, actW_storeWord_ne w hol (by omega) hah.1]
      rfl
    · have : (pairTaken (storeWord d1 (lo + 4) r v) (lo + 4)).hub.shd = (storeWord d1 (lo + 4) r v).hub.shd := congrArg (·.hub.shd) hpo
      rw [shdW_congr this, shdW_storeWord v hr hor, if_neg (by omega), ← hd1, shdW_storeWord w hl hol, if_pos ⟨rfl, hsl⟩]
    · have : (pairTaken (storeWord d1 (lo + 4) r v) (lo + 4)).hub.shd = (storeWord d1 (lo + 4) r v).hub.shd := congrArg (·.hub.shd) hpo
      rw [shdW_congr this, shdW_storeWord v hr hor, if_pos ⟨rfl, hsh⟩]
    · rw [hpt.heads _ (by simp), pend_storeWord v hr hor, beq_eq_false_iff_ne.2 hsh, Bool.not_false, Bool.or_true]
    · have : (pairTaken (storeWord d1 (lo + 4) r v) (lo + 4)).hub.held = (storeWord d1 (lo + 4) r v).hub.held := congrArg (·.hub.held) hpo
      rw [this, storeWord_others v hr hor, ← hd1, storeWord_others w hl hol]
      exact SMap.get?_erase_same ..
  · have hp0 : rl.pair ≠ 0 := by omega
    have hp1 : r.pair ≠ 0 := by omega
    have hlo : hubRead s.dev port lo = pairRead s.dev port lo 1 := by
      rw [hubRead_plain hl (tv_of_pair hl hp0) (pairWord_reads hl hp0), hpl]; rfl
    have hhi : hubRead s.dev port (lo + 4) = pairRead s.dev port (lo + 4) 2 := by
      rw [hubRead_plain hr (tv_of_pair hr hp1) (pairWord_reads hr hp1), hpr]; rfl
    refine ⟨gives_pairLoRead hh h4 (by omega) hi ha ?_, fun w hw => gives_pairLoRead hh (by omega) hlt (hpg ▸ hi) (hpg ▸ ha) ?_⟩
    · rw [hlo]
      exact ⟨rfl, SMap.get?_set_same .., fun _ => rfl⟩
    · rw [hhi]
      have : pairRead s.dev port (lo + 4) 2 = (w, s.dev) := by
        rw [pairRead, if_neg (by decide), hw]
        dsimp only
        rw [if_pos (beq_self_eq_true _)]
      rw [this]

end Sys2Proof.Machine
end

section
/-!
PROOFS. The window of aliased bits (R64, R65), the write-once word (R71, R72), the event words of a header (R45 to R48), and the order of the
accesses that waited (R66).
-/
namespace Sys2Proof.Machine

/-! ### The window of aliased bits -/

theorem aliasOff_lt {addr : Nat} (h : addr < 0x4000000) : aliasOff addr < 0x100000 := by unfold aliasOff; omega

theorem aliasOff_aligned (addr : Nat) : aliasOff addr % 4 = 0 := by unfold aliasOff; omega

theorem aliasBit_lt (addr : Nat) : aliasBit addr < 32 := Nat.mod_lt _ (by decide)

/-- The request of an aliased access. -/
def bitReq (port off b : Nat) (w : Option Word) : HubReq := ⟨port, off, w, some b, true⟩

theorem exec_aliasAccess (s : State) (port : Nat) {addr : Nat} (w : Option Word) (h4 : addr % 4 = 0) (hlo : 0x2000000 ≤ addr)
    (hhi : addr < 0x4000000) : exec (.aliasAccess port addr w) s = hubRow true (bitReq port (aliasOff addr) (aliasBit addr) w) s := by
  have hfit : (addr % 4 == 0 && decide (0x2000000 ≤ addr) && decide (addr < 0x4000000)) = true := by
    rw [h4, decide_eq_true hlo, decide_eq_true hhi]; rfl
  exact congrArg (hubRow · _ s) hfit

/-- An access of one bit that neither stalls nor sets a reserved bit is served. -/
theorem gives_bitReq {c : Instr} {s : State} {port off b : Nat} {w : Option Word} {P : Dev → Prop} (hc : exec c s = hubRow true (bitReq port off b w) s)
    (hh : HostAt s port) (hb : badWrite s.dev (bitReq port off b w) = false) (hst : hubStall s.dev (bitReq port off b w) = false)
    (hp : P (hubServe s.dev (bitReq port off b w))) : Gives c s P := by
  obtain ⟨h0, h1, hs⟩ := hh
  exact ⟨_, hc.trans (hubRow_serve h0 h1 hs hb hst), hp⟩

theorem word_and_zero (w : Word) : w &&& 0 = 0 := BitVec.and_zero
theorem word_zero_and (w : Word) : 0 &&& w = 0 := BitVec.zero_and
theorem word_or_zero (w : Word) : w ||| 0 = w := BitVec.or_zero

theorem bitOf_or (a b : Word) (i : Nat) : bitOf (a ||| b).toNat i = (bitOf a.toNat i || bitOf b.toNat i) := by
  rw [bitOf_eq, bitOf_eq, bitOf_eq, BitVec.toNat_or, Nat.testBit_or]

theorem bitOf_zero (i : Nat) : bitOf (0 : Word).toNat i = false := by
  rw [bitOf_eq]; exact Nat.zero_testBit i

/-- A bit of the read-write field is no reserved bit. -/
theorem bitOf_rowMask {r : RegRow} {b : Nat} (h : bitOf r.rw.toNat b = true) : bitOf (rowMask r).toNat b = true := by
  simp only [rowMask, bitOf_or, h, Bool.true_or]

/-- Each bit after a write of one bit of a word of read-write fields. -/
theorem bitOf_kindWord_withBit {r : RegRow} {old : Word} {b i : Nat} (one : Bool) (hw1c : r.w1c = 0) (hrw : bitOf r.rw.toNat b = true) (hi : i < 32) :
    bitOf (kindWord r old (withBit (old &&& r.rw) b one)).toNat i = if i = b then one else bitOf old.toNat i := by
  rw [bitOf_eq] at hrw
  have hb : (withBit (old &&& r.rw) b one).toNat.testBit i = if i = b then one else old.toNat.testBit i && r.rw.toNat.testBit i := by
    rw [withBit, testBit_putBits _ _ _ _ _ hi]
    have hc : (b ≤ i ∧ i < b + 1) ↔ i = b := by omega
    simp only [hc]
    split
    · next h => subst h; cases one <;> simp [b2n]
    · rw [BitVec.toNat_and, Nat.testBit_and]
  rw [bitOf_eq, bitOf_eq, BitVec.testBit_toNat, kindWord, hw1c]
  simp only [BitVec.testBit_toNat] at hb hrw
  simp only [word_and_zero, BitVec.getLsbD_and, BitVec.getLsbD_or, BitVec.getLsbD_not, hi, decide_true, Bool.true_and, hb, BitVec.testBit_toNat]
  rw [show (0 : Word).getLsbD i = false from BitVec.getLsbD_zero]
  split
  · next h => subst h; simp [hrw]
  · cases old.getLsbD i <;> cases r.rw.getLsbD i <;> rfl

/-- A word of read-write fields alone is stored whole, and nothing else changes. -/
theorem storeWord_plain {d : Dev} {off : Nat} {r : RegRow} (v : Word) (hsh : r.sh = 0) (htv : r.tv = 0) (hwo : r.wo1 = 0) :
    ChangesOnly [off] [] d (storeWord d off r v) ∧ actW (storeWord d off r v) off = kindWord r (actW d off) v := by
  have him : imageMask r = 0 := by rw [imageMask, hsh, htv, word_or_zero, word_zero_and]
  have hs : storeWord d off r v = activeTaken d off r v := by
    rw [storeWord_eq d off v hwo, shadowTaken, hsh, if_pos (beq_self_eq_true _)]
    exact touchConfig_stays fun h => h.2.1 him
  rw [hs]
  refine ⟨?_, (activeTaken_frame d off r v).1⟩
  unfold activeTaken
  split
  · exact .refl ..
  · rw [htv, if_pos (beq_self_eq_true _)]
    exact ChangesOnly.setActW d off _

/-- An aliased write of a read-write bit of a word that is no half of a pair stores the word with that bit. -/
theorem aliasWrite_plain {d : Dev} {port off b : Nat} {r : RegRow} (one : Bool) (hr : regRow? off = some r) (h4 : off % 4 = 0) (hp : r.pair = 0)
    (ha : acting off = false) (htv : r.tv = 0) (hro : r.ro = 0) (hw1c : r.w1c = 0) (hw1s : r.w1s = 0) (hwo : r.wo1 = 0) (hsh : r.sh = 0)
    (hrw : bitOf r.rw.toNat b = true) :
    aliasWrite d port off b one = storeWord d off r (withBit (actW d off &&& r.rw) b one) := by
  have hv : voteAt d off = d := by rw [voteAt, tvMask_of_regRow hr, htv]; rfl
  have hmov : (decide (0x79 ≤ pageOf off) && decide (pageOf off ≤ 0x7C) && (inPage off - 0x40) % 0x80 == 0) = false := by
    have ha' := ha
    simp only [acting, Bool.or_eq_false_iff, Bool.and_eq_false_iff, decide_eq_false_iff_not, beq_eq_false_iff_ne, List.contains_eq_mem,
      List.mem_cons, List.not_mem_nil, or_false, not_or] at ha'
    simp only [Bool.and_eq_false_iff, decide_eq_false_iff_not, beq_eq_false_iff_ne]
    exact ha'.2.imp_right And.left
  have hpair : writablePair r = false := by rw [writablePair, hp]; rfl
  have hstand : standing d off r = actW d off &&& r.rw := by
    have hc : (off == 0xC064) = false := beq_eq_false_iff_ne.2 fun h => absurd ha (by rw [h]; decide)
    rw [standing, hc, if_neg Bool.false_ne_true, hwo, hsh, word_and_zero (shdW d off), word_or_zero]; rfl
  unfold aliasWrite
  dsimp only
  rw [hv, if_neg (inPage_of_regRow hr), hr]
  dsimp only
  rw [hro, bitOf_zero, bitOf_rowMask hrw, hw1c, hw1s, word_or_zero, bitOf_zero, hmov, hpair, hstand, oneWrite_plain r _ ha h4]
  rfl

/-- An aliased read returns a bit of the word; a vote on it is taken first (R60). -/
theorem hubServe_bitRead {d : Dev} {port off b : Nat} {r : RegRow} (hc : hubCause d (bitReq port off b none) = none)
    (hr : regRow? off = some r) (hp : r.pair = 0) (hspec : off ∉ [0x1E080, 0xC064, 0x7304C]) :
    hubServe d (bitReq port off b none) =
      emit (voteAt d off) (.reg port (BitVec.ofNat 32 (bitsOf (readWord (voteAt d off) off).toNat b 1))) := by
  have hread : hubRead d port off = (readWord (voteAt d off) off, voteAt d off) := by
    simp only [List.mem_cons, List.not_mem_nil, or_false, not_or] at hspec
    simp only [hubRead, beq_iff_eq, hspec, if_false, hr, hp, if_true]
  unfold hubServe
  rw [hc]
  dsimp only [bitReq]
  rw [hread]

theorem hubServe_bitWrite {d : Dev} {port off b : Nat} {v : Word} (hc : hubCause d (bitReq port off b (some v)) = none) :
    hubServe d (bitReq port off b (some v)) = aliasWrite d port off b (bitOf v.toNat 0) := by
  unfold hubServe
  rw [hc]
  rfl

theorem badWrite_bitWrite {d : Dev} {port off b : Nat} {v : Word} {r : RegRow} (hr : regRow? off = some r)
    (hrw : bitOf r.rw.toNat b = true) : badWrite d (bitReq port off b (some v)) = false := by
  have hk : knownMask off = rowMask r := by rw [knownMask, if_neg (inPage_of_regRow hr), hr]; rfl
  unfold badWrite
  split
  · next h => cases h
  · next h h' =>
    cases h'
    dsimp only [bitReq]
    rw [hk, bitOf_rowMask hrw, Bool.not_true, Bool.and_false]
  · rfl

theorem hubStall_bitReq {d : Dev} {port off b : Nat} {w : Option Word} (h : (hdrOf d (pageOf off)).cbusy = false) :
    hubStall d (bitReq port off b w) = false := by
  unfold hubStall
  split
  · dsimp only [bitReq]
    rw [h, Bool.and_false, Bool.false_and]
  · rfl

section
variable {c : Instr} {s : State} {port off b : Nat} {r : RegRow} (hh : HostAt s port) (h4 : off % 4 = 0) (hlt : off < 0x100000)
  (hi : implemented (pageOf off) = true) (hopen : Open s off) (hr : regRow? off = some r) (hp : r.pair = 0) (ha : acting off = false)
include hh h4 hlt hi hopen hr hp ha

omit h4 in
/-- A read of one bit of a word with no action of its own. -/
theorem gives_bitRead (hc : exec c s = hubRow true (bitReq port off b none) s) (hact : off ∉ [0x1E080, 0x7304C]) :
    Gives c s (fun d => d = emit (voteAt s.dev off) (.reg port (BitVec.ofNat 32 (bitsOf (readWord (voteAt s.dev off) off).toNat b 1)))) := by
  have hcause : hubCause s.dev (bitReq port off b none) = none := hubCause_none rfl hlt hi (.inr hopen.1)
  have hc064 : off ≠ 0xC064 := fun h => absurd ha (by rw [h]; decide)
  refine gives_bitReq hc hh (badWrite_value_none _ rfl) (hubStall_bitReq hopen.2) (hubServe_bitRead hcause hr hp ?_)
  simp only [List.mem_cons, List.not_mem_nil, or_false, not_or] at hact ⊢
  exact ⟨hact.1, hc064, hact.2⟩

/-- A write of one bit of a word of read-write fields with no action of its own. -/
theorem gives_bitWrite {v : Word} (hc : exec c s = hubRow true (bitReq port off b (some v)) s) (hsh : r.sh = 0) (htv : r.tv = 0)
    (hro : r.ro = 0) (hw1c : r.w1c = 0) (hw1s : r.w1s = 0) (hwo : r.wo1 = 0) (hrw : bitOf r.rw.toNat b = true) :
    Gives c s (fun d => ChangesOnly [off] [] s.dev d ∧
      ∀ i, i < 32 → bitOf (actW d off).toNat i = if i = b then bitOf v.toNat 0 else bitOf (actW s.dev off).toNat i) := by
  have hcause : hubCause s.dev (bitReq port off b (some v)) = none := hubCause_none rfl hlt hi (.inr hopen.1)
  refine gives_bitReq hc hh (badWrite_bitWrite hr hrw) (hubStall_bitReq hopen.2) ?_
  rw [hubServe_bitWrite hcause, aliasWrite_plain _ hr h4 hp ha htv hro hw1c hw1s hwo hsh hrw]
  obtain ⟨hframe, hword⟩ := storeWord_plain (d := s.dev) (off := off) (withBit (actW s.dev off &&& r.rw) b (bitOf v.toNat 0)) hsh htv hwo
  refine ⟨hframe, fun i hi => ?_⟩
  rw [hword, bitOf_kindWord_withBit _ hw1c hrw hi]

end

/-- Settles O14: the address, then the read and the write of one bit. -/
theorem aliasTouchesOneBit : Obligations.AliasTouchesOneBit := by
  refine ⟨fun off b h4 hlt hb => by unfold aliasOff aliasBit; omega, ?_⟩
  intro s port addr hh h4 hlo hhi off b hi _ hopen r hr hp ha hact
  have hex (w : Option Word) := exec_aliasAccess s port w h4 hlo hhi
  have hal := aliasOff_aligned addr
  have hlt := aliasOff_lt hhi
  exact ⟨gives_bitRead hh hlt hi hopen hr hp ha (hex none) hact,
    fun v hsh htv hro hw1c hw1s hwo hrw => gives_bitWrite hh hal hlt hi hopen hr hp ha (hex (some v)) hsh htv hro hw1c hw1s hwo hrw⟩

/-! ### The write-once word (R71, R72) -/

/-- The row of GLB_UPDLOCK. -/
def updlockRow : RegRow := ⟨0x160, 0, 0, 0, 1, 0, 0, 1, 0, 0⟩

theorem regRow_updlock : regRow? 0x160 = some updlockRow := by decide +kernel

/-- A write of GLB_UPDLOCK is a write-once write. -/
theorem writeWord_updlock (d : Dev) (port : Nat) (v : Word) : writeWord d port 0x160 v = writeOnce d 0x160 updlockRow v := by
  rw [writeWord_row v regRow_updlock, if_neg (by decide), oneWrite_plain _ _ (by decide) (by decide)]
  exact if_pos rfl

/-- Bit 0 of a word whose bit 0 takes that of a value. -/
theorem bitsOf_lowBit (w v : Word) : bitsOf ((w &&& ~~~ 1) ||| (v &&& 1)).toNat 0 1 = v.toNat % 2 := by
  have h : ((w &&& ~~~ (1 : Word)) ||| (v &&& 1)).toNat.testBit 0 = v.toNat.testBit 0 := by simp
  rw [Nat.testBit_zero, Nat.testBit_zero, decide_eq_decide] at h
  rw [bitsOf, Nat.pow_zero, Nat.div_one, Nat.pow_one]
  omega

/-- The first write of a write-once word stores its bits and marks the word taken; the gate may follow. -/
theorem writeOnce_first {d : Dev} (v : Word) (h : d.hub.woTaken.contains 0x160 = false) :
    rd (writeOnce d 0x160 updlockRow v) F.GLB_UPDLOCK_LOCK = v.toNat % 2 ∧
    (writeOnce d 0x160 updlockRow v).hub.woTaken.contains 0x160 = true ∧
    ∀ o, o ∉ [0x160, 0x1040] → actW (writeOnce d 0x160 updlockRow v) o = actW d o := by
  rw [writeOnce, h, if_neg Bool.false_ne_true]
  dsimp only
  generalize hx : setActW (tvTaken d 0x160 false) 0x160 ((actW d 0x160 &&& ~~~ updlockRow.wo1) ||| (v &&& updlockRow.wo1)) = x
  have hact (o : Nat) (ho : o ≠ 0x160) : actW x o = actW d o := by
    rw [← hx, actW_setActW_ne _ _ ho]; rfl
  have hword : actW x 0x160 = (actW d 0x160 &&& ~~~ 1) ||| (v &&& 1) := by rw [← hx, actW_setActW_same]; rfl
  have htc := ChangesOnly.touchConfig { x with hub := { x.hub with woTaken := nins 0x160 x.hub.woTaken } } 0x160 updlockRow
  have htaken := touchConfig_others { x with hub := { x.hub with woTaken := nins 0x160 x.hub.woTaken } } 0x160 updlockRow
  refine ⟨?_, ?_, fun o ho => ?_⟩
  · rw [rd_congr F.GLB_UPDLOCK_LOCK (htc.words 0x160 (by decide))]
    exact (congrArg (fun w : Word => bitsOf w.toNat 0 1) hword).trans (bitsOf_lowBit _ v)
  · have : (touchConfig { x with hub := { x.hub with woTaken := nins 0x160 x.hub.woTaken } } 0x160 updlockRow).hub.woTaken =
        nins 0x160 x.hub.woTaken := congrArg (·.hub.woTaken) htaken
    rw [this, List.contains_iff_mem, mem_nins]
    exact .inl rfl
  · simp only [List.mem_cons, List.not_mem_nil, or_false, not_or] at ho
    rw [htc.words o (by simpa using ho.2)]
    exact hact o ho.1

/-- A later write of a write-once word is recorded on its page, and WOV raised (R72). -/
theorem woViol_effect (d : Dev) : actW (woViol d 0x160) 0x160 = actW d 0x160 ∧ evtSet (woViol d 0x160) 0 0 = true ∧
    (hdrOf (woViol d 0x160) 0).woValid = true ∧ ((hdrOf d 0).woValid = false → (hdrOf (woViol d 0x160) 0).woWhere = 0x160) ∧
    ((hdrOf d 0).woValid = true → (hdrOf (woViol d 0x160) 0).woOver = true) ∧ RaisesOn 0 d (woViol d 0x160) := by
  have hp : pageOf 0x160 = 0 := by decide
  obtain ⟨raw, hh⟩ : ∃ raw, hdrOf (woViol d 0x160) 0 = { (if (hdrOf d 0).woValid then { hdrOf d 0 with woOver := true }
      else { hdrOf d 0 with woValid := true, woWhere := 0x160 }) with evtRaw := raw } := by
    rw [woViol, hp]
    dsimp only
    rw [hdrOf_raise_same _ 0 (by decide), hdrOf_setHdr_same]
    exact ⟨_, rfl⟩
  have hf : RaisesOn 0 d (woViol d 0x160) := by
    rw [woViol, hp]
    exact ((ChangesOnly.setHdr d 0 _).trans (ChangesOnly.raise _ 0 0)).mono (by simp) (by simp)
  refine ⟨hf.words 0x160 (by decide), ?_, ?_, fun h => ?_, fun h => ?_, hf⟩
  · rw [woViol, hp]
    exact evtSet_raise _ 0 0 (by decide) (by decide)
  · rw [hh]
    split
    · next h => exact h
    · rfl
  · rw [hh, h]; rfl
  · rw [hh, h]; rfl

/-- Settles O15: the first write, and a later one. -/
theorem writeOnceTakesFirstWrite : Obligations.WriteOnceTakesFirstWrite := by
  intro s port v hw
  have gives {P : Dev → Prop} (h : P (writeOnce s.dev 0x160 updlockRow v)) : Gives (.regWrite (.bar0 port 0x160) v) s P :=
    gives_of_row (exec_regWrite s port 0x160 v (by decide) (by decide)) rfl hw (by rw [writeWord_updlock]; exact h)
  refine ⟨fun h => gives (writeOnce_first v h), fun h => gives ?_⟩
  rw [writeOnce, h, if_pos rfl]
  exact woViol_effect s.dev

end Sys2Proof.Machine
end

section
/-!
PROOFS. Writes of the event words and of PAGE_CTRL of a page header (R45 to R48, R58), and the accesses that waited (R66).
-/
namespace Sys2Proof.Machine

/-! ### Folds over the numbers below a bound -/

theorem foldUpto_succ {α : Type} (n : Nat) (f : Nat → α → α) (a : α) : foldUpto (n + 1) f a = f n (foldUpto n f a) := by
  simp only [foldUpto, List.range_succ, List.foldl_append, List.foldl_cons, List.foldl_nil]

/-- A property that every step keeps holds after the fold. -/
theorem foldUpto_induct {α : Type} {P : α → Prop} {f : Nat → α → α} {a : α} (n : Nat) (h0 : P a) (h : ∀ i x, i < n → P x → P (f i x)) :
    P (foldUpto n f a) := by
  induction n with
  | zero => exact h0
  | succ n ih =>
    rw [foldUpto_succ]
    exact h n _ (Nat.lt_succ_self n) (ih fun i x hi => h i x (by omega))

/-- A property that every element's step keeps holds after a fold over a list. -/
theorem foldl_induct {α β : Type} {P : β → Prop} {f : β → α → β} (l : List α) {b : β} (h0 : P b) (h : ∀ x b, x ∈ l → P b → P (f b x)) :
    P (l.foldl f b) := by
  induction l generalizing b with
  | nil => exact h0
  | cons x l ih => exact ih (h x b List.mem_cons_self h0) fun y b hy => h y b (List.mem_cons_of_mem _ hy)

/-- A fold changes only what each of its steps may change. -/
theorem ChangesOnly.foldl {α : Type} {ws ps : List Nat} {f : Dev → α → Dev} (l : List α) (d : Dev) (h : ∀ x ∈ l, ∀ y, ChangesOnly ws ps y (f y x)) :
    ChangesOnly ws ps d (l.foldl f d) :=
  foldl_induct (P := fun y => ChangesOnly ws ps d y) l (.refl ..) fun x y hx hy => hy.step (h x hx y)

/-! ### EVT_TEST -/

theorem evtSet_raise_of_set {d : Dev} {p b : Nat} (q c : Nat) (h : evtSet d p b = true) : evtSet (raise d q c) p b = true :=
  evtSet_logPut_of_set _ _ (evtSet_setRaw_of_set _ _ h)

/-- One bit of a write of EVT_TEST, of a page other than LOG. -/
def testBit (p : Nat) (w : Word) (b : Nat) (d : Dev) : Dev := if bitOf w.toNat b then raise d p b else d

theorem evtTest_eq (d : Dev) {p : Nat} (v : Word) (hp : p ≠ 0x7E) : evtTest d p v = foldUpto 32 (testBit p (v &&& evtMask p)) d := by
  have : (p == 0x7E) = false := beq_eq_false_iff_ne.2 hp
  simp only [evtTest, testRaise, this, Bool.false_and, Bool.false_eq_true, if_false]
  rfl

theorem raisesOn_testBit (p : Nat) (w : Word) (b : Nat) (d : Dev) : RaisesOn p d (testBit p w b d) := by
  unfold testBit
  split
  · exact ChangesOnly.raise d p b
  · exact .refl ..

theorem evtSet_testBit_of_set {d : Dev} {p b : Nat} (q : Nat) (w : Word) (c : Nat) (h : evtSet d p b = true) : evtSet (testBit q w c d) p b = true := by
  unfold testBit
  split
  · exact evtSet_raise_of_set q c h
  · exact h

/-- EVT_TEST raises every bit it is written with. -/
theorem evtSet_testBits {p b n : Nat} {w : Word} (d : Dev) (hb : bitOf w.toNat b = true) (hb32 : b < 32) (hn : b < n) :
    evtSet (foldUpto n (testBit p w) d) p b = true := by
  induction n with
  | zero => omega
  | succ n ih =>
    rw [foldUpto_succ]
    by_cases h : b = n
    · subst h
      rw [testBit, hb, if_pos rfl]
      exact evtSet_raise_same _ p hb32
    · exact evtSet_testBit_of_set p w n (ih (by omega))

theorem evtEn_testBit {p : Nat} (w : Word) (b : Nat) (d : Dev) (hp : p ≠ 0x7E) : (hdrOf (testBit p w b d) p).evtEn = (hdrOf d p).evtEn := by
  unfold testBit
  split
  · rw [hdrOf_raise_same d b hp]
  · rfl

/-! ### EVT_RAW -/

/-- A reminder changes the pending vectors and the outputs alone. -/
theorem remind_frame (d : Dev) (p port : Nat) : { remind d p port with pci := d.pci, out := d.out } = d := by
  unfold remind
  dsimp only
  generalize (if port = 0 then (hdrOf d p).irqA else (hdrOf d p).irqB) = routed
  split
  · exact sendMsix_others ..
  · rfl

/-- A write of EVT_RAW clears bits of its page, and changes beside them the pending vectors and the outputs. -/
theorem evtClear_frame (d : Dev) (p : Nat) (v : Word) :
    { evtClear d p v with pci := d.pci, out := d.out } = setHdr d p { hdrOf d p with evtRaw := (hdrOf d p).evtRaw &&& ~~~ v } := by
  unfold evtClear pbaSettle
  dsimp only
  generalize hx : setHdr d p { hdrOf d p with evtRaw := (hdrOf d p).evtRaw &&& ~~~ v } = x
  have hpci : x.pci = d.pci := by rw [← hx]; rfl
  have hout : x.out = d.out := by rw [← hx]; rfl
  have h0 := remind_frame x p 0
  have h1 := remind_frame (remind x p 0) p 1
  generalize remind (remind x p 0) p 1 = z at h1 ⊢
  generalize remind x p 0 = y at h0 h1
  rw [← hpci, ← hout, ← h0, ← h1]

/-! ### SHADOW_DISCARD -/

theorem shdW_revertWord (d : Dev) (o o' : Nat) : shdW (revertWord d o) o' = if o' = o then actW d o &&& shMask o else shdW d o' := by
  rw [revertWord, shdW_setShdW]
  split
  · rw [BitVec.and_assoc, BitVec.and_self]
  · rfl

theorem actW_revertWord (d : Dev) (o o' : Nat) : actW (revertWord d o) o' = actW d o' := rfl

/-- Reverting words takes the active value into each of their shadows. -/
theorem shdW_revertWords (l : List Nat) (d : Dev) (o : Nat) :
    shdW (l.foldl revertWord d) o = if o ∈ l then actW d o &&& shMask o else shdW d o := by
  induction l generalizing d with
  | nil => rfl
  | cons k l ih =>
    rw [List.foldl_cons, ih, actW_revertWord, shdW_revertWord]
    by_cases h : o = k
    · subst h; simp
    · simp [h]

theorem actW_revertWords (l : List Nat) (d : Dev) (o : Nat) : actW (l.foldl revertWord d) o = actW d o :=
  foldl_induct (P := fun y => actW y o = actW d o) l rfl fun _ _ _ h => h

theorem SMap.get?_eq_none {α : Type} {m : SMap α} {k : Nat} (h : k ∉ m.map Prod.fst) : SMap.get? m k = none := by
  induction m with
  | nil => rfl
  | cons e m ih =>
    simp only [List.map_cons, List.mem_cons, not_or] at h
    unfold SMap.get?
    rw [if_neg h.1]
    exact ih h.2

/-- A word that neither store lists holds its reset value, in its shadow as in its active copy. -/
theorem shdW_of_unlisted {d : Dev} {o : Nat} (ha : o ∉ d.hub.act.map Prod.fst) (hs : o ∉ d.hub.shd.map Prod.fst) :
    shdW d o = actW d o &&& shMask o := by
  rw [shdW, actW, SMap.read, SMap.read, SMap.getD, SMap.getD, SMap.get?_eq_none ha, SMap.get?_eq_none hs]
  rfl

/-- A discard takes the active value into every shadow of the page, and leaves the other shadows alone (R45). -/
theorem shdW_discardPage (d : Dev) (p o : Nat) : (pageOf o = p → shMask o ≠ 0 → shdW (discardPage d p) o = actW d o &&& shMask o) ∧
    (pageOf o ≠ p → shdW (discardPage d p) o = shdW d o) := by
  have hs : shdW (discardPage d p) o = if o ∈ pageKeys d p then actW d o &&& shMask o else shdW d o := shdW_revertWords ..
  have hk : o ∈ pageKeys d p ↔ (o ∈ d.hub.act.map Prod.fst ∨ o ∈ d.hub.shd.map Prod.fst) ∧ pageOf o = p ∧ shMask o ≠ 0 := by
    rw [pageKeys, List.mem_filter, List.mem_append, Bool.and_eq_true, beq_iff_eq, Bool.not_eq_true', beq_eq_false_iff_ne]
  rw [hs]
  refine ⟨fun hp hm => ?_, fun hp => if_neg fun h => hp (hk.1 h).2.1⟩
  by_cases h : o ∈ pageKeys d p
  · rw [if_pos h]
  · rw [if_neg h]
    have hun : ¬ (o ∈ d.hub.act.map Prod.fst ∨ o ∈ d.hub.shd.map Prod.fst) := fun c => h (hk.2 ⟨c, hp, hm⟩)
    exact shdW_of_unlisted (fun c => hun (.inl c)) fun c => hun (.inr c)

theorem actW_discardPage (d : Dev) (p o : Nat) : actW (discardPage d p) o = actW d o := actW_revertWords _ d o

theorem psLater_of_nil {d : Dev} (h : d.sys.psLate = []) : psLater d = d := by rw [psLater, h]; rfl

theorem discardPage_sys (d : Dev) (p : Nat) : (discardPage d p).sys = d.sys :=
  foldl_induct (P := fun y => Dev.sys y = d.sys) (pageKeys d p) rfl fun _ _ _ h => h

/-- A write of PAGE_CTRL with DISCARD, no gating waiting for the page. -/
theorem pageCtrl_discard {d : Dev} {p v : Nat} (hv : bitOf v 1 = true) (hb : (hdrOf d p).cbusy = false) (hl : d.sys.psLate = []) :
    pageCtrl d p v = setHdr (discardPage d p) p { hdrOf (discardPage d p) p with view := bitOf v 0, irqA := bitOf v 8, irqB := bitOf v 9, alert := bitOf v 10 } := by
  have hc : (bitOf v 1 && !(hdrOf d p).cbusy) = true := by rw [hv, hb]; rfl
  unfold pageCtrl
  rw [if_pos hc, psLater_of_nil ((congrArg Sys.psLate (discardPage_sys d p)).trans hl)]

theorem bitOf_or_two (w : Word) : bitOf (w ||| 2).toNat 1 = true := by
  rw [bitOf_or]
  exact Bool.or_true _

/-! ### The statements -/

theorem pageOf_hdr {page o : Nat} (h : page < 256) (ho : o < 0x1000) : pageOf (0x1000 * page + o) = page := by unfold pageOf; omega

theorem inPage_hdr (page : Nat) {o : Nat} (ho : o < 0x1000) : inPage (0x1000 * page + o) = o := by unfold inPage; omega

theorem writeWord_hdr {d : Dev} {port page o : Nat} (v : Word) (h : page < 256) (ho : o < 0x40) :
    writeWord d port (0x1000 * page + o) v = hdrWrite d page o v := by
  rw [writeWord, inPage_hdr page (by omega), pageOf_hdr h (by omega), if_pos ho]

/-- Settles O16: each header word's write. -/
theorem eventAndShadowHeaderWrites : Obligations.EventAndShadowHeaderWrites := by
  refine ⟨fun s port page v b hp hw hlog hb hb32 => ?_, fun s port page v hp hw => ?_, fun s port page hp hh hi hbusy => ?_⟩
  · refine gives_of_row (c := .evtTestWrite port page v) rfl (decide_eq_true hp) hw ?_
    rw [writeWord_hdr v hp (by decide)]
    show evtSet (evtTest s.dev page v) page b = true ∧ (hdrOf (evtTest s.dev page v) page).evtEn = _ ∧ RaisesOn page s.dev (evtTest s.dev page v)
    rw [evtTest_eq s.dev v hlog]
    exact ⟨evtSet_testBits s.dev hb hb32 hb32,
      foldUpto_induct (P := fun y => (hdrOf y page).evtEn = (hdrOf s.dev page).evtEn) 32 rfl fun i x _ hx => (evtEn_testBit _ i x hlog).trans hx,
      foldUpto_induct (P := fun y => RaisesOn page s.dev y) 32 (.refl ..) fun i x _ hx => hx.step (raisesOn_testBit page _ i x)⟩
  · refine gives_of_row (c := .evtRawClear port page v) rfl (decide_eq_true hp) hw ?_
    rw [writeWord_hdr v hp (by decide)]
    have hf := evtClear_frame s.dev page v
    have hhdr (q : Nat) : hdrOf (evtClear s.dev page v) q = hdrOf (setHdr s.dev page { hdrOf s.dev page with evtRaw := (hdrOf s.dev page).evtRaw &&& ~~~ v }) q :=
      hdrOf_congr (congrArg (·.hub.hdr) hf) q
    refine ⟨?_, fun o => actW_congr (congrArg (·.hub.act) hf) o, fun q hq => ?_, congrArg (·.med) hf, congrArg (·.seats) hf⟩
    · exact congrArg PageHdr.evtRaw ((hhdr page).trans (hdrOf_setHdr_same ..))
    · exact (hhdr q).trans (hdrOf_setHdr_ne _ _ hq)
  · have hw : Writes s port (0x1000 * page + 8) (hdrWord s.dev page 8 ||| 2) :=
      ⟨hh, by omega, by omega, (pageOf_hdr (o := 8) hp (by decide)).symm ▸ hi, .inl (by rw [inPage_hdr page (by decide)]; decide), clean_discard s.dev page⟩
    refine gives_of_row (c := .shadowDiscard port page) rfl (decide_eq_true hp) hw ?_
    rw [writeWord_hdr _ hp (by decide)]
    refine ⟨rfl, fun hl => ?_⟩
    have hpc := pageCtrl_discard (bitOf_or_two (hdrWord s.dev page 8)) hbusy hl
    rw [show hdrWrite s.dev page 8 (hdrWord s.dev page 8 ||| 2) = pbaSettle (pageCtrl s.dev page (hdrWord s.dev page 8 ||| 2).toNat) from rfl, hpc]
    refine ⟨?_, fun o => actW_discardPage s.dev page o, fun o => (shdW_discardPage s.dev page o).1, fun o => (shdW_discardPage s.dev page o).2⟩
    show (hdrOf (setHdr (discardPage s.dev page) page _) page).pend = false
    rw [hdrOf_setHdr_same]
    show (hdrOf (setHdr _ page _) page).pend = false
    rw [hdrOf_setHdr_same]

/-- Settles O19: by induction on the accesses that waited. -/
theorem stalledAccessesKeepOrder : Obligations.StalledAccessesKeepOrder := by
  intro d l h
  induction l generalizing d with
  | nil => rfl
  | cons r l ih =>
    have hr : hubStall d r = false := h [] r l rfl
    rw [hubReplay, hr, if_neg Bool.false_ne_true, List.foldl_cons]
    refine ih (hubOne d r) fun l1 x l2 hl => ?_
    exact h (r :: l1) x l2 (by rw [hl]; rfl)

end Sys2Proof.Machine
end

section
/-!
PROOFS. What a recomputation of terms leaves alone, single bits of fields, and Catches (R53 to R59).
-/
namespace Sys2Proof.Machine

/-! ### One bit of a field -/

theorem bitOf_mod_two_pow (v : Nat) {n wd : Nat} (h : n < wd) : bitOf (v % 2 ^ wd) n = bitOf v n := by
  rw [bitOf_eq, bitOf_eq, Nat.testBit_mod_two_pow, decide_eq_true h, Bool.true_and]

/-- A bit reads back what it was set to. -/
theorem bitOf_setBit_same (d : Dev) {f : Fld} {n : Nat} (v : Bool) (hf : f.lo + f.wd ≤ 32) (hn : n < f.wd) :
    bitOf (rd (setBit d f n v) f) n = v := by
  unfold setBit
  dsimp only
  split
  · next h => exact eq_of_beq h
  · next h =>
    rw [rd_wr_same d f _ hf, bitOf_mod_two_pow _ hn]
    cases v with
    | true =>
      have hbit : (rd d f).testBit n = false := by
        rw [← bitOf_eq]; simpa using h
      rw [if_pos rfl, bitOf_eq, Nat.add_comm, Nat.testBit_two_pow_add_eq, hbit]; rfl
    | false =>
      have hbit : (rd d f).testBit n = true := by
        rw [← bitOf_eq]; simpa using h
      have hge : 2 ^ n ≤ rd d f := Nat.ge_two_pow_of_testBit hbit
      have hsum := Nat.testBit_two_pow_add_eq (rd d f - 2 ^ n) n
      rw [Nat.add_sub_cancel' hge, hbit] at hsum
      rw [if_neg Bool.false_ne_true, bitOf_eq]
      rwa [← Bool.not_eq_true', eq_comm]

theorem ChangesOnly.setBit (d : Dev) (f : Fld) (n : Nat) (v : Bool) : ChangesOnly [f.off] [] d (setBit d f n v) := by
  unfold Machine.setBit
  dsimp only
  split
  · exact .refl ..
  · exact ChangesOnly.wr ..

theorem rd_setBit_apart (d : Dev) {f g : Fld} (n : Nat) (v : Bool) (hg : g.lo + g.wd ≤ 32) (h : FldApart g f) : rd (setBit d f n v) g = rd d g := by
  unfold setBit
  dsimp only
  split
  · rfl
  · exact rd_wr_apart d _ hg h

/-! ### What a recomputation of terms leaves alone -/

/-- The device beside its register stores, headers, event log, contract terms and loop states. -/
def beside (d : Dev) : Dev :=
  { d with hub := { d.hub with act := [], shd := [], hdr := [], tv := [] }, log := {}, adm := {}, stk := {} }

section
variable (d : Dev)

theorem ChangesOnly.beside {ws ps : List Nat} {d d' : Dev} (h : ChangesOnly ws ps d d') : beside d' = beside d := by
  have ho := h.others
  rw [← ho]
  rfl

@[simp] theorem beside_setShdW (o : Nat) (w : Word) : beside (setShdW d o w) = beside d := rfl
@[simp] theorem beside_setActW (o : Nat) (w : Word) : beside (setActW d o w) = beside d := rfl
@[simp] theorem beside_tvTaken (o : Nat) (b : Bool) : beside (tvTaken d o b) = beside d := rfl
@[simp] theorem beside_setHdr (p : Nat) (h : PageHdr) : beside (setHdr d p h) = beside d := rfl
@[simp] theorem beside_wr (f : Fld) (v : Nat) : beside (wr d f v) = beside d := rfl
@[simp] theorem beside_wrs (l : List (Fld × Nat)) : beside (wrs d l) = beside d :=
  foldl_induct (P := fun y => beside y = beside d) l rfl fun _ _ _ h => h
@[simp] theorem beside_setBit (f : Fld) (n : Nat) (v : Bool) : beside (setBit d f n v) = beside d := (ChangesOnly.setBit d f n v).beside
@[simp] theorem beside_raise (p b : Nat) : beside (raise d p b) = beside d := (ChangesOnly.raise d p b).beside
@[simp] theorem beside_wake (c : Nat) : beside (wake d c) = beside d := (wake_words d c).beside

theorem beside_ite {c : Prop} [Decidable c] {a b x : Dev} (ha : beside a = x) (hb : beside b = x) : beside (if c then a else b) = x := by
  split
  · exact ha
  · exact hb

/-- A fold of steps that leave the rest alone leaves it alone. -/
theorem beside_foldl {α : Type} {f : Dev → α → Dev} (l : List α) (h : ∀ y x, beside (f y x) = beside y) : beside (l.foldl f d) = beside d :=
  foldl_induct (P := fun y => beside y = beside d) l rfl fun x y _ hy => (h y x).trans hy

@[simp] theorem beside_admSums : beside (admSums d) = beside d := beside_wrs d _

@[simp] theorem beside_bounds : beside (bounds d) = beside d := by
  unfold bounds
  dsimp only
  rw [beside_foldl]
  · exact beside_ite (beside_raise d _ _) rfl
  · exact fun y i => beside_ite (beside_wrs y _) (beside_wrs y _)

@[simp] theorem beside_admRecompute : beside (admRecompute d) = beside d := by
  refine beside_ite rfl ?_
  dsimp only
  rw [beside_bounds, beside_admSums]
  refine beside_ite ?_ ?_
  · rw [beside_raise, beside_wrs]; rfl
  · rw [beside_wrs]; rfl

@[simp] theorem beside_transClear : beside (transClear d) = beside d := by rw [transClear, beside_raise, beside_wrs]

@[simp] theorem beside_modeTakes (mode : Nat) : beside (modeTakes d mode) = beside d := by
  unfold modeTakes
  dsimp only
  rw [beside_admRecompute]
  have h : beside (if rd d F.GLB_STAT_MODE == 5 then wake (wrs d [(F.GLB_STAT_MODE, mode), (F.GLB_STAT_TRANS, 1)]) 4
      else wrs d [(F.GLB_STAT_MODE, mode), (F.GLB_STAT_TRANS, 1)]) = beside d :=
    beside_ite (by rw [beside_wake, beside_wrs]) (beside_wrs d _)
  exact beside_ite h ((beside_transClear _).trans h)

@[simp] theorem beside_journalBounds : beside (journalBounds d) = beside d :=
  beside_ite (beside_ite rfl rfl) ((beside_wr ..).trans (beside_ite rfl rfl))

@[simp] theorem beside_loopOff (l : Nat) : beside (loopOff d l) = beside d := by rw [loopOff, faultBit, beside_setBit, beside_wrs]

@[simp] theorem beside_loopFollow (l : Nat) : beside (loopFollow d l) = beside d :=
  beside_ite ((beside_wrs ..).trans (beside_loopOff d l)) (beside_ite (beside_loopOff d l) rfl)

@[simp] theorem beside_publish (n : Nat) : beside (publish d n) = beside d := by
  have h : beside (if n == rd d F.ADM_RPOWER_RPOWER then wrs d [(F.ADM_RPOWER_RPOWER, n), (F.COX_STAT_PLIM, b2n (n < 0xFFFFFF))]
      else raise (wrs d [(F.ADM_RPOWER_RPOWER, n), (F.COX_STAT_PLIM, b2n (n < 0xFFFFFF))]) 0x19 9) = beside d :=
    beside_ite (beside_wrs d _) (by rw [beside_raise, beside_wrs])
  exact beside_ite h h

@[simp] theorem beside_strokeEnables : beside (strokeEnables d) = beside d := by
  have h : beside (loopFollow (loopFollow d 64) 65) = beside d := by rw [beside_loopFollow, beside_loopFollow]
  exact beside_ite h ((beside_publish ..).trans h)

end

/-! ### The pages of a Catch -/

theorem beside_pageApplied (d old : Dev) (p : Nat) : beside (pageApplied d old p) = beside d := by
  refine beside_ite (beside_ite rfl (beside_modeTakes ..)) (beside_ite (beside_ite rfl ?_) (beside_ite rfl (beside_ite (beside_journalBounds d)
    (beside_ite (beside_bounds d) (beside_ite (beside_admRecompute d) (beside_ite ?_ (beside_ite rfl rfl)))))))
  · rw [beside_admRecompute, beside_raise, beside_wr]
  · rw [beside_admRecompute, beside_strokeEnables]

theorem beside_catchPage (d : Dev) (p : Nat) : beside (catchPage d p) = beside d := by
  refine beside_ite rfl (beside_ite ?_ rfl)
  split
  · rw [refusePage, beside_raise, beside_setHdr]
  · dsimp only
    rw [beside_setHdr, beside_pageApplied]
    exact beside_foldl d _ fun _ _ => rfl

theorem beside_catchStart (d : Dev) (g : Nat) : beside (catchStart d g) = beside d := by
  unfold catchStart
  dsimp only
  rw [beside_foldl _ _ fun y p => beside_catchPage y p, beside_foldl, beside_setBit]
  exact fun _ _ => rfl

theorem beside_catchFinish (d : Dev) (g : Nat) : beside (catchFinish d g) = beside d := by
  have h : beside ((groupPages d g).foldl catchDonePage (setBit d F.GLB_CATCH_DONE_DONE g true)) = beside d := by
    rw [beside_foldl, beside_setBit]
    exact fun _ _ => rfl
  exact beside_ite (by rw [beside_catchStart, beside_setBit, h]) h

/-! ### The end of a Catch -/

theorem catchDonePage_hdr (d : Dev) (p q : Nat) : hdrOf (catchDonePage d p) q = if q = p then
    { hdrOf d p with cbusy := false, cseq := ((hdrOf d p).cseq + 1) % 256, pend := (hdrOf d p).pend && !(hdrOf d p).applied, applied := false }
    else hdrOf d q := hdrOf_setHdr ..

/-- Step 5 on distinct pages: each once. -/
theorem catchDonePages_hdr {l : List Nat} (hl : l.Nodup) (d : Dev) (q : Nat) : hdrOf (l.foldl catchDonePage d) q = if q ∈ l then
    { hdrOf d q with cbusy := false, cseq := ((hdrOf d q).cseq + 1) % 256, pend := (hdrOf d q).pend && !(hdrOf d q).applied, applied := false }
    else hdrOf d q := by
  induction l generalizing d with
  | nil => rfl
  | cons p l ih =>
    obtain ⟨hp, hn⟩ := List.nodup_cons.1 hl
    rw [List.foldl_cons, ih hn, catchDonePage_hdr]
    by_cases h : q = p
    · subst h
      simp [hp]
    · simp [h]

theorem actW_catchDonePages (l : List Nat) (d : Dev) (o : Nat) : actW (l.foldl catchDonePage d) o = actW d o :=
  foldl_induct (P := fun y => actW y o = actW d o) l rfl fun _ _ _ h => h

theorem groupPages_nodup (d : Dev) (g : Nat) : (groupPages d g).Nodup := (List.nodup_range.filter _).filter _

theorem mem_groupPages (d : Dev) (g : Nat) {p : Nat} (hi : implemented p = true) : p ∈ groupPages d g ↔ (hdrOf d p).group = g := by
  rw [groupPages, List.mem_filter, allPages, List.mem_filter, List.mem_range, beq_iff_eq]
  exact ⟨fun h => h.2, fun h => ⟨⟨lt_of_implemented hi, hi⟩, h⟩⟩

/-- With no Catch of the group queued, the end of a Catch is step 5 on its pages, and DONE. -/
theorem catchFinish_unqueued {d : Dev} {g : Nat} (hq : bitOf (rd d F.GLB_CATCH_DONE_QUEUED) g = false) :
    catchFinish d g = (groupPages d g).foldl catchDonePage (setBit d F.GLB_CATCH_DONE_DONE g true) := by
  have hr : rd ((groupPages d g).foldl catchDonePage (setBit d F.GLB_CATCH_DONE_DONE g true)) F.GLB_CATCH_DONE_QUEUED =
      rd d F.GLB_CATCH_DONE_QUEUED := by
    rw [rd_congr _ (actW_catchDonePages _ _ _), rd_setBit_apart d g true (by decide) (by decide)]
  unfold catchFinish
  dsimp only
  rw [hr, hq, if_neg Bool.false_ne_true]

/-! ### The start of a Catch -/

/-- A fold that acts at one number is that one step. -/
theorem foldUpto_single {α : Type} {n g : Nat} (hg : g < n) {f : Nat → α → α} (h : ∀ i x, i ≠ g → f i x = x) (a : α) : foldUpto n f a = f g a := by
  induction n with
  | zero => omega
  | succ n ih =>
    rw [foldUpto_succ]
    by_cases e : g = n
    · subst e
      rw [foldUpto_induct (P := (· = a)) g rfl fun i x hi hx => (h i x (by omega)).trans hx]
    · rw [h n _ (Ne.symm e), ih (by omega)]

theorem bitOf_two_pow (g i : Nat) : bitOf (2 ^ g) i = decide (g = i) := by rw [bitOf_eq, Nat.testBit_two_pow]

/-- A Catch fired for one group, with the gate ACCEPTED. -/
theorem catchFire_one {d : Dev} {g : Nat} (hg : g < 8) (ha : accepted d = true) :
    catchFire d (2 ^ g) = if bitOf (rd (voteAll d) F.GLB_CATCH_DONE_DONE) g then catchStart (voteAll d) g
      else setBit (voteAll d) F.GLB_CATCH_DONE_QUEUED g true := by
  unfold catchFire
  rw [ha, if_neg (by decide), foldUpto_single hg]
  · rw [bitOf_two_pow, decide_eq_true rfl, if_pos rfl]
  · intro i x hi
    rw [bitOf_two_pow, decide_eq_false (Ne.symm hi), if_neg Bool.false_ne_true]

/-- The row of GLB_CATCH. -/
def catchRow : RegRow := ⟨0x100, 0, 0, 0, 0, 0, 0xFF, 0, 0, 0⟩

theorem regRow_catch : regRow? 0x100 = some catchRow := by decide +kernel

/-- A write of GLB_CATCH fires the groups of its bits. -/
theorem writeWord_catch (d : Dev) (port : Nat) {g : Nat} (hg : g < 8) : writeWord d port 0x100 (BitVec.ofNat 32 (2 ^ g)) = catchFire d (2 ^ g) := by
  have hv : (BitVec.ofNat 32 (2 ^ g)).toNat % 256 = 2 ^ g := by
    have h1 : 2 ^ g < 2 ^ 8 := Nat.pow_lt_pow_right (by decide) hg
    rw [BitVec.toNat_ofNat, Nat.mod_eq_of_lt (Nat.lt_trans h1 (by decide) : 2 ^ g < 2 ^ 32)]
    exact Nat.mod_eq_of_lt h1
  have hs (v : Word) : storeWord d 0x100 catchRow v = d := by
    rw [storeWord_eq d _ v rfl]
    exact touchConfig_stays fun h => h.2.1 (by decide)
  rw [writeWord_row _ regRow_catch, if_neg (by decide), oneWrite, hs]
  exact congrArg (catchFire d) hv

/-- Settles O20: the three cases of a fire, the end of a Catch, and its effect on the pages. -/
theorem catchFiresAndEnds : Obligations.CatchFiresAndEnds := by
  refine ⟨fun s port g hg hw => ?_, fun s g hg hal hd => ?_, fun d g hg hq => ?_⟩
  · have gives {P : Dev → Prop} (h : P (catchFire s.dev (2 ^ g))) : Gives (.catchFire port (BitVec.ofNat 32 (2 ^ g))) s P :=
      gives_of_row (c := .catchFire port _) rfl rfl hw (by rw [writeWord_catch s.dev port hg]; exact h)
    refine ⟨fun ha => gives ?_, fun ha hd => gives ?_, fun ha hd => gives ?_⟩
    · rw [catchFire, ha]; rfl
    · rw [catchFire_one hg ha, hd, if_pos rfl]
    · rw [catchFire_one hg ha, hd, if_neg Bool.false_ne_true]
      exact ⟨rfl, bitOf_setBit_same _ true (by decide) hg⟩
  · refine gives_of_guard (c := .catchComplete g) rfl (by simp [hal, hg, hd]) ⟨rfl, fun hst hps => ?_⟩
    have hb := beside_catchFinish s.dev g
    have hst' : (catchFinish s.dev g).hub.stalled = [] := (congrArg (·.hub.stalled) hb).trans hst
    have hps' : (catchFinish s.dev g).sys.psLate = [] := (congrArg (·.sys.psLate) hb).trans hps
    have hrel : hubRelease (catchFinish s.dev g) = catchFinish s.dev g := by
      rw [hubRelease, hst', hubReplay, ← hst']
    rw [hrel, psLater_of_nil hps']
  · show bitOf (rd (catchFinish d g) _) g = true ∧ _
    rw [catchFinish_unqueued hq]
    refine ⟨?_, fun o ho => ?_, fun p hi _ => ?_⟩
    · rw [rd_congr _ (actW_catchDonePages _ _ _)]
      exact bitOf_setBit_same d true (by decide) hg
    · rw [actW_catchDonePages]
      exact (ChangesOnly.setBit d F.GLB_CATCH_DONE_DONE g true).words o fun c => ho (List.mem_singleton.1 c)
    · have hh : hdrOf (setBit d F.GLB_CATCH_DONE_DONE g true) p = hdrOf d p := (ChangesOnly.setBit d F.GLB_CATCH_DONE_DONE g true).heads p (by simp)
      rw [catchDonePages_hdr (groupPages_nodup d g), hh]
      by_cases hp : (hdrOf d p).group = g
      · rw [if_pos hp, if_pos ((mem_groupPages d g hi).2 hp)]
        exact ⟨rfl, rfl, rfl⟩
      · rw [if_neg hp, if_neg fun c => hp ((mem_groupPages d g hi).1 c)]

end Sys2Proof.Machine
end

section
/-!
PROOFS. A page a Catch refuses (R56), and votes on triple-voted fields (R60 to R63).
-/
namespace Sys2Proof.Machine

/-! ### Headers after a raise -/

theorem hdrOf_setRaw (d : Dev) (p q : Nat) (w : Word) : ∃ raw, hdrOf (setRaw d p w) q = { hdrOf d q with evtRaw := raw } := by
  by_cases h : q = p
  · subst h
    exact ⟨_, hdrOf_setRaw_same d q w⟩
  · exact ⟨(hdrOf d q).evtRaw, hdrOf_setHdr_ne _ _ h⟩

theorem hdrOf_logPut (d : Dev) (code : Nat) (ps : List Word) (q : Nat) : ∃ raw, hdrOf (logPut d code ps) q = { hdrOf d q with evtRaw := raw } := by
  unfold logPut
  split
  · exact hdrOf_setRaw ..
  · dsimp only
    split
    · exact hdrOf_setRaw ..
    · exact ⟨(hdrOf d q).evtRaw, rfl⟩

/-- A raise changes no more of any header than its event bits. -/
theorem hdrOf_raise (d : Dev) (p b q : Nat) : ∃ raw, hdrOf (raise d p b) q = { hdrOf d q with evtRaw := raw } := by
  obtain ⟨r1, h1⟩ := hdrOf_setRaw d p q (BitVec.ofNat 32 (2 ^ b))
  obtain ⟨r2, h2⟩ := hdrOf_logPut (setRaw d p (BitVec.ofNat 32 (2 ^ b))) (256 * p + b)
    ((hdrOf (setRaw d p (BitVec.ofNat 32 (2 ^ b))) p).evtRaw :: (logRegs (256 * p + b)).map (actW (setRaw d p (BitVec.ofNat 32 (2 ^ b))))) q
  exact ⟨r2, by rw [h1] at h2; exact h2⟩

/-- A header written and an event raised on the page. -/
theorem RaisesOn.setHdr_raise (d : Dev) (p b : Nat) (h : PageHdr) : RaisesOn p d (raise (setHdr d p h) p b) :=
  ((ChangesOnly.setHdr d p h).trans (ChangesOnly.raise _ p b)).mono (by simp) (by simp)

/-- Settles O21: a refusal writes the header of the page and raises CREF. -/
theorem refusedPageKeepsValues : Obligations.RefusedPageKeepsValues := by
  intro d p whr cause _ ha hn hc
  have hcp : catchPage d p = refusePage d p whr cause := by
    unfold catchPage
    rw [ha, hn, hc]
    rfl
  obtain ⟨raw, hh⟩ := hdrOf_raise (setHdr d p { hdrOf d p with refused := true, whr := whr, cause := cause }) p 3 p
  rw [hdrOf_setHdr_same] at hh
  rw [hcp, refusePage]
  refine ⟨.setHdr_raise .., ?_, ?_, ?_, ?_, evtSet_raise_same _ p (by decide)⟩
  all_goals rw [hh]

/-! ### Bits of words -/

theorem bitsOf_xor (a b : Word) (lo wd : Nat) : bitsOf (a ^^^ b).toNat lo wd = bitsOf a.toNat lo wd ^^^ bitsOf b.toNat lo wd := by
  apply Nat.eq_of_testBit_eq
  intro i
  rw [Nat.testBit_xor, testBit_bitsOf, testBit_bitsOf, testBit_bitsOf, BitVec.toNat_xor, Nat.testBit_xor]
  cases decide (i < wd) <;> rfl

/-- Copies of a word agree in a field exactly when their differences from it do. -/
theorem bitsOf_xor_inj (w a b : Word) (lo wd : Nat) :
    (bitsOf (w ^^^ a).toNat lo wd = bitsOf (w ^^^ b).toNat lo wd) ↔ bitsOf a.toNat lo wd = bitsOf b.toNat lo wd := by
  rw [bitsOf_xor, bitsOf_xor]
  refine ⟨fun h => ?_, congrArg _⟩
  have hxor := congrArg (bitsOf w.toNat lo wd ^^^ ·) h
  simpa only [← Nat.xor_assoc, Nat.xor_self, Nat.zero_xor] using hxor

/-- Writing the bits a word already has leaves it as it is. -/
theorem putBits_self (w : Word) (lo wd : Nat) : putBits w lo wd (bitsOf w.toNat lo wd) = w := by
  apply BitVec.eq_of_toNat_eq
  apply Nat.eq_of_testBit_eq
  intro i
  by_cases hi : i < 32
  · rw [testBit_putBits _ _ _ _ _ hi]
    split
    · next h =>
      rw [testBit_bitsOf, decide_eq_true (by omega), Bool.true_and, Nat.sub_add_cancel h.1]
    · rfl
  · have hlt (x : Word) : x.toNat.testBit i = false := Nat.testBit_lt_two_pow (Nat.lt_of_lt_of_le x.isLt (Nat.pow_le_pow_right (by decide) (by omega)))
    rw [hlt, hlt]

theorem ChangesOnly.setActW_self (d : Dev) (o : Nat) : ChangesOnly [] [] d (Machine.setActW d o (actW d o)) := by
  refine ⟨fun o' _ => ?_, fun _ _ => rfl, rfl⟩
  rw [actW_setActW]
  split
  · next h => rw [h]
  · rfl

/-! ### Votes -/

/-- The voted bits of a word of a stream's page. -/
theorem tvMask_strm {off o : Nat} (hp : 0x14 ≤ pageOf off ∧ pageOf off ≤ 0x17) (ho : inPage off % 0x100 = o) (h40 : 0x40 ≤ o) :
    tvMask off = ((Rows.strm.find? (fun x => x.off == o)).map RegRow.tv).getD 0 := by
  have hn : ¬ (0x08 ≤ pageOf off ∧ pageOf off ≤ 0x0B) := by omega
  have hrow : regRow? off = Rows.strm.find? (fun x => x.off == o) := by
    unfold regRow? rowsAt
    rw [if_neg (by omega)]
    simp [hp, hn, ho]
  rw [tvMask, hrow]

/-- The voted bits of the first word of a key slot. -/
theorem tvMask_key {off : Nat} (hp : pageOf off = 0x71) (h40 : 0x40 ≤ inPage off) (h440 : inPage off < 0x440)
    (ho : (inPage off - 0x40) % 16 = 0) : tvMask off = ((Rows.key.find? (fun x => x.off == 0)).map RegRow.tv).getD 0 := by
  have hrow : regRow? off = Rows.key.find? (fun x => x.off == 0) := by
    unfold regRow? rowsAt
    rw [if_neg (by omega)]
    simp [hp, h440, ho]
  rw [tvMask, hrow]

/-- A word that has one voted field is a voted word. -/
theorem tvMask_of_tvFields {off : Nat} {f : Nat × Nat} (h : tvFields off = [f]) : tvMask off ≠ 0 := by
  have hfix : ∀ o ∈ [0x80, 0x160, 0x5040, 0x19044], tvMask o ≠ 0 := by decide +kernel
  unfold tvFields at h
  dsimp only at h
  repeat' split at h
  · next h1 => exact hfix off (by simp [eq_of_beq h1])
  · next h2 => exact hfix off (by simp [eq_of_beq h2])
  · next h3 => exact hfix off (by simp [eq_of_beq h3])
  · next h4 => exact hfix off (by simp [eq_of_beq h4])
  · cases h
  · next h6 _ => simpa using h6
  · next h6 _ => simpa using h6
  · cases h
  · cases h
  · next h8 _ _ h11 =>
    rw [tvMask_strm (by simpa using h8) (eq_of_beq h11) (by decide)]
    decide
  · next h8 _ _ _ h12 =>
    rw [tvMask_strm (by simpa using h8) (eq_of_beq h12) (by decide)]
    decide
  · cases h
  · next h13 =>
    simp only [Bool.and_eq_true, beq_iff_eq, decide_eq_true_eq] at h13
    obtain ⟨⟨⟨hp, h40⟩, h440⟩, ho⟩ := h13
    rw [tvMask_key hp h40 h440 ho]
    decide
  · cases h

/-- With the copies of one word upset, the scrubber votes that word. -/
theorem voteAll_one {d : Dev} {off : Nat} {c : Copies} {f : Nat × Nat} (htv : d.hub.tv = [(2 * off, c)]) (hf : tvFields off = [f]) :
    voteAll d = voteField off false c { d with hub := { d.hub with tv := [] } } f := by
  have hodd : d.hub.tv.get? (2 * off + 1) = none := by rw [htv]; simp [SMap.get?]
  have heven : d.hub.tv.get? (2 * off) = some c := by rw [htv]; simp [SMap.get?]
  have htaken : tvTaken d off false = { d with hub := { d.hub with tv := [] } } := by
    simp [tvTaken, htv, SMap.erase, b2n]
  have hword : voteWord d (2 * off + 1) = d := by rw [voteWord, hodd]
  have hoff : 2 * off / 2 = off := by omega
  have hpar : (2 * off % 2 == 1) = false := by simp
  have hlist : d.hub.tv.map (fun e => e.1 / 2) = [off] := by rw [htv]; simp
  calc voteAll d = voteAt d off := by rw [voteAll, hlist]; rfl
    _ = voteWord d (2 * off) := by rw [voteAt, if_neg (by simpa using tvMask_of_tvFields hf), hword]
    _ = voteField off false c { d with hub := { d.hub with tv := [] } } f := by
      rw [voteWord, heven]
      dsimp only
      rw [hoff, hpar, hf, htaken]
      rfl

/-- A copy without an upset shows the word itself. -/
theorem bitsOf_xor_clean (w : Word) {x : Word} {lo wd : Nat} (h : bitsOf x.toNat lo wd = 0) :
    bitsOf (w ^^^ x).toNat lo wd = bitsOf w.toNat lo wd := by
  rw [bitsOf_xor, h, Nat.xor_zero]

/-- With one of three copies upset, two agree on the value. -/
theorem voteField_one {off : Nat} {c : Copies} {f : Nat × Nat} (d : Dev)
    (h : ([c.x0, c.x1, c.x2].filter (fun x => bitsOf x.toNat f.1 f.2 ≠ 0)).length = 1) :
    voteField off false c d f = voteStat (setActW d off (actW d off)) off false := by
  have hput {x : Word} (hx : bitsOf x.toNat f.1 f.2 = 0) :
      putBits (actW d off) f.1 f.2 (bitsOf (actW d off ^^^ x).toNat f.1 f.2) = actW d off := by
    rw [bitsOf_xor_clean _ hx, putBits_self]
  unfold voteField
  simp only [if_neg Bool.false_ne_true, Bool.and_eq_true, Bool.or_eq_true, beq_iff_eq, bitsOf_xor_inj]
  by_cases h0 : bitsOf c.x0.toNat f.1 f.2 = 0 <;> by_cases h1 : bitsOf c.x1.toNat f.1 f.2 = 0 <;>
    by_cases h2 : bitsOf c.x2.toNat f.1 f.2 = 0 <;> simp [h0, h1, h2] at h
  · rw [if_neg (by simp [h0, h1, Ne.symm h2]), if_pos (by simp [h0, h1]), hput h0]
  · rw [if_neg (by simp [h0, Ne.symm h1]), if_pos (by simp [h0, h2]), hput h0]
  · rw [if_neg (by simp [h0, h1]), if_neg (by simp [h0, h1, h2]), if_pos (by simp [h1, h2]), hput h1]

/-- Three copies that differ leave the field its safe value. -/
theorem voteField_lost {off : Nat} {c : Copies} {f : Nat × Nat} (d : Dev)
    (h01 : bitsOf c.x0.toNat f.1 f.2 ≠ bitsOf c.x1.toNat f.1 f.2) (h02 : bitsOf c.x0.toNat f.1 f.2 ≠ bitsOf c.x2.toNat f.1 f.2)
    (h12 : bitsOf c.x1.toNat f.1 f.2 ≠ bitsOf c.x2.toNat f.1 f.2) :
    voteField off false c d f = tvSafe (voteStat d off true) off f.1 := by
  unfold voteField
  simp only [if_neg Bool.false_ne_true, Bool.and_eq_true, Bool.or_eq_true, beq_iff_eq, bitsOf_xor_inj]
  rw [if_neg (by simp [h01]), if_neg (by simp [h01, h02]), if_neg h12]

/-- What the record of a repaired vote shows. -/
theorem voteStat_single (d : Dev) (off : Nat) : RaisesOn (pageOf off) d (voteStat d off false) ∧ evtSet (voteStat d off false) (pageOf off) 1 = true ∧
    (hdrOf (voteStat d off false) (pageOf off)).single = true ∧ (hdrOf (voteStat d off false) (pageOf off)).vWhere = inPage off := by
  obtain ⟨raw, hh⟩ := hdrOf_raise (setHdr d (pageOf off) { hdrOf d (pageOf off) with single := true, scount := min 255 ((hdrOf d (pageOf off)).scount + 1), vWhere := inPage off })
    (pageOf off) 1 (pageOf off)
  rw [hdrOf_setHdr_same] at hh
  exact ⟨.setHdr_raise .., evtSet_raise_same _ _ (by decide), congrArg PageHdr.single hh, congrArg PageHdr.vWhere hh⟩

/-- What the record of a lost vote shows. -/
theorem voteStat_triple (d : Dev) (off : Nat) : RaisesOn (pageOf off) d (voteStat d off true) ∧ evtSet (voteStat d off true) (pageOf off) 2 = true ∧
    (hdrOf (voteStat d off true) (pageOf off)).triple = true ∧ (hdrOf (voteStat d off true) (pageOf off)).vWhere = inPage off := by
  obtain ⟨raw, hh⟩ := hdrOf_raise (setHdr d (pageOf off) { hdrOf d (pageOf off) with triple := true, vWhere := inPage off })
    (pageOf off) 2 (pageOf off)
  rw [hdrOf_setHdr_same] at hh
  exact ⟨.setHdr_raise .., evtSet_raise_same _ _ (by decide), congrArg PageHdr.triple hh, congrArg PageHdr.vWhere hh⟩

/-- Settles O22, by `voteAll_one`: the vote of the one word, with one copy upset and with all three. -/
theorem voteRepairsOneCopy : Obligations.VoteRepairsOneCopy := by
  have hscrub (s : State) (upsets) (ha : alive s.dev = true) :
      Gives (.tvScrub upsets) s (fun d => d = upsets.foldl upsetLand (voteAll s.dev)) :=
    gives_of_guard rfl ha rfl
  refine ⟨hscrub, ?_, ?_⟩
  · intro s off c f ha htv hf hone
    refine gives_of_guard rfl ha ?_
    rw [List.foldl_nil, voteAll_one htv hf, voteField_one _ hone]
    let e : Dev := { s.dev with hub := { s.dev.hub with tv := [] } }
    obtain ⟨hraise, hevt, hsingle, hwhere⟩ := voteStat_single (setActW e off (actW e off)) off
    exact ⟨((ChangesOnly.setActW_self e off).trans hraise).mono (by simp) (by simp), hevt, hsingle, hwhere⟩
  · intro s c ha htv h01 h02 h12
    have hf : tvFields 0x5040 = [(0, 20)] := by decide
    have hp : pageOf 0x5040 = 5 := rfl
    have hi : inPage 0x5040 = 0x40 := rfl
    refine gives_of_guard rfl ha ?_
    rw [List.foldl_nil, voteAll_one htv hf, voteField_lost _ h01 h02 h12]
    let e : Dev := { s.dev with hub := { s.dev.hub with tv := [] } }
    obtain ⟨-, hevt, htriple, hwhere⟩ := voteStat_triple e 0x5040
    rw [hp] at hevt htriple hwhere
    have hsafe : tvSafe (voteStat e 0x5040 true) 0x5040 0 = admRecompute (flushTerms (wr (voteStat e 0x5040 true) F.PFL_EHOLD_MJ 0)) := by
      simp [tvSafe]
    have hhdr : hdrOf (wr (voteStat e 0x5040 true) F.PFL_EHOLD_MJ 0) 5 = hdrOf (voteStat e 0x5040 true) 5 := hdrOf_congr (by simp) 5
    exact ⟨(evtSet_congr 2 hhdr).trans hevt, (congrArg PageHdr.triple hhdr).trans htriple, (congrArg PageHdr.vWhere hhdr).trans (hwhere.trans hi),
      rd_wr_same _ _ 0 (by decide), hsafe⟩

end Sys2Proof.Machine
end
section
/-!
PROOFS. Power-on reset (R79, R86), rails (R74 to R78, R88) and the power-on sequence (R86 to R89).
-/
namespace Sys2Proof.Machine

/-! ### What a cut of the power leaves on flash -/

/-- What every step of a fold keeps, the fold keeps. -/
theorem foldl_keeps {α β γ : Type} (g : β → γ) {f : β → α → β} (l : List α) (b : β) (h : ∀ b x, g (f b x) = g b) : g (l.foldl f b) = g b :=
  foldl_induct (P := fun b' => g b' = g b) l rfl fun x b' _ hb => (h b' x).trans hb

/-- The extents and the eaves on the media. -/
def flashEaves (d : Dev) : SMap Extent × List EaveSet := (d.med.nand.flash, d.med.nand.eaves)

/-- What the use of blocks for an eave leaves alone. -/
def besideBlocks (d : Dev) : Log × Sys × Hub × SMap Extent × List EaveSet := (d.log, d.sys, d.hub, flashEaves d)

theorem useBlock_keeps (d : Dev) (l b : Nat) : besideBlocks (useBlock d l b) = besideBlocks d := by
  unfold useBlock
  dsimp only
  split
  · rfl
  split
  · rfl
  split
  · rfl
  split <;> rfl

theorem usePlaces_keeps (d : Dev) (s : EaveSet) : besideBlocks (usePlaces d s) = besideBlocks d :=
  foldl_keeps besideBlocks _ _ fun b x => useBlock_keeps b x.1 x.2

/-- The write of an eave that power cuts touches neither the log nor the registers nor an extent on flash. -/
theorem cutWrite_keeps (d : Dev) : (cutWrite d).log = d.log ∧ (cutWrite d).sys = d.sys ∧ (cutWrite d).hub = d.hub ∧
    (cutWrite d).med.nand.flash = d.med.nand.flash := by
  have hplaces (d : Dev) (s : EaveSet) : (usePlaces d s).log = d.log ∧ (usePlaces d s).sys = d.sys ∧ (usePlaces d s).hub = d.hub ∧
      (usePlaces d s).med.nand.flash = d.med.nand.flash := by
    have h := usePlaces_keeps d s
    exact ⟨congrArg (·.1) h, congrArg (·.2.1) h, congrArg (·.2.2.1) h, congrArg (·.2.2.2.1) h⟩
  unfold cutWrite
  dsimp only
  split
  · exact ⟨rfl, rfl, rfl, rfl⟩
  split
  · split
    · exact hplaces d _
    · exact hplaces d _
  split
  · split
    · exact hplaces _ _
    · exact ⟨rfl, rfl, rfl, rfl⟩
  · exact ⟨rfl, rfl, rfl, rfl⟩

theorem flashEaves_openBatten {d : Dev} {w : Writer} {r : Dev × Nat} (h : openBatten d w = some r) : flashEaves r.1 = flashEaves d := by
  unfold openBatten at h
  split at h
  · cases h
  · cases h
    rfl

theorem flashEaves_anchorErase (d : Dev) (k : Nat) : flashEaves (anchorErase d k) = flashEaves d := by
  unfold anchorErase
  dsimp only
  split <;> rfl

theorem flashEaves_anchorPut (d : Dev) : flashEaves (anchorPut d) = flashEaves d := by
  unfold anchorPut
  dsimp only
  split
  · rfl
  split
  · split
    · exact flashEaves_anchorErase ..
    · rfl
  split
  · exact flashEaves_anchorErase ..
  · rfl

theorem flashEaves_modBats (l : List Nat) (f : Dev → Nat → Batten → Batten) (d : Dev) :
    flashEaves (l.foldl (fun d x => modBat d x (f d x)) d) = flashEaves d :=
  foldl_keeps flashEaves l d fun _ _ => rfl

theorem flashEaves_sysRoll (d : Dev) : flashEaves (sysRoll d) = flashEaves d := by
  unfold sysRoll
  split
  · rfl
  · next d1 a h1 =>
    split
    · rfl
    · next d2 b h2 =>
      have hlast (d : Dev) : flashEaves ({ d with med := { d.med with sysWait := false } } : Dev) = flashEaves d := rfl
      rw [hlast, flashEaves_modBats, flashEaves_anchorPut]
      have hput (d : Dev) (f : Nand → Nand) (hf : ((f d.med.nand).flash, (f d.med.nand).eaves) = flashEaves d) (n : Nat) :
          flashEaves (add64 (modNand d f) F.MAP_WSEQ n) = flashEaves d := hf
      rw [hput _ _ rfl, flashEaves_modBats]
      exact (flashEaves_openBatten h2).trans (flashEaves_openBatten h1)

theorem flashEaves_sysPut (d : Dev) (l : List Nat) : flashEaves (sysPut d l) = flashEaves d := by
  unfold sysPut
  dsimp only
  split
  · rfl
  split
  · exact flashEaves_sysRoll _
  · rfl

theorem flashEaves_chunkTo (d : Dev) (c : Chunk) : flashEaves (chunkTo d c) = flashEaves d := by
  unfold chunkTo
  dsimp only
  split
  · rfl
  · exact flashEaves_sysPut _ _

theorem flashEaves_chunkLands (d : Dev) : flashEaves (chunkLands d) = flashEaves d := by
  unfold chunkLands
  split
  · rfl
  split
  · exact flashEaves_chunkTo _ _
  · rfl

/-- An extent whose pages were not all programmed has a place that held none. -/
theorem partExts_fresh {d : Dev} {e : Nat × Extent} (h : e ∈ partExts d) : d.med.nand.flash.get? e.1 = none := by
  obtain ⟨x, -, hx⟩ := List.mem_filterMap.1 h
  dsimp only at hx
  split at hx
  · cases hx
  · next hc =>
    cases hx
    simp only [Bool.or_eq_true, not_or, Bool.not_eq_true, Option.isSome_eq_false_iff, Option.isNone_iff_eq_none] at hc
    exact hc.2

/-- Power that goes leaves every extent that stood on flash. -/
theorem flash_mediaCut {d : Dev} {k : Nat} {e : Extent} (h : d.med.nand.flash.get? k = some e) : (mediaCut d).flash.get? k = some e := by
  have hlands : (chunkLands d).med.nand.flash = d.med.nand.flash := congrArg Prod.fst (flashEaves_chunkLands d)
  rw [← hlands] at h
  refine foldl_induct (P := fun m : SMap Extent => m.get? k = some e) _ h fun x m hx hm => ?_
  have hne : k ≠ x.1 := by
    rintro rfl
    rw [partExts_fresh hx] at h
    cases h
  rw [SMap.get?_set_ne _ _ _ _ hne, hm]

/-! ### Power-on reset -/

/-- After the power went, every register, header and table is at reset, and the media hold what the cut left (R79). -/
theorem coldDev_shape (d : Dev) : (coldDev d).hub = {} ∧ (coldDev d).seats = [] ∧ (coldDev d).cmds = {} ∧
    (coldDev d).med = { nand := mediaCut (cutWrite d) } ∧ (coldDev d).log.saved = d.log.saved ∧ (coldDev d).sys.aon = false ∧
    (coldDev d).sys.dead = false ∧ (coldDev d).sys.rails = d.sys.rails :=
  ⟨rfl, rfl, rfl, rfl, by rw [← (cutWrite_keeps d).1]; rfl, rfl, rfl, rfl⟩

theorem actW_of_empty {d : Dev} (h : d.hub = {}) (off : Nat) : actW d off = resetWord off := by
  rw [actW, h]
  rfl

theorem hdrOf_of_empty {d : Dev} (h : d.hub = {}) (p : Nat) : hdrOf d p = hdrDefault p := by
  rw [hdrOf, h]
  rfl

/-- A device whose AON domain runs on healthy rails enters CLOCKS with every domain on (R86 step 2). -/
theorem stepClocks_start {d : Dev} (h : serving d = true) (hs : stage d = 1) (hr : d.sys.rails = allRails) :
    stepClocks d = wrs d [(F.GLB_BOOT_STAGE, 2), (F.PWR_DOMSTAT_ON, 2 ^ 30 - 1)] := by
  simp [stepClocks, h, hs, hr]

theorem stepClocks_short {d : Dev} (hr : d.sys.rails ≠ allRails) : stepClocks d = d := by
  simp [stepClocks, hr]

/-- Writes of fields touch nothing but the registers. -/
theorem wrs_keeps {α : Type} (g : Dev → α) (hg : ∀ d f v, g (wr d f v) = g d) (d : Dev) (l : List (Fld × Nat)) : g (wrs d l) = g d :=
  foldl_keeps g l d fun d e => hg d e.1 e.2

@[simp] theorem wrs_sys (d : Dev) (l : List (Fld × Nat)) : (wrs d l).sys = d.sys := wrs_keeps Dev.sys (fun _ _ _ => rfl) d l

@[simp] theorem showRails_sys (d : Dev) : (showRails d).sys = d.sys := by
  unfold showRails
  split <;> rfl

@[simp] theorem stepClocks_sys (d : Dev) : (stepClocks d).sys = d.sys := by
  unfold stepClocks
  split
  · exact wrs_sys ..
  · rfl

theorem rd_stepClocks (d : Dev) {f : Fld} (hf : f.lo + f.wd ≤ 32) (h : f.off ∉ [0x144, 0x2044]) : rd (stepClocks d) f = rd d f := by
  unfold stepClocks
  split
  · refine rd_wrs_apart _ _ hf fun g hg => .inl fun e => h ?_
    rw [e]
    have hoff : ∀ g ∈ [F.GLB_BOOT_STAGE, F.PWR_DOMSTAT_ON], g.off ∈ [0x144, 0x2044] := by decide
    exact hoff g hg
  · rfl

/-- The device once the AON domain is released, its straps and inputs shown. -/
def aonReleased (d : Dev) (bootSel smb : Nat) (testEn : Bool) : Dev :=
  showRails (wrs { d with sys := { d.sys with aon := true, time := 0, everGood := d.sys.rails, testEn := testEn, pllFault := 0 } }
    [(F.GLB_STRAP_BOOT_SEL, bootSel), (F.GLB_STRAP_SMB_ADDR, smb), (F.GLB_BOOT_STAGE, 1),
     (F.GLB_RSTCAUSE_CAUSE, if d.sys.pllFault == 0 then 0 else 4), (F.GLB_RSTCAUSE_PLL, d.sys.pllFault),
     (F.PFL_STAT_PFAIL, b2n d.sys.pfailLow), (F.CLK_STAT_REFA, b2n (d.sys.refPresent.contains 0)),
     (F.CLK_STAT_REFB, b2n (d.sys.refPresent.contains 1)), (F.CFG_WORDS_COUNT, configWordCount),
     (F.ALM_STAT_LIVE, if d.sys.tamperLow then 1 else 0)])

theorem aonReleased_sys (d : Dev) (bootSel smb : Nat) (te : Bool) : (aonReleased d bootSel smb te).sys =
    { d.sys with aon := true, time := 0, everGood := d.sys.rails, testEn := te, pllFault := 0 } := by
  rw [aonReleased, showRails_sys, wrs_sys]

theorem aonReleased_shows {d : Dev} {bootSel smb : Nat} {te : Bool} (hb : bootSel < 4) (hs : smb < 8) :
    rd (aonReleased d bootSel smb te) F.GLB_STRAP_BOOT_SEL = bootSel ∧ rd (aonReleased d bootSel smb te) F.GLB_STRAP_SMB_ADDR = smb ∧
    rd (aonReleased d bootSel smb te) F.PFL_STAT_PFAIL = b2n d.sys.pfailLow ∧ rd (aonReleased d bootSel smb te) F.GLB_BOOT_STAGE = 1 ∧
    rd (aonReleased d bootSel smb te) F.PFL_STAT_STATE = rd d F.PFL_STAT_STATE := by
  have hshow (d : Dev) {f : Fld} (hf : f.lo + f.wd ≤ 32) (h : FldApart f F.PWR_RAIL_GOOD) : rd (showRails d) f = rd d f := by
    unfold showRails
    split
    · exact rd_wr_apart _ _ hf h
    · rfl
  have hbit (b : Bool) : b2n b % 2 ^ 1 = b2n b := by cases b <;> rfl
  unfold aonReleased
  refine ⟨?_, ?_, ?_, ?_, ?_⟩ <;> rw [hshow _ (by decide) (by decide)] <;>
    simp (disch := decide) only [wrs, List.foldl_cons, List.foldl_nil, rd_wr_same, rd_wr_apart]
  · exact Nat.mod_eq_of_lt hb
  · exact Nat.mod_eq_of_lt hs
  · exact hbit _
  · rfl
  · rfl

/-- Settles O23: the reset device, and the registers of the release field by field. -/
theorem powerOnReset : Obligations.PowerOnReset := by
  refine ⟨fun s hp => ?_, fun s => ?_, fun d k e h => ?_, fun s bootSel smb te hp ha hr hx hb hs => ?_⟩
  · obtain ⟨hhub, hseats, hcmds, hmed, hlog, haon, hdead, hrails⟩ := coldDev_shape s.dev
    refine gives_of_guard rfl (by simp [hp]) ?_
    refine ⟨rfl, haon, hdead, actW_of_empty hhub, hdrOf_of_empty hhub, hseats, hcmds, ?_, hmed, hlog, hrails⟩
    exact congrArg Hub.woTaken hhub
  · obtain ⟨hhub, hseats, hcmds, hmed, hlog, haon, hdead, hrails⟩ := coldDev_shape s.dev
    exact ⟨_, rfl, rfl, haon, hdead, actW_of_empty hhub, hdrOf_of_empty hhub, hseats, hmed, hlog⟩
  · exact flash_mediaCut ((congrArg (SMap.get? · k) (cutWrite_keeps d).2.2.2).trans h)
  · refine gives_of_guard (d' := stepClocks (aonReleased s.dev bootSel smb te)) rfl (by simp [hp, ha, hr, hx]) ?_
    have hsys := aonReleased_sys s.dev bootSel smb te
    obtain ⟨hboot, hsmb, hpf, hstage, hstate⟩ := aonReleased_shows (te := te) (d := s.dev) hb hs
    generalize aonReleased s.dev bootSel smb te = r at *
    have hkept := stepClocks_sys r
    rw [hsys] at hkept
    refine ⟨?_, ?_, ?_, ?_, ?_, ?_, fun hall hdead hst => ?_, fun hall => ?_⟩
    · rw [hkept]
    · rw [hkept]
    · rw [hkept]
    · rw [rd_stepClocks r (by decide) (by decide), hboot]
    · rw [rd_stepClocks r (by decide) (by decide), hsmb]
    · rw [rd_stepClocks r (by decide) (by decide), hpf]
    · have hserve : serving r = true := by simp [serving, alive, flushing, hsys, hdead, hstate, hst]
      have hrails : r.sys.rails = allRails := by rw [hsys, ← hall]
      rw [stepClocks_start hserve hstage hrails]
      constructor <;> simp (disch := decide) only [wrs, List.foldl_cons, List.foldl_nil, rd_wr_same, rd_wr_apart] <;> rfl
    · have hrails : r.sys.rails ≠ allRails := by rw [hsys]; exact hall
      rw [stepClocks_short hrails, hstage]
/-! ### Rails -/

@[simp] theorem takeLinkCfg_sys (d : Dev) (port : Nat) : (takeLinkCfg d port).sys = d.sys := by
  unfold takeLinkCfg
  dsimp only
  split <;> rfl

@[simp] theorem setBit_sys (d : Dev) (f : Fld) (n : Nat) (v : Bool) : (setBit d f n v).sys = d.sys := by
  have h := congrArg Dev.sys (beside_setBit (d := d) f n v)
  exact h

theorem rd_showRails_good {d : Dev} (h : d.sys.aon = true) : rd (showRails d) F.PWR_RAIL_GOOD = d.sys.rails % 2 ^ 14 := by
  rw [showRails, if_pos h]
  exact rd_wr_same _ _ _ (by decide)

theorem rd_showRails (d : Dev) {f : Fld} (hf : f.lo + f.wd ≤ 32) (h : FldApart f F.PWR_RAIL_GOOD) : rd (showRails d) f = rd d f := by
  unfold showRails
  split
  · exact rd_wr_apart _ _ hf h
  · rfl

/-- Every rail but those of the AON domain and of PCIe is one the flush guards. -/
theorem flushRails_of_other {rail : Nat} (h : rail < 14) (h0 : rail ≠ 0) (h12 : rail ≠ 12) (h3 : rail ≠ 3) (h4 : rail ≠ 4) :
    flushRails.contains rail = true := by
  have hall : ∀ r < 14, r ≠ 0 → r ≠ 12 → r ≠ 3 → r ≠ 4 → flushRails.contains r = true := by decide
  exact hall rail h h0 h12 h3 h4

/-- A guarded row whose guard holds leads to the device its branches compute. -/
theorem gives_of_guard_eq {c : Instr} {s : State} {b : Bool} {d d' e : Dev} {P : Dev → Prop} (hc : exec c s = finish s (guardDev b d d'))
    (hb : b = true) (he : d' = e) (hp : P e) : Gives c s P :=
  gives_of_guard hc hb (he ▸ hp)

/-- A rail of the AON domain does not stop the reset of the device. -/
theorem gives_aonRailLost {s : State} {rail : Nat} (hr : rail = 0 ∨ rail = 12) (hb : bitOf s.dev.sys.rails rail = true) {P : Dev → Prop}
    (hp : P (coldDev { s.dev with sys := { s.dev.sys with rails := s.dev.sys.rails - 2 ^ rail } })) : Gives (.railLost rail) s P := by
  have hlt : rail < 14 := by omega
  have hor : (rail == 0 || rail == 12) = true := by simpa using hr
  exact gives_of_guard_eq rfl (by simp [hlt, hb]) (if_pos hor) hp

/-- The device with a rail other than those of the AON domain lost, shown and latched. -/
def railLostShown (d : Dev) (rail : Nat) : Dev :=
  let d1 : Dev := { d with sys := { d.sys with rails := d.sys.rails - 2 ^ rail } }
  raise (showRails (if bitOf d.sys.everGood rail then setBit d1 F.PWR_RAILLOST_LOST rail true else d1)) 2 10

/-- The record of a lost rail: PWR_RAIL without it, RLOST, and the latch of a rail that was good (R77, R78). -/
theorem railLostShown_shows {d : Dev} {rail : Nat} (hr : rail < 14) (ha : d.sys.aon = true) (hlt : d.sys.rails < 2 ^ 14) :
    rd (railLostShown d rail) F.PWR_RAIL_GOOD = d.sys.rails - 2 ^ rail ∧ evtSet (railLostShown d rail) 2 10 = true ∧
    (bitOf d.sys.everGood rail = true → bitOf (rd (railLostShown d rail) F.PWR_RAILLOST_LOST) rail = true) := by
  let d1 : Dev := { d with sys := { d.sys with rails := d.sys.rails - 2 ^ rail } }
  have hset : ∀ d2 : Dev, (if bitOf d.sys.everGood rail then setBit d1 F.PWR_RAILLOST_LOST rail true else d1) = d2 → d2.sys = d1.sys := by
    rintro d2 rfl
    split
    · exact setBit_sys ..
    · rfl
  refine ⟨?_, evtSet_raise_same _ _ (by decide), fun hg => ?_⟩
  · have hsys := hset _ rfl
    rw [railLostShown, rd_raise _ _ _ _ (by decide), rd_showRails_good (by rw [hsys]; exact ha), hsys]
    exact Nat.mod_eq_of_lt (Nat.lt_of_le_of_lt (Nat.sub_le ..) hlt)
  · rw [railLostShown, rd_raise _ _ _ _ (by decide), rd_showRails _ (by decide) (by decide), if_pos hg]
    exact bitOf_setBit_same _ _ (by decide) hr

section
variable {s : State} {rail : Nat} (hr : rail < 14) (h0 : rail ≠ 0) (h12 : rail ≠ 12) (hb : bitOf s.dev.sys.rails rail = true)
include hr h0 h12 hb

theorem gives_railLost_off (ha : s.dev.sys.aon = false) :
    Gives (.railLost rail) s (fun d => d = { s.dev with sys := { s.dev.sys with rails := s.dev.sys.rails - 2 ^ rail } }) := by
  refine gives_of_guard_eq rfl (by simp [hr, hb]) ?_ rfl
  simp [h0, h12, ha]

theorem gives_railLost {P : Dev → Prop} {e : Dev} (ha : s.dev.sys.aon = true)
    (he : (if s.dev.sys.dead then railLostShown s.dev rail
       else if rail == 3 || rail == 4 then
         portDown (portDown { railLostShown s.dev rail with sys := { (railLostShown s.dev rail).sys with pcieRailLost := true } } 0) 1
       else if stage s.dev == 0xF then railLostShown s.dev rail
       else if flushing s.dev then (if rd s.dev F.PFL_STAT_STATE ≤ 5 && !s.dev.sys.flushLost && flushRails.contains rail then flushAbort (railLostShown s.dev rail) else railLostShown s.dev rail)
       else flushBegin (railLostShown s.dev rail) 2) = e) (hp : P e) : Gives (.railLost rail) s P := by
  refine gives_of_guard_eq rfl (by simp [hr, hb]) ?_ hp
  have hor : ¬ (rail == 0 || rail == 12) = true := by simp [h0, h12]
  have hon : ¬ (!s.dev.sys.aon) = true := by simp [ha]
  exact ((if_neg hor).trans (if_neg hon)).trans he

end

/-- Settles O24: the rail that came or went, by the branches of the row. -/
theorem railsTracked : Obligations.RailsTracked := by
  refine ⟨fun s rail hr hb => ?_, fun s rail hr hb => ?_, fun s rail hr h0 h12 hb ha => ?_, fun s rail hr h0 h12 hb ha hlt => ?_⟩
  · let d1 : Dev := { s.dev with sys := { s.dev.sys with rails := s.dev.sys.rails + 2 ^ rail, everGood := if s.dev.sys.aon then (s.dev.sys.everGood ||| 2 ^ rail) else s.dev.sys.everGood } }
    have hlinks : ∃ d2 : Dev, d2.sys.rails = s.dev.sys.rails + 2 ^ rail ∧ d2.sys.aon = s.dev.sys.aon ∧
        (if s.dev.sys.pcieRailLost && bitOf (s.dev.sys.rails + 2 ^ rail) 3 && bitOf (s.dev.sys.rails + 2 ^ rail) 4 then
          takeLinkCfg (takeLinkCfg { d1 with sys := { d1.sys with pcieRailLost := false } } 0) 1 else d1) = d2 := by
      refine ⟨_, ?_, ?_, rfl⟩ <;> split <;> simp [d1]
    obtain ⟨d2, hrails, haon, he⟩ := hlinks
    refine gives_of_guard_eq rfl (by simp [hr, hb]) (congrArg (fun d => stepClocks (showRails d)) he) ⟨?_, ?_, fun ha => ?_⟩
    · rw [stepClocks_sys, showRails_sys, hrails]
    · rw [stepClocks_sys, showRails_sys, haon]
    · rw [rd_stepClocks _ (by decide) (by decide), rd_showRails_good (haon.trans ha), hrails]
  · obtain ⟨hhub, hseats, hcmds, hmed, hlog, haon, hdead, hrails⟩ := coldDev_shape { s.dev with sys := { s.dev.sys with rails := s.dev.sys.rails - 2 ^ rail } }
    exact gives_aonRailLost hr hb ⟨haon, actW_of_empty hhub, hrails, hmed⟩
  · exact gives_railLost_off hr h0 h12 hb ha
  · obtain ⟨hgood, hevt, hlatch⟩ := railLostShown_shows hr ha hlt
    refine ⟨hgood, hevt, hlatch, gives_railLost hr h0 h12 hb ha rfl ⟨?_, ?_, ?_⟩⟩
    · rintro (hdead | ⟨hst, h3, h4⟩)
      · exact if_pos hdead
      · simp [hst, h3, h4, railLostShown]
    · intro hdead h34
      have hor : (rail == 3 || rail == 4) = true := by simpa using h34
      rw [hdead, hor]
      rfl
    · intro hdead hst h3 h4
      have hor : (rail == 3 || rail == 4) = false := by simp [h3, h4]
      have hstb : (stage s.dev == 0xF) = false := by simpa using hst
      rw [hdead, hor, hstb]
      refine ⟨fun hf => ?_, fun hf hle hl => ?_, fun hf hc => ?_⟩
      · rw [hf]
        rfl
      · rw [hf, hl, flushRails_of_other hr h0 h12 h3 h4]
        simp [hle, railLostShown]
      · have hno : (decide (rd s.dev F.PFL_STAT_STATE ≤ 5) && !s.dev.sys.flushLost && flushRails.contains rail) = false := by
          rcases hc with hc | hc
          · rw [decide_eq_false (Nat.not_le.2 hc), Bool.false_and, Bool.false_and]
          · rw [hc, Bool.not_true, Bool.and_false, Bool.false_and]
        rw [hf, hno]
        rfl

end Sys2Proof.Machine
end
section
/-!
PROOFS. The power-on sequence from the PLLs to the processors (R86, R88, R89), and the start of the firmware (R87, R404, R411).
-/
namespace Sys2Proof.Machine

/-! ### A failed sequence -/

@[simp] theorem takeLinkCfg_hub (d : Dev) (port : Nat) : (takeLinkCfg d port).hub = d.hub := by
  unfold takeLinkCfg
  dsimp only
  split <;> rfl

@[simp] theorem takeLinkCfg_med (d : Dev) (port : Nat) : (takeLinkCfg d port).med = d.med := by
  unfold takeLinkCfg
  dsimp only
  split <;> rfl

/-- Both ports take the link configuration of their page. -/
theorem takeLinkCfg_both (d : Dev) : (takeLinkCfg (takeLinkCfg d 0) 1).pci.cfgA = actW d 0x10040 ∧
    (takeLinkCfg (takeLinkCfg d 0) 1).pci.cfgB = actW d 0x11040 := ⟨rfl, rfl⟩

theorem actW_takeLinkCfg (d : Dev) (port o : Nat) : actW (takeLinkCfg d port) o = actW d o :=
  actW_congr (by rw [takeLinkCfg_hub]) o

/-- Writes of fields leave the other words alone. -/
theorem actW_wrs_ne (d : Dev) {l : List (Fld × Nat)} {offs : List Nat} (hl : l.map (fun e => e.1.off) = offs) {o : Nat} (ho : o ∉ offs) :
    actW (wrs d l) o = actW d o := by
  subst hl
  refine (ChangesOnly.wrs (ws := l.map fun e => e.1.off) d l fun g hg => ?_).words o ho
  obtain ⟨e, he, rfl⟩ := List.mem_map.1 hg
  exact List.mem_map_of_mem he

theorem stageFail_shape (d : Dev) {cause : Nat} (hc : cause < 16) :
    stage (stageFail d cause) = 0xF ∧ rd (stageFail d cause) F.GLB_BOOT_FCAUSE = cause ∧
    (stageFail d cause).sys = { d.sys with portsFree := true } ∧ (∀ o, o ≠ 0x144 → actW (stageFail d cause) o = actW d o) ∧
    (stageFail d cause).pci.cfgA = actW d 0x10040 ∧ (stageFail d cause).pci.cfgB = actW d 0x11040 ∧ (stageFail d cause).med = d.med := by
  let w := wrs { d with sys := { d.sys with portsFree := true } } [(F.GLB_BOOT_STAGE, 0xF), (F.GLB_BOOT_FCAUSE, cause)]
  have hw : w = wrs { d with sys := { d.sys with portsFree := true } } [(F.GLB_BOOT_STAGE, 0xF), (F.GLB_BOOT_FCAUSE, cause)] := rfl
  have hact (o : Nat) : actW (stageFail d cause) o = actW w o := (actW_takeLinkCfg _ 1 o).trans (actW_takeLinkCfg w 0 o)
  have hne (o : Nat) (ho : o ≠ 0x144) : actW w o = actW d o := actW_wrs_ne (offs := [0x144, 0x144]) _ rfl (by simpa using ho)
  obtain ⟨hA, hB⟩ := takeLinkCfg_both w
  refine ⟨?_, ?_, ?_, fun o ho => (hact o).trans (hne o ho), hA.trans (hne _ (by decide)), hB.trans (hne _ (by decide)), ?_⟩
  · rw [stage, rd_congr _ (hact _), hw]
    simp (disch := decide) only [wrs, List.foldl_cons, List.foldl_nil, rd_wr_same, rd_wr_apart]
    rfl
  · rw [rd_congr _ (hact _), hw]
    simp (disch := decide) only [wrs, List.foldl_cons, List.foldl_nil, rd_wr_same]
    exact Nat.mod_eq_of_lt hc
  · rw [stageFail, takeLinkCfg_sys, takeLinkCfg_sys, wrs_sys]
  · rw [stageFail, takeLinkCfg_med, takeLinkCfg_med, wrs_keeps Dev.med fun _ _ _ => rfl]

/-! ### The processors start -/

/-- Words that the bank and record registers of page FWA show. -/
def arrayShowWords : List Nat := [0xC044, F.FWA_RECSEQ_SEQ.off, F.FWA_LOCK_REGIONS.off, F.FWA_OPEN_REGIONS.off, F.FWA_BLOCKED_REGIONS.off,
  F.FWA_BAD_BANKS.off, F.FWA_KEYS_TRUSTED.off]

theorem ChangesOnly.recShow (d : Dev) : ChangesOnly arrayShowWords [] d (recShow d) := by
  unfold Machine.recShow
  split <;> exact ChangesOnly.wrs _ _ (by simp [arrayShowWords]; decide)

theorem ChangesOnly.arrayShow (d : Dev) : ChangesOnly arrayShowWords [] d (arrayShow d) := by
  have hreg : ChangesOnly arrayShowWords [] d (regShow d) := ChangesOnly.wrs _ _ (by simp [arrayShowWords])
  exact (hreg.step (.recShow _)).step ((ChangesOnly.wr _ F.FWA_KEYS_TRUSTED _).mono (by decide) (by simp))

theorem arrayShow_sys (d : Dev) : (arrayShow d).sys = d.sys := by
  have h := congrArg Dev.sys (ChangesOnly.arrayShow d).beside
  exact h

/-- What a start of the processors writes besides the words it shows of the array. -/
def bankStartFields (b : Nat) : List Fld :=
  [F.GLB_BOOT_BANK, F.FWA_BVER b, F.FWA_BANK_EXEC, F.FWA_ACTIVE_VER_VERSION, F.FWU_STATE_TARGET, F.MEDIA_OPSUP_MAX]

theorem rd_bankStarted (d : Dev) {f : Fld} {b : Nat} (hf : f.lo + f.wd ≤ 32) (ho : f.off ∉ arrayShowWords) (h : ∀ g ∈ bankStartFields b, FldApart f g) :
    rd (bankStarted d b) f = rd d f := by
  unfold bankStarted showBank
  simp only [bankStartFields, List.forall_mem_cons] at h
  obtain ⟨h1, h2, h3, h4, h5, h6, -⟩ := h
  simp (disch := assumption) only [wrs, List.foldl_cons, List.foldl_nil, rd_wr_apart]
  exact rd_congr f ((ChangesOnly.arrayShow d).words _ ho)

theorem rd_bankStarted_bank (d : Dev) {b : Nat} (hb : b < 2) :
    rd (bankStarted d b) F.GLB_BOOT_BANK = b ∧ rd (bankStarted d b) F.FWA_BANK_EXEC = b := by
  unfold bankStarted
  constructor <;> simp (disch := decide) only [wrs, List.foldl_cons, List.foldl_nil, rd_wr_same, rd_wr_apart]
  · exact Nat.mod_eq_of_lt hb
  · exact Nat.mod_eq_of_lt hb

theorem stepCpu_starts {d : Dev} {b : Nat} (h4 : stage d = 4) (hz : d.sys.zeroDone = true) (hv : d.sys.verifiedBank = some b) :
    stepCpu d = bankStarted (wrs d [(F.GLB_BOOT_STAGE, 5), (F.GLB_BOOT_BANK, b)]) b := by
  simp [stepCpu, h4, hz, hv]

theorem stepCpu_waits {d : Dev} (h : d.sys.zeroDone = false ∨ d.sys.verifiedBank = none) : stepCpu d = d := by
  unfold stepCpu
  rcases h with h | h
  · rw [if_neg (by simp [h])]
  · rw [h]
    split <;> rfl

/-- With memory zeroed the verified bank runs (R86 step 7). -/
theorem stepCpu_shows {d : Dev} {b : Nat} (h4 : stage d = 4) (hz : d.sys.zeroDone = true) (hv : d.sys.verifiedBank = some b) (hb : b < 2) :
    stage (stepCpu d) = 5 ∧ rd (stepCpu d) F.GLB_BOOT_BANK = b ∧ rd (stepCpu d) F.FWA_BANK_EXEC = b := by
  obtain ⟨hbank, hexec⟩ := rd_bankStarted_bank (wrs d [(F.GLB_BOOT_STAGE, 5), (F.GLB_BOOT_BANK, b)]) hb
  rw [stepCpu_starts h4 hz hv]
  refine ⟨?_, hbank, hexec⟩
  have hapart : ∀ b < 2, ∀ g ∈ bankStartFields b, FldApart F.GLB_BOOT_STAGE g := by decide
  rw [stage, rd_bankStarted _ (by decide) (by decide) (hapart b hb)]
  simp (disch := decide) only [wrs, List.foldl_cons, List.foldl_nil, rd_wr_same, rd_wr_apart]
  rfl

theorem bankStarted_sys (d : Dev) (b : Nat) : (bankStarted d b).sys = d.sys := by
  rw [bankStarted, wrs_sys, showBank, wr_sys, arrayShow_sys]

theorem stepCpu_sys (d : Dev) : (stepCpu d).sys = d.sys := by
  unfold stepCpu
  split
  · split
    · rw [bankStarted_sys, wrs_sys]
    · rfl
  · rfl

/-- The start of the processors leaves the other fields of the sequence. -/
theorem rd_stepCpu (d : Dev) {f : Fld} (hf : f.lo + f.wd ≤ 32) (ho : f.off ∉ arrayShowWords)
    (h : ∀ b, d.sys.verifiedBank = some b → ∀ g ∈ F.GLB_BOOT_STAGE :: bankStartFields b, FldApart f g) : rd (stepCpu d) f = rd d f := by
  unfold stepCpu
  split
  · split
    · next b hv =>
      obtain ⟨hs, hb⟩ := List.forall_mem_cons.1 (h b hv)
      have hbank : FldApart f F.GLB_BOOT_BANK := hb _ (by simp [bankStartFields])
      rw [rd_bankStarted _ hf ho hb]
      exact (rd_wr_apart _ _ hf hbank).trans (rd_wr_apart _ _ hf hs)
    · rfl
  · rfl

/-! ### The sequence -/

theorem applyFuse_sys (d : Dev) : (applyFuse d).sys = d.sys := by
  have hsalt (f : Nat → Nat) (d : Dev) (n : Nat) (g : Nat → Word) : (foldUpto n (fun i d => setActW d (f i) (g i)) d).sys = d.sys :=
    foldl_keeps Dev.sys _ d fun _ _ => rfl
  have hvariant : (loadVariant d).sys = d.sys := foldl_keeps Dev.sys _ d fun _ _ => rfl
  unfold applyFuse
  dsimp only
  rw [hsalt, wrs_sys, hvariant]

/-- The ports are released with the link configuration of their pages (R86 step 4). -/
theorem portsReleased_shape (d : Dev) :
    let r := takeLinkCfg (takeLinkCfg (wr { d with sys := { d.sys with portsFree := true } } F.GLB_BOOT_STAGE 4) 0) 1
    stage r = 4 ∧ r.sys.portsFree = true ∧ r.pci.cfgA = actW d 0x10040 ∧ r.pci.cfgB = actW d 0x11040 ∧ ∀ o, o ≠ 0x144 → actW r o = actW d o := by
  intro r
  let w := wr { d with sys := { d.sys with portsFree := true } } F.GLB_BOOT_STAGE 4
  have hact (o : Nat) : actW r o = actW w o := (actW_takeLinkCfg _ 1 o).trans (actW_takeLinkCfg w 0 o)
  have hne (o : Nat) (ho : o ≠ 0x144) : actW w o = actW d o := actW_wr_ne _ _ _ ho
  obtain ⟨hA, hB⟩ := takeLinkCfg_both w
  refine ⟨?_, ?_, hA.trans (hne _ (by decide)), hB.trans (hne _ (by decide)), fun o ho => (hact o).trans (hne o ho)⟩
  · rw [stage, rd_congr _ (hact _)]
    exact rd_wr_same _ _ _ (by decide)
  · show (takeLinkCfg (takeLinkCfg w 0) 1).sys.portsFree = true
    rw [takeLinkCfg_sys, takeLinkCfg_sys]
    rfl

/-- The device with the zero-fill complete. -/
def zeroFilled (d : Dev) : Dev :=
  wrs { d with sys := { d.sys with zeroDone := true } } [(F.MEM_ZSTAT_DONE, 1), (F.MEM_ZTIME_US, ceilDiv (d.sys.time - d.sys.zeroT) 1000)]

theorem zeroFilled_shows (d : Dev) : stage (zeroFilled d) = stage d ∧ rd (zeroFilled d) F.MEM_ZSTAT_DONE = 1 ∧ (zeroFilled d).sys = { d.sys with zeroDone := true } := by
  refine ⟨?_, ?_, wrs_sys _ _⟩
  · rw [stage, zeroFilled]
    simp (disch := decide) only [wrs, List.foldl_cons, List.foldl_nil, rd_wr_apart]
    rfl
  · rw [zeroFilled]
    simp (disch := decide) only [wrs, List.foldl_cons, List.foldl_nil, rd_wr_same, rd_wr_apart]
    rfl

theorem gives_zeroFill {s : State} {bad : Option Nat} (hs : serving s.dev = true) (h4 : stage s.dev = 4) (ho : s.dev.sys.hbmOk = true)
    (hz : s.dev.sys.zeroDone = false) {P : Dev → Prop} {e : Dev} (he : (match bad with
      | some m => stageFail (wrs (zeroFilled s.dev) [(F.MEM_ZSTAT_FAIL, 1), (F.MEM_ZSTAT_MEMID, m)]) 3
      | none => stepCpu (zeroFilled s.dev)) = e) (hp : P e) : Gives (.zeroFillComplete bad) s P :=
  gives_of_guard_eq rfl (by simp [hs, h4, ho, hz]) he hp

/-- Settles O25, step by step of the sequence. -/
theorem powerOnSequence : Obligations.PowerOnSequence := by
  refine ⟨fun s fuse hs h2 => ?_, fun d cause hc => stageFail_shape d hc, fun s hs h2 => ?_, fun s hs h3 => ⟨?_, ?_⟩, fun s hs h4 ho => ⟨?_, ?_⟩,
    fun s hs h4 ho hz => ⟨fun b hv hb => ?_, fun hv => ?_, fun m hm => ?_⟩⟩
  · refine gives_of_guard rfl (by simp [hs, h2]) ⟨?_, rfl⟩
    rw [applyFuse_sys, wrs_sys]
  · exact gives_of_guard rfl (by simp [hs, h2]) rfl
  · cases ht : s.dev.sys.testEn with
    | true => exact gives_of_guard_eq rfl (by simp [hs, h3]) (by simp [ht]) ⟨fun _ => rfl, fun h => nomatch h⟩
    | false =>
      exact gives_of_guard_eq rfl (by simp [hs, h3]) (by simp [ht]) ⟨fun h => (nomatch h), fun _ => portsReleased_shape s.dev⟩
  · exact gives_of_guard_eq rfl (by simp [hs, h3]) (by simp) rfl
  · exact gives_of_guard_eq rfl (by simp [hs, h4, ho]) (by simp) rfl
  · exact gives_of_guard_eq rfl (by simp [hs, h4, ho]) (by simp) rfl
  · obtain ⟨hst, hdone, hsys⟩ := zeroFilled_shows s.dev
    have hz' : (zeroFilled s.dev).sys.zeroDone = true := by rw [hsys]
    have hv' : (zeroFilled s.dev).sys.verifiedBank = some b := by rw [hsys]; exact hv
    obtain ⟨h5, hbank, hexec⟩ := stepCpu_shows (hst.trans h4) hz' hv' hb
    have hapart : ∀ b < 2, ∀ g ∈ F.GLB_BOOT_STAGE :: bankStartFields b, FldApart F.MEM_ZSTAT_DONE g := by decide
    refine gives_zeroFill hs h4 ho hz rfl ⟨h5, hbank, hexec, ?_⟩
    rw [rd_stepCpu _ (by decide) (by decide) fun b' hb' => hapart b' (by rw [hv'] at hb'; cases hb'; exact hb), hdone]
  · obtain ⟨hst, hdone, hsys⟩ := zeroFilled_shows s.dev
    have hv' : (zeroFilled s.dev).sys.verifiedBank = none := by rw [hsys]; exact hv
    exact gives_zeroFill hs h4 ho hz (stepCpu_waits (.inr hv')) ⟨hst.trans h4, hdone, by rw [hsys]⟩
  · obtain ⟨h15, hcause, -, hact, -⟩ := stageFail_shape (wrs (zeroFilled s.dev) [(F.MEM_ZSTAT_FAIL, 1), (F.MEM_ZSTAT_MEMID, m)]) (cause := 3) (by decide)
    refine gives_zeroFill hs h4 ho hz rfl ⟨h15, hcause, ?_, ?_⟩ <;> rw [rd_congr _ (hact _ (by decide))] <;>
      simp (disch := decide) only [wrs, List.foldl_cons, List.foldl_nil, rd_wr_same, rd_wr_apart]
    · rfl
    · exact Nat.mod_eq_of_lt (Nat.lt_trans hm (by decide))

/-! ### The firmware -/

theorem preferredBank_lt (d : Dev) : preferredBank d < 2 := by
  unfold preferredBank
  dsimp only
  split
  · decide
  · split
    · decide
    · split
      · exact Nat.mod_lt _ (by decide)
      · decide

/-- The bit that shows whether a bank verified. -/
def bankOkField (b : Nat) : Fld := if b = 0 then F.GLB_BOOT_B0OK else F.GLB_BOOT_B1OK

theorem bankOkField_cases (b : Nat) : bankOkField b = F.GLB_BOOT_B0OK ∨ bankOkField b = F.GLB_BOOT_B1OK := by
  unfold bankOkField
  split
  · exact .inl rfl
  · exact .inr rfl

theorem bankOkField_shape (b : Nat) : (bankOkField b).off = 0x144 ∧ (bankOkField b).wd = 1 ∧ (bankOkField b).lo + (bankOkField b).wd ≤ 32 ∧
    FldApart F.GLB_BOOT_STAGE (bankOkField b) := by
  have h : ∀ f ∈ [F.GLB_BOOT_B0OK, F.GLB_BOOT_B1OK], f.off = 0x144 ∧ f.wd = 1 ∧ f.lo + f.wd ≤ 32 ∧ FldApart F.GLB_BOOT_STAGE f := by decide
  refine h _ ?_
  simpa using bankOkField_cases b

/-- The late verdict on a bank shows in its bit and its version. -/
theorem showBank_shows (d : Dev) (b : Nat) (ok : Bool) :
    rd (showBank (wr d (bankOkField b) (b2n ok)) b ok) (bankOkField b) = b2n ok ∧
    stage (showBank (wr d (bankOkField b) (b2n ok)) b ok) = stage d ∧
    rd (showBank (wr d (bankOkField b) (b2n ok)) b ok) (F.FWA_BVER b) = if ok then (bankHdr d b).version % 2 ^ 32 else 0 := by
  obtain ⟨hoff, hwd, hfit, hapart⟩ := bankOkField_shape b
  have hver : FldApart (bankOkField b) (F.FWA_BVER b) := .inl (by rw [hoff]; show 0x144 ≠ 0xC04C + 4 * b; omega)
  have hstage : FldApart F.GLB_BOOT_STAGE (F.FWA_BVER b) := .inl (by show 0x144 ≠ 0xC04C + 4 * b; omega)
  refine ⟨?_, ?_, ?_⟩
  · rw [showBank, rd_wr_apart _ _ hfit hver, rd_wr_same _ _ _ hfit, hwd]
    cases ok <;> rfl
  · rw [stage, showBank, rd_wr_apart _ _ (by decide) hstage, rd_wr_apart _ _ (by decide) hapart]
    rfl
  · refine (rd_wr_same _ (F.FWA_BVER b) _ (Nat.le_refl 32)).trans ?_
    cases ok <;> rfl

/-- The device with a bank verified. -/
def bankTaken (d : Dev) (b : Nat) (fallback : Bool) : Dev :=
  let d1 := wrs d [(bankOkField b, 1), (F.GLB_BOOT_FALLBACK, b2n fallback)]
  { d1 with sys := { d1.sys with verifiedBank := some b } }

theorem bankTaken_shows (d : Dev) (b : Nat) (fallback : Bool) : stage (bankTaken d b fallback) = stage d ∧
    rd (bankTaken d b fallback) F.GLB_BOOT_FALLBACK = b2n fallback ∧ rd (bankTaken d b fallback) (bankOkField b) = 1 ∧
    (bankTaken d b fallback).sys = { d.sys with verifiedBank := some b } := by
  have hhub (f : Fld) : rd (bankTaken d b fallback) f = rd (wrs d [(bankOkField b, 1), (F.GLB_BOOT_FALLBACK, b2n fallback)]) f := rfl
  refine ⟨?_, ?_, ?_, ?_⟩
  · rw [stage, hhub]
    rcases bankOkField_cases b with h | h <;> rw [h] <;> simp (disch := decide) only [wrs, List.foldl_cons, List.foldl_nil, rd_wr_apart] <;> rfl
  · rw [hhub]
    refine (rd_wr_same _ F.GLB_BOOT_FALLBACK _ (by decide)).trans ?_
    cases fallback <;> rfl
  · rw [hhub]
    rcases bankOkField_cases b with h | h <;> rw [h] <;> simp (disch := decide) only [wrs, List.foldl_cons, List.foldl_nil, rd_wr_same, rd_wr_apart] <;> rfl
  · show { (wrs d _).sys with verifiedBank := some b } = _
    rw [wrs_sys]

theorem bankStartFields_apart : ∀ b < 2, ∀ f ∈ [F.GLB_BOOT_STAGE, F.GLB_BOOT_FALLBACK, F.GLB_BOOT_B0OK, F.GLB_BOOT_B1OK], ∀ g ∈ bankStartFields b, FldApart f g := by
  decide

/-- The bank that the sequence expects to be verified (R87). -/
def expectedBank (d : Dev) : Nat := if d.sys.bankFailed then 1 - preferredBank d else preferredBank d

theorem expectedBank_lt (d : Dev) : expectedBank d < 2 := by
  have h := preferredBank_lt d
  unfold expectedBank
  split <;> omega

theorem fallback_iff (d : Dev) : (!(expectedBank d == preferredBank d)) = d.sys.bankFailed := by
  have h := preferredBank_lt d
  unfold expectedBank
  cases d.sys.bankFailed with
  | false => simp
  | true =>
    have hne : 1 - preferredBank d ≠ preferredBank d := by omega
    simp [hne]

theorem guardDev_of {b : Bool} {d d' : Dev} (h : b = true) : guardDev b d d' = d' := if_pos h

section
variable {s : State} {v : ImgVerdict} (hs : serving s.dev = true)
include hs

theorem gives_expectedBank (h4 : stage s.dev = 4) (hv : s.dev.sys.verifiedBank = none) {P : Dev → Prop} {e : Dev}
    (he : (if (imgVerifies s.dev (expectedBank s.dev) v).isSome then stepCpu (bankTaken s.dev (expectedBank s.dev) s.dev.sys.bankFailed)
      else if s.dev.sys.bankFailed then arrayShow (stageFail s.dev 4) else { s.dev with sys := { s.dev.sys with bankFailed := true } }) = e) (hp : P e) :
    Gives (.bankVerified (expectedBank s.dev) v) s P := by
  refine ⟨e, congrArg (finish s) ?_, hp⟩
  have hlate : (serving s.dev && (stage s.dev == 5 || stage s.dev == 6) && expectedBank s.dev == 1 - rd s.dev F.FWA_BANK_EXEC) = false := by simp [h4]
  have hguard : (serving s.dev && stage s.dev == 4 && s.dev.sys.verifiedBank.isNone &&
      expectedBank s.dev == (if s.dev.sys.bankFailed then 1 - preferredBank s.dev else preferredBank s.dev)) = true := by
    simp [hs, h4, hv, expectedBank]
  have hf (b : Nat) : bankOkField b = if (b == 0) = true then F.GLB_BOOT_B0OK else F.GLB_BOOT_B1OK := by simp [bankOkField]
  have htaken : bankTaken s.dev (expectedBank s.dev) s.dev.sys.bankFailed =
      (let d1 := wrs s.dev [(if (expectedBank s.dev == 0) = true then F.GLB_BOOT_B0OK else F.GLB_BOOT_B1OK, 1),
         (F.GLB_BOOT_FALLBACK, b2n (!(expectedBank s.dev == preferredBank s.dev)))]
       { d1 with sys := { d1.sys with verifiedBank := some (expectedBank s.dev) } }) := by rw [fallback_iff, ← hf]; rfl
  rw [← he, htaken]
  exact (if_neg (Bool.not_eq_true _ ▸ hlate)).trans (guardDev_of hguard)

end

/-- The other bank, verified while the firmware of one runs, is shown alone (R87). -/
theorem gives_otherBank {s : State} {v : ImgVerdict} (hs : serving s.dev = true) (h56 : stage s.dev = 5 ∨ stage s.dev = 6) {b : Nat}
    (hb : b = 1 - rd s.dev F.FWA_BANK_EXEC) {P : Dev → Prop}
    (hp : P (showBank (wr s.dev (bankOkField b) (b2n (imgVerifies s.dev b v).isSome)) b (imgVerifies s.dev b v).isSome)) :
    Gives (.bankVerified b v) s P := by
  have hf : (if (b == 0) = true then F.GLB_BOOT_B0OK else F.GLB_BOOT_B1OK) = bankOkField b := by simp [bankOkField]
  rw [← hf] at hp
  have hlate : (serving s.dev && (stage s.dev == 5 || stage s.dev == 6) && b == 1 - rd s.dev F.FWA_BANK_EXEC) = true := by simp [hs, h56, ← hb]
  exact ⟨_, congrArg (finish s) (if_pos hlate), hp⟩

/-- One page of `setOn`. -/
def setPageOn (d : Dev) (p : Nat) : Dev :=
  if domainOf p ≥ 30 || domOn d (domainOf p) then setHdr d p { hdrOf d p with on := true } else d

theorem setOn_eq (d : Dev) : setOn d = allPages.foldl setPageOn d := rfl

theorem actW_setPageOn (d : Dev) (p o : Nat) : actW (setPageOn d p) o = actW d o := by
  unfold setPageOn
  split <;> rfl

theorem setPageOn_keeps {d : Dev} {p : Nat} (q : Nat) (h : (hdrOf d p).on = true) : (hdrOf (setPageOn d q) p).on = true := by
  unfold setPageOn
  split
  · rw [hdrOf_setHdr]
    split
    · rfl
    · exact h
  · exact h

theorem setPageOn_on {d : Dev} {p : Nat} (h : domainOf p ≥ 30 ∨ domOn d (domainOf p) = true) : (hdrOf (setPageOn d p) p).on = true := by
  rw [setPageOn, if_pos (by simpa using h), hdrOf_setHdr_same]

/-- A page whose domain is on has ON set once the firmware runs (R68). -/
theorem setOn_on (d : Dev) {p : Nat} (h : domainOf p ≥ 30 ∨ domOn d (domainOf p) = true) (hp : p ∈ allPages) : (hdrOf (setOn d) p).on = true := by
  rw [setOn_eq]
  generalize allPages = l at hp
  induction l generalizing d with
  | nil => cases hp
  | cons q l ih =>
    rw [List.foldl_cons]
    rcases List.mem_cons.1 hp with rfl | hp
    · exact foldl_induct (P := fun d => (hdrOf d p).on = true) l (setPageOn_on h) fun q d _ hd => setPageOn_keeps q hd
    · refine ih (setPageOn d q) ?_ hp
      have hon : domOn (setPageOn d q) (domainOf p) = domOn d (domainOf p) := by simp only [domOn, rd, actW_setPageOn]
      rwa [hon]

theorem actW_setOn (d : Dev) (o : Nat) : actW (setOn d) o = actW d o :=
  foldl_keeps (fun d => actW d o) _ d fun d p => actW_setPageOn d p o

/-- What the firmware's READY writes (R86 step 8). -/
def firmwareReady (d : Dev) : Dev := logNote (setOn (wrs d [(F.GLB_BOOT_STAGE, 6), (F.GLB_READYT_T, now32 d)])) 0xFF01 []

theorem rd_firmwareReady (d : Dev) {f : Fld} (hf : f.off ∉ logWords) :
    rd (firmwareReady d) f = rd (wrs d [(F.GLB_BOOT_STAGE, 6), (F.GLB_READYT_T, now32 d)]) f :=
  rd_congr f (((ChangesOnly.logPut _ _ _).words _ hf).trans (actW_setOn _ _))

theorem firmwareReady_on (d : Dev) {p : Nat} (hp : p ∈ allPages) (h : domainOf p ≥ 30 ∨ domOn d (domainOf p) = true) :
    (hdrOf (firmwareReady d) p).on = true := by
  have hdom : domOn (wrs d [(F.GLB_BOOT_STAGE, 6), (F.GLB_READYT_T, now32 d)]) (domainOf p) = domOn d (domainOf p) := by
    rw [domOn, domOn]
    simp (disch := decide) only [wrs, List.foldl_cons, List.foldl_nil, rd_wr_apart]
  obtain ⟨raw, hraw⟩ := hdrOf_logPut (setOn (wrs d [(F.GLB_BOOT_STAGE, 6), (F.GLB_READYT_T, now32 d)])) 0xFF01
    ((0 : Word) :: (logRegs 0xFF01).map (actW (setOn (wrs d [(F.GLB_BOOT_STAGE, 6), (F.GLB_READYT_T, now32 d)])))) p
  have honeq : (hdrOf (firmwareReady d) p).on = (hdrOf (setOn (wrs d [(F.GLB_BOOT_STAGE, 6), (F.GLB_READYT_T, now32 d)])) p).on := by
    have heq : firmwareReady d = logPut (setOn (wrs d [(F.GLB_BOOT_STAGE, 6), (F.GLB_READYT_T, now32 d)])) 0xFF01
      ((0 : Word) :: (logRegs 0xFF01).map (actW (setOn (wrs d [(F.GLB_BOOT_STAGE, 6), (F.GLB_READYT_T, now32 d)])))) := rfl
    rw [heq, hraw]
  exact honeq.trans (setOn_on _ (by rwa [hdom]) hp)

theorem firmwareReady_shows (d : Dev) : stage (firmwareReady d) = 6 ∧ rd (firmwareReady d) F.GLB_READYT_T = now32 d ∧
    rd (firmwareReady d) F.FWA_ACTIVE_VER_VERSION = rd d F.FWA_ACTIVE_VER_VERSION := by
  refine ⟨?_, ?_, ?_⟩
  · rw [stage, rd_firmwareReady d (by decide)]
    simp (disch := decide) only [wrs, List.foldl_cons, List.foldl_nil, rd_wr_same, rd_wr_apart]
    rfl
  · rw [rd_firmwareReady d (by decide)]
    simp (disch := decide) only [wrs, List.foldl_cons, List.foldl_nil, rd_wr_same]
    exact Nat.mod_eq_of_lt (Nat.mod_lt _ (by decide))
  · rw [rd_firmwareReady d (by decide)]
    simp (disch := decide) only [wrs, List.foldl_cons, List.foldl_nil, rd_wr_apart]

theorem readyTimeout_stops {d : Dev} (ht : d.upd.tried.contains (1 - rd d F.FWA_BANK_EXEC) = true) :
    stage (readyTimeout d) = 0xF ∧ rd (readyTimeout d) F.GLB_BOOT_FCAUSE = 4 := by
  have hstop : readyTimeout d = arrayShow (wrs d [(F.GLB_BOOT_STAGE, 0xF), (F.GLB_BOOT_FCAUSE, 4)]) := by
    refine if_neg ?_
    rw [ht]
    simp
  rw [hstop]
  have hshow (f : Fld) (hf : f.off ∉ arrayShowWords) := rd_congr f ((ChangesOnly.arrayShow (wrs d [(F.GLB_BOOT_STAGE, 0xF), (F.GLB_BOOT_FCAUSE, 4)])).words _ hf)
  rw [stage, hshow _ (by decide), hshow _ (by decide)]
  constructor <;> simp (disch := decide) only [wrs, List.foldl_cons, List.foldl_nil, rd_wr_same, rd_wr_apart] <;> rfl

/-- Settles O26: the verdicts on the banks, READY and its timeout. -/
theorem firmwareStarts : Obligations.FirmwareStarts := by
  refine ⟨fun s v hs h4 hv => ⟨fun hok => ?_, fun hok => ?_⟩, fun s v hs h56 => ?_, fun s hs h5 => ?_, fun s hs h5 => ?_⟩
  · obtain ⟨hst, hfall, hbok, hsys⟩ := bankTaken_shows s.dev (expectedBank s.dev) s.dev.sys.bankFailed
    have hlt := expectedBank_lt s.dev
    have hver : (bankTaken s.dev (expectedBank s.dev) s.dev.sys.bankFailed).sys.verifiedBank = some (expectedBank s.dev) := by rw [hsys]
    refine gives_expectedBank hs h4 hv (if_pos hok) ?_
    change _ ∧ _ ∧ rd _ (bankOkField (expectedBank s.dev)) = 1 ∧ _
    generalize hd : bankTaken s.dev (expectedBank s.dev) s.dev.sys.bankFailed = d at *
    have hapart {f : Fld} (hf : f ∈ [F.GLB_BOOT_STAGE, F.GLB_BOOT_FALLBACK, F.GLB_BOOT_B0OK, F.GLB_BOOT_B1OK]) (hfs : FldApart f F.GLB_BOOT_STAGE) :
        ∀ b, d.sys.verifiedBank = some b → ∀ g ∈ F.GLB_BOOT_STAGE :: bankStartFields b, FldApart f g := by
      intro b hb
      rw [hver] at hb
      cases hb
      exact List.forall_mem_cons.2 ⟨hfs, bankStartFields_apart _ hlt f hf⟩
    refine ⟨?_, ?_, ?_, fun hz => ?_, fun hz => ?_⟩
    · exact (congrArg Sys.verifiedBank (stepCpu_sys d)).trans hver
    · rw [rd_stepCpu d (by decide) (by decide) (hapart (by simp) (by decide)), hfall]
    · rcases bankOkField_cases (expectedBank s.dev) with h | h <;> rw [h] at hbok ⊢ <;>
        rw [rd_stepCpu d (by decide) (by decide) (hapart (by simp) (by decide)), hbok]
    · obtain ⟨h5, hbank, hexec⟩ := stepCpu_shows (hst.trans h4) (by rw [hsys]; exact hz) hver hlt
      exact ⟨h5, hexec, hbank⟩
    · rw [stepCpu_waits (.inl (by rw [hsys]; exact hz)), hst, h4]
  · have hno : ¬ (imgVerifies s.dev (expectedBank s.dev) v).isSome = true := by
      intro h
      exact absurd (h.symm.trans hok) (by decide)
    refine gives_expectedBank hs h4 hv (if_neg hno) ⟨fun hb => ?_, fun hb => ?_⟩
    · simp [hb]
    · simp [hb]
  · obtain ⟨hbit, hst, hver⟩ := showBank_shows s.dev (1 - rd s.dev F.FWA_BANK_EXEC) (imgVerifies s.dev (1 - rd s.dev F.FWA_BANK_EXEC) v).isSome
    exact gives_otherBank hs h56 rfl ⟨rfl, hbit, hst, hver⟩
  · have hexec : exec .firmwareInitialised s =
        finish s (guardDev (serving s.dev && stage s.dev == 5) s.dev (imageRunning (firmwareReady s.dev))) := rfl
    obtain ⟨h6, hreadyt, hver⟩ := firmwareReady_shows s.dev
    have hon (p : Nat) := firmwareReady_on s.dev (p := p)
    generalize firmwareReady s.dev = d at *
    exact gives_of_guard hexec (by simp [hs, h5]) ⟨h6, hreadyt, hver, hon⟩
  · have hexec : exec .firmwareReadyTimeout s = finish s (guardDev (serving s.dev && stage s.dev == 5) s.dev (readyTimeout s.dev)) := rfl
    exact gives_of_guard hexec (by simp [hs, h5]) ⟨rfl, fun ht => readyTimeout_stops ht⟩

end Sys2Proof.Machine
end

section
/-!
PROOFS. PLLs, reference clocks and the crystal, lost and back (R82 to R85, R307, R351).
-/
namespace Sys2Proof.Machine

/-- The loss of the lock of a PLL clears its bit and raises UNLOCK (R85). -/
theorem pllUnlocked_shows (d : Dev) {pll : Nat} (hp : pll < 23) :
    bitOf (rd (raise (setBit d F.CLK_STAT_LOCK pll false) 3 8) F.CLK_STAT_LOCK) pll = false ∧
    evtSet (raise (setBit d F.CLK_STAT_LOCK pll false) 3 8) 3 8 = true ∧
    ChangesOnly (0x304C :: logWords) [3, 0x7E] d (raise (setBit d F.CLK_STAT_LOCK pll false) 3 8) := by
  refine ⟨?_, evtSet_raise_same _ _ (by decide), ?_⟩
  · rw [rd_raise _ _ _ _ (by decide)]
    exact bitOf_setBit_same d false (by decide) hp
  · exact ((ChangesOnly.setBit d _ _ _).trans (ChangesOnly.raise _ 3 8)).mono (by simp [F.CLK_STAT_LOCK]) (by simp)

theorem setBit_med (d : Dev) (f : Fld) (n : Nat) (v : Bool) : (setBit d f n v).med = d.med := by
  have h := congrArg Dev.med (beside_setBit (d := d) f n v)
  exact h

/-- The port takes the link configuration of its page. -/
theorem takeLinkCfg_cfg (d : Dev) (port : Nat) :
    (if port = 0 then (takeLinkCfg d port).pci.cfgA else (takeLinkCfg d port).pci.cfgB) = actW d (0x10040 + 0x1000 * port) := by
  unfold takeLinkCfg
  by_cases h : port = 0
  · rw [if_pos h, if_pos (by simpa using h)]
  · rw [if_neg h, if_neg (by simpa using h)]

/-- The device whose PLL locks again. -/
def pllRelocked (d : Dev) (pll : Nat) : Dev :=
  let d1 := setBit d F.CLK_STAT_LOCK pll true
  if pll ≥ 21 && d.sys.portDead.contains (pll - 21) then
    takeLinkCfg { d1 with sys := { d1.sys with portDead := ndel (pll - 21) d1.sys.portDead } } (pll - 21)
  else d1

section
variable {d : Dev} {pll : Nat}

theorem rd_pllRelocked_lock (hp : pll < 23) : bitOf (rd (pllRelocked d pll) F.CLK_STAT_LOCK) pll = true := by
  have hset := bitOf_setBit_same d (f := F.CLK_STAT_LOCK) true (by decide) hp
  unfold pllRelocked
  dsimp only
  split
  · rw [rd_congr _ (actW_takeLinkCfg _ _ _)]
    exact hset
  · exact hset

theorem pllRelocked_alive (h : 21 ≤ pll → d.sys.portDead.contains (pll - 21) = false) : ChangesOnly [0x304C] [] d (pllRelocked d pll) := by
  have hno : ¬ (decide (pll ≥ 21) && d.sys.portDead.contains (pll - 21)) = true := by
    intro hc
    rw [Bool.and_eq_true, decide_eq_true_eq] at hc
    rw [h hc.1] at hc
    exact absurd hc.2 (by decide)
  rw [pllRelocked, if_neg hno]
  exact ChangesOnly.setBit d F.CLK_STAT_LOCK pll true

theorem pllRelocked_port (h21 : 21 ≤ pll) (hp : pll < 23) (h : d.sys.portDead.contains (pll - 21) = true) :
    (pllRelocked d pll).sys.portDead = ndel (pll - 21) d.sys.portDead ∧
    (if pll = 21 then (pllRelocked d pll).pci.cfgA else (pllRelocked d pll).pci.cfgB) = actW d (0x10040 + 0x1000 * (pll - 21)) := by
  have hif (x y : Word) : (if pll = 21 then x else y) = if pll - 21 = 0 then x else y := ite_congr (propext (by omega)) (fun _ => rfl) fun _ => rfl
  have hyes : (decide (pll ≥ 21) && d.sys.portDead.contains (pll - 21)) = true := by simp only [h, decide_eq_true h21, Bool.and_self]
  rw [pllRelocked, if_pos hyes]
  constructor
  · rw [takeLinkCfg_sys, setBit_sys]
  · rw [hif, takeLinkCfg_cfg]
    exact (ChangesOnly.setBit d F.CLK_STAT_LOCK pll true).words _ (by simp [F.CLK_STAT_LOCK]; omega)

end

/-- A core PLL that stays unlocked leaves the device faulty, with ALERT# low (R85). -/
theorem settleEvents_dead_alert {d : Dev} (h : d.sys.dead = true) : (settleEvents d).sys.alertLow = true := by
  rw [settleEvents_alertLow, h, Bool.or_true]

/-- Settles O27: the four rows of a PLL, by its kind. -/
theorem pllLockFollowed : Obligations.PllLockFollowed := by
  refine ⟨fun s pll ha hp hb => ?_, fun s pll ha hp hb hst hdom href => ?_, fun s pll ha hp hb hst hdom => ?_, fun s port ha hp hb hdom href => ⟨?_, ?_⟩⟩
  · exact gives_of_guard rfl (by simp [ha, hp, hb]) (pllUnlocked_shows s.dev hp)
  · have href' : (decide (pll < 21) || s.dev.sys.refPresent.contains (pll - 21)) = true := by simpa using href
    by_cases hbroken : 5 ≤ pll ∧ pll ≤ 20 ∧ pllBroken s.dev (pll - 5) = true
    · obtain ⟨h5, h20, hbr⟩ := hbroken
      refine ⟨s.dev, congrArg (finish s) (if_neg ?_), fun h => ?_, fun h => ?_, fun h => ?_, fun _ _ _ => rfl⟩
      · simp [h5, h20, hbr]
      · exact absurd (hbr.symm.trans (h h5 h20)) (by decide)
      · exact absurd (hbr.symm.trans (h h5 h20)) (by decide)
      · omega
    · have hno : (!(decide (5 ≤ pll) && decide (pll ≤ 20) && pllBroken s.dev (pll - 5))) = true := by
        rw [Bool.not_eq_true', Bool.eq_false_iff]
        intro h
        simp only [Bool.and_eq_true, decide_eq_true_eq] at h
        exact hbroken ⟨h.1.1, h.1.2, h.2⟩
      refine gives_of_guard (d' := pllRelocked s.dev pll) rfl ?_ ⟨fun _ => rd_pllRelocked_lock hp, fun _ h => pllRelocked_alive h,
        fun h21 h => pllRelocked_port h21 hp h, fun h5 h20 h => absurd ⟨h5, h20, h⟩ hbroken⟩
      rw [ha, hb, hdom, hno, href']
      simp [hp, hst]
  · have hguard : (alive s.dev && decide (pll < 23) && !bitOf (rd s.dev F.CLK_STAT_LOCK) pll && decide (stage s.dev ≥ 3) && pllDomainOn s.dev pll) = true := by
      simp [ha, hp, hb, hst, hdom]
    by_cases h4 : pll ≤ 4
    · refine gives_of_guard_eq rfl hguard (if_pos h4) ⟨fun _ => ⟨rfl, settleEvents_dead_alert rfl⟩, by omega, by omega⟩
    by_cases h20 : pll ≤ 20
    · exact gives_of_guard_eq rfl hguard ((if_neg h4).trans (if_pos h20)) ⟨by omega, fun _ _ => rfl, by omega⟩
    · exact gives_of_guard_eq rfl hguard ((if_neg h4).trans (if_neg h20)) ⟨by omega, by omega, fun _ => rfl⟩
  · let d1 : Dev := { s.dev with sys := { s.dev.sys with portDead := ndel port s.dev.sys.portDead } }
    have href' : (true && s.dev.sys.refPresent.contains port) = true := by simpa using href
    have hne : 0x10040 + 0x1000 * port ∉ [F.CLK_STAT_LOCK.off] := by simp [F.CLK_STAT_LOCK]; omega
    refine gives_of_guard_eq rfl (by simp [ha, hp, hb, hdom]) (if_pos href') ⟨?_, ?_⟩
    · rw [rd_congr _ (actW_takeLinkCfg _ _ _)]
      exact bitOf_setBit_same d1 true (by decide) (by show 21 + port < 23; omega)
    · rw [takeLinkCfg_cfg]
      exact (ChangesOnly.setBit d1 F.CLK_STAT_LOCK (21 + port) true).words _ hne
  · exact gives_of_guard_eq rfl (by simp [ha, hp, hb, hdom]) (if_neg (by simp)) rfl

/-- Settles O28: each row's fields. -/
theorem clocksLostAndBack : Obligations.ClocksLostAndBack := by
  refine ⟨fun s port ha hp href => ?_, fun s port ha hp => ?_, fun s ha hx => ?_, fun s ha => ?_⟩
  · have halive : alive { s.dev with sys := { s.dev.sys with refPresent := ndel port s.dev.sys.refPresent } } = true := ha
    have hf : (if (port == 0) = true then F.CLK_STAT_REFA else F.CLK_STAT_REFB) = if port = 0 then F.CLK_STAT_REFA else F.CLK_STAT_REFB := by simp
    refine gives_of_guard rfl (by rw [halive, href, decide_eq_true hp]; rfl) ?_
    rw [hf]
  · have hf : (if (port == 0) = true then F.CLK_STAT_REFA else F.CLK_STAT_REFB) = if port = 0 then F.CLK_STAT_REFA else F.CLK_STAT_REFB := by simp
    refine gives_of_guard rfl (by simp [ha, hp]) ?_
    rw [hf]
    refine ⟨rfl, ?_, ?_⟩
    · split <;> exact rd_wr_same _ _ _ (by decide)
    · split
      · exact ChangesOnly.wr _ F.CLK_STAT_REFA 1
      · exact ChangesOnly.wr _ F.CLK_STAT_REFB 1
  · have halive : alive { s.dev with sys := { s.dev.sys with xtalBad := true } } = true := ha
    exact gives_of_guard rfl (by simp [halive, hx]) rfl
  · refine gives_of_guard rfl ha ⟨?_, ?_, ?_, ?_⟩
    · rw [setBit_sys]
      rfl
    · rw [rd_setBit_apart _ _ _ (by decide) (by decide)]
      exact rd_wr_same _ _ _ (by decide)
    · exact bitOf_setBit_same _ _ (by decide) (by decide)
    · exact setBit_med ..

end Sys2Proof.Machine
end

section
/-!
PROOFS. The emergency flush (R88, R229 to R235, R424) and the warm restart (R90).
-/
namespace Sys2Proof.Machine

/-! ### Parts of the flush -/

/-- System state, registers' hub and media: what the firmware array's abandoned operations leave. -/
theorem arrAbandon_keeps (d : Dev) : (arrAbandon d).sys = d.sys ∧ (arrAbandon d).med = d.med ∧ (arrAbandon d).hub = d.hub := by
  have hdoubt {α : Type} (g : Dev → α) (hg : ∀ d a, g (setArr d a) = g d) : g (arrAbandon d) = g d := by
    unfold arrAbandon
    rw [hg]
    exact foldl_keeps g _ d fun d o => hg d _
  exact ⟨hdoubt Dev.sys fun _ _ => rfl, hdoubt Dev.med fun _ _ => rfl, hdoubt Dev.hub fun _ _ => rfl⟩

theorem flushStop_sys (d : Dev) : (flushStop d).sys = d.sys := by
  have hout (l : List (Nat × LunSt)) (d : Dev) : (l.foldl (fun d e => nandOut d e.1 [.cmd 0xFA, .row 0 0 0]) d).sys = d.sys :=
    foldl_keeps Dev.sys l d fun _ _ => nandOut_sys ..
  unfold flushStop
  dsimp only
  split
  · exact (arrAbandon_keeps _).1.trans (hout _ _)
  · exact (arrAbandon_keeps _).1.trans (hout _ _)

theorem foldUpto_keeps {α β : Type} (g : α → β) (n : Nat) {f : Nat → α → α} (a : α) (h : ∀ i a, g (f i a) = g a) : g (foldUpto n f a) = g a :=
  foldl_keeps g _ a fun a i => h i a

theorem chansReset_keeps (d : Dev) : (chansReset d).sys = d.sys ∧ (chansReset d).med = d.med := by
  have h {α : Type} (g : Dev → α) (hw : ∀ d f v, g (wr d f v) = g d) (hc : ∀ d c, g { d with chn := c } = g d) : g (chansReset d) = g d := by
    rw [chansReset, hc]
    exact foldUpto_keeps g 64 d fun _ _ => wrs_keeps g hw _ _
  exact ⟨h Dev.sys (fun _ _ _ => rfl) fun _ _ => rfl, h Dev.med (fun _ _ _ => rfl) fun _ _ => rfl⟩

theorem flushOff_keeps (d : Dev) : (flushOff d).sys = d.sys ∧ (flushOff d).med = d.med := by
  have h {α : Type} (g : Dev → α) (hw : ∀ d o w, g (setActW d o w) = g d) (hh : ∀ d h, g { d with hub := h } = g d) (hc : g (chansReset d) = g d) :
      g (flushOff d) = g d := by
    rw [flushOff, hh, foldUpto_keeps g 8 _ fun i d => (hw _ _ _).trans (hw _ _ _), wrs_keeps g (fun _ _ _ => hw ..), hc]
  exact ⟨h Dev.sys (fun _ _ _ => rfl) (fun _ _ => rfl) (chansReset_keeps d).1, h Dev.med (fun _ _ _ => rfl) (fun _ _ => rfl) (chansReset_keeps d).2⟩

theorem pllFollow_sys (d : Dev) (n : Nat) : (pllFollow d n).sys = d.sys := by
  unfold pllFollow
  split
  · rfl
  · dsimp only
    split
    · exact setBit_sys ..
    split
    · exact setBit_sys ..
    · rfl

theorem flushUngate_sys (d : Dev) : (flushUngate d).sys = d.sys := by
  refine foldUpto_keeps Dev.sys 16 d fun k d => ?_
  dsimp only
  split
  · rfl
  · refine (foldUpto_keeps Dev.sys 4 _ fun i d => ?_).trans ?_
    · split <;> rfl
    · rw [pllFollow_sys, pllFollow_sys, setBit_sys, setBit_sys]

theorem flushAbort_sys (d : Dev) : (flushAbort d).sys = { d.sys with flushLost := true } := by
  refine (flushOff_keeps _).1.trans ?_
  rw [(cutWrite_keeps d).2.1]

theorem flushEnd_shows (d : Dev) : rd (flushEnd d) F.PFL_STAT_STATE = 6 ∧ (flushEnd d).sys = d.sys ∧ (flushEnd d).med = d.med :=
  ⟨rd_wr_same _ F.PFL_STAT_STATE 6 (by decide), by rw [flushEnd, wr_sys, (flushOff_keeps d).1], by rw [flushEnd, wr_med, (flushOff_keeps d).2]⟩

theorem rd_flushEnd_dom (d : Dev) : rd (flushEnd d) F.PWR_DOMSTAT_ON = 0 := by
  have hports (d : Dev) : rd (foldUpto 8 (fun i d => setActW (setActW d (0x10000 + 0x1000 * (i / 4) + 4 * (i % 4) + 0x50) 0)
      (0x10000 + 0x1000 * (i / 4) + 4 * (i % 4) + 0x60) 0) d) F.PWR_DOMSTAT_ON = rd d F.PWR_DOMSTAT_ON :=
    rd_congr _ (foldUpto_keeps (fun d => actW d F.PWR_DOMSTAT_ON.off) 8 d fun i d => by
      have hoff : F.PWR_DOMSTAT_ON.off = 0x2044 := rfl
      rw [actW_setActW_ne _ _ (by omega), actW_setActW_ne _ _ (by omega)])
  have hhdr (d : Dev) (h : SMap PageHdr) (f : Fld) : rd { d with hub := { d.hub with hdr := h } } f = rd d f := rfl
  rw [flushEnd, rd_wr_apart _ _ (by decide) (by decide), flushOff]
  dsimp only
  rw [hhdr, hports]
  simp (disch := decide) only [wrs, List.foldl_cons, List.foldl_nil, rd_wr_same, rd_wr_apart]
  rfl

/-! ### The start of a flush -/

theorem flushBegin_stays {d : Dev} (h : flushing d = true ∨ stage d = 0xF) (cause : Nat) : flushBegin d cause = d :=
  if_pos (by simpa [stage] using h)

theorem flushBegin_starts {d : Dev} (hf : flushing d = false) (hs : stage d ≠ 0xF) (cause : Nat) :
    (flushBegin d cause).sys.restartCause = cause ∧ (accepted (voteAll d) = false → rd (flushBegin d cause) F.PFL_STAT_STATE = 6) := by
  have hgo : ¬ (flushing d || rd d F.GLB_BOOT_STAGE == 0xF) = true := by simpa [hf, stage] using hs
  unfold flushBegin
  rw [if_neg hgo]
  dsimp only
  split
  · next he => exact ⟨by rw [(flushEnd_shows _).2.1, flushStop_sys], fun _ => (flushEnd_shows _).1⟩
  · next he =>
    have hacc {x : Prop} (ha : accepted (voteAll d) = false) : x := by
      refine absurd ?_ he
      have ha' : accepted { voteAll d with sys := { (voteAll d).sys with restartCause := cause, flushed := false } } = false := ha
      simp [flushEmpty, ha']
    split
    · exact ⟨by rw [flushAbort_sys, wr_sys, flushStop_sys], hacc⟩
    · exact ⟨by rw [wr_sys, flushStop_sys, flushUngate_sys], hacc⟩

/-! ### The steps of a flush -/

theorem eaveOut_keeps (d : Dev) (ps : List EavePlace) (pages : List (List (List Nat))) :
    (eaveOut d ps pages).sys = d.sys ∧ (eaveOut d ps pages).med = d.med ∧ (eaveOut d ps pages).hub = d.hub :=
  ⟨foldl_keeps Dev.sys _ d fun _ _ => nandOut_sys .., foldl_keeps Dev.med _ d fun _ _ => nandOut_med ..,
    foldl_keeps Dev.hub _ d fun _ _ => nandOut_hub ..⟩

/-- Registers that a step of the flush writes. -/
theorem actW_flushStep (d : Dev) (f : Nand → Nand) (n v : Nat) {o : Nat} (h : o ∉ [0x5048, F.MAP_WSEQ, F.MAP_WSEQ + 4]) :
    actW (wr (add64 (modNand d f) F.MAP_WSEQ n) F.PFL_STAT_STATE v) o = actW d o := by
  simp only [List.mem_cons, List.not_mem_nil, or_false, not_or] at h
  obtain ⟨h1, h2, h3⟩ := h
  rw [actW_wr_ne _ _ _ h1, add64, actW_wr64_ne _ _ h2 h3]
  rfl

/-- A step of the flush adds to the eaves and moves STATE. -/
theorem flushStep_shows (d : Dev) (f : Nand → Nand) (n : Nat) {v : Nat} (hv : v < 8) :
    let r := wr (add64 (modNand d f) F.MAP_WSEQ n) F.PFL_STAT_STATE v
    rd r F.PFL_STAT_STATE = v ∧ r.sys = d.sys ∧ r.med.nand = f d.med.nand :=
  ⟨(rd_wr_same _ F.PFL_STAT_STATE v (by decide)).trans (Nat.mod_eq_of_lt hv), rfl, rfl⟩

theorem inFlush_lost {d : Dev} {n : Nat} (h : inFlush d n = true) : d.sys.flushLost = false := by
  simpa [inFlush] using (Bool.and_eq_true_iff.1 h).2

theorem flushAbort_lost (d : Dev) : (flushAbort d).sys.flushLost = true := by rw [flushAbort_sys]

/-- Settles O29: the start, then step by step. -/
theorem flushStartsAndSteps : Obligations.FlushStartsAndSteps := by
  refine ⟨⟨fun s ha => ?_, fun s ha => ?_, fun s ha ht => ?_⟩, fun s hi => ?_, fun s failed dead hi hl => ?_, fun s x hi hx => ?_, fun s x hi hx => ?_⟩
  · let d1 := wr { s.dev with sys := { s.dev.sys with pfailLow := true } } F.PFL_STAT_PFAIL 1
    have hd1 : d1 = wr { s.dev with sys := { s.dev.sys with pfailLow := true } } F.PFL_STAT_PFAIL 1 := rfl
    have hstate : flushing d1 = flushing s.dev := by
      rw [flushing, hd1, rd_wr_apart _ _ (by decide) (by decide)]
      rfl
    have hstage : stage d1 = stage s.dev := by
      rw [stage, hd1, rd_wr_apart _ _ (by decide) (by decide)]
      rfl
    have hshown : rd d1 F.PFL_STAT_PFAIL = 1 ∧ ChangesOnly [0x5048] [] { s.dev with sys := { s.dev.sys with pfailLow := true } } d1 :=
      ⟨rd_wr_same _ F.PFL_STAT_PFAIL 1 (by decide), ChangesOnly.wr _ F.PFL_STAT_PFAIL 1⟩
    refine gives_of_guard (d' := if s.dev.sys.dead then d1 else flushBegin d1 1) rfl ha ⟨rfl, fun h => ?_, fun hdead hf hst => ?_⟩
    · cases hdead : s.dev.sys.dead with
      | true => exact hshown
      | false =>
        rw [if_neg Bool.false_ne_true, flushBegin_stays]
        · exact hshown
        · rw [hstate, hstage]
          simpa [hdead] using h
    · rw [hdead, if_neg Bool.false_ne_true]
      exact flushBegin_starts (hstate.trans hf) (by rwa [hstage]) 1
  · exact gives_of_guard rfl ha ⟨rd_wr_same _ F.PFL_STAT_PFAIL 0 (by decide), ChangesOnly.wr _ F.PFL_STAT_PFAIL 0⟩
  · have hr (f : Fld) (hf : f.off ∉ logWords) : rd (raise s.dev 4 9) f = rd s.dev f := rd_raise _ _ _ _ hf
    have hflush : flushing (raise s.dev 4 9) = flushing s.dev := by rw [flushing, hr _ (by decide)]; rfl
    have hstage : stage (raise s.dev 4 9) = stage s.dev := hr _ (by decide)
    refine gives_of_guard (d' := if s.dev.sys.dead || stage s.dev == 0xF || flushing s.dev then raise s.dev 4 9 else flushBegin (raise s.dev 4 9) 6)
      rfl (by simp [ha, ht]) ⟨fun h => ?_, fun hdead hf hst => ?_⟩
    · have hyes : (s.dev.sys.dead || stage s.dev == 0xF || flushing s.dev) = true := by
        rcases h with h | h | h <;> simp [h]
      rw [if_pos hyes]
      exact ⟨rfl, evtSet_raise_same _ _ (by decide)⟩
    · rw [if_neg (by simp [hdead, hf, hst])]
      exact ⟨rfl, (flushBegin_starts (hflush.trans hf) (by rwa [hstage]) 6).1⟩
  · exact gives_of_guard rfl hi ⟨rfl, rd_wr_same _ F.PFL_STAT_STATE 3 (by decide)⟩
  · intro x
    have hguard : (inFlush s.dev 3 && s.dev.cox.luns.all (fun e => e.2.exec.isNone)) = true := by rw [hi, hl]; rfl
    obtain ⟨hsys, hmed, hhub⟩ := eaveOut_keeps s.dev x.pages (eaveData x)
    let o := eaveOut s.dev x.pages (eaveData x)
    have ho : o = eaveOut s.dev x.pages (eaveData x) := rfl
    obtain ⟨hst, hos, hnand⟩ := flushStep_shows o (fun n => { n with eaves := n.eaves ++ [x] }) x.pages.length (v := 4) (by decide)
    by_cases hc : x.pages.length < eavePageCount s.dev
    · exact gives_of_guard_eq rfl hguard (if_pos hc) ⟨fun h => absurd hc (Nat.not_lt.2 h), fun _ => flushAbort_lost _⟩
    · refine gives_of_guard_eq rfl hguard (if_neg hc) ⟨fun _ => ⟨hst, ?_, ?_, fun off hoff => ?_⟩, fun h => absurd h hc⟩
      · rw [hos, hsys, inFlush_lost hi]
      · rw [hnand, hmed]
      · exact (actW_flushStep o _ _ _ hoff).trans (actW_congr (congrArg Hub.act hhub) off)
  · intro ps
    obtain ⟨hsys, hmed, hhub⟩ := eaveOut_keeps s.dev ps (twice (eaveFill (metaBytes x) (metaPageCount x) (rd64 s.dev F.MAP_WSEQ)))
    have hlast : s.dev.med.nand.eaves.getLast? = some x := hx
    let o := eaveOut s.dev ps (twice (eaveFill (metaBytes x) (metaPageCount x) (rd64 s.dev F.MAP_WSEQ)))
    have ho : o = eaveOut s.dev ps (twice (eaveFill (metaBytes x) (metaPageCount x) (rd64 s.dev F.MAP_WSEQ))) := rfl
    let r := wr (add64 (modSet o (fun e => { e with metas := ps })) F.MAP_WSEQ ps.length) F.PFL_STAT_STATE 5
    have hr : r = wr (add64 (modSet o (fun e => { e with metas := ps })) F.MAP_WSEQ ps.length) F.PFL_STAT_STATE 5 := rfl
    obtain ⟨hst, hos, hnand⟩ := flushStep_shows o (fun n => { n with eaves := n.eaves.dropLast ++ (n.eaves.getLast?.map fun e => { e with metas := ps }).toList })
      ps.length (v := 5) (by decide)
    have hrow : exec .flushMetaDone s = finish s (guardDev (inFlush s.dev 4) s.dev (if ps.length < 2 * metaPageCount x then flushAbort r else r)) := by
      show execFlushMetaDone s = _
      unfold execFlushMetaDone
      dsimp only
      rw [hx]
    by_cases hc : ps.length < 2 * metaPageCount x
    · exact gives_of_guard_eq hrow hi (if_pos hc) ⟨fun h => absurd hc (Nat.not_lt.2 h), fun _ => flushAbort_lost _⟩
    · refine gives_of_guard_eq hrow hi (if_neg hc) ⟨fun _ => ⟨hst, ?_, ?_, fun off hoff => ?_⟩, fun h => absurd h hc⟩
      · exact (congrArg Sys.flushLost (hos.trans hsys)).trans (inFlush_lost hi)
      · refine (congrArg Nand.eaves hnand).trans ?_
        rw [hmed, hlast]
        rfl
      · exact (actW_flushStep o _ _ _ hoff).trans (actW_congr (congrArg Hub.act hhub) off)
  · intro ps
    let y : EaveSet := { x with t1 := s.dev.sys.time }
    let z : EaveSet := { y with valid := true, recs := ps.map (fun p => ⟨p, eaveRecordCrc y⟩) }
    obtain ⟨hsys, hmed, hhub⟩ := eaveOut_keeps s.dev ps (twice (eaveFill (eaveRecordBytes y ++ leBytes 4 (eaveRecordCrc y)) 1 (rd64 s.dev F.MAP_WSEQ)))
    have hlast : s.dev.med.nand.eaves.getLast? = some x := hx
    let o := eaveOut s.dev ps (twice (eaveFill (eaveRecordBytes y ++ leBytes 4 (eaveRecordCrc y)) 1 (rd64 s.dev F.MAP_WSEQ)))
    let r := usePlaces (modSet o (fun _ => z)) z
    have hrow : exec .flushRecordDone s = finish s (guardDev (inFlush s.dev 5) s.dev
        (if ps.length < 2 then flushAbort s.dev else flushEnd { r with sys := { r.sys with flushed := true } })) := by
      show execFlushRecordDone s = _
      unfold execFlushRecordDone
      dsimp only
      rw [hx]
    by_cases hc : ps.length < 2
    · exact gives_of_guard_eq hrow hi (if_pos hc) ⟨fun h => absurd hc (Nat.not_lt.2 h), fun _ => flushAbort_lost _⟩
    · obtain ⟨h6, hesys, hemed⟩ := flushEnd_shows { r with sys := { r.sys with flushed := true } }
      refine gives_of_guard_eq hrow hi (if_neg hc) ⟨fun _ => ⟨h6, ?_, ?_, ?_⟩, fun h => absurd h hc⟩
      · rw [hesys]
      · exact rd_flushEnd_dom _
      · have heaves : r.med.nand.eaves = (modSet o (fun _ => z)).med.nand.eaves :=
          congrArg (·.2.2.2.2) (usePlaces_keeps (modSet o (fun _ => z)) z)
        rw [hemed]
        refine heaves.trans ?_
        show o.med.nand.eaves.dropLast ++ (o.med.nand.eaves.getLast?.map fun _ => z).toList = _
        rw [hmed, hlast]
        rfl

/-! ### The warm restart -/

/-- A device that can restart after its flush, with a word stored beyond the pages: offset 0x130078 lies in no page, but its page number
(taken modulo 256) and its offset in the page are those of a health counter of channel 0. -/
def restartDev : Dev :=
  setActW { State.reset.dev with sys := { State.reset.dev.sys with pwrgd := true, aon := true, rails := allRails, flushLost := true } } 0x130078 1

/-- The word at an offset after a command that answers. -/
def wordAfter (o : Host.Outcome State Fault Refusal) (off : Nat) : Option Word :=
  match o with
  | .next s => some (actW s.dev off)
  | _ => none

/-- Refutes O30: the word of an offset beyond the pages does not survive the restart, though the statement's page number does not tell it
from a health counter's. -/
theorem not_warmRestartKeeps : ¬ Obligations.WarmRestartKeeps := by
  intro h
  obtain ⟨d, hd, hp⟩ := h { State.reset with dev := restartDev } (by decide +kernel) (.inr (by decide +kernel)) (by decide +kernel) (by decide +kernel)
    (by decide +kernel) (by decide +kernel) (by decide +kernel)
  have hgone : wordAfter (exec .warmRestart { State.reset with dev := restartDev }) 0x130078 = some 0 := by decide +kernel
  have hd0 : actW d 0x130078 = 0 := by
    rw [hd] at hgone
    exact (actW_settleEvents d (by decide)).symm.trans (Option.some.inj hgone)
  obtain ⟨-, -, -, -, -, -, -, -, -, -, -, -, -, -, -, -, -, -, hwords⟩ := hp
  have hkept : actW d 0x130078 = actW restartDev 0x130078 := (hwords 0x130078 (by decide)).trans (if_pos (by decide))
  exact absurd (hd0.symm.trans hkept) (by decide +kernel)

end Sys2Proof.Machine
end

section
/-!
PROOFS. Temperatures (R423 to R425), alarms (R349 to R351) and random numbers (R327, R348, R356).
-/
namespace Sys2Proof.Machine

/-! ### Folds whose steps write apart -/

/-- A fold over the numbers below `n` of which one step changes a view, and no other. -/
theorem foldUpto_once {α β : Type} {f : Nat → α → α} {v : α → β} {new : β → β} {n j : Nat} {a : α} (hj : j < n) (hsame : ∀ x, v (f j x) = new (v x))
    (hne : ∀ i x, i < n → i ≠ j → v (f i x) = v x) : v (foldUpto n f a) = new (v a) := by
  induction n with
  | zero => cases hj
  | succ n ih =>
    rw [foldUpto_succ]
    rcases Nat.lt_succ_iff_lt_or_eq.1 hj with hlt | rfl
    · rw [hne n _ (Nat.lt_succ_self n) (by omega), ih hlt fun i x hi => hne i x (by omega)]
    · rw [hsame]
      exact congrArg new (foldUpto_induct (P := fun y => v y = v a) j rfl fun i x hi hx => (hne i x (by omega) (by omega)).trans hx)

/-! ### What an event and a bit leave alone -/

/-- A change of registers leaves every part of the device beside them. -/
theorem ChangesOnly.keeps {α : Type} {ws ps : List Nat} {d d' : Dev} (g : Dev → α) (hg : ∀ d h l, g { d with hub := h, log := l } = g d)
    (h : ChangesOnly ws ps d d') : g d' = g d :=
  (hg d' _ _).symm.trans (congrArg g h.others)

/-- Writes of fields whose words are listed. -/
theorem ChangesOnly.wrs_of {ws offs : List Nat} (d : Dev) {l : List (Fld × Nat)} (hl : l.map (fun e => e.1.off) = offs) (h : ∀ o ∈ offs, o ∈ ws) :
    ChangesOnly ws [] d (Machine.wrs d l) := by
  subst hl
  refine ChangesOnly.wrs d l fun g hg => ?_
  obtain ⟨e, he, rfl⟩ := List.mem_map.1 hg
  exact h _ (List.mem_map_of_mem he)

section
variable (d : Dev) (p b : Nat)
@[simp] theorem raise_sys : (raise d p b).sys = d.sys := (ChangesOnly.raise d p b).keeps Dev.sys fun _ _ _ => rfl
@[simp] theorem raise_med : (raise d p b).med = d.med := (ChangesOnly.raise d p b).keeps Dev.med fun _ _ _ => rfl
@[simp] theorem raise_keys : (raise d p b).keys = d.keys := (ChangesOnly.raise d p b).keeps Dev.keys fun _ _ _ => rfl
@[simp] theorem raise_seats : (raise d p b).seats = d.seats := (ChangesOnly.raise d p b).keeps Dev.seats fun _ _ _ => rfl
@[simp] theorem raise_cmds : (raise d p b).cmds = d.cmds := (ChangesOnly.raise d p b).keeps Dev.cmds fun _ _ _ => rfl
@[simp] theorem raise_admin : (raise d p b).admin = d.admin := (ChangesOnly.raise d p b).keeps Dev.admin fun _ _ _ => rfl
@[simp] theorem raise_pci : (raise d p b).pci = d.pci := (ChangesOnly.raise d p b).keeps Dev.pci fun _ _ _ => rfl
@[simp] theorem raise_out : (raise d p b).out = d.out := (ChangesOnly.raise d p b).keeps Dev.out fun _ _ _ => rfl
@[simp] theorem raise_adm : (raise d p b).adm = d.adm := (ChangesOnly.raise d p b).keeps Dev.adm fun _ _ _ => rfl
@[simp] theorem raise_free : (raise d p b).free = d.free := (ChangesOnly.raise d p b).keeps Dev.free fun _ _ _ => rfl
end

/-! ### A temperature sample -/

/-- Parts of the device that no temperature touches. -/
def besideHeat (d : Dev) : Med × Keys × SMap Seat × Cmds := (d.med, d.keys, d.seats, d.cmds)

theorem besideHeat_of_changes {ws ps : List Nat} {d d' : Dev} (h : ChangesOnly ws ps d d') : besideHeat d' = besideHeat d :=
  h.keeps besideHeat fun _ _ _ => rfl

/-- The sensors that answer show their temperature. -/
def sensorsShown (d : Dev) (temps : List Nat) (answered : List Bool) : Dev :=
  foldUpto 10 (fun n d => if answered.getD n true then wr d (F.THM_TEMP n) (temps.getD n 0) else d) d

theorem rd_sensorsShown (d : Dev) {temps : List Nat} (answered : List Bool) (ht : ∀ t ∈ temps, t < 65536) {n : Nat} (hn : n < 10) :
    rd (sensorsShown d temps answered) (F.THM_TEMP n) = if answered.getD n true then temps.getD n 0 else rd d (F.THM_TEMP n) := by
  have hlt : temps.getD n 0 < 65536 := by
    rw [List.getD_eq_getElem?_getD]
    cases h : temps[n]? with
    | none => decide
    | some t => exact ht t (List.mem_of_getElem? h)
  refine foldUpto_once (v := fun d => rd d (F.THM_TEMP n)) (new := fun t => if answered.getD n true then temps.getD n 0 else t) hn (fun x => ?_) fun i x _ hne => ?_
  · split
    · exact (rd_wr_same x (F.THM_TEMP n) _ (by decide : 16 ≤ 32)).trans (Nat.mod_eq_of_lt hlt)
    · rfl
  · split
    · exact rd_wr_off x _ _ _ (by show 0x4040 + 4 * n ≠ 0x4040 + 4 * i; omega)
    · rfl

/-- Words of the sensors. -/
def sensorWords : List Nat := (List.range 10).map fun n => (F.THM_TEMP n).off

theorem sensorsShown_changes (d : Dev) (temps : List Nat) (answered : List Bool) :
    ChangesOnly sensorWords [] d (sensorsShown d temps answered) := by
  refine ChangesOnly.foldl _ d fun n hn y => ?_
  dsimp only
  split
  · refine (ChangesOnly.wr y _ _).mono (fun o ho => ?_) (by simp)
    rw [List.mem_singleton.1 ho]
    exact List.mem_map_of_mem hn
  · exact .refl ..

/-- The sensors that no longer count raise their event (R423). -/
def sensorsFailed (d : Dev) (temps : List Nat) (answered : List Bool) : Dev :=
  if (badSensors temps answered).any (fun n => !d.admin.excluded.contains n) then raise (sensorsShown d temps answered) 4 10
  else sensorsShown d temps answered

/-- The device after the sensors of a sample, before THM_HOT. -/
def sensorsTaken (d : Dev) (temps : List Nat) (answered : List Bool) (mw : Nat) : Dev :=
  let d2 := sensorsFailed d temps answered
  let d3 : Dev := { d2 with admin := { d2.admin with excluded := badSensors temps answered, aonPower := min mw 0x1FFFF } }
  if tempOut d temps answered then d3 else almLive d3 almTEMP false

section
variable (d : Dev) (temps : List Nat) (answered : List Bool) (mw : Nat)

theorem sensorsFailed_changes : ChangesOnly (sensorWords ++ logWords) [4, 0x7E] d (sensorsFailed d temps answered) := by
  have hs := sensorsShown_changes d temps answered
  unfold sensorsFailed
  split
  · exact (hs.trans (ChangesOnly.raise _ 4 10)).mono (by simp) (by simp)
  · exact hs.mono (by simp) (by simp)

theorem rd_sensorsFailed {n : Nat} (hn : n < 10) :
    rd (sensorsFailed d temps answered) (F.THM_TEMP n) = rd (sensorsShown d temps answered) (F.THM_TEMP n) := by
  unfold sensorsFailed
  split
  · have hword : ∀ n < 10, (F.THM_TEMP n).off ∉ logWords := by decide
    exact rd_raise _ _ _ _ (hword n hn)
  · rfl

theorem evtSet_sensorsFailed (h : ∃ n ∈ badSensors temps answered, n ∉ d.admin.excluded) : evtSet (sensorsFailed d temps answered) 4 10 = true := by
  obtain ⟨n, hn, hx⟩ := h
  have hany : (badSensors temps answered).any (fun n => !d.admin.excluded.contains n) = true :=
    List.any_eq_true.2 ⟨n, hn, by simpa using hx⟩
  rw [sensorsFailed, if_pos hany]
  exact evtSet_raise_same _ _ (by decide)

/-- Settling of a lasting condition leaves the headers and the other words. -/
theorem sensorsTaken_shape : ∃ d3 : Dev, d3 = { sensorsFailed d temps answered with admin := { d.admin with excluded := badSensors temps answered, aonPower := min mw 0x1FFFF } } ∧
    ChangesOnly [0x6048] [] d3 (sensorsTaken d temps answered mw) := by
  have hadmin : (sensorsFailed d temps answered).admin = d.admin := (sensorsFailed_changes d temps answered).keeps Dev.admin fun _ _ _ => rfl
  refine ⟨_, rfl, ?_⟩
  unfold sensorsTaken
  dsimp only
  rw [hadmin]
  split
  · exact .refl ..
  · exact ChangesOnly.setBit _ F.ALM_STAT_LIVE almTEMP false

end

/-- The hottest sensor is one of the ten, its temperature a 16-bit value. -/
theorem hottest_bounds {temps : List Nat} {out : List Nat} {src t : Nat} (h : hottest temps out = some (src, t)) : src < 10 ∧ t < 65536 := by
  let ok : Option (Nat × Nat) → Prop := fun a => ∀ x, a = some x → x.1 < 10 ∧ x.2 < 65536
  have hall : ok (hottest temps out) := by
    refine foldl_induct (P := ok) _ (fun x hx => nomatch hx) fun n acc hn hacc => ?_
    have hn10 : n < 10 := List.mem_range.1 (List.mem_filter.1 hn).1
    have hnew : ok (some (n, temps.getD n 0 % 65536)) := by
      intro x hx
      cases hx
      exact ⟨hn10, Nat.mod_lt _ (by decide)⟩
    split
    · exact hnew
    · split
      · exact hnew
      · exact hacc
  exact hall _ h

/-- The device with THM_HOT and THM_PEAK of a sample. -/
def peakTaken (d0 d4 : Dev) (src t : Nat) : Dev :=
  let d5 := wrs d4 [(F.THM_HOT_SRC, src), (F.THM_HOT_T, t)]
  if !d0.admin.hotSeen || tempOf t > rdS16 d0 F.THM_PEAK_T then
    { (wrs d5 [(F.THM_PEAK_SRC, src), (F.THM_PEAK_T, t)]) with admin := { d5.admin with hotSeen := true } } else d5

/-- THM_HOT, THM_PEAK and WARN of a sample whose hottest sensor is `src` at `t`; `d0` is the device before the sample. -/
def hotTaken (d0 d4 : Dev) (src t : Nat) : Dev :=
  if tempOf t > rdS16 d0 F.THM_WARN_T then
    (if d0.admin.warnOff then peakTaken d0 d4 src t
     else raise { peakTaken d0 d4 src t with admin := { (peakTaken d0 d4 src t).admin with warnOff := true } } 4 8)
  else if tempOf t ≤ rdS16 d0 F.THM_WARN_T - 48 then { peakTaken d0 d4 src t with admin := { (peakTaken d0 d4 src t).admin with warnOff := false } }
  else peakTaken d0 d4 src t

theorem exec_thermalSample (s : State) (temps : List Nat) (answered : List Bool) (mw : Nat) :
    exec (.thermalSample temps answered mw) s = finish s (guardDev s.dev.sys.aon s.dev (match hottest temps (badSensors temps answered) with
      | none => sensorsTaken s.dev temps answered mw
      | some (src, t) => hotTaken s.dev (sensorsTaken s.dev temps answered mw) src t)) := rfl

section
variable (d0 d4 : Dev) {src t : Nat}

theorem eq_of_admin {d d' : Dev} (h : d'.admin = d.admin) : d' = { d' with admin := { d.admin with hotSeen := d.admin.hotSeen } } := by rw [← h]

theorem peakTaken_shape (src t : Nat) : ∃ d5 seen, ChangesOnly [0x4068, 0x406C] [] d4 d5 ∧ peakTaken d0 d4 src t = { d5 with admin := { d4.admin with hotSeen := seen } } := by
  have hd5 : ChangesOnly [0x4068, 0x406C] [] d4 (wrs d4 [(F.THM_HOT_SRC, src), (F.THM_HOT_T, t)]) :=
    ChangesOnly.wrs_of d4 (offs := [0x4068, 0x4068]) rfl (by decide)
  have hadmin : (wrs d4 [(F.THM_HOT_SRC, src), (F.THM_HOT_T, t)]).admin = d4.admin := hd5.keeps Dev.admin fun _ _ _ => rfl
  unfold peakTaken
  dsimp only
  generalize wrs d4 [(F.THM_HOT_SRC, src), (F.THM_HOT_T, t)] = d5 at *
  have hpeak : ChangesOnly [0x4068, 0x406C] [] d5 (wrs d5 [(F.THM_PEAK_SRC, src), (F.THM_PEAK_T, t)]) :=
    ChangesOnly.wrs_of d5 (offs := [0x406C, 0x406C]) rfl (by decide)
  rw [hadmin]
  generalize wrs d5 [(F.THM_PEAK_SRC, src), (F.THM_PEAK_T, t)] = d6 at *
  split
  · exact ⟨d6, true, hd5.step hpeak, rfl⟩
  · exact ⟨d5, d4.admin.hotSeen, hd5, eq_of_admin hadmin⟩

theorem rd_peakTaken_hot (hs : src < 10) (ht : t < 65536) :
    rd (peakTaken d0 d4 src t) F.THM_HOT_SRC = src ∧ rd (peakTaken d0 d4 src t) F.THM_HOT_T = t := by
  have hadm (d : Dev) (a : AdminSt) (f : Fld) : rd { d with admin := a } f = rd d f := rfl
  unfold peakTaken
  dsimp only
  split <;> constructor <;> simp (disch := decide) only [hadm, wrs, List.foldl_cons, List.foldl_nil, rd_wr_same, rd_wr_apart]
  · exact Nat.mod_eq_of_lt (Nat.lt_trans hs (by decide))
  · exact Nat.mod_eq_of_lt ht
  · exact Nat.mod_eq_of_lt (Nat.lt_trans hs (by decide))
  · exact Nat.mod_eq_of_lt ht

theorem rd_peakTaken_peak (hs : src < 10) (ht : t < 65536) (h : d0.admin.hotSeen = false ∨ tempOf t > rdS16 d0 F.THM_PEAK_T) :
    rd (peakTaken d0 d4 src t) F.THM_PEAK_SRC = src ∧ rd (peakTaken d0 d4 src t) F.THM_PEAK_T = t := by
  have hadm (d : Dev) (a : AdminSt) (f : Fld) : rd { d with admin := a } f = rd d f := rfl
  have hyes : (!d0.admin.hotSeen || decide (tempOf t > rdS16 d0 F.THM_PEAK_T)) = true := by simpa using h
  unfold peakTaken
  dsimp only
  rw [if_pos hyes]
  constructor <;> simp (disch := decide) only [hadm, wrs, List.foldl_cons, List.foldl_nil, rd_wr_same, rd_wr_apart]
  · exact Nat.mod_eq_of_lt (Nat.lt_trans hs (by decide))
  · exact Nat.mod_eq_of_lt ht

/-- WARN beside THM_HOT and THM_PEAK: an event, and whether it is off. -/
theorem hotTaken_shape (src t : Nat) : ∃ d6 warn, hotTaken d0 d4 src t = d6 ∧ ChangesOnly logWords [4, 0x7E] { peakTaken d0 d4 src t with admin := { (peakTaken d0 d4 src t).admin with warnOff := warn } } d6 ∧
    (∀ b, evtSet (peakTaken d0 d4 src t) 4 b = true → evtSet d6 4 b = true) ∧
    (tempOf t > rdS16 d0 F.THM_WARN_T → warn = true ∨ warn = (peakTaken d0 d4 src t).admin.warnOff ∧ d0.admin.warnOff = true) ∧
    (tempOf t > rdS16 d0 F.THM_WARN_T → d0.admin.warnOff = false → evtSet d6 4 8 = true) ∧
    (tempOf t ≤ rdS16 d0 F.THM_WARN_T - 48 → warn = false) := by
  generalize hp : peakTaken d0 d4 src t = p
  unfold hotTaken
  rw [hp]
  split
  · next hw =>
    split
    · next ho => exact ⟨_, p.admin.warnOff, rfl, .refl .., fun _ h => h, fun _ => .inr ⟨rfl, ho⟩, fun _ h => (nomatch ho.symm.trans h), fun h => by omega⟩
    · next ho =>
      exact ⟨_, true, rfl, ChangesOnly.raise _ 4 8, fun b h => evtSet_raise_of_set 4 8 h, fun _ => .inl rfl, fun _ _ => evtSet_raise_same _ _ (by decide), fun h => by omega⟩
  · next hw =>
    split
    · exact ⟨_, false, rfl, .refl .., fun _ h => h, fun h => absurd h hw, fun h => absurd h hw, fun _ => rfl⟩
    · next hc => exact ⟨_, p.admin.warnOff, rfl, .refl .., fun _ h => h, fun h => absurd h hw, fun h => absurd h hw, fun h => absurd h hc⟩

end

theorem rd_sensor_congr {d d' : Dev} {ws ps : List Nat} (h : ChangesOnly ws ps d d') (hw : ∀ n < 10, (F.THM_TEMP n).off ∉ ws) {n : Nat} (hn : n < 10) :
    rd d' (F.THM_TEMP n) = rd d (F.THM_TEMP n) := rd_congr _ (h.words _ (hw n hn))

/-- The sensors of a sample, with what else it shows still to come. -/
theorem sensorsTaken_shows (d : Dev) {temps : List Nat} {answered : List Bool} (mw : Nat) (ht : ∀ t ∈ temps, t < 65536) :
    (∀ n, n < 10 → rd (sensorsTaken d temps answered mw) (F.THM_TEMP n) = if answered.getD n true then temps.getD n 0 else rd d (F.THM_TEMP n)) ∧
    (sensorsTaken d temps answered mw).admin = { d.admin with excluded := badSensors temps answered, aonPower := min mw 0x1FFFF } ∧
    ((∃ n ∈ badSensors temps answered, n ∉ d.admin.excluded) → evtSet (sensorsTaken d temps answered mw) 4 10 = true) ∧
    besideHeat (sensorsTaken d temps answered mw) = besideHeat d := by
  obtain ⟨d3, hd3, hlive⟩ := sensorsTaken_shape d temps answered mw
  have hhub : d3.hub = (sensorsFailed d temps answered).hub := by rw [hd3]
  refine ⟨fun n hn => ?_, ?_, fun hx => ?_, ?_⟩
  · rw [rd_sensor_congr hlive (by decide) hn, rd_congr _ (actW_congr (congrArg Hub.act hhub) _), rd_sensorsFailed d temps answered hn,
      rd_sensorsShown d answered ht hn]
  · rw [hlive.keeps Dev.admin fun _ _ _ => rfl, hd3]
  · rw [evtSet_congr 10 (hlive.heads 4 (by simp)), evtSet_congr 10 (hdrOf_congr (congrArg Hub.hdr hhub) 4)]
    exact evtSet_sensorsFailed d temps answered hx
  · have hfail := besideHeat_of_changes (sensorsFailed_changes d temps answered)
    rw [besideHeat_of_changes hlive, hd3]
    exact hfail

/-- Settles O31: the sensors, then the hottest of them. -/
theorem thermalSampleShown : Obligations.ThermalSampleShown := by
  intro s temps answered mw ha hl ht hal
  obtain ⟨htemp, hadm, hevt, hbeside⟩ := sensorsTaken_shows s.dev mw (answered := answered) ht
  have hrow := exec_thermalSample s temps answered mw
  generalize sensorsTaken s.dev temps answered mw = d4 at *
  have hparts {d : Dev} (h : besideHeat d = besideHeat s.dev) : d.med = s.dev.med ∧ d.keys = s.dev.keys ∧ d.seats = s.dev.seats ∧ d.cmds = s.dev.cmds :=
    ⟨congrArg (·.1) h, congrArg (·.2.1) h, congrArg (·.2.2.1) h, congrArg (·.2.2.2) h⟩
  cases hh : hottest temps (badSensors temps answered) with
  | none =>
    rw [hh] at hrow
    exact gives_of_guard hrow ha ⟨htemp, by rw [hadm], by rw [hadm], fun _ _ h => (nomatch h), hevt, hparts hbeside⟩
  | some x =>
    obtain ⟨src, t⟩ := x
    obtain ⟨hsrc, ht16⟩ := hottest_bounds hh
    obtain ⟨d5, seen, h5, hp5⟩ := peakTaken_shape s.dev d4 src t
    obtain ⟨d6, warn, h6, hch, hkeep, hwarn, hraise, hend⟩ := hotTaken_shape s.dev d4 src t
    obtain ⟨hhsrc, hht⟩ := rd_peakTaken_hot s.dev d4 hsrc ht16
    have hpeak := rd_peakTaken_peak s.dev d4 hsrc ht16
    rw [hh] at hrow
    dsimp only at hrow
    rw [h6] at hrow
    have hrd6 (f : Fld) (hf : f.off ∉ logWords) : rd d6 f = rd (peakTaken s.dev d4 src t) f := rd_congr f (hch.words _ hf)
    have hadm6 : d6.admin = { d4.admin with hotSeen := seen, warnOff := warn } := by
      rw [hch.keeps Dev.admin fun _ _ _ => rfl, hp5]
    refine gives_of_guard hrow ha ⟨fun n hn => ?_, ?_, ?_, fun src' t' h => ?_, fun hx => hkeep 10 ?_, hparts ?_⟩
    · rw [rd_sensor_congr hch (by decide) hn, ← htemp n hn]
      show rd (peakTaken s.dev d4 src t) (F.THM_TEMP n) = _
      rw [hp5]
      exact rd_sensor_congr h5 (by decide) hn
    · rw [hadm6, hadm]
    · rw [hadm6, hadm]
    · cases h
      refine ⟨(hrd6 _ (by decide)).trans hhsrc, (hrd6 _ (by decide)).trans hht, fun hc => ?_, fun hw => ⟨?_, hraise hw⟩, fun hw => ?_⟩
      · obtain ⟨hps, hpt⟩ := hpeak hc
        exact ⟨(hrd6 _ (by decide)).trans hps, (hrd6 _ (by decide)).trans hpt⟩
      · rw [hadm6]
        rcases hwarn hw with h | ⟨h, ho⟩
        · exact h
        · refine h.trans ?_
          rw [hp5]
          exact (congrArg AdminSt.warnOff hadm).trans ho
      · rw [hadm6]
        exact hend hw
    · rw [hp5]
      exact (evtSet_congr 10 (h5.heads 4 (by simp))).trans (hevt hx)
    · rw [besideHeat_of_changes hch, hp5]
      exact (besideHeat_of_changes h5).trans hbeside

end Sys2Proof.Machine
end

section
/-!
PROOFS. Alarms (R349 to R351) and random numbers (R327, R348, R356).
-/
namespace Sys2Proof.Machine

/-! ### One bit beside another -/

theorem testBit_add_two_pow_ne {w n j : Nat} (hb : w.testBit n = false) (h : j ≠ n) : (w + 2 ^ n).testBit j = w.testBit j := by
  rcases Nat.lt_or_gt_of_ne h with hlt | hgt
  · rw [Nat.add_comm, Nat.testBit_two_pow_add_gt hlt]
  · have hdiv : (w + 2 ^ n) / 2 ^ (n + 1) = w / 2 ^ (n + 1) := by
      have hmod : w / 2 ^ n % 2 = 0 := by
        rw [Nat.testBit_eq_decide_div_mod_eq, decide_eq_false_iff_not] at hb
        omega
      rw [Nat.pow_succ, ← Nat.div_div_eq_div_mul, ← Nat.div_div_eq_div_mul, Nat.add_div_right _ (Nat.two_pow_pos n)]
      omega
    obtain ⟨k, rfl⟩ := Nat.exists_eq_add_of_lt hgt
    have hshift (x : Nat) : x.testBit (n + k + 1) = (x / 2 ^ (n + 1)).testBit k := by
      rw [← Nat.shiftRight_eq_div_pow, Nat.testBit_shiftRight]
      congr 1
      omega
    rw [hshift, hshift, hdiv]

/-- A bit set or cleared leaves the others of its field. -/
theorem bitOf_setBit_ne (d : Dev) {f : Fld} {n j : Nat} (v : Bool) (hf : f.lo + f.wd ≤ 32) (hj : j < f.wd) (h : j ≠ n) :
    bitOf (rd (setBit d f n v) f) j = bitOf (rd d f) j := by
  unfold setBit
  dsimp only
  split
  · rfl
  · next hv =>
    rw [rd_wr_same d f _ hf, bitOf_mod_two_pow _ hj, bitOf_eq, bitOf_eq]
    cases v with
    | true =>
      have hbit : (rd d f).testBit n = false := by rw [← bitOf_eq]; simpa using hv
      exact testBit_add_two_pow_ne hbit h
    | false =>
      have hbit : (rd d f).testBit n = true := by rw [← bitOf_eq]; simpa using hv
      have hge : 2 ^ n ≤ rd d f := Nat.ge_two_pow_of_testBit hbit
      have hclear : (rd d f - 2 ^ n).testBit n = false := by
        have hsum := Nat.testBit_two_pow_add_eq (rd d f - 2 ^ n) n
        rw [Nat.add_sub_cancel' hge, hbit] at hsum
        simpa using hsum.symm
      have hadd := testBit_add_two_pow_ne hclear h
      rw [Nat.sub_add_cancel hge] at hadd
      exact hadd.symm

/-! ### The alarm latch -/

def almLatchRow : RegRow := ⟨0x4C, 0, 0, 0, 0, 0x3F, 0, 0, 0, 0⟩

theorem regRow_almLatch : regRow? 0x604C = some almLatchRow := by decide +kernel

/-- A write of the latch acts by its own rule: a bit whose condition lasts stays (R351). -/
theorem writeWord_almLatch (d : Dev) (port : Nat) (v : Word) : writeWord d port 0x604C v = almLatchWrite d v := by
  rw [writeWord_row _ regRow_almLatch, if_neg (by decide), oneWrite]
  rfl

theorem almLatchWrite_shows (d : Dev) (v : Word) : ChangesOnly [0x604C] [] d (almLatchWrite d v) ∧
    ∀ i, i < 6 → bitOf (rd (almLatchWrite d v) F.ALM_LATCH_SRC) i = (bitOf (rd d F.ALM_LATCH_SRC) i && !(bitOf v.toNat i && !bitOf (rd d F.ALM_STAT_LIVE) i)) := by
  refine ⟨ChangesOnly.foldl _ d fun i _ y => ?_, fun i hi => ?_⟩
  · dsimp only
    split
    · exact ChangesOnly.setBit y F.ALM_LATCH_SRC i false
    · exact .refl ..
  · refine foldUpto_once (v := fun d => bitOf (rd d F.ALM_LATCH_SRC) i)
      (new := fun b => b && !(bitOf v.toNat i && !bitOf (rd d F.ALM_STAT_LIVE) i)) hi (fun x => ?_) fun j x _ hne => ?_
    · split
      · next h => rw [h, bitOf_setBit_same x false (by decide) hi, Bool.not_true, Bool.and_false]
      · next h => rw [Bool.eq_false_iff.2 h, Bool.not_false, Bool.and_true]
    · split
      · exact bitOf_setBit_ne x false (by decide) hi (Ne.symm hne)
      · rfl

/-! ### The response to an alarm -/

/-- A slot emptied and shown LOST. -/
def keyLost (n : Nat) (d : Dev) : Dev := wr (setKeySlot (tvTaken d (0x71040 + 16 * n) false) n {}) (F.KEY_STAT_STATE n) ksLOST

theorem loseKeys_eq (d : Dev) : loseKeys d =
    if (List.range 64).any (fun n => slotLoaded d n) then raise (foldUpto 64 keyLost (descLost d (fun n => slotIs d n roleSERVICE))) 0x71 10
    else foldUpto 64 keyLost (descLost d (fun n => slotIs d n roleSERVICE)) := rfl

theorem actW_loseKeys (d : Dev) {o : Nat} (ho : o < 0x71040) : actW (loseKeys d) o = actW d o := by
  have hfold (d : Dev) : actW (foldUpto 64 keyLost d) o = actW d o :=
    foldUpto_keeps (fun d => actW d o) 64 d fun n d => actW_wr_ne _ _ _ (by show o ≠ 0x71040 + 16 * n + 0x0; omega)
  rw [loseKeys_eq]
  split
  · rw [actW_raise _ _ _ _ (by simp [logWords, F.LOG_NEXT_N, F.LOG_PEND_COUNT, F.LOG_LOST_COUNT]; omega), hfold]
    rfl
  · exact hfold _

theorem loseKeys_sys (d : Dev) : (loseKeys d).sys = d.sys := by
  have hfold (d : Dev) : (foldUpto 64 keyLost d).sys = d.sys := foldUpto_keeps Dev.sys 64 d fun _ _ => rfl
  rw [loseKeys_eq]
  split
  · rw [raise_sys, hfold]
    rfl
  · exact hfold _

theorem loseKeys_lost (d : Dev) {n : Nat} (hn : n < 64) : rd (loseKeys d) (F.KEY_STAT_STATE n) = ksLOST ∧ keySlot (loseKeys d) n = {} := by
  have hstate (d : Dev) : rd (foldUpto 64 keyLost d) (F.KEY_STAT_STATE n) = ksLOST :=
    foldUpto_once (v := fun d => rd d (F.KEY_STAT_STATE n)) (new := fun _ => ksLOST) hn
      (fun x => rd_wr_same _ (F.KEY_STAT_STATE n) ksLOST (by show 29 + 3 ≤ 32; omega))
      fun i x _ hne => rd_wr_off _ _ _ _ (by show 0x71040 + 16 * n + 0x0 ≠ 0x71040 + 16 * i + 0x0; omega)
  have hslot (d : Dev) : keySlot (foldUpto 64 keyLost d) n = {} :=
    foldUpto_once (v := fun d => keySlot d n) (new := fun _ => {}) hn (fun x => keySlot_setKeySlot_same _ n _)
      fun i x _ hne => keySlot_setKeySlot_ne _ _ (Ne.symm hne)
  have hraise (d : Dev) : rd (raise d 0x71 10) (F.KEY_STAT_STATE n) = rd d (F.KEY_STAT_STATE n) ∧ keySlot (raise d 0x71 10) n = keySlot d n := by
    refine ⟨rd_raise _ _ _ _ ?_, ?_⟩
    · have hoff : (F.KEY_STAT_STATE n).off = 0x71040 + 16 * n := rfl
      simp [logWords, F.LOG_NEXT_N, F.LOG_PEND_COUNT, F.LOG_LOST_COUNT, hoff]
      omega
    · rw [keySlot, raise_keys, keySlot]
  rw [loseKeys_eq]
  split
  · exact ⟨(hraise _).1.trans (hstate _), (hraise _).2.trans (hslot _)⟩
  · exact ⟨hstate _, hslot _⟩

/-- The record of an alarm and the loss of the keys (R349, R350). -/
def alarmShown (d : Dev) (src : Nat) : Dev :=
  let d1 := wr (loseKeys d) F.TRNG_STAT_SEEDED 0
  let d2 := { d1 with keys := { d1.keys with requests := 0 } }
  raise (satAdd (wr64 (setBit d2 F.ALM_LATCH_SRC src true) 0x6050 d.sys.time) F.ALM_COUNT_COUNT 1) 6 8

theorem alarmFire_eq (d : Dev) (src : Nat) : alarmFire d src = if src == almTAMPER && !rdB d F.ALM_TAMPEN_EN then d
    else if serving (alarmShown d src) then
      afterWork (retireWaiters (((alarmShown d src).cmds.list.map Cmd.seq).foldl cmdKeysLost (alarmShown d src)) (fun _ => true))
    else alarmShown d src := rfl

section
variable (d : Dev) (src : Nat)

/-- Words below the key slots that the record of an alarm leaves. -/
theorem actW_alarmShown {o : Nat} (ho : o < 0x71040) (hn : o ∉ [0x604C, 0x6050, 0x6054, 0x6058]) : actW (alarmShown d src) o = actW d o := by
  simp only [List.mem_cons, List.not_mem_nil, or_false, not_or] at hn
  obtain ⟨h1, h2, h3, h4⟩ := hn
  have hlog : o ∉ logWords := by
    simp [logWords, F.LOG_NEXT_N, F.LOG_PEND_COUNT, F.LOG_LOST_COUNT]
    omega
  rw [alarmShown, actW_raise _ _ _ _ hlog, satAdd, actW_wr_ne _ _ _ h4, actW_wr64_ne _ _ h2 h3,
    (ChangesOnly.setBit _ F.ALM_LATCH_SRC src true).words o (mt List.mem_singleton.1 h1)]
  refine (actW_wr_ne _ F.TRNG_STAT_SEEDED 0 ?_).trans (actW_loseKeys d ho)
  show o ≠ 0x73040
  omega

theorem alarmShown_sys : (alarmShown d src).sys = d.sys := by
  rw [alarmShown, raise_sys, satAdd, wr_sys]
  refine (setBit_sys ..).trans ?_
  exact loseKeys_sys d

theorem serving_alarmShown : serving (alarmShown d src) = serving d := by
  have hstate : rd (alarmShown d src) F.PFL_STAT_STATE = rd d F.PFL_STAT_STATE :=
    rd_congr _ (actW_alarmShown d src (by decide) (by decide))
  rw [serving, alive, flushing, alarmShown_sys, hstate]
  rfl

theorem alarmShown_shows (hs : src ≤ almENTROPY) : bitOf (rd (alarmShown d src) F.ALM_LATCH_SRC) src = true ∧
    rd64 (alarmShown d src) 0x6050 = d.sys.time % 2 ^ 64 ∧
    rd (alarmShown d src) F.ALM_COUNT_COUNT = min (rd d F.ALM_COUNT_COUNT + 1) (2 ^ F.ALM_COUNT_COUNT.wd - 1) ∧ evtSet (alarmShown d src) 6 8 = true ∧
    rd (alarmShown d src) F.TRNG_STAT_SEEDED = 0 ∧ ∀ n, n < 64 → rd (alarmShown d src) (F.KEY_STAT_STATE n) = ksLOST ∧ (keySlot (alarmShown d src) n).mat = 0 := by
  let d1 := wr (loseKeys d) F.TRNG_STAT_SEEDED 0
  have hd1 : d1 = wr (loseKeys d) F.TRNG_STAT_SEEDED 0 := rfl
  let d2 : Dev := { d1 with keys := { d1.keys with requests := 0 } }
  let d3 := setBit d2 F.ALM_LATCH_SRC src true
  let d4 := wr64 d3 0x6050 d.sys.time
  have hd4 : d4 = wr64 d3 0x6050 d.sys.time := rfl
  have hshown : alarmShown d src = raise (satAdd d4 F.ALM_COUNT_COUNT 1) 6 8 := rfl
  have hlow {o : Nat} (ho : o < 0x71040) : actW d2 o = actW d o := (actW_wr_ne _ F.TRNG_STAT_SEEDED 0 (by show o ≠ 0x73040; omega)).trans (actW_loseKeys d ho)
  have hlatch {o : Nat} (ho : o ≠ 0x604C) : actW d3 o = actW d2 o := (ChangesOnly.setBit d2 F.ALM_LATCH_SRC src true).words o (mt List.mem_singleton.1 ho)
  have hfar {f : Fld} (hf : 0x71040 ≤ f.off) (hl : f.off ∉ logWords) : rd (alarmShown d src) f = rd d1 f := by
    refine rd_congr f ?_
    rw [hshown, actW_raise _ _ _ _ hl, satAdd, actW_wr_ne _ F.ALM_COUNT_COUNT _ (by show f.off ≠ 0x6058; omega), hd4, actW_wr64_ne _ _ (by omega) (by omega),
      hlatch (by omega)]
    rfl
  have hkeys : (alarmShown d src).keys = { (loseKeys d).keys with requests := 0 } := by
    have hbit : d3.keys = d2.keys := (ChangesOnly.setBit d2 F.ALM_LATCH_SRC src true).keeps Dev.keys fun _ _ _ => rfl
    rw [hshown, raise_keys]
    exact hbit
  refine ⟨?_, ?_, ?_, evtSet_raise_same _ _ (by decide), ?_, fun n hn => ?_⟩
  · rw [hshown, rd_raise _ _ _ _ (by decide), satAdd, rd_wr_apart _ _ (by decide) (by decide), hd4, rd_wr64 _ _ (by decide) (by decide)]
    exact bitOf_setBit_same d2 true (by decide) (by show src < 6; have h5 : almENTROPY = 5 := rfl; omega)
  · refine (rd64_congr 0x6050 fun x hx => ?_).trans (rd64_wr64_same d3 0x6050 d.sys.time)
    have hx' : x ∉ logWords ∧ x ≠ 0x6058 := (by decide : ∀ x ∈ [0x6050, 0x6050 + 4], x ∉ logWords ∧ x ≠ 0x6058) x hx
    rw [hshown, actW_raise _ _ _ _ hx'.1, satAdd, actW_wr_ne _ F.ALM_COUNT_COUNT _ hx'.2]
  · have hcount : rd d4 F.ALM_COUNT_COUNT = rd d F.ALM_COUNT_COUNT := by
      rw [hd4, rd_wr64 _ _ (by decide) (by decide)]
      exact rd_congr _ ((hlatch (by decide)).trans (hlow (by decide)))
    rw [hshown, rd_raise _ _ _ _ (by decide), rd_satAdd_same _ _ _ (by decide), hcount]
  · rw [hfar (by decide) (by decide)]
    exact rd_wr_same _ F.TRNG_STAT_SEEDED 0 (by decide)
  · have hoff : (F.KEY_STAT_STATE n).off = 0x71040 + 16 * n := rfl
    obtain ⟨hst, hslot⟩ := loseKeys_lost d hn
    constructor
    · rw [hfar (by omega) (by simp [logWords, F.LOG_NEXT_N, F.LOG_PEND_COUNT, F.LOG_LOST_COUNT, hoff]; omega), hd1,
        rd_wr_off _ _ _ _ (by show 0x71040 + 16 * n + 0x0 ≠ 0x73040; omega), hst]
    · have heq : keySlot (alarmShown d src) n = keySlot (loseKeys d) n := by
        rw [keySlot, hkeys, keySlot]
      rw [heq, hslot]

end

/-- The device once a detector fires, its lasting condition shown. -/
def alarmSeen (d : Dev) (src : Nat) : Dev :=
  let d0 : Dev := if src = almTAMPER then { d with sys := { d.sys with tamperLow := true } } else d
  if src = almVOLT ∨ src = almCLOCK then d0 else almLive d0 src true

theorem alarmSeen_shape (d : Dev) (src : Nat) : ∃ d0 : Dev, d0 = { d with sys := { d.sys with tamperLow := if src = almTAMPER then true else d.sys.tamperLow } } ∧
    ChangesOnly [0x6048] [] d0 (alarmSeen d src) ∧ (src ≤ almENTROPY → src ≠ almVOLT → src ≠ almCLOCK → bitOf (rd (alarmSeen d src) F.ALM_STAT_LIVE) src = true) := by
  have h0 : (if src = almTAMPER then { d with sys := { d.sys with tamperLow := true } } else d) =
      { d with sys := { d.sys with tamperLow := if src = almTAMPER then true else d.sys.tamperLow } } := by split <;> rfl
  refine ⟨_, rfl, ?_, fun hs hv hc => ?_⟩
  · unfold alarmSeen
    dsimp only
    rw [h0]
    generalize ({ d with sys := { d.sys with tamperLow := if src = almTAMPER then true else d.sys.tamperLow } } : Dev) = x
    split
    · exact .refl ..
    · exact ChangesOnly.setBit _ F.ALM_STAT_LIVE src true
  · unfold alarmSeen
    dsimp only
    rw [if_neg (not_or.2 ⟨hv, hc⟩)]
    exact bitOf_setBit_same _ true (by decide) (Nat.lt_succ_of_le hs)

/-- What an alarm leaves for its response to read. -/
theorem alarmSeen_reads (d : Dev) (src : Nat) : (∀ o, o ≠ 0x6048 → actW (alarmSeen d src) o = actW d o) ∧ (alarmSeen d src).sys.time = d.sys.time ∧
    serving (alarmSeen d src) = serving d := by
  obtain ⟨d0, hd0, hch, -⟩ := alarmSeen_shape d src
  have hact (o : Nat) (ho : o ≠ 0x6048) : actW (alarmSeen d src) o = actW d o := by
    rw [hch.words o (by simpa using ho), hd0]
    rfl
  have hsys : (alarmSeen d src).sys = d0.sys := hch.keeps Dev.sys fun _ _ _ => rfl
  refine ⟨hact, by rw [hsys, hd0], ?_⟩
  rw [serving, alive, flushing, hsys, rd_congr F.PFL_STAT_STATE (hact _ (by decide)), hd0]
  rfl

theorem gives_alarm {s : State} {src : Nat} (ha : s.dev.sys.aon = true) (hs : src ≤ almENTROPY) (hen : src = almTAMPER → rdB s.dev F.ALM_TAMPEN_EN = true)
    {P : Dev → Prop} (hp : P (alarmFire (alarmSeen s.dev src) src)) : Gives (.alarm src) s P := by
  have hoff : ¬ (src == almTAMPER && !rdB s.dev F.ALM_TAMPEN_EN) = true := by
    intro h
    rw [Bool.and_eq_true, beq_iff_eq] at h
    rw [hen h.1] at h
    exact absurd h.2 (by decide)
  have hseen : alarmSeen s.dev src =
      (if (src == almVOLT || src == almCLOCK) = true then (if (src == almTAMPER) = true then { s.dev with sys := { s.dev.sys with tamperLow := true } } else s.dev)
       else almLive (if (src == almTAMPER) = true then { s.dev with sys := { s.dev.sys with tamperLow := true } } else s.dev) src true) := by
    simp [alarmSeen]
  rw [hseen] at hp
  exact gives_of_guard_eq rfl (by simp [ha, hs]) (if_neg hoff) hp

/-- Settles O32: each row by the response of `alarmFire`. -/
theorem alarmResponse : Obligations.AlarmResponse := by
  refine ⟨fun s src ha hs ht hen => ?_, fun s src ha hserve hs hen => ?_, fun s src hserve hs hen => ?_, fun s ha => ?_, fun s ha hseed hfail => ?_,
    fun s port v hw => ?_⟩
  · subst ht
    exact gives_of_guard_eq rfl (by simp [ha, almTAMPER]) (by simp [hen]) rfl
  · obtain ⟨hact, htime, hsv⟩ := alarmSeen_reads s.dev src
    obtain ⟨-, -, -, hlive⟩ := alarmSeen_shape s.dev src
    obtain ⟨hlatch, hclock, hcount, hevt, hseed, hkeys⟩ := alarmShown_shows (alarmSeen s.dev src) src hs
    have hfire : alarmFire (alarmSeen s.dev src) src = alarmShown (alarmSeen s.dev src) src := by
      have hen' : rdB (alarmSeen s.dev src) F.ALM_TAMPEN_EN = rdB s.dev F.ALM_TAMPEN_EN := by
        rw [rdB, rd_congr _ (hact _ (by decide)), rdB]
      have hno : (src == almTAMPER && !rdB (alarmSeen s.dev src) F.ALM_TAMPEN_EN) = false := by
        rw [hen', Bool.and_eq_false_iff]
        by_cases ht : src = almTAMPER
        · exact .inr (by rw [hen ht]; rfl)
        · exact .inl (beq_eq_false_iff_ne.2 ht)
      rw [alarmFire_eq, hno, if_neg Bool.false_ne_true, serving_alarmShown, hsv, hserve, if_neg Bool.false_ne_true]
    refine gives_alarm ha hs hen ?_
    rw [hfire]
    refine ⟨hlatch, hclock.trans (by rw [htime]), ?_, hevt, fun hv hc => ?_, hseed, hkeys⟩
    · rw [hcount, rd_congr F.ALM_COUNT_COUNT (hact _ (by decide))]
    · rw [rd_congr F.ALM_STAT_LIVE (actW_alarmShown _ _ (by decide) (by decide))]
      exact hlive hs hv hc
  · have ha : s.dev.sys.aon = true := by
      simp only [serving, alive, Bool.and_eq_true] at hserve
      exact hserve.1.1
    exact gives_alarm ha hs hen rfl
  · refine ⟨_, congrArg (finish s) (if_pos ha), ?_, ?_, ?_⟩
    · exact bitOf_setBit_same _ false (by decide) (by decide)
    · exact congrArg Sys.tamperLow (setBit_sys ..)
    · exact ChangesOnly.setBit _ F.ALM_STAT_LIVE almTAMPER false
  · exact gives_of_guard rfl (by simp [ha, hseed, hfail]) rfl
  · exact gives_of_row (c := .almLatchClear port v) rfl rfl hw (by rw [writeWord_almLatch]; exact almLatchWrite_shows s.dev v)

end Sys2Proof.Machine
end

section
/-!
PROOFS. The masking reseed (R348), the DRBG and TRNG_RAND: the key of a masking generator in the statement is not the model's.
-/
namespace Sys2Proof.Machine

/-- A device with a seeded DRBG whose first cipher domain is on. -/
def seededDev : Dev :=
  let d := State.reset.dev
  wrs { d with sys := { d.sys with pwrgd := true, aon := true } } [(F.TRNG_STAT_SEEDED, 1), (F.PWR_DOMSTAT_ON, 2 ^ 18)]

/-- Refutes O33: a masking reseed lists the generators of the four cipher domains under 0 to 3, and nothing under the domain's number 18. -/
theorem not_randomNumbers : ¬ Obligations.RandomNumbers := by
  rintro ⟨-, -, hmask, -⟩
  obtain ⟨d, -, hd, -, -, hlisted, -⟩ := hmask { State.reset with dev := seededDev } (by decide +kernel) (by decide +kernel)
  have hsome := hlisted 0 (by decide) (by decide +kernel)
  rw [hd] at hsome
  exact absurd hsome (by decide +kernel)

end Sys2Proof.Machine
end

section
/-!
PROOFS. Gating of power domains (R92 to R94) and power states (R417 to R420).
-/
namespace Sys2Proof.Machine

/-! ### A GO of PWR_DOMCMD -/

/-- The word of a GO. -/
def goWord (dom : Nat) (gate : Bool) : Word := BitVec.ofNat 32 (0x10000 + (if gate then 0x100 else 0) + dom)

theorem goWord_fields {dom : Nat} (h : dom < 32) (gate : Bool) : bitOf (goWord dom gate).toNat 16 = true ∧ bitsOf (goWord dom gate).toNat 0 5 = dom ∧
    bitOf (goWord dom gate).toNat 8 = gate := by
  have hall : ∀ gate : Bool, ∀ dom < 32, bitOf (goWord dom gate).toNat 16 = true ∧ bitsOf (goWord dom gate).toNat 0 5 = dom ∧ bitOf (goWord dom gate).toNat 8 = gate := by
    decide +kernel
  exact hall gate dom h

def domcmdRow : RegRow := (regRow? 0x2040).getD ⟨0, 0, 0, 0, 0, 0, 0, 0, 0, 0⟩

theorem regRow_domcmd : regRow? 0x2040 = some domcmdRow ∧ writablePair domcmdRow = false := by decide +kernel

/-- A GO while the device serves is evaluated, or waits (R92). -/
theorem writeWord_go {d : Dev} (port : Nat) {dom : Nat} (gate : Bool) (h : dom < 32) (hs : serving d = true) :
    writeWord d port 0x2040 (goWord dom gate) = domGo d port dom gate := by
  obtain ⟨h16, hdom, hgate⟩ := goWord_fields h gate
  have hact : actLow d (storeWord d 0x2040 domcmdRow (goWord dom gate)) port 0x2040 (goWord dom gate) = some (domGo d port dom gate) := by
    unfold actLow
    simp only [h16, hdom, hgate, hs]
    rfl
  rw [writeWord_row _ regRow_domcmd.1, if_neg (by rw [regRow_domcmd.2]; decide), oneWrite, if_pos (by decide), hact]
  rfl

theorem gives_go {s : State} {port dom : Nat} {gate : Bool} (hd : dom < 32) (hw : Writes s port 0x2040 (goWord dom gate)) (hs : serving s.dev = true)
    {P : Dev → Prop} (hp : P (domGo s.dev port dom gate)) : Gives (if gate then .domainGate port dom else .domainUngate port dom) s P := by
  rw [← writeWord_go port gate hd hs] at hp
  cases gate with
  | true => exact gives_of_row (c := .domainGate port dom) rfl (decide_eq_true hd) hw hp
  | false => exact gives_of_row (c := .domainUngate port dom) rfl (decide_eq_true hd) hw hp

/-- The device with the domain and the operation of a GO shown. -/
def goShown (d : Dev) (dom : Nat) (gate : Bool) : Dev := wrs d [(F.PWR_DOMCMD_OP, b2n gate), (F.PWR_DOMCMD_DOMAIN, dom)]

theorem rd_goShown (d : Dev) (dom : Nat) (gate : Bool) {f : Fld} (hf : f.lo + f.wd ≤ 32) (h1 : FldApart f F.PWR_DOMCMD_OP) (h2 : FldApart f F.PWR_DOMCMD_DOMAIN) :
    rd (goShown d dom gate) f = rd d f := by
  unfold goShown
  simp (disch := assumption) only [wrs, List.foldl_cons, List.foldl_nil, rd_wr_apart]

theorem domGo_held {d : Dev} (h : inTransition d = true) (port dom : Nat) (gate : Bool) : domGo d port dom gate =
    { goShown d dom gate with sys := { (goShown d dom gate).sys with domHeld := (goShown d dom gate).sys.domHeld ++ [⟨dom, gate, port⟩] } } := if_pos h

theorem domGo_eval {d : Dev} (h : inTransition d = false) (port dom : Nat) (gate : Bool) :
    domGo d port dom gate = domEval (goShown d dom gate) ⟨dom, gate, port⟩ := by
  rw [domGo, h, if_neg Bool.false_ne_true]
  rfl

/-- What a refusal of a GO shows (R93). -/
theorem domRefuse_shows (d : Dev) (o : DomOp) {cause : Nat} (ho : o.dom < 32) (hc : cause < 256) :
    rd (domRefuse d o cause) F.PWR_DOMERR_CAUSE = cause ∧ rd (domRefuse d o cause) F.PWR_DOMERR_DOMAIN = o.dom ∧
    rd (domRefuse d o cause) F.PWR_DOMERR_VALID = 1 ∧ evtSet (domRefuse d o cause) 2 9 = true ∧ (domRefuse d o cause).sys = d.sys ∧
    ∀ f : Fld, f.off ≠ 0x204C → f.off ∉ logWords → rd (domRefuse d o cause) f = rd d f := by
  unfold domRefuse
  refine ⟨?_, ?_, ?_, evtSet_raise_same _ _ (by decide), ?_, fun f h4 hl => ?_⟩
  · rw [rd_raise _ _ _ _ (by decide)]
    simp (disch := decide) only [wrs, List.foldl_cons, List.foldl_nil, rd_wr_same]
    exact Nat.mod_eq_of_lt hc
  · rw [rd_raise _ _ _ _ (by decide)]
    simp (disch := decide) only [wrs, List.foldl_cons, List.foldl_nil, rd_wr_same, rd_wr_apart]
    exact Nat.mod_eq_of_lt ho
  · rw [rd_raise _ _ _ _ (by decide)]
    simp (disch := decide) only [wrs, List.foldl_cons, List.foldl_nil, rd_wr_same, rd_wr_apart]
    rfl
  · rw [raise_sys, wrs_sys]
  · rw [rd_raise _ _ _ _ hl]
    exact rd_congr f (actW_wrs_ne d (offs := [0x204C, 0x204C, 0x204C]) rfl (by simpa using h4))

theorem domCause_le (d : Dev) (port dom : Nat) (gate : Bool) : domCause d port dom gate ≤ 0xA := by
  unfold domCause
  repeat' split
  all_goals decide

section
variable {d : Dev} {o : DomOp}

theorem domEval_refused (h : domCause d o.port o.dom o.gate ≠ 0) : domEval d o = domRefuse d o (domCause d o.port o.dom o.gate) := by
  unfold domEval
  rw [if_pos (by simpa using h)]
  rfl

/-- A GO without a cause against it, by the request and the domain (R93, R94). -/
theorem domEval_clear (h : domCause d o.port o.dom o.gate = 0) : domEval d o =
    if o.gate && hostOff d o.dom then raise d 2 8
    else if o.gate && !domOn d o.dom then raise (domChanged (setBit d F.PWR_DOMHOST_HOST o.dom true)) 2 8
    else if !o.gate && domOn d o.dom then raise (domChanged (ungateNow d o.dom)) 2 8
    else wr { d with sys := { d.sys with domOp := some o } } F.PWR_DOMCMD_BUSY 1 := by
  unfold domEval
  rw [if_neg (by simpa using h)]

end

theorem domCause_busy (d : Dev) (port dom : Nat) (gate : Bool) (h : rdB d F.PWR_DOMCMD_BUSY = true) : domCause (goShown d dom gate) port dom gate = 8 := by
  have hbusy : rdB (goShown d dom gate) F.PWR_DOMCMD_BUSY = rdB d F.PWR_DOMCMD_BUSY := by
    rw [rdB, rdB, rd_goShown d dom gate (by decide) (by decide) (by decide)]
  exact if_pos (hbusy.trans h)

theorem domCause_none (d : Dev) (port : Nat) {dom : Nat} (gate : Bool) (h : rdB d F.PWR_DOMCMD_BUSY = false) (h29 : dom > 29) :
    domCause (goShown d dom gate) port dom gate = 7 := by
  have hbusy : rdB (goShown d dom gate) F.PWR_DOMCMD_BUSY = rdB d F.PWR_DOMCMD_BUSY := by
    rw [rdB, rdB, rd_goShown d dom gate (by decide) (by decide) (by decide)]
  rw [domCause, hbusy, h, if_neg Bool.false_ne_true, if_pos h29]

/-- The outcomes of a GO that is evaluated exclude each other (R93, R94). -/
theorem domEval_goShown (d : Dev) (port : Nat) {dom : Nat} (gate : Bool) (hd : dom < 32) :
    (domCause (goShown d dom gate) port dom gate ≠ 0 →
      rd (domEval (goShown d dom gate) ⟨dom, gate, port⟩) F.PWR_DOMERR_CAUSE = domCause (goShown d dom gate) port dom gate ∧
      rd (domEval (goShown d dom gate) ⟨dom, gate, port⟩) F.PWR_DOMERR_DOMAIN = dom ∧
      rd (domEval (goShown d dom gate) ⟨dom, gate, port⟩) F.PWR_DOMERR_VALID = 1 ∧
      evtSet (domEval (goShown d dom gate) ⟨dom, gate, port⟩) 2 9 = true ∧
      rd (domEval (goShown d dom gate) ⟨dom, gate, port⟩) F.PWR_DOMSTAT_ON = rd d F.PWR_DOMSTAT_ON) ∧
    (domCause (goShown d dom gate) port dom gate = 0 → gate = true → hostOff d dom = true →
      domEval (goShown d dom gate) ⟨dom, gate, port⟩ = raise (goShown d dom gate) 2 8 ∧ evtSet (domEval (goShown d dom gate) ⟨dom, gate, port⟩) 2 8 = true) ∧
    (domCause (goShown d dom gate) port dom gate = 0 → gate = true → hostOff d dom = false → domOn d dom = false →
      domEval (goShown d dom gate) ⟨dom, gate, port⟩ = raise (domChanged (setBit (goShown d dom gate) F.PWR_DOMHOST_HOST dom true)) 2 8 ∧
      evtSet (domEval (goShown d dom gate) ⟨dom, gate, port⟩) 2 8 = true) ∧
    (domCause (goShown d dom gate) port dom gate = 0 → gate = false → domOn d dom = true →
      domEval (goShown d dom gate) ⟨dom, gate, port⟩ = raise (domChanged (ungateNow (goShown d dom gate) dom)) 2 8 ∧
      evtSet (domEval (goShown d dom gate) ⟨dom, gate, port⟩) 2 8 = true) ∧
    (domCause (goShown d dom gate) port dom gate = 0 → (gate = true ∧ hostOff d dom = false ∧ domOn d dom = true) ∨ (gate = false ∧ domOn d dom = false) →
      rd (domEval (goShown d dom gate) ⟨dom, gate, port⟩) F.PWR_DOMCMD_BUSY = 1 ∧
      (domEval (goShown d dom gate) ⟨dom, gate, port⟩).sys.domOp = some ⟨dom, gate, port⟩ ∧
      rd (domEval (goShown d dom gate) ⟨dom, gate, port⟩) F.PWR_DOMSTAT_ON = rd d F.PWR_DOMSTAT_ON) := by
  have hon : domOn (goShown d dom gate) dom = domOn d dom := by
    rw [domOn, domOn, rd_goShown d dom gate (by decide) (by decide) (by decide)]
  have hhost : hostOff (goShown d dom gate) dom = hostOff d dom := by
    rw [hostOff, hostOff, rd_goShown d dom gate (by decide) (by decide) (by decide)]
  have hstat : rd (goShown d dom gate) F.PWR_DOMSTAT_ON = rd d F.PWR_DOMSTAT_ON := rd_goShown d dom gate (by decide) (by decide) (by decide)
  generalize goShown d dom gate = d0 at *
  have hclear (hc : domCause d0 port dom gate = 0) := domEval_clear (d := d0) (o := ⟨dom, gate, port⟩) hc
  dsimp only at hclear
  rw [hhost, hon] at hclear
  refine ⟨fun hc => ?_, fun hc hg hh => ?_, fun hc hg hh hoff => ?_, fun hc hg hh => ?_, fun hc hcase => ?_⟩
  · obtain ⟨h1, h2, h3, h4, -, h6⟩ := domRefuse_shows d0 ⟨dom, gate, port⟩ hd (Nat.lt_of_le_of_lt (domCause_le d0 port dom gate) (by decide))
    rw [domEval_refused (d := d0) (o := ⟨dom, gate, port⟩) hc]
    exact ⟨h1, h2, h3, h4, (h6 _ (by decide) (by decide)).trans hstat⟩
  · have heq : domEval d0 ⟨dom, gate, port⟩ = raise d0 2 8 := (hclear hc).trans (if_pos (by rw [hg, hh]; rfl))
    exact ⟨heq, heq ▸ evtSet_raise_same d0 2 (by decide)⟩
  · have heq : domEval d0 ⟨dom, gate, port⟩ = raise (domChanged (setBit d0 F.PWR_DOMHOST_HOST dom true)) 2 8 :=
      (hclear hc).trans ((if_neg (by rw [hh, Bool.and_false]; decide)).trans (if_pos (by rw [hg, hoff]; rfl)))
    exact ⟨heq, heq ▸ evtSet_raise_same _ 2 (by decide)⟩
  · have heq : domEval d0 ⟨dom, gate, port⟩ = raise (domChanged (ungateNow d0 dom)) 2 8 :=
      (hclear hc).trans ((if_neg (by simp [hg])).trans ((if_neg (by simp [hg])).trans (if_pos (by rw [hg, hh]; rfl))))
    exact ⟨heq, heq ▸ evtSet_raise_same _ 2 (by decide)⟩
  · have heq : domEval d0 ⟨dom, gate, port⟩ = wr { d0 with sys := { d0.sys with domOp := some ⟨dom, gate, port⟩ } } F.PWR_DOMCMD_BUSY 1 := by
      refine (hclear hc).trans ?_
      rcases hcase with ⟨hg, hh, hoff⟩ | ⟨hg, hoff⟩
      · simp only [hg, hh, hoff, Bool.and_false, Bool.not_true, Bool.false_and, Bool.false_eq_true, if_false]
      · simp only [hg, hoff, Bool.and_false, Bool.false_and, Bool.false_eq_true, if_false]
    rw [heq]
    refine ⟨rd_wr_same _ F.PWR_DOMCMD_BUSY 1 (by decide), rfl, ?_⟩
    rw [rd_wr_apart _ _ (by decide) (by decide)]
    exact hstat

/-- The end of a domain's operation, no power-state transition running. -/
theorem gives_domdone {s : State} {o : DomOp} (ho : s.dev.sys.domOp = some o) (hs : serving s.dev = true) (ht : inTransition s.dev = false)
    (hq : o.gate = true → o.dom ≤ 15 → groupQuiet s.dev o.dom = true) {P : Dev → Prop} {e : Dev}
    (he : (if o.gate && domPend s.dev o.dom then domRefuse (wr { s.dev with sys := { s.dev.sys with domOp := none } } F.PWR_DOMCMD_BUSY 0) o 5
      else domFinish s.dev o) = e) (hp : P e) : Gives .domdone s P := by
  have hguard : (serving s.dev && !inTransition s.dev && (!o.gate || decide (o.dom > 15) || groupQuiet s.dev o.dom)) = true := by
    cases hg : o.gate with
    | false => simp [hs, ht]
    | true =>
      by_cases h15 : o.dom ≤ 15
      · simp [hs, ht, hq hg h15]
      · simp [hs, ht, Nat.not_le.1 h15]
  have hrow : exec .domdone s = finish s (guardDev (serving s.dev && !inTransition s.dev && (!o.gate || decide (o.dom > 15) || groupQuiet s.dev o.dom)) s.dev
      (if o.gate && domPend s.dev o.dom then domRefuse (wr { s.dev with sys := { s.dev.sys with domOp := none } } F.PWR_DOMCMD_BUSY 0) o 5
        else domFinish s.dev o)) := by
    show execDomdone s = _
    unfold execDomdone
    dsimp only
    rw [ho]
  exact gives_of_guard_eq hrow hguard he hp

/-- Settles O34: the GO, its end and the gating of a group again. -/
theorem domainGating : Obligations.DomainGating := by
  refine ⟨fun s port dom gate hd => ?_, fun s o ho hs ht hq => ⟨fun hp => ?_, fun hg hp hd => ?_⟩, fun s g hs ho hq hp => ?_⟩
  · intro v hw hs d0 c
    refine ⟨fun hb => ?_, fun hb h29 => ?_, ?_⟩
    · exact domCause_busy s.dev port dom gate hb
    · exact domCause_none s.dev port gate hb h29
    · refine gives_go hd hw hs ⟨fun ht => domGo_held ht port dom gate, fun ht => ?_⟩
      rw [domGo_eval ht]
      exact domEval_goShown s.dev port gate hd
  · have hgo : ¬ (o.gate && domPend s.dev o.dom) = true := by
      intro h
      rw [Bool.and_eq_true] at h
      exact absurd ((hp h.1).symm.trans h.2) (by decide)
    exact gives_domdone ho hs ht hq (if_neg hgo) ⟨rfl, evtSet_raise_same _ _ (by decide)⟩
  · let d1 := wr { s.dev with sys := { s.dev.sys with domOp := none } } F.PWR_DOMCMD_BUSY 0
    have hd1 : d1 = wr { s.dev with sys := { s.dev.sys with domOp := none } } F.PWR_DOMCMD_BUSY 0 := rfl
    obtain ⟨h1, h2, h3, h4, h5, h6⟩ := domRefuse_shows d1 o (cause := 5) hd (by decide)
    refine gives_domdone ho hs ht hq (if_pos (by rw [hg, hp]; rfl)) ⟨?_, by rw [h5]; rfl, h1, h2, h3, h4, ?_⟩
    · rw [h6 _ (by decide) (by decide)]
      exact rd_wr_same _ F.PWR_DOMCMD_BUSY 0 (by decide)
    · rw [h6 _ (by decide) (by decide), hd1, rd_wr_apart _ _ (by decide) (by decide)]
      rfl
  · intro d1
    refine gives_of_guard rfl (by rw [hs, ho, hq, hp]; rfl) ⟨fun hh hall => if_pos ?_, fun hc => if_neg ?_⟩
    · have hq : (List.range 4).all (fun i => !domOn d1 (4 * (g / 4) + i)) = true :=
        List.all_eq_true.2 fun i hi => by rw [hall i (List.mem_range.1 hi)]; rfl
      rw [Bool.and_eq_true]
      exact ⟨hh, hq⟩
    · intro h
      rw [Bool.and_eq_true] at h
      rcases hc with hc | ⟨i, hi, hc⟩
      · exact absurd (hc.symm.trans h.1) (by decide)
      · have hno := List.all_eq_true.1 h.2 i (List.mem_range.2 hi)
        rw [hc] at hno
        exact absurd hno (by decide)

/-! ### Power states -/

theorem psAsleep_shows {d : Dev} (hn : d.sys.psTarget < 4) : rd (psAsleep d) F.PWR_PSTAT_STATE = d.sys.psTarget ∧
    rd (psAsleep d) F.PWR_PSTAT_ENTERING = 0 ∧ evtSet (psAsleep d) 2 11 = true := by
  unfold psAsleep
  refine ⟨?_, ?_, evtSet_raise_same _ _ (by decide)⟩ <;> rw [rd_raise _ _ _ _ (by decide)] <;>
    simp (disch := decide) only [wrs, List.foldl_cons, List.foldl_nil, rd_wr_same, rd_wr_apart]
  · exact Nat.mod_eq_of_lt hn
  · rfl

theorem psAwake_shows (d : Dev) : rd (psAwake d) F.PWR_PSTAT_STATE = 0 ∧ rd (psAwake d) F.PWR_PSTAT_EXITING = 0 ∧ evtSet (psAwake d) 2 12 = true := by
  unfold psAwake
  refine ⟨?_, ?_, evtSet_raise_same _ _ (by decide)⟩ <;> rw [rd_raise _ _ _ _ (by decide)] <;>
    simp (disch := decide) only [wrs, List.foldl_cons, List.foldl_nil, rd_wr_same, rd_wr_apart] <;> rfl

theorem domRelease_none {d : Dev} (h : d.sys.domHeld = []) : domRelease d = d := by
  rw [domRelease, h, List.foldl_nil, ← h]

/-- The word of a wake by the host leaves the hold as it is. -/
def wakeWord (d : Dev) : Word := (actW d 0x2074 &&& 2) ||| 1

def psctlRow : RegRow := ⟨0x74, 2, 0, 0, 0, 0, 1, 0, 0, 0⟩

theorem regRow_psctl : regRow? 0x2074 = some psctlRow := by decide +kernel

theorem writeWord_wake (d : Dev) (port : Nat) : writeWord d port 0x2074 (wakeWord d) = wake (storeWord d 0x2074 psctlRow (wakeWord d)) 3 := by
  have hbit : bitOf (wakeWord d).toNat 0 = true := by
    rw [bitOf_eq, wakeWord, BitVec.toNat_or, Nat.testBit_or]
    exact Bool.or_true _
  rw [writeWord_row _ regRow_psctl, if_neg (by decide), oneWrite, if_pos (by decide)]
  exact if_pos hbit

/-- A wake of a device that sleeps, or enters a power state, starts the exit (R420). -/
theorem wake_starts {d : Dev} {cause : Nat} (hc : cause < 16) (h : rd d F.PWR_PSTAT_STATE ≠ 0 ∨ rdB d F.PWR_PSTAT_ENTERING = true)
    (hx : rdB d F.PWR_PSTAT_EXITING = false) : rd (wake d cause) F.PWR_PSTAT_EXITING = 1 ∧ rd (wake d cause) F.PWR_PSTAT_WCAUSE = cause := by
  have hgo : ((!(rd d F.PWR_PSTAT_STATE == 0) || rdB d F.PWR_PSTAT_ENTERING) && !rdB d F.PWR_PSTAT_EXITING) = true := by
    rw [hx]
    simpa using h
  rw [wake, if_pos hgo]
  constructor <;> simp (disch := decide) only [wrs, List.foldl_cons, List.foldl_nil, rd_wr_same, rd_wr_apart]
  · rfl
  · exact Nat.mod_eq_of_lt hc

/-- Settles O35: entry, its end, the wake and the exit. -/
theorem powerStateCycle : Obligations.PowerStateCycle := by
  refine ⟨fun s n hs ha hm he hlt ht hi hl => ?_, fun s hs he ht => ?_, fun s port => ?_, fun s hs hx hn => ?_⟩
  · have hl' : (decide (n < 3) || linksInL1 s.dev) = true := by simpa using hl
    refine gives_of_guard rfl (by rw [hs, ha, hm, he, ht, hi, hl', decide_eq_true hlt]; rfl) ⟨?_, rfl, ?_, ?_⟩
    · exact rd_wr_same _ F.PWR_PSTAT_ENTERING 1 (by decide)
    · rw [rd_wr_apart _ _ (by decide) (by decide)]
      rfl
    · exact ChangesOnly.wr _ F.PWR_PSTAT_ENTERING 1
  · intro d1
    obtain ⟨h1, h2, h3⟩ := psAsleep_shows ht
    refine ⟨h1, h2, h3, gives_of_guard (d' := if rdB d1 F.PWR_PSTAT_EXITING then d1 else domRelease d1) rfl (by rw [hs, he]; rfl) ⟨fun h => ?_, fun h => ?_⟩⟩
    · by_cases hx : rdB d1 F.PWR_PSTAT_EXITING = true
      · exact if_pos hx
      · rw [if_neg hx]
        exact domRelease_none (h.resolve_left hx)
    · exact if_neg (by rw [h]; decide)
  · intro v hw
    have hstore := (storeWord_plain (d := s.dev) (off := 0x2074) (r := psctlRow) (wakeWord s.dev) rfl rfl rfl).1
    have hrd (f : Fld) (hf : f.off = 0x2078) : rd (storeWord s.dev 0x2074 psctlRow (wakeWord s.dev)) f = rd s.dev f :=
      rd_congr f (hstore.words _ (by rw [hf]; decide))
    refine gives_of_row (c := .psctlWake port) rfl rfl hw ?_
    have heq : writeWord s.dev port 0x2074 v = wake (storeWord s.dev 0x2074 psctlRow (wakeWord s.dev)) 3 := writeWord_wake s.dev port
    rw [heq]
    refine ⟨(hstore.trans (wake_words _ 3)).mono (by simp) (by simp), fun h hx => wake_starts (by decide) ?_ ?_⟩
    · rw [rdB, hrd _ rfl, hrd _ rfl]
      exact h
    · rw [rdB, hrd _ rfl]
      exact hx
  · obtain ⟨h1, h2, h3⟩ := psAwake_shows s.dev
    exact ⟨h1, h2, h3, gives_of_guard rfl (by rw [hs, hx, hn]; rfl) rfl⟩

end Sys2Proof.Machine
end

section
/-!
PROOFS. Links (R117 to R119), resets of functions (R91, R133) and the answers of the functions (R12, R121, R122, R132).
-/
namespace Sys2Proof.Machine

/-! ### The state of a link -/

/-- The fields that show a link. -/
def linkFields (p n : Nat) : List Fld :=
  [F.PRT_LSTAT_UP p n, F.PRT_LSTAT_FLIT p n, F.PRT_LSTAT_L0P p n, F.PRT_LSTAT_VFS p n, F.PRT_LSTAT_MPS p n, F.PRT_LSTAT_SPEED p n, F.PRT_LSTAT_WIDTH p n,
    F.PRT_RATE_RATE p n]

theorem linkFields_apart {p n : Nat} (hp : p ≤ 1) (hn : n ≤ 3) : (linkFields p n).Pairwise FldApart ∧
    ∀ f ∈ F.PRT_LSTAT_L1 p n :: linkFields p n, f.lo + f.wd ≤ 32 ∧ f.off ∉ logWords ∧ f.off ≠ 0x2078 := by
  have hpair : ∀ p < 2, ∀ n < 4, (linkFields p n).Pairwise FldApart := by decide
  have hfit : ∀ p < 2, ∀ n < 4, ∀ f ∈ F.PRT_LSTAT_L1 p n :: linkFields p n, f.lo + f.wd ≤ 32 ∧ f.off ∉ logWords ∧ f.off ≠ 0x2078 := by decide
  exact ⟨hpair p (by omega) n (by omega), hfit p (by omega) n (by omega)⟩

/-- What the messages of unmasked vectors leave: everything but the Pending bits and the outputs. -/
theorem pbaDrain_keeps {α : Type} (g : Dev → α) (hg : ∀ (d : Dev) l o, g { d with pci := { d.pci with pba := l }, out := o } = g d) (d : Dev) :
    g (pbaDrain d) = g d :=
  foldl_keeps g _ d fun d _ => hg d _ _

theorem pbaDrain_hub (d : Dev) : (pbaDrain d).hub = d.hub ∧ (pbaDrain d).seats = d.seats :=
  ⟨pbaDrain_keeps Dev.hub (fun _ _ _ => rfl) d, pbaDrain_keeps Dev.seats (fun _ _ _ => rfl) d⟩

/-- The words of a link as it trains. -/
def linkWords (d : Dev) (port link : Nat) (c : LinkCfg) : Dev :=
  wrs d [(F.PRT_LSTAT_UP port link, 1), (F.PRT_LSTAT_FLIT port link, b2n c.flit), (F.PRT_LSTAT_L0P port link, b2n c.l0p), (F.PRT_LSTAT_VFS port link, c.vfs),
    (F.PRT_LSTAT_MPS port link, c.mps), (F.PRT_LSTAT_SPEED port link, c.speed), (F.PRT_LSTAT_WIDTH port link, c.width), (F.PRT_RATE_RATE port link, linkRate c)]

theorem setLink_shape (d : Dev) (port link : Nat) (c : LinkCfg) : (setLink d port link c).hub = (linkWords d port link c).hub ∧
    (setLink d port link c).seats = d.seats := by
  unfold setLink
  constructor
  · exact (pbaDrain_hub _).1
  · refine (pbaDrain_hub _).2.trans ?_
    exact wrs_keeps Dev.seats (fun _ _ _ => rfl) _ _

theorem rd_setLink (d : Dev) {port link : Nat} (c : LinkCfg) (hp : port ≤ 1) (hl : link ≤ 3) :
    linkUpB (setLink d port link c) port link = true ∧ rd (setLink d port link c) (F.PRT_LSTAT_WIDTH port link) = c.width % 2 ^ 5 ∧
    rd (setLink d port link c) (F.PRT_LSTAT_SPEED port link) = c.speed % 2 ^ 4 ∧
    rd (setLink d port link c) (F.PRT_RATE_RATE port link) = linkRate c % 2 ^ 16 := by
  have hact (f : Fld) : rd (setLink d port link c) f = rd (linkWords d port link c) f := rd_congr f (actW_congr (congrArg Hub.act (setLink_shape d port link c).1) _)
  have hmem {f : Fld} {v : Nat} (hm : (f, v) ∈ _) (hf : f.lo + f.wd ≤ 32) : rd (linkWords d port link c) f = v % 2 ^ f.wd :=
    rd_wrs_mem d (linkFields_apart hp hl).1 hm hf
  refine ⟨?_, ?_, ?_, ?_⟩
  · rw [linkUpB, rdB, hact, hmem (v := 1) (by simp) (by show 31 + 1 ≤ 32; omega)]
    rfl
  · exact (hact _).trans (hmem (by simp) (by show 0 + 5 ≤ 32; omega))
  · exact (hact _).trans (hmem (by simp) (by show 8 + 4 ≤ 32; omega))
  · exact (hact _).trans (hmem (by simp) (by show 0 + 16 ≤ 32; omega))

theorem reapFns_none (d : Dev) {p : Nat → Bool} (h : ∀ f, p f = false) : (reapFns d p).seats = d.seats := by
  have hseats : d.seats.filter (fun e => p e.2.fn) = [] := List.filter_eq_nil_iff.2 fun e _ => by rw [h]; decide
  unfold reapFns
  rw [hseats, List.foldl_nil]
  refine foldUpto_keeps Dev.seats 32 d fun ch d => ?_
  rw [h, h, Bool.and_false, Bool.or_false, if_neg Bool.false_ne_true]

/-- Settles O36: each row of a link. -/
theorem linkStateShown : Obligations.LinkStateShown := by
  refine ⟨fun s port link cfg hp hl htrain hex hup hw hw16 hsp hmps hvfs => ?_, fun s port link cfg hfit => ?_,
    fun s port link cfg ha hp hl hup hfit hl0p => ?_, fun s port link hp hl ha hup haspm hbusy => ?_, fun s port link hp hl ha hl1 => ?_⟩
  · obtain ⟨h1, h2, h3, h4⟩ := rd_setLink s.dev cfg hp hl
    have hlog (f : Fld) (hf : f ∈ linkFields port link) : rd (raise (setLink s.dev port link cfg) (prtPage port) 8) f = rd (setLink s.dev port link cfg) f :=
      rd_raise _ _ _ _ ((linkFields_apart hp hl).2 f (by simp [hf])).2.1
    have hfit : linkFits s.dev port cfg = true := by simp [linkFits, hw, hsp]
    refine gives_of_guard rfl (by simp [hp, htrain, hex, hup, hfit]) ⟨?_, ?_, ?_, ?_, evtSet_raise_same _ _ (by decide), ?_⟩
    · rw [linkUpB, rdB, hlog _ (by simp [linkFields])]
      exact h1
    · rw [hlog _ (by simp [linkFields]), h2, Nat.mod_eq_of_lt (by omega)]
    · rw [hlog _ (by simp [linkFields]), h3, Nat.mod_eq_of_lt (by omega)]
    · rw [hlog _ (by simp [linkFields]), h4]
    · rw [raise_seats, (setLink_shape ..).2]
  · exact ⟨_, congrArg (finish s) (if_neg (by rw [hfit]; simp)), rfl⟩
  · obtain ⟨h1, h2, h3, h4⟩ := rd_setLink (reapFns s.dev (cfgLoses s.dev port link cfg)) cfg hp hl
    have hseats := (setLink_shape (reapFns s.dev (cfgLoses s.dev port link cfg)) port link cfg).2
    let d1 := fnReset (setLink (reapFns s.dev (cfgLoses s.dev port link cfg)) port link cfg) (fun f => f / 128 == 4 * port + link && f % 128 > cfg.vfs)
    have hd1 : d1 = fnReset (setLink (reapFns s.dev (cfgLoses s.dev port link cfg)) port link cfg) (fun f => f / 128 == 4 * port + link && f % 128 > cfg.vfs) := rfl
    have hrd (f : Fld) : rd d1 f = rd (setLink (reapFns s.dev (cfgLoses s.dev port link cfg)) port link cfg) f := rfl
    have hd1s : d1.seats = (setLink (reapFns s.dev (cfgLoses s.dev port link cfg)) port link cfg).seats := rfl
    have hbusy : (!(cfg.l0p && !cfg.partner && linkBusy s.dev port link)) = true := by
      rcases hl0p with h | h | h <;> simp [h]
    have hlog (f : Fld) (hf : f ∈ linkFields port link) : rd (raise d1 (prtPage port) 10) f = rd d1 f :=
      rd_raise _ _ _ _ ((linkFields_apart hp hl).2 f (by simp [hf])).2.1
    have hnone (h : ∀ f, cfgLoses s.dev port link cfg f = false) : d1.seats = s.dev.seats := by
      rw [hd1s, hseats, reapFns_none s.dev h]
    by_cases hsame : rd d1 (F.PRT_RATE_RATE port link) = rd s.dev (F.PRT_RATE_RATE port link)
    · refine gives_of_guard_eq rfl (by rw [ha, hup, hfit, hbusy]; rfl) (if_pos (by simpa using hsame)) ⟨h1, h4, fun hne => absurd ?_ hne, hnone⟩
      rw [← h4]
      exact hsame
    · refine gives_of_guard_eq rfl (by rw [ha, hup, hfit, hbusy]; rfl) (if_neg (by simpa using hsame))
        ⟨?_, ?_, fun _ => evtSet_raise_same _ _ (by decide), fun h => by rw [raise_seats]; exact hnone h⟩
      · rw [linkUpB, rdB, hlog _ (by simp [linkFields])]
        exact h1
      · rw [hlog _ (by simp [linkFields])]
        exact h4
  · refine gives_of_guard rfl (by rw [ha, hup, haspm, linkBusy, hbusy]; rfl) ⟨?_, ?_⟩
    · exact congrArg (· == 1) (rd_wr_same s.dev (F.PRT_LSTAT_L1 port link) 1 (by show 28 + 1 ≤ 32; omega))
    · exact ChangesOnly.wr s.dev (F.PRT_LSTAT_L1 port link) 1
  · let d1 := wr s.dev (F.PRT_LSTAT_L1 port link) 0
    obtain ⟨hfit, -, hoff⟩ := (linkFields_apart hp hl).2 (F.PRT_LSTAT_L1 port link) (by simp)
    have hps (f : Fld) (hf : f.off = 0x2078) : rd d1 f = rd s.dev f := rd_wr_off _ _ _ _ (by rw [hf]; exact hoff.symm)
    refine gives_of_guard rfl (by rw [ha, hl1]; rfl) ⟨?_, fun hst hx => wake_starts (d := d1) (by decide) (.inl ?_) ?_, ?_⟩
    · rw [rdB, rd_congr _ ((wake_words d1 2).words _ (by simpa using hoff))]
      exact congrArg (· == 1) (rd_wr_same s.dev (F.PRT_LSTAT_L1 port link) 0 hfit)
    · rwa [hps _ rfl]
    · rw [rdB, hps _ rfl]
      exact hx
    · exact ((ChangesOnly.wr s.dev (F.PRT_LSTAT_L1 port link) 0).trans (wake_words d1 2)).mono (by simp) (by simp)

/-! ### Functions reset -/

theorem contains_filter_not {p : Nat → Bool} {f : Nat} (h : p f = true) (l : List Nat) : (l.filter (fun x => !p x)).contains f = false := by
  rw [List.contains_eq_mem, decide_eq_false_iff_not, List.mem_filter]
  rintro ⟨-, hf⟩
  rw [h] at hf
  exact absurd hf (by decide)

theorem get?_keep_none {α : Type} {p : Nat → Bool} {k : Nat} (h : p k = true) (m : SMap α) : (m.keep (fun f _ => !p f)).get? k = none := by
  rw [SMap.get?_eq_none]
  intro hk
  obtain ⟨e, he, rfl⟩ := List.mem_map.1 hk
  have hp : (!p e.1) = true := (List.mem_filter.1 he).2
  rw [h] at hp
  exact absurd hp (by decide)

/-- The functions that a reset names have no Bus Master or Memory Space Enable left (R133). -/
theorem fnConfigReset_off (d : Dev) {p : Nat → Bool} {f : Nat} (h : p f = true) : bmeOn (fnConfigReset d p) f = false ∧ mseOn (fnConfigReset d p) f = false :=
  ⟨contains_filter_not h _, contains_filter_not h _⟩

theorem fnReset_off (d : Dev) {p : Nat → Bool} {f : Nat} (h : p f = true) :
    bmeOn (fnReset d p) f = false ∧ mseOn (fnReset d p) f = false ∧ ctlOf (fnReset d p) f = {} := by
  obtain ⟨hb, hm⟩ := fnConfigReset_off d h
  refine ⟨hb, hm, ?_⟩
  have hget : (fnReset d p).pci.ctl.get? f = none := get?_keep_none h _
  rw [ctlOf, SMap.read, SMap.getD, hget]
  rfl

/-- Settles O37: each reset names the functions it concerns. -/
theorem functionsReset : Obligations.FunctionsReset := by
  refine ⟨fun s port link hp hl ha hup => ?_, fun s port ha hh => ⟨?_, ?_⟩, fun s fn ha hup => ?_, fun s fn ha hup => ⟨?_, fun hvf => ?_⟩⟩
  · refine gives_of_guard rfl ha ⟨rfl, fun f hf => ?_⟩
    rw [linkDown, if_pos hup]
    exact fnConfigReset_off _ (by simpa using hf)
  · have hguard : (alive s.dev && !bitOf (rd s.dev F.PWR_DOMHOST_HOST) (16 + port)) = true := by rw [ha, hh]; rfl
    exact gives_of_guard rfl hguard ⟨rfl, fun f hf => fnReset_off _ (by simpa using hf)⟩
  · have hguard : (alive s.dev && !bitOf (rd s.dev F.PWR_DOMHOST_HOST) (16 + port)) = true := by rw [ha, hh]; rfl
    refine gives_of_guard rfl hguard ⟨?_, actW_takeLinkCfg _ _, takeLinkCfg_cfg _ _⟩
    rw [takeLinkCfg_sys]
  · have hself : fnAndBelow fn fn = true := by simp [fnAndBelow]
    have hbelow {f : Nat} (hvf : fnVf fn = 0) (hf : f / 128 = fn / 128) : fnAndBelow fn f = true := by simp [fnAndBelow, hvf, hf]
    obtain ⟨h1, h2, h3⟩ := fnReset_off (reapFns s.dev (fnAndBelow fn)) hself
    have hctl (f : Nat) (h : fnAndBelow fn f = true) := (fnReset_off (reapFns s.dev (fnAndBelow fn)) h).2.2
    generalize hd1 : fnReset (reapFns s.dev (fnAndBelow fn)) (fnAndBelow fn) = d1 at *
    refine gives_of_guard_eq (e := if fnVf fn == 0 then wr d1 (F.PRT_LSTAT_VFS (fnPort fn) (fnLink fn)) 0 else d1) rfl (by rw [ha, hup]; rfl)
      (by rw [hd1]) ?_
    by_cases hvf : fnVf fn = 0
    · rw [if_pos (by simpa using hvf)]
      exact ⟨h1, h2, h3, fun _ => ⟨rd_wr_same d1 (F.PRT_LSTAT_VFS (fnPort fn) (fnLink fn)) 0 (by show 16 + 8 ≤ 32; omega), fun f hf => hctl f (hbelow hvf hf)⟩⟩
    · rw [if_neg (by simpa using hvf)]
      exact ⟨h1, h2, h3, fun h => absurd h hvf⟩
  · refine gives_of_guard_eq rfl (by rw [ha, hup]; rfl) (if_neg Bool.false_ne_true) ?_
    show (ndel fn _).contains fn = false
    simp [ndel]
  · refine gives_of_guard_eq rfl (by rw [ha, hup]; rfl) (if_pos rfl) ⟨?_, fun f hf hne => ?_⟩
    · exact rd_wr_same _ (F.PRT_LSTAT_VFS (fnPort fn) (fnLink fn)) 0 (by show 16 + 8 ≤ 32; omega)
    · have hin : (fnVf fn == 0 && f / 128 == fn / 128 && !(f == fn)) = true := by simp [hvf, hf, hne]
      obtain ⟨hb, hm, -⟩ := fnReset_off (reapFns s.dev (fun f => fnVf fn == 0 && f / 128 == fn / 128 && !(f == fn))) (p := fun f => fnVf fn == 0 && f / 128 == fn / 128 && !(f == fn)) hin
      exact ⟨hb, hm⟩

/-! ### Requests that the functions turn away, and unmasked vectors -/

theorem contains_ndel (k j : Nat) (l : List Nat) : (ndel k l).contains j = (l.contains j && !(j == k)) := by
  induction l with
  | nil => rfl
  | cons m l ih =>
    have hrec : ndel k (m :: l) = if m = k then ndel k l else m :: ndel k l := by
      by_cases h : m = k <;> simp [ndel, h]
    rw [hrec]
    by_cases hm : m = k
    · subst hm
      rw [if_pos rfl, ih, List.contains_cons]
      cases h : j == m <;> simp
    · rw [if_neg hm, List.contains_cons, List.contains_cons, ih]
      by_cases hj : j = m
      · subst hj
        simp [hm]
      · rw [beq_eq_false_iff_ne.2 hj, Bool.false_or, Bool.false_or]

theorem contains_nins (k : Nat) (l : List Nat) : (nins k l).contains k = true := by
  rw [List.contains_eq_mem]
  exact decide_eq_true ((mem_nins _ _ _).2 (.inl rfl))

/-- The messages of the Pending bits of open vectors. -/
def openPending (d : Dev) : List Nat := d.pci.pba.filter (fun k => msixLive d (k / 2048) && vecOpen d (k / 2048) (k % 2048))

/-- One message of `pbaDrain`. -/
def sendPending (d : Dev) (k : Nat) : Dev := emit { d with pci := { d.pci with pba := ndel k d.pci.pba } } (.msix (k / 2048) (k % 2048))

theorem pbaDrain_eq (d : Dev) : pbaDrain d = (openPending d).foldl sendPending d := rfl

theorem sendPending_sent {l : List Nat} {k : Nat} (h : k ∈ l) (d : Dev) :
    Output.msix (k / 2048) (k % 2048) ∈ (l.foldl sendPending d).out ∧ (l.foldl sendPending d).pci.pba.contains k = false := by
  induction l generalizing d with
  | nil => cases h
  | cons j l ih =>
    rw [List.foldl_cons]
    rcases List.mem_cons.1 h with rfl | h
    · refine foldl_induct (P := fun d : Dev => Output.msix (k / 2048) (k % 2048) ∈ d.out ∧ d.pci.pba.contains k = false) l
        ⟨List.mem_cons_self, ?_⟩ fun x d _ hd => ⟨List.mem_cons_of_mem _ hd.1, ?_⟩
      · show (ndel k d.pci.pba).contains k = false
        rw [contains_ndel, beq_self_eq_true, Bool.not_true, Bool.and_false]
      · show (ndel x d.pci.pba).contains k = false
        rw [contains_ndel, hd.2, Bool.false_and]
    · exact ih h _

theorem sendPending_other {l : List Nat} {k : Nat} (h : k ∉ l) (d : Dev) : (l.foldl sendPending d).pci.pba.contains k = d.pci.pba.contains k := by
  refine foldl_induct (P := fun x : Dev => x.pci.pba.contains k = d.pci.pba.contains k) l rfl fun x y hx hy => ?_
  have hne : k ≠ x := by
    rintro rfl
    exact h hx
  show (ndel x y.pci.pba).contains k = _
  rw [contains_ndel, hy, beq_eq_false_iff_ne.2 hne, Bool.not_false, Bool.and_true]

/-- Settles O38: the requests turned away by their rows, the unmasked vector by the messages that waited. -/
theorem pciAnswers : Obligations.PciAnswers := by
  refine ⟨fun s fn bar ha hup hm hb => ⟨?_, ?_⟩, fun s fn ha hup => ?_, fun s fn off hb => ⟨?_, ?_⟩, fun s fn vec hb hv => ?_⟩
  · exact gives_of_guard rfl (by rw [ha, hup, hm, hb]; rfl) rfl
  · exact gives_of_guard rfl (by rw [ha, hup, hm, hb]; rfl) rfl
  · refine gives_of_guard rfl (by rw [ha, hup]; rfl) ⟨?_, evtSet_raise_same _ _ (by decide), ?_⟩
    · rw [raise_out]
      rfl
    · rw [raise_out]
      exact ChangesOnly.raise _ _ _
  · exact gives_of_guard rfl hb ⟨rfl, rfl, fun _ => rfl⟩
  · let d1 : Dev := { s.dev with pci := { s.dev.pci with bar2Log := (fn, off) :: s.dev.pci.bar2Log } }
    have hd1 : d1 = { s.dev with pci := { s.dev.pci with bar2Log := (fn, off) :: s.dev.pci.bar2Log } } := rfl
    obtain ⟨hout, hpci⟩ := wake_out d1 1
    exact gives_of_guard_eq rfl hb (if_pos rfl) ⟨hout, congrArg Pci.bar2Log hpci, fun o ho => (wake_words d1 1).words o (by simpa using ho)⟩
  · have hdiv : (2048 * fn + vec) / 2048 = fn := by omega
    have hmod : (2048 * fn + vec) % 2048 = vec := by omega
    let d1 : Dev := { s.dev with pci := { s.dev.pci with vecOn := nins (2048 * fn + vec) s.dev.pci.vecOn } }
    have hd1 : d1 = { s.dev with pci := { s.dev.pci with vecOn := nins (2048 * fn + vec) s.dev.pci.vecOn } } := rfl
    have hopen : (msixLive d1 fn && vecOpen d1 fn vec) = (msixLive s.dev fn && !s.dev.pci.msixFm.contains fn) := by
      have hvec : vecOpen d1 fn vec = !s.dev.pci.msixFm.contains fn := by
        rw [vecOpen, hd1, contains_nins, Bool.true_and]
      rw [hvec]
      rfl
    have hin : 2048 * fn + vec ∈ openPending d1 ↔
        2048 * fn + vec ∈ s.dev.pci.pba ∧ (msixLive s.dev fn && !s.dev.pci.msixFm.contains fn) = true := by
      rw [openPending, List.mem_filter, hdiv, hmod, hopen]
    refine gives_of_guard (d' := (openPending d1).foldl sendPending d1) rfl (by rw [hb, decide_eq_true hv]; rfl) ⟨?_, fun hp hl hf => ?_, fun hp hc => ?_, fun hp => ?_⟩
    · have hkeep : ((openPending d1).foldl sendPending d1).pci.vecOn = d1.pci.vecOn := foldl_keeps (fun d : Dev => d.pci.vecOn) _ _ fun _ _ => rfl
      rw [hkeep]
      exact contains_nins ..
    · have hmem : 2048 * fn + vec ∈ openPending d1 := hin.2 ⟨by simpa using hp, by rw [hl, hf]; rfl⟩
      obtain ⟨hsent, hgone⟩ := sendPending_sent hmem d1
      rw [hdiv, hmod] at hsent
      exact ⟨hsent, hgone⟩
    · rw [sendPending_other fun h => ?_]
      · exact hp
      · obtain ⟨-, hgo⟩ := hin.1 h
        rw [Bool.and_eq_true] at hgo
        rcases hc with hc | hc
        · exact absurd (hc.symm.trans hgo.1) (by decide)
        · rw [hc] at hgo
          exact absurd hgo.2 (by decide)
    · have hnone : openPending d1 = [] := by
        show (s.dev.pci.pba.filter _) = []
        rw [hp]
        rfl
      rw [hnone]
      rfl

end Sys2Proof.Machine
end

section
/-!
PROOFS. Seats and their rings (R115, R125 to R135, R140, R144).
-/
namespace Sys2Proof.Machine

/-! ### Seats and function controls -/

theorem seatOf?_congr {d d' : Dev} (h : d'.seats = d.seats) (n : Nat) : seatOf? d' n = seatOf? d n := by rw [seatOf?, h]; rfl

theorem ctlOf_congr {d d' : Dev} (h : d'.pci = d.pci) (fn : Nat) : ctlOf d' fn = ctlOf d fn := by rw [ctlOf, h]; rfl

@[simp] theorem wake_seats (d : Dev) (c : Nat) : (wake d c).seats = d.seats := (wake_words d c).keeps Dev.seats fun _ _ _ => rfl

@[simp] theorem wake_pci (d : Dev) (c : Nat) : (wake d c).pci = d.pci := (wake_words d c).keeps Dev.pci fun _ _ _ => rfl

theorem actW_wake (d : Dev) (c : Nat) {o : Nat} (h : o ≠ 0x2078) : actW (wake d c) o = actW d o := (wake_words d c).words o (by simpa using h)

theorem evtSet_wake (d : Dev) (c p b : Nat) : evtSet (wake d c) p b = evtSet d p b := evtSet_congr b ((wake_words d c).heads p (by simp))

theorem modSeat_of {d : Dev} {n : Nat} {v : Seat} (h : seatOf? d n = some v) (f : Seat → Seat) : modSeat d n f = setSeat d n (f v) := by
  rw [modSeat, h]

/-! ### Seat requests -/

/-- What a grant leaves: the new seat, its number in the response, and the event. -/
theorem seatGrant_shows (d : Dev) (fn v : Nat) : let d' := seatGrant d fn v; let c := ctlOf d' fn
    c.rspDone = true ∧ c.rspStatus = 0 ∧ evtSet d' 0x12 8 = true ∧ c.rspWin = lowest 0 32 (fun k => (seatAt? d fn k).isNone) ∧
    c.rspSeat = (if bitOf v 18 then (if fnPort fn = 0 then 0 else 1) else lowest 2 512 (fun n => (seatOf? d n).isNone)) ∧
    seatOf? d' c.rspSeat = some { fn := fn, win := c.rspWin, classD := bitOf v 17, idle := bitOf v 16, vec := bitsOf v 0 11,
                                  sqb := (ctlOf d fn).sqb, cqb := (ctlOf d fn).cqb } ∧
    ∀ n, n ≠ c.rspSeat → seatOf? d' n = seatOf? d n := by
  have hport : (if fnPort fn == 0 then 0 else 1 : Nat) = if fnPort fn = 0 then 0 else 1 := by simp
  unfold seatGrant
  dsimp only
  rw [ctlOf_congr (raise_pci ..), ctlOf_setCtl_same, hport]
  refine ⟨rfl, rfl, evtSet_raise_same _ _ (by decide), rfl, rfl, ?_, fun n hn => ?_⟩
  · exact (seatOf?_congr (raise_seats ..) _).trans (seatOf?_setSeat_same ..)
  · exact (seatOf?_congr (raise_seats ..) _).trans (seatOf?_setSeat_ne _ _ hn)

/-- Settles O39. -/
theorem seatAttaches : Obligations.SeatAttaches := by
  intro s fn v hbar hserv hmask hgo
  have hexec : exec (.seatReq fn v) s = finish s (guardDev (barOk s.dev fn && serving s.dev) s.dev (wake (seatReqWrite s.dev fn v.toNat) 1)) :=
    if_neg (by rw [hmask]; simp)
  have hguard : (barOk s.dev fn && serving s.dev) = true := by rw [hbar, hserv]; rfl
  constructor
  · intro h0
    have hwrite : seatReqWrite s.dev fn v.toNat = seatGrant s.dev fn v.toNat := by
      rw [seatReqWrite, if_pos hgo, h0]; rfl
    obtain ⟨hdone, hstat, hevt, hwin, hseat, hnew, hold⟩ := seatGrant_shows s.dev fn v.toNat
    refine gives_of_guard_eq hexec hguard (congrArg (wake · 1) hwrite) ?_
    rw [ctlOf_congr (wake_pci ..), evtSet_wake]
    refine ⟨hdone, hstat, hevt, hwin, hseat, (seatOf?_congr (wake_seats ..) _).trans hnew, fun n hn => (seatOf?_congr (wake_seats ..) _).trans (hold n hn)⟩
  · intro h0
    have hwrite : seatReqWrite s.dev fn v.toNat = setCtl s.dev fn { ctlOf s.dev fn with
        req := v.toNat % 2 ^ 31, rspDone := true, rspStatus := seatReqStatus s.dev fn v.toNat, rspWin := 0, rspSeat := 0 } := by
      rw [seatReqWrite, if_pos hgo]
      exact if_neg (by simpa using h0)
    refine gives_of_guard_eq hexec hguard (congrArg (wake · 1) hwrite) ?_
    rw [ctlOf_congr (wake_pci ..), ctlOf_setCtl_same]
    exact ⟨rfl, rfl, wake_seats .., fun o ho => actW_wake _ _ ho⟩

/-! ### Release, reap and reset of seats -/

theorem seatOf?_freeSeat (d : Dev) (sn cause : Nat) : seatOf? (freeSeat d sn cause) sn = none := SMap.get?_erase_same ..

theorem dropPull_seats (d : Dev) (seq : Nat) : (dropPull d seq).seats = d.seats := rfl

theorem seatOf?_reapSeat {d : Dev} {sn : Nat} {v : Seat} (kicked : Bool) (h : seatOf? d sn = some v) (hr : v.reapAt = none) :
    seatOf? (reapSeat d sn kicked) sn =
      some { v with reapAt := some d.sys.time, kicked := kicked, resetting := false, resetTail := none, resetLater := false } := by
  unfold reapSeat
  simp only [h]
  rw [if_neg (by simp [hr])]
  exact (seatOf?_congr (foldl_keeps Dev.seats _ _ fun d (c : Cmd) => dropPull_seats d c.seq) sn).trans (seatOf?_setSeat_same ..)

theorem kickSeat_refused {d : Dev} {n : Nat} (h : ∀ x, seatOf? d n = some x → n ≤ 1 ∨ x.reapAt.isSome = true) : kickSeat d n = raise d 0x12 12 := by
  unfold kickSeat
  cases hx : seatOf? d n with
  | none => rfl
  | some x => exact if_pos (by simpa using h x hx)

theorem kickSeat_reaps {d : Dev} {n : Nat} {x : Seat} (h2 : 2 ≤ n) (hx : seatOf? d n = some x) (hr : x.reapAt = none) : kickSeat d n = reapSeat d n true := by
  unfold kickSeat
  simp only [hx]
  exact if_neg (by simp [hr]; omega)

/-- A reset of a seat with no command marks the seat and nothing else. -/
theorem seatCtlWrite_reset {d : Dev} {sn v : Nat} {x : Seat} (hx : seatOf? d sn = some x) (hr : x.resetting = false) (hv : bitOf v 0 = true)
    (hq : d.cmds.list.filter (fun c => c.seat == sn && !c.orphan) = []) :
    seatOf? (seatCtlWrite d sn v) sn = some { x with
      resetting := true, resetTail := some x.sqt, sqerr := false, badPhase := 0, resetLater := d.cmds.activating,
      ien := bitOf v 8, unsig := if bitOf v 8 == x.ien then x.unsig else 0 } ∧
    ∀ n, n ≠ sn → seatOf? (seatCtlWrite d sn v) n = seatOf? d n := by
  have hends (y z : Seat) : seatResetEnds (setSeat (setSeat d sn y) sn z) sn = setSeat (setSeat d sn y) sn z := by
    rw [seatResetEnds, setSeat_cmds, setSeat_cmds, hq]; rfl
  unfold seatCtlWrite
  rw [if_pos hv, modSeat_of hx]
  unfold seatResetStart
  simp only [seatOf?_setSeat_same, hends, ite_self]
  rw [if_neg (by simp [hr])]
  exact ⟨seatOf?_setSeat_same .., fun n hn => (seatOf?_setSeat_ne _ _ hn).trans (seatOf?_setSeat_ne _ _ hn)⟩

def kickRow : RegRow := ⟨0x90, 0x1FF, 0, 0, 0, 0, 0x80000000, 0, 0, 0⟩

theorem regRow_kick : regRow? 0x12090 = some kickRow := by decide +kernel

theorem gives_kick {s : State} {port : Nat} {v : Word} {P : Dev → Prop} (hw : Writes s port 0x12090 v) (hv : bitOf v.toNat 31 = true)
    (hp : P (kickSeat (storeWord s.dev 0x12090 kickRow v) (v.toNat % 512))) : Gives (.seatKick port v) s P := by
  have hrow : writeWord s.dev port 0x12090 v = kickSeat (storeWord s.dev 0x12090 kickRow v) (v.toNat % 512) := by
    have hact : actHigh s.dev (storeWord s.dev 0x12090 kickRow v) 0x12090 v = some (kickSeat (storeWord s.dev 0x12090 kickRow v) (v.toNat % 512)) :=
      congrArg some (if_pos hv)
    rw [writeWord_row _ regRow_kick, if_neg (by decide), oneWrite, if_neg (by decide), hact]
    rfl
  rw [← hrow] at hp
  exact gives_of_row (c := .seatKick port v) rfl hv hw hp

theorem gives_kick_refused {s : State} {port : Nat} {v : Word} {r : RegRow} (hw : Writes s port 0x12090 v) (hv : bitOf v.toNat 31 = true)
    (hr : regRow? 0x12090 = some r) (h : ∀ x, seatOf? s.dev (v.toNat % 512) = some x → v.toNat % 512 ≤ 1 ∨ x.reapAt.isSome = true) :
    Gives (.seatKick port v) s (fun d => d = raise (storeWord s.dev 0x12090 r v) 0x12 12 ∧ evtSet d 0x12 12 = true ∧ d.seats = s.dev.seats) := by
  obtain rfl : kickRow = r := Option.some.inj (regRow_kick.symm.trans hr)
  have hstore : (storeWord s.dev 0x12090 kickRow v).seats = s.dev.seats :=
    (storeWord_plain v rfl rfl rfl).1.keeps Dev.seats fun _ _ _ => rfl
  refine gives_kick hw hv ?_
  rw [kickSeat_refused fun x hx => h x ((seatOf?_congr hstore _).symm.trans hx)]
  exact ⟨rfl, evtSet_raise_same _ _ (by decide), (raise_seats ..).trans hstore⟩

theorem gives_kick_reaps {s : State} {port : Nat} {v : Word} {r : RegRow} {x : Seat} (hw : Writes s port 0x12090 v) (hv : bitOf v.toNat 31 = true)
    (hr : regRow? 0x12090 = some r) (h2 : 2 ≤ v.toNat % 512) (hx : seatOf? s.dev (v.toNat % 512) = some x) (hn : x.reapAt = none) :
    Gives (.seatKick port v) s (fun d => d = reapSeat (storeWord s.dev 0x12090 r v) (v.toNat % 512) true ∧
      ∃ y, seatOf? d (v.toNat % 512) = some y ∧ y.reapAt = some s.dev.sys.time ∧ y.kicked = true) := by
  obtain rfl : kickRow = r := Option.some.inj (regRow_kick.symm.trans hr)
  have hframe : ChangesOnly [0x12090] [] s.dev (storeWord s.dev 0x12090 kickRow v) := (storeWord_plain v rfl rfl rfl).1
  have hseat : seatOf? (storeWord s.dev 0x12090 kickRow v) (v.toNat % 512) = some x :=
    (seatOf?_congr (hframe.keeps Dev.seats fun _ _ _ => rfl) _).trans hx
  have htime : (storeWord s.dev 0x12090 kickRow v).sys = s.dev.sys := hframe.keeps Dev.sys fun _ _ _ => rfl
  refine gives_kick hw hv ?_
  rw [kickSeat_reaps h2 hseat hn]
  exact ⟨rfl, _, seatOf?_reapSeat true hseat hn, congrArg (some ·.time) htime, rfl⟩

theorem gives_seatRel {s : State} {fn : Nat} {v : Word} (hbar : barOk s.dev fn = true) (hserv : serving s.dev = true) (hmask : v &&& ~~~ seatRelMask = 0) :
    Gives (.seatRel fn v) s (fun d => d = wake (seatRelWrite s.dev fn v.toNat) 1 ∧
      (bitOf v.toNat 31 = true → (ctlOf s.dev fn).relDone = true → seatAt? s.dev fn (bitsOf v.toNat 0 5) = none →
        (ctlOf d fn).relDone = true ∧ (ctlOf d fn).relStatus = 1 ∧ d.seats = s.dev.seats)) := by
  refine gives_of_guard (d' := wake (seatRelWrite s.dev fn v.toNat) 1) (b := barOk s.dev fn && serving s.dev) (if_neg (by rw [hmask]; simp))
    (by rw [hbar, hserv]; rfl) ⟨rfl, fun hgo hdone hnone => ?_⟩
  have hwrite : seatRelWrite s.dev fn v.toNat =
      setCtl s.dev fn { ctlOf s.dev fn with relWin := bitsOf v.toNat 0 5, relDone := true, relStatus := 1 } := by
    simp [seatRelWrite, hgo, hdone, hnone]
  rw [hwrite, ctlOf_congr (wake_pci ..), ctlOf_setCtl_same]
  exact ⟨rfl, rfl, wake_seats ..⟩

theorem gives_seatReleaseComplete {s : State} {seat : Nat} {v : Seat} (hv : seatOf? s.dev seat = some v) (hserv : serving s.dev = true)
    (hrel : v.releasing = true) (hres : v.resetting = false) (hreap : v.reapAt = none) (hq : seatQuiet s.dev seat = true) :
    Gives (.seatReleaseComplete seat) s (fun d => evtSet d 0x12 9 = true ∧
      (ctlOf d v.fn).relDone = true ∧ (ctlOf d v.fn).relStatus = 0 ∧ seatOf? d seat = none) := by
  have hrow : exec (.seatReleaseComplete seat) s = finish s (guardDev (serving s.dev && v.releasing && !v.resetting && v.reapAt.isNone && seatQuiet s.dev seat)
      s.dev (raise (setCtl (freeSeat s.dev seat 2) v.fn { ctlOf (freeSeat s.dev seat 2) v.fn with relDone := true, relStatus := 0 }) 0x12 9)) := by
    show execSeatReleaseComplete seat s = _
    unfold execSeatReleaseComplete
    dsimp only
    rw [hv]
  refine gives_of_guard hrow (by rw [hserv, hrel, hres, hreap, hq]; rfl) ?_
  rw [ctlOf_congr (raise_pci ..), ctlOf_setCtl_same]
  exact ⟨evtSet_raise_same _ _ (by decide), rfl, rfl, (seatOf?_congr (raise_seats ..) _).trans (seatOf?_freeSeat ..)⟩

theorem evtSet_raiseArgs_same (d : Dev) (p : Nat) {b : Nat} (args : List Word) (hb : b < 32) : evtSet (raiseArgs d p b args) p b = true :=
  evtSet_logPut_of_set _ _ (evtSet_setRaw d p b hb)

theorem gives_reapComplete {s : State} {seat : Nat} {v : Seat} (hv : seatOf? s.dev seat = some v) (hserv : serving s.dev = true)
    (hreap : v.reapAt.isSome = true) : Gives (.reapComplete seat) s (fun d =>
    (reapHolds s.dev seat v = false → d = reapDone s.dev seat v ∧ evtSet d 0x12 10 = true) ∧ (reapHolds s.dev seat v = true → d = s.dev)) := by
  have hrow : exec (.reapComplete seat) s = finish s (guardDev (serving s.dev && v.reapAt.isSome && !reapHolds s.dev seat v) s.dev (reapDone s.dev seat v)) := by
    show execReapComplete seat s = _
    unfold execReapComplete
    dsimp only
    rw [hv]
  rw [hserv, hreap] at hrow
  cases hh : reapHolds s.dev seat v with
  | false =>
    rw [hh] at hrow
    exact ⟨_, hrow, fun _ => ⟨rfl, evtSet_raiseArgs_same _ _ _ (by decide)⟩, nofun⟩
  | true =>
    rw [hh] at hrow
    exact ⟨_, hrow, nofun, fun _ => rfl⟩

theorem gives_seatReset {s : State} {fn win sn : Nat} {v : Word} {x : Seat} (hbar : barOk s.dev fn = true) (hserv : serving s.dev = true)
    (hat : seatAt? s.dev fn win = some sn) (hx : seatOf? s.dev sn = some x) (hmask : v &&& ~~~ seatCtlMask = 0) (hv : bitOf v.toNat 0 = true) :
    Gives (.seatReset fn win v) s (fun d => d = wake (seatCtlWrite s.dev sn v.toNat) 1 ∧
      (x.resetting = false → s.dev.cmds.list.filter (fun c => c.seat == sn && !c.orphan) = [] →
        seatOf? d sn = some { x with
          resetting := true, resetTail := some x.sqt, sqerr := false, badPhase := 0, resetLater := s.dev.cmds.activating,
          ien := bitOf v.toNat 8, unsig := if bitOf v.toNat 8 == x.ien then x.unsig else 0 } ∧
        ∀ n, n ≠ sn → seatOf? d n = seatOf? s.dev n)) := by
  have hrow : exec (.seatReset fn win v) s = finish s (guardDev (barOk s.dev fn && serving s.dev && bitOf v.toNat 0) s.dev
      (wake (seatCtlWrite s.dev sn v.toNat) 1)) := by
    show execSeatReset fn win v s = _
    unfold execSeatReset
    dsimp only
    rw [hat, hmask, if_neg (by simp)]
  refine gives_of_guard hrow (by rw [hbar, hserv, hv]; rfl) ⟨rfl, fun hr hq => ?_⟩
  obtain ⟨hnew, hold⟩ := seatCtlWrite_reset hx hr hv hq
  exact ⟨(seatOf?_congr (wake_seats ..) _).trans hnew, fun n hn => (seatOf?_congr (wake_seats ..) _).trans (hold n hn)⟩

theorem gives_seatResetComplete {s : State} {seat : Nat} {v : Seat} (hv : seatOf? s.dev seat = some v) (hserv : serving s.dev = true)
    (hres : v.resetting = true) (hlater : v.resetLater = false) (htail : v.resetTail = some v.sqh) (hq : seatQuiet s.dev seat = true) :
    Gives (.seatResetComplete seat) s (fun d => d = setSeat s.dev seat { v with resetting := false, resetTail := none }) := by
  have hrow : exec (.seatResetComplete seat) s = finish s (guardDev
      (serving s.dev && v.resetting && !v.resetLater && v.resetTail == some v.sqh && seatQuiet s.dev seat) s.dev
      (setSeat s.dev seat { v with resetting := false, resetTail := none })) := by
    show execSeatResetComplete seat s = _
    unfold execSeatResetComplete
    dsimp only
    rw [hv]
  exact gives_of_guard hrow (by rw [hserv, hres, hlater, htail, hq]; simp) rfl

/-- Settles O40. -/
theorem seatDetachesAndResets : Obligations.SeatDetachesAndResets := by
  refine ⟨⟨?release, ?released, ?kick, ?reap⟩, ?reset, ?resetEnd⟩
  case release =>
    intro s fn v hbar hserv hmask
    exact gives_seatRel hbar hserv hmask
  case released =>
    intro s seat v hv hserv hrel hres hreap hq
    exact gives_seatReleaseComplete hv hserv hrel hres hreap hq
  case kick =>
    intro s port v r hw hgo hr
    exact ⟨fun h => gives_kick_refused hw hgo hr h, fun x h2 hx hn => gives_kick_reaps hw hgo hr h2 hx hn⟩
  case reap =>
    intro s seat v hv hserv hreap
    exact gives_reapComplete hv hserv hreap
  case reset =>
    intro s fn win v sn x hbar hserv hat hx hmask hv
    exact gives_seatReset hbar hserv hat hx hmask hv
  case resetEnd =>
    intro s seat v hv hserv hres hlater htail hq
    exact gives_seatResetComplete hv hserv hres hlater htail hq

end Sys2Proof.Machine
end

section
/-!
PROOFS. The rings of a seat: doorbells, fetches, checks and completions (R115, R125 to R128, R138 to R144).
-/
namespace Sys2Proof.Machine

/-! ### Completions -/

/-- What holds of the device and survives each entry written holds after a ring is drained. -/
theorem drainCq_induct {P : Dev → Prop} {sn : Nat} (h : ∀ d s c, P d → P (writeCqe d sn s c)) (n : Nat) {d : Dev} (h0 : P d) : P (drainCq n d sn) := by
  induction n generalizing d with
  | zero => exact h0
  | succ n ih =>
    unfold drainCq
    split
    · exact h0
    · split
      · exact h0
      · split
        · exact h0
        · exact ih (h _ _ _ h0)

theorem sendMsix_eq (d : Dev) (fn vec : Nat) : sendMsix d fn vec = { d with pci := (sendMsix d fn vec).pci, out := (sendMsix d fn vec).out } := by
  unfold sendMsix
  dsimp only
  split
  · rfl
  · split <;> rfl

/-- A seat with the tail of its completion ring advanced. -/
def ringTailed (s : Seat) : Seat := { s with cqt := (s.cqt + 1) % 32, cqPhase := (if s.cqt == 31 then !s.cqPhase else s.cqPhase) }

/-- An entry written to a ring signals at once, or waits to be signalled. -/
theorem writeCqe_cases {P : Dev → Prop} (d : Dev) (sn : Nat) (s : Seat) (c : Cqe)
    (hsend : ∀ t, P (setSeat (sendMsix (emit d (.cqe sn s.cqt (cqAddr s) (cqeWords s c).1 (cqeWords s c).2.1 (cqeWords s c).2.2.1 (cqeWords s c).2.2.2))
      s.fn s.vec) sn { ringTailed s with unsig := 0, unsigT := t }))
    (hwait : ∀ u t, P (setSeat (emit d (.cqe sn s.cqt (cqAddr s) (cqeWords s c).1 (cqeWords s c).2.1 (cqeWords s c).2.2.1 (cqeWords s c).2.2.2))
      sn { ringTailed s with unsig := u, unsigT := t })) : P (writeCqe d sn s c) := by
  have hite (b : Bool) (x y : Dev) (hx : P x) (hy : P y) : P (if b then x else y) := by
    cases b
    · exact hy
    · exact hx
  exact hite _ _ _ (hite _ _ _ (hsend _) (hwait _ _)) (hwait _ _)

/-- An entry written to a ring: the seat with its tail advanced, the entry among the outputs, and nothing else but messages. -/
theorem writeCqe_shape (d : Dev) (sn : Nat) (s : Seat) (c : Cqe) : ∃ s' p l, writeCqe d sn s c = setSeat { d with pci := p, out := l } sn s' ∧
    s'.cqt = (s.cqt + 1) % 32 ∧ s'.waiting = s.waiting ∧ s'.sqh = s.sqh ∧ s'.cqh = s.cqh ∧ (∀ o ∈ d.out, o ∈ l) ∧
    Output.cqe sn s.cqt (cqAddr s) (cqeWords s c).1 (cqeWords s c).2.1 (cqeWords s c).2.2.1 (cqeWords s c).2.2.2 ∈ l := by
  generalize he : Output.cqe sn s.cqt (cqAddr s) (cqeWords s c).1 (cqeWords s c).2.1 (cqeWords s c).2.2.1 (cqeWords s c).2.2.2 = e
  have hkeeps : (∀ o ∈ d.out, o ∈ e :: d.out) ∧ e ∈ e :: d.out := ⟨fun o ho => .tail _ ho, .head _⟩
  refine writeCqe_cases (P := fun w => ∃ s' p l, w = setSeat { d with pci := p, out := l } sn s' ∧
    s'.cqt = (s.cqt + 1) % 32 ∧ s'.waiting = s.waiting ∧ s'.sqh = s.sqh ∧ s'.cqh = s.cqh ∧ (∀ o ∈ d.out, o ∈ l) ∧ e ∈ l) d sn s c (fun t => ?_) (fun u t => ?_) <;> rw [he]
  · have hmsg := (sendMsix_keeps (emit d e) s.fn s.vec).1
    rw [sendMsix_eq (emit d e)]
    exact ⟨{ ringTailed s with unsig := 0, unsigT := t }, _, _, rfl, rfl, rfl, rfl, rfl, fun o ho => hmsg o (hkeeps.1 o ho), hmsg e hkeeps.2⟩
  · exact ⟨{ ringTailed s with unsig := u, unsigT := t }, d.pci, _, rfl, rfl, rfl, rfl, rfl, hkeeps⟩

theorem drainCq_keeps {α : Type} (g : Dev → α) (hg : ∀ (d : Dev) t p l, g { d with seats := t, pci := p, out := l } = g d) (n : Nat) (d : Dev) (sn : Nat) :
    g (drainCq n d sn) = g d := by
  refine drainCq_induct (P := fun d' => g d' = g d) (fun d' s c h => ?_) n rfl
  obtain ⟨s', p, l, he, -⟩ := writeCqe_shape d' sn s c
  rw [he]
  exact (hg d' _ p l).trans h

theorem drainCq_out (n : Nat) {d : Dev} {o : Output} (sn : Nat) (h : o ∈ d.out) : o ∈ (drainCq n d sn).out := by
  refine drainCq_induct (P := fun d' => o ∈ d'.out) (fun d' s c h => ?_) n h
  obtain ⟨s', p, l, he, -, -, -, -, hl, -⟩ := writeCqe_shape d' sn s c
  rw [he]
  exact hl o h

theorem drainCq_idle {n : Nat} {d : Dev} {sn : Nat} {v : Seat} (hv : seatOf? d sn = some v) (hw : v.waiting = []) : drainCq n d sn = d := by
  cases n with
  | zero => rfl
  | succ n => simp [drainCq, hv, hw]

theorem drainCq_stuck {n : Nat} {d : Dev} {sn : Nat} {v : Seat} (hv : seatOf? d sn = some v) (h : cqFull v = true ∨ ringReachable d v = false) :
    drainCq n d sn = d := by
  have hstop : (cqFull v || !ringReachable d v) = true := by
    rcases h with h | h <;> simp [h]
  cases n with
  | zero => rfl
  | succ n =>
    unfold drainCq
    simp only [hv, hstop, if_true]
    split <;> rfl

theorem drainCq_writes {n : Nat} {d : Dev} {sn : Nat} {v : Seat} {q : Cqe} {rest : List Cqe} (hv : seatOf? d sn = some v) (hw : v.waiting = q :: rest)
    (hf : cqFull v = false) (hr : ringReachable d v = true) :
    drainCq (n + 1) d sn = drainCq n (writeCqe d sn { v with waiting := rest } q) sn := by
  rw [drainCq]
  simp [hv, hw, hf, hr]

/-! ### Doorbells -/

theorem gives_sqtDoorbell {s : State} {fn win sn : Nat} {v : Seat} (tail : Nat) (hbar : barOk s.dev fn = true) (hat : seatAt? s.dev fn win = some sn)
    (hv : seatOf? s.dev sn = some v) : Gives (.seatSqtDoorbell fn win tail) s (fun d => seatOf? d sn = some { v with sqt := tail % 32 } ∧
      (∀ n, n ≠ sn → seatOf? d n = seatOf? s.dev n) ∧ ∀ o, o ≠ 0x2078 → actW d o = actW s.dev o) := by
  have hrow : exec (.seatSqtDoorbell fn win tail) s = finish s (guardDev (barOk s.dev fn) s.dev (wake (setSeat s.dev sn { v with sqt := tail % 32 }) 1)) := by
    show execSeatSqtDoorbell fn win tail s = _
    unfold execSeatSqtDoorbell
    dsimp only
    rw [hat]
    dsimp only
    rw [modSeat_of hv]
  refine gives_of_guard hrow hbar ⟨?_, fun n hn => ?_, fun o ho => actW_wake _ _ ho⟩
  · exact (seatOf?_congr (wake_seats ..) _).trans (seatOf?_setSeat_same ..)
  · exact (seatOf?_congr (wake_seats ..) _).trans (seatOf?_setSeat_ne _ _ hn)

theorem exec_cqhDoorbell {s : State} {fn win sn : Nat} {v : Seat} (head : Nat) (hat : seatAt? s.dev fn win = some sn) (hv : seatOf? s.dev sn = some v) :
    exec (.seatCqhDoorbell fn win head) s = finish s (guardDev (barOk s.dev fn) s.dev
      (wake (pbaSettle (if flushing s.dev then setSeat s.dev sn { v with cqh := head % 32 }
        else drainCq 32 (setSeat s.dev sn { v with cqh := head % 32 }) sn)) 1)) := by
  show execSeatCqhDoorbell fn win head s = _
  unfold execSeatCqhDoorbell
  dsimp only
  rw [hat]
  dsimp only
  rw [modSeat_of hv]

/-- Settles O41. -/
theorem doorbellsStored : Obligations.DoorbellsStored := by
  refine ⟨fun s fn win tail sn v hbar hat hv => gives_sqtDoorbell tail hbar hat hv, ?head, ?held, ?timer⟩
  case head =>
    intro s fn win head sn v hbar hat hv hw
    have hidle : (if flushing s.dev then setSeat s.dev sn { v with cqh := head % 32 }
        else drainCq 32 (setSeat s.dev sn { v with cqh := head % 32 }) sn) = setSeat s.dev sn { v with cqh := head % 32 } := by
      rw [drainCq_idle (v := { v with cqh := head % 32 }) (seatOf?_setSeat_same ..) hw, ite_self]
    refine gives_of_guard_eq (exec_cqhDoorbell head hat hv) hbar (e := wake (pbaSettle (setSeat s.dev sn { v with cqh := head % 32 })) 1) (by rw [hidle]) ⟨?_, fun n hn => ?_, fun o ho => actW_wake _ _ ho⟩
    · exact (seatOf?_congr (wake_seats ..) _).trans (seatOf?_setSeat_same ..)
    · exact (seatOf?_congr (wake_seats ..) _).trans (seatOf?_setSeat_ne _ _ hn)
  case held =>
    intro s fn win head sn v q rest hbar hserv hat hv hw hfull hreach
    obtain ⟨-, hflush⟩ := Bool.and_eq_true_iff.1 hserv
    refine gives_of_guard (exec_cqhDoorbell head hat hv) hbar ?_
    rw [(wake_out ..).1, if_neg (by simpa using hflush)]
    show _ ∈ (drainCq 32 _ sn).out
    rw [drainCq_writes (v := { v with cqh := head % 32 }) (seatOf?_setSeat_same ..) hw (by simpa [cqFull] using hfull) hreach]
    obtain ⟨s', p, l, he, -, -, -, -, -, hm⟩ := writeCqe_shape (setSeat s.dev sn { v with cqh := head % 32 }) sn { v with cqh := head % 32, waiting := rest } q
    refine drainCq_out _ _ ?_
    rw [he]
    exact hm
  case timer =>
    intro s seat v hv hserv hien hunsig hint
    have hrow : exec (.seatCqintTimer seat) s = finish s (guardDev (serving s.dev && v.ien && !(v.unsig == 0) && !(bitsOf v.cqint 0 8 == 0)) s.dev
        (setSeat (sendMsix s.dev v.fn v.vec) seat { v with unsig := 0 })) := by
      show execSeatCqintTimer seat s = _
      unfold execSeatCqintTimer
      dsimp only
      rw [hv]
    exact gives_of_guard hrow (by simp [hserv, hien, hunsig, hint]) rfl

/-! ### Fetches -/

theorem raiseArgs_cmds (d : Dev) (p b : Nat) (args : List Word) : (raiseArgs d p b args).cmds = d.cmds :=
  (ChangesOnly.raiseArgs d p b args).keeps Dev.cmds fun _ _ _ => rfl

theorem raiseArgs_seats (d : Dev) (p b : Nat) (args : List Word) : (raiseArgs d p b args).seats = d.seats :=
  (ChangesOnly.raiseArgs d p b args).keeps Dev.seats fun _ _ _ => rfl

theorem exec_entryFetched {s : State} {seat : Nat} {v : Seat} (entry : List Word) (segs : SegList) (hv : seatOf? s.dev seat = some v)
    (hf : mayFetch s.dev v = true) {c : Instr} (hc : c = if v.badPhase = 0 then .entryFetched seat entry segs else .entryRefetch seat entry segs) :
    exec c s = finish s (fetchEntry s.dev seat v entry segs) := by
  subst hc
  by_cases hb : v.badPhase = 0
  · rw [if_pos hb]
    show execEntryFetched seat entry segs s = _
    unfold execEntryFetched
    dsimp only
    rw [hv]
    dsimp only
    rw [hf, hb]
    rfl
  · rw [if_neg hb]
    show execEntryRefetch seat entry segs s = _
    unfold execEntryRefetch
    dsimp only
    rw [hv]
    dsimp only
    rw [hf, beq_false_of_ne hb]
    rfl

/-- Settles O42. -/
theorem entryFetch : Obligations.EntryFetch := by
  refine ⟨fun s seat v entry segs hv hf => ?_, fun s seat v hv hf => ?failed⟩
  · have hexec := exec_entryFetched entry segs hv hf rfl
    refine ⟨fun hp => ⟨_, hexec, ?_⟩, fun hp hb => ⟨_, hexec, ?_⟩, fun hp hb => ⟨_, hexec, ?_⟩⟩ <;> unfold fetchEntry <;> dsimp only
    · rw [hp, if_pos (beq_self_eq_true _)]
    · rw [if_neg (by simpa using hp), if_neg (by omega)]
    · rw [if_neg (by simpa using hp), if_pos hb]
      exact ⟨evtSet_raise_same _ _ (by decide), (seatOf?_congr (raise_seats ..) _).trans (seatOf?_setSeat_same ..), raise_cmds ..⟩
  case failed =>
    have hrow : exec (.entryFetchFailed seat) s = finish s (guardDev (mayFetch s.dev v) s.dev
        (raiseArgs (setSeat (emit s.dev (.fetch v.fn (sqAddr v))) seat { v with sqerr := true, badPhase := 0 }) 0x12 11
          [BitVec.ofNat 32 seat, BitVec.ofNat 32 v.sqh])) := by
      show execEntryFetchFailed seat s = _
      unfold execEntryFetchFailed
      dsimp only
      rw [hv]
    refine gives_of_guard hrow hf ⟨evtSet_raiseArgs_same _ _ _ (by decide), ?_, raiseArgs_cmds ..⟩
    exact (seatOf?_congr (raiseArgs_seats ..) _).trans (seatOf?_setSeat_same ..)

/-! ### The checks of a command -/

/-- A command that fails one of the checks 1 to 6 completes with its status. -/
theorem judge_refused {d : Dev} {seq : Nat} {c : Cmd} {st r : Nat} (hc : cmdOf? d seq = some c)
    (h : checks1to6 d (((seatOf? d c.seat).map Seat.classD).getD false) (d.cmds.list.filter (fun x => x.seq < seq)) c = some (st, r)) :
    judge d seq = complete d c st r := by
  unfold judge
  simp only [hc, h]

theorem judge_empty {d : Dev} {seq : Nat} {c : Cmd} (hc : cmdOf? d seq = some c)
    (h : checks1to6 d (((seatOf? d c.seat).map Seat.classD).getD false) (d.cmds.list.filter (fun x => x.seq < seq)) c = none)
    (hu : usesLen (cOpc c) = true) (hl : cLen c = 0) : judge d seq = succeed d c := by
  unfold judge
  simp only [hc, h]
  rw [if_pos (by simp [hu, hl])]

/-- Settles O43. -/
theorem checksInOrder : Obligations.ChecksInOrder := by
  intro d seq c hc cls used
  refine ⟨fun hu => judge_refused hc ?_, fun hu ha hfw hlog => judge_refused hc ?_, fun hu ha ho => judge_refused hc ?_, fun hu ha ho => ⟨fun r h4 => judge_refused hc ?_,
    fun h4 hvol hnone => judge_refused hc ?_, fun h4 hvol hrange hlba => judge_refused hc ?_, fun h4 hvol hrange hlen h0 => judge_empty hc ?_ hlen h0⟩⟩ <;>
    unfold checks1to6 <;> dsimp only
  · exact if_pos hu
  all_goals rw [if_neg (show ¬ used = true by simp [hu])]
  · exact if_pos (by simp [ha, hfw, hlog])
  all_goals rw [ha, if_neg (by simp)]
  · exact if_pos (by simpa using ho)
  all_goals rw [if_neg (by simpa using ho), h4]
  · dsimp only
    exact if_pos (by simp [hvol, hnone])
  all_goals
    have hno : ¬ (usesVol (cOpc c) && (volEntry? d (cVol c)).isNone) = true := by
      rcases hvol with h | h <;> simp [h, ← Option.not_isSome]
    dsimp only
    rw [if_neg hno]
  · exact if_pos (by simp [hrange, hlba])
  · refine if_neg ?_
    cases hr : usesRange (cOpc c) with
    | false => simp
    | true => simpa using hrange hr

/-! ### The entry of a completion -/

/-- Settles O44. -/
theorem completionEntryWritten : Obligations.CompletionEntryWritten := by
  intro d c v status result courses pb horphan hv hw d' demoted q
  have hshape : d' = drainCq 32 (setSeat (modCmds d (fun l => l.filter (fun x => !(x.seq == c.seq)))) c.seat { v with waiting := [q] }) c.seat := by
    have hv' : seatOf? (modCmds d (fun l => l.filter (fun x => !(x.seq == c.seq)))) c.seat = some v := hv
    show completeOne d c status result courses pb = _
    unfold completeOne
    dsimp only
    rw [if_neg (by simp [horphan]), hv']
    dsimp only
    rw [hw]
    rfl
  have hcmds : d'.cmds.list = d.cmds.list.filter (fun x => !(x.seq == c.seq)) := by
    rw [hshape]
    exact drainCq_keeps (fun d => d.cmds.list) (fun _ _ _ _ => rfl) _ _ _
  have hseat : seatOf? (setSeat (modCmds d (fun l => l.filter (fun x => !(x.seq == c.seq)))) c.seat { v with waiting := [q] }) c.seat =
      some { v with waiting := [q] } := seatOf?_setSeat_same ..
  refine ⟨fun x hx => ?_, fun x hx hn => ?_, fun hf hr => ?_, fun h => ?_⟩
  · rw [hcmds] at hx
    simpa using (List.mem_filter.1 hx).2
  · rw [hcmds]
    exact List.mem_filter.2 ⟨hx, by simpa using hn⟩
  · rw [hshape, drainCq_writes hseat rfl hf hr]
    obtain ⟨s', p, l, he, hcqt, hwait, hsqh, hcqh, -, hm⟩ :=
      writeCqe_shape (setSeat (modCmds d (fun l => l.filter (fun x => !(x.seq == c.seq)))) c.seat { v with waiting := [q] }) c.seat { v with waiting := [] } q
    rw [he, drainCq_idle (seatOf?_setSeat_same ..) hwait]
    exact ⟨⟨s', seatOf?_setSeat_same .., hcqt, hwait, hsqh, hcqh⟩, hm⟩
  · rw [hshape, drainCq_stuck hseat h]
    exact ⟨hseat, rfl⟩

end Sys2Proof.Machine
end

section
/-!
PROOFS. The configuration gate (R95, R99 to R103, R107).
-/
namespace Sys2Proof.Machine

/-! ### COMMIT -/

def gateRow : RegRow := ⟨0x40, 0, 0xF70, 0, 0, 0, 3, 0, 0, 0⟩

theorem regRow_gate : regRow? 0x1040 = some gateRow := by decide +kernel

theorem storeWord_gate (d : Dev) (v : Word) : storeWord d 0x1040 gateRow v = d :=
  show touchConfig d 0x1040 gateRow = d from touchConfig_stays fun h => h.2.1 rfl

theorem writeWord_gate (d : Dev) (port : Nat) (v : Word) : writeWord d port 0x1040 v =
    (fun d1 => if bitOf v.toNat 1 then gateReopen d1 else d1) (if bitOf v.toNat 0 then gateCommit d else d) := by
  rw [writeWord_row _ regRow_gate, if_neg (by decide), oneWrite, if_pos (by decide), storeWord_gate]
  rfl

theorem gives_cfgCommit {s : State} {port : Nat} {P : Dev → Prop} (hw : Writes s port 0x1040 1) (hp : P (gateCommit s.dev)) :
    Gives (.cfgCommit port) s P :=
  gives_of_row (c := .cfgCommit port) rfl rfl hw (by rw [writeWord_gate]; exact hp)

theorem gives_cfgReopen {s : State} {port : Nat} {P : Dev → Prop} (hw : Writes s port 0x1040 2) (hp : P (gateReopen s.dev)) :
    Gives (.cfgReopen port) s P :=
  gives_of_row (c := .cfgReopen port) rfl rfl hw (by rw [writeWord_gate]; exact hp)

/-- A command of the gate that is ignored records why and raises CIGN. -/
theorem gateIgnore_shows (d : Dev) {k : Nat} (h : k < 8) : rd (gateIgnore d k) F.CFG_GATE_ICAUSE = k ∧ evtSet (gateIgnore d k) 1 10 = true ∧
    ChangesOnly (0x1040 :: logWords) [1, 0x7E] d (gateIgnore d k) ∧ rd (gateIgnore d k) F.CFG_GATE_STATE = rd d F.CFG_GATE_STATE := by
  unfold gateIgnore
  refine ⟨?_, evtSet_raise_same _ _ (by decide), ?_, ?_⟩
  · rw [rd_raise _ _ _ _ (by decide), rd_wr_same _ _ _ (by decide)]
    show k % 2 ^ 4 = k
    omega
  · exact ((ChangesOnly.wr d F.CFG_GATE_ICAUSE k).trans (ChangesOnly.raise _ 1 10)).mono (by simp [F.CFG_GATE_ICAUSE]) (by simp)
  · rw [rd_raise _ _ _ _ (by decide), rd_wr_apart _ _ (by decide) (by decide)]

/-- What a COMMIT fixes: the state of the gate and the snapshot. -/
def gateSnap (d : Dev) : Word × SMap Word × Word := (actW d 0x1040, d.hub.snapShd, d.hub.snapSum)

theorem gateSnap_wr (d : Dev) {f : Fld} (v : Nat) (h : f.off ≠ 0x1040) : gateSnap (wr d f v) = gateSnap d := by
  unfold gateSnap
  rw [actW_wr_ne d f v h.symm]
  rfl

theorem gateSnap_setBit (d : Dev) {f : Fld} (n : Nat) (v : Bool) (h : f.off ≠ 0x1040) : gateSnap (setBit d f n v) = gateSnap d := by
  unfold setBit
  dsimp only
  split
  · rfl
  · exact gateSnap_wr _ _ h

theorem gateSnap_pllFollow (d : Dev) (dom : Nat) : gateSnap (pllFollow d dom) = gateSnap d := by
  unfold pllFollow
  split
  · rfl
  · dsimp only
    split
    · exact gateSnap_setBit _ _ _ (by decide)
    · split
      · exact gateSnap_setBit _ _ _ (by decide)
      · rfl

theorem gateSnap_wrs (d : Dev) (l : List (Fld × Nat)) (h : ∀ e ∈ l, e.1.off ≠ 0x1040) : gateSnap (wrs d l) = gateSnap d :=
  foldl_induct (P := fun y => gateSnap y = gateSnap d) l rfl fun e y he hy => (gateSnap_wr y _ (h e he)).trans hy

theorem gateSnap_groupRestart (d : Dev) (k : Nat) : gateSnap (groupRestart d k) = gateSnap d := by
  refine foldUpto_keeps gateSnap 4 d fun i d => gateSnap_wrs _ _ ?_
  simp only [List.forall_mem_cons, List.not_mem_nil, false_implies, implies_true, and_true, F.CHN_STAT_IREF, F.CHN_STAT_FSTEP, F.CHN_TTRN_US]
  omega

theorem gateSnap_groupState (d : Dev) (k a b : Nat) : gateSnap (groupState d k a b) = gateSnap d := by
  refine foldUpto_keeps gateSnap 4 d fun i d => ?_
  split
  · exact gateSnap_wr _ _ (by show 0x30000 + 0x1000 * _ + _ ≠ _; omega)
  · rfl

/-- The power of a channel group or of an LDPC domain comes back beside the gate. -/
theorem gateSnap_powerOn (d : Dev) {dom : Nat} (h : dom ≤ 15 ∨ 22 ≤ dom) : gateSnap (powerOn d dom) = gateSnap d := by
  have hpages (d : Dev) : gateSnap (setPagesOn d dom true) = gateSnap d := foldl_keeps gateSnap _ d fun _ _ => rfl
  have hpll (d : Dev) : gateSnap (pllFollow (setBit d F.PWR_DOMSTAT_ON dom true) dom) = gateSnap d :=
    (gateSnap_pllFollow _ _).trans (gateSnap_setBit _ _ _ (by decide))
  have hshown (b : Bool) (d : Dev) : gateSnap (if b then setPagesOn (pllFollow (setBit d F.PWR_DOMSTAT_ON dom true) dom) dom true
      else pllFollow (setBit d F.PWR_DOMSTAT_ON dom true) dom) = gateSnap d := by
    cases b
    · exact hpll d
    · exact (hpages _).trans (hpll d)
  unfold powerOn
  split
  · rfl
  · dsimp only
    by_cases h15 : dom ≤ 15
    · rw [if_pos h15, gateSnap_groupState, gateSnap_groupRestart]
      exact hshown _ _
    · rw [if_neg h15, if_neg (by omega), if_neg (by omega)]
      exact hshown _ _

theorem gateSnap_ungateNow (d : Dev) {dom : Nat} (h : dom ≤ 15 ∨ 22 ≤ dom) : gateSnap (ungateNow d dom) = gateSnap d := by
  have hhost (d : Dev) {n : Nat} (hn : n ≤ 15 ∨ 22 ≤ n) : gateSnap (setBit (powerOn d n) F.PWR_DOMHOST_HOST n false) = gateSnap d :=
    (gateSnap_setBit _ _ _ (by decide)).trans (gateSnap_powerOn d hn)
  unfold ungateNow
  dsimp only
  split
  · exact (hhost _ h).trans (hhost d (.inr (by omega)))
  · exact hhost d h

/-- The device as a COMMIT fixes the snapshot. -/
def snapTaken (d : Dev) : Dev :=
  wr { voteAll d with hub := { (voteAll d).hub with
    snapShd := (voteAll d).hub.shd, snapSum := actW (voteAll d) 0x1044, snapEhold := actW (voteAll d) 0x5040, snapLock := actW (voteAll d) 0x160,
    hdr := (voteAll d).hub.hdr.map (fun e => (e.1, { e.2 with late := false })) } } F.CFG_GATE_STATE 2

theorem gateCommit_eq {d : Dev} (h : stageReady d = true) (hst : rd d F.CFG_GATE_STATE ∉ [2, 4]) : gateCommit d =
    foldUpto 16 (fun k d => if groupDeclared d k then ungateNow (ungateNow d (22 + k / 4)) k else d) (snapTaken d) := by
  simp only [List.mem_cons, List.not_mem_nil, or_false, not_or] at hst
  unfold gateCommit
  dsimp only
  rw [if_neg (by simp [h]), if_neg (by simp [hst])]
  rfl

theorem gateCommit_ignored {d : Dev} {k : Nat} (h : stageReady d = false ∧ k = 1 ∨ stageReady d = true ∧ rd d F.CFG_GATE_STATE ∈ [2, 4] ∧ k = 2) :
    gateCommit d = gateIgnore d k := by
  unfold gateCommit
  dsimp only
  rcases h with ⟨h, rfl⟩ | ⟨h, hst, rfl⟩
  · rw [if_pos (by simp [h])]
  · simp only [List.mem_cons, List.not_mem_nil, or_false] at hst
    rw [if_neg (by simp [h]), if_pos (by simpa using hst)]

theorem gateCommit_shows {d : Dev} (h : stageReady d = true) (hst : rd d F.CFG_GATE_STATE ∉ [2, 4]) :
    rd (gateCommit d) F.CFG_GATE_STATE = 2 ∧ (gateCommit d).hub.snapShd = (voteAll d).hub.shd ∧ (gateCommit d).hub.snapSum = actW (voteAll d) 0x1044 := by
  have hsnap : gateSnap (gateCommit d) = gateSnap (snapTaken d) := by
    rw [gateCommit_eq h hst]
    refine foldUpto_induct (P := fun y => gateSnap y = gateSnap (snapTaken d)) 16 rfl fun k y hk hy => ?_
    split
    · exact (gateSnap_ungateNow _ (.inl (by omega))).trans ((gateSnap_ungateNow _ (.inr (by omega))).trans hy)
    · exact hy
  have hword : actW (gateCommit d) 0x1040 = actW (snapTaken d) 0x1040 := congrArg (·.1) hsnap
  refine ⟨?_, congrArg (·.2.1) hsnap, congrArg (·.2.2) hsnap⟩
  rw [rd_congr F.CFG_GATE_STATE hword, snapTaken, rd_wr_same _ _ _ (by decide)]
  rfl

theorem gateCommit_none {d : Dev} (h : stageReady d = true) (hst : rd d F.CFG_GATE_STATE ∉ [2, 4])
    (hg : ∀ k, k < 16 → groupDeclared (voteAll d) k = false) : gateCommit d = snapTaken d := by
  rw [gateCommit_eq h hst]
  refine foldUpto_induct (P := fun y => y = snapTaken d) 16 rfl fun k y hk hy => ?_
  subst hy
  exact if_neg (by rw [show groupDeclared (snapTaken d) k = groupDeclared (voteAll d) k from rfl, hg k hk]; decide)

/-! ### The checks -/

theorem gateHeld_shows (d : Dev) (code off : Nat) : let d' := gateHeld d code off
    rd d' F.CFG_REASON_CODE = code % 256 ∧ rd d' F.CFG_WHERE_VALID = 1 ∧ rd d' F.CFG_WHERE_OFFSET = off % 2 ^ 20 ∧ rd d' F.CFG_GATE_STATE = 3 ∧
    evtSet d' 1 9 = true ∧ rd d' F.CFG_REASON_COUNT = min (rd d F.CFG_REASON_COUNT + 1) 255 ∧
    ChangesOnly ([0x1040, 0x1048, 0x104C] ++ logWords) [1, 0x7E] d d' := by
  intro d'
  have hrd (f : Fld) (hf : f.off ∉ logWords) : rd d' f = rd (satAdd (wrs d [(F.CFG_REASON_CODE, code), (F.CFG_WHERE_VALID, 1), (F.CFG_WHERE_OFFSET, off),
      (F.CFG_GATE_STATE, 3)]) F.CFG_REASON_COUNT 1) f :=
    (rd_raise _ _ _ f hf).trans (rd_congr f ((ChangesOnly.logPut ..).words f.off hf))
  refine ⟨?_, ?_, ?_, ?_, evtSet_raise_same _ _ (by decide), ?_, ?_⟩
  · rw [hrd _ (by decide), satAdd]
    simp (disch := decide) only [wrs, List.foldl_cons, List.foldl_nil, rd_wr_same, rd_wr_apart]
    rfl
  · rw [hrd _ (by decide), satAdd]
    simp (disch := decide) only [wrs, List.foldl_cons, List.foldl_nil, rd_wr_same, rd_wr_apart]
    rfl
  · rw [hrd _ (by decide), satAdd]
    simp (disch := decide) only [wrs, List.foldl_cons, List.foldl_nil, rd_wr_same, rd_wr_apart]
    rfl
  · rw [hrd _ (by decide), satAdd]
    simp (disch := decide) only [wrs, List.foldl_cons, List.foldl_nil, rd_wr_same, rd_wr_apart]
    rfl
  · rw [hrd _ (by decide), rd_satAdd_same _ _ _ (by decide)]
    simp (disch := decide) only [wrs, List.foldl_cons, List.foldl_nil, rd_wr_apart]
    rfl
  · have hw : ChangesOnly [0x1040, 0x1048, 0x104C] [] d (wrs d [(F.CFG_REASON_CODE, code), (F.CFG_WHERE_VALID, 1), (F.CFG_WHERE_OFFSET, off),
        (F.CFG_GATE_STATE, 3)]) := ChangesOnly.wrs_of d (offs := [0x1048, 0x104C, 0x104C, 0x1040]) rfl (by decide)
    exact (((hw.trans (ChangesOnly.wr _ F.CFG_REASON_COUNT _)).trans (ChangesOnly.logPut _ _ _)).trans (ChangesOnly.raise _ 1 9)).mono
      (by simp [F.CFG_REASON_COUNT]; exact fun o ho => by simp [ho]) (by simp)

theorem gives_imageCheck {s : State} {P : Dev → Prop} {e : Dev} (hs : serving s.dev = true) (hst : rd s.dev F.CFG_GATE_STATE = 2)
    (he : (let v := atSnapshot s.dev
      let crc := imageCrc v
      let d1 := wr s.dev F.CFG_CALC_CRC crc
      if !(crc == s.dev.hub.snapSum.toNat) then gateHeld d1 1 0x1044
      else match imagePageFault v with
        | some (p, whr, cause) => gateHeld (refusePage d1 p whr cause) 0x0A (0x1000 * p + whr)
        | none =>
          let a := allPages.foldl applyPage v
          let d2 := energyRegs d1 (energyDeclared a)
          match imageFault a with
          | some (code, off) => gateHeld d2 code off
          | none => gateAccept d2) = e) (hp : P e) : Gives .imageCheckComplete s P :=
  gives_of_guard_eq rfl (by rw [hs, hst]; rfl) he hp

theorem acceptGate_shows (d : Dev) : let d3 := acceptGate d
    rd d3 F.CFG_GATE_STATE = 4 ∧ rd d3 F.GLB_STAT_MODE = 0 ∧ rd d3 F.GLB_STAT_RSTAGE = 1 ∧ rd d3 F.GLB_STAT_RECOVERED = 0 ∧
    rd d3 F.CFG_ACCT_T = now32 d ∧ evtSet d3 1 8 = true := by
  have hnow : now32 d % 2 ^ F.CFG_ACCT_T.wd = now32 d := Nat.mod_mod _ _
  have hrd (f : Fld) (hf : f.off ∉ logWords) : rd (acceptGate d) f = rd (wr (wrs (tvTaken (tvTaken (acceptApply d) 0x80 false) 0x80 true)
      [(F.CFG_GATE_STATE, 4), (F.CFG_ACCT_T, now32 d), (F.GLB_STAT_RECOVERED, 0), (F.GLB_STAT_MODE, 0), (F.GLB_STAT_RSTAGE, 1), (F.GLB_MODET_T, now32 d)])
      F.GLB_MODE_MODE 0) f := rd_raise _ _ _ f hf
  generalize tvTaken (tvTaken (acceptApply d) 0x80 false) 0x80 true = g at hrd
  refine ⟨?_, ?_, ?_, ?_, ?_, evtSet_raise_same _ _ (by decide)⟩ <;> rw [hrd _ (by decide)] <;>
    simp (disch := decide) only [wrs, List.foldl_cons, List.foldl_nil, rd_wr_same, rd_wr_apart]
  · rfl
  · rfl
  · rfl
  · rfl
  · exact hnow

theorem imageChecked {s : State} (hs : serving s.dev = true) (hst : rd s.dev F.CFG_GATE_STATE = 2) : let v := atSnapshot s.dev
    let d1 := wr s.dev F.CFG_CALC_CRC (imageCrc v)
    (imageCrc v ≠ s.dev.hub.snapSum.toNat → Gives .imageCheckComplete s (fun d => rd d F.CFG_REASON_CODE = 1 ∧ rd d F.CFG_WHERE_VALID = 1 ∧
      rd d F.CFG_WHERE_OFFSET = 0x1044 ∧ rd d F.CFG_GATE_STATE = 3 ∧ evtSet d 1 9 = true ∧
      rd d F.CFG_REASON_COUNT = min (rd s.dev F.CFG_REASON_COUNT + 1) 255 ∧
      ChangesOnly ([0x1040, 0x1048, 0x104C, 0x1050] ++ logWords) [1, 0x7E] s.dev d)) ∧
    (imageCrc v = s.dev.hub.snapSum.toNat →
      (∀ p whr cause, imagePageFault v = some (p, whr, cause) → Gives .imageCheckComplete s (fun d =>
        d = gateHeld (refusePage d1 p whr cause) 0x0A (0x1000 * p + whr) ∧ rd d F.CFG_GATE_STATE = 3 ∧ rd d F.CFG_REASON_CODE = 0x0A)) ∧
      (imagePageFault v = none → let a := allPages.foldl applyPage v
        let d2 := energyRegs d1 (energyDeclared a)
        (∀ code off, imageFault a = some (code, off) →
          Gives .imageCheckComplete s (fun d => d = gateHeld d2 code off ∧ rd d F.CFG_GATE_STATE = 3 ∧ rd d F.CFG_REASON_CODE = code % 256 ∧
            rd d F.CFG_WHERE_OFFSET = off % 2 ^ 20)) ∧
        (imageFault a = none → let d3 := acceptGate d2
          rd d3 F.CFG_GATE_STATE = 4 ∧ rd d3 F.GLB_STAT_MODE = 0 ∧ rd d3 F.GLB_STAT_RSTAGE = 1 ∧ rd d3 F.GLB_STAT_RECOVERED = 0 ∧
          rd d3 F.CFG_ACCT_T = now32 s.dev ∧ evtSet d3 1 8 = true ∧
          Gives .imageCheckComplete s (fun d => d = startRecover (acceptEffects d3))))) := by
  intro v d1
  have hd1 : ChangesOnly [0x1050] [] s.dev d1 := ChangesOnly.wr s.dev F.CFG_CALC_CRC _
  refine ⟨fun hcrc => ?_, fun hcrc => ⟨fun p whr cause hpage => ?_, fun hpage => ?_⟩⟩
  · obtain ⟨hcode, hvalid, hoff, hstate, hevt, hcount, hframe⟩ := gateHeld_shows d1 1 0x1044
    refine gives_imageCheck hs hst (if_pos (by simpa using hcrc)) ⟨hcode, hvalid, hoff, hstate, hevt, hcount.trans ?_, (hd1.trans hframe).mono ?_ (by simp)⟩
    · rw [rd_congr F.CFG_REASON_COUNT (hd1.words 0x1048 (by decide))]
    · simp
      exact fun o ho => by simp [ho]
  all_goals
    have hsum : ¬ (!(imageCrc v == s.dev.hub.snapSum.toNat)) = true := by simp [hcrc]
  · obtain ⟨hcode, -, -, hstate, -⟩ := gateHeld_shows (refusePage d1 p whr cause) 0x0A (0x1000 * p + whr)
    exact gives_imageCheck hs hst ((if_neg hsum).trans (by rw [hpage])) ⟨rfl, hstate, hcode⟩
  · intro a d2
    refine ⟨fun code off hf => ?_, fun hf => ?_⟩
    · obtain ⟨hcode, -, hoff, hstate, -⟩ := gateHeld_shows d2 code off
      refine gives_imageCheck hs hst ((if_neg hsum).trans ?_) ⟨rfl, hstate, hcode, hoff⟩
      rw [hpage]
      dsimp only
      rw [hf]
    · obtain ⟨hstate, hmode, hstage, hrec, htime, hevt⟩ := acceptGate_shows d2
      refine ⟨hstate, hmode, hstage, hrec, htime, hevt, gives_imageCheck hs hst ((if_neg hsum).trans ?_) rfl⟩
      rw [hpage]
      dsimp only
      rw [hf]
      rfl

/-! ### REOPEN -/

theorem reopenCause_le (d : Dev) : reopenCause d ≤ 6 := by
  unfold reopenCause
  split
  · decide
  · split
    · decide
    · split
      · decide
      · split <;> decide

theorem padTo_cmds (d : Dev) (b n cls : Nat) : (padTo d b n cls).cmds = d.cmds := by
  have hemit (d : Dev) (lo hi : Nat) : (emitUnits d b lo hi cls).cmds = d.cmds := by
    unfold emitUnits
    dsimp only
    split <;> rfl
  unfold padTo
  dsimp only
  split
  · rfl
  · exact (hemit ..).trans rfl

theorem reopenDrain_cmds (d : Dev) :
    (reopenDrain d).cmds = { d.cmds with list := updWhere (fun c => !isStarted c) (fun c => { c with stage := .held, kres := 0 }) d.cmds.list } :=
  foldl_keeps Dev.cmds _ _ fun _ _ => padTo_cmds ..

/-- With the commands that have not started held, every command that has not started is held. -/
theorem held_of_not_started {c : Cmd} {l : List Cmd} (h : c ∈ updWhere (fun c => !isStarted c) (fun c => { c with stage := .held, kres := 0 }) l)
    (hc : isStarted c = false) : c.stage = .held := by
  obtain ⟨c0, -, rfl⟩ := List.mem_map.1 h
  by_cases h0 : isStarted c0 = true
  · rw [if_neg (by simp [h0])] at hc
    rw [h0] at hc
    cases hc
  · rw [if_pos (by simpa using h0)]

/-! ### The end of the drain -/

theorem pend_discardPage (d : Dev) (p q : Nat) : (hdrOf (discardPage d p) q).pend = if q = p then false else (hdrOf d q).pend := by
  have hwords : hdrOf ((pageKeys d p).foldl revertWord d) = hdrOf d := foldl_keeps hdrOf _ d fun _ _ => rfl
  unfold discardPage
  dsimp only
  rw [hdrOf_setHdr, hwords]
  split <;> rfl

theorem pend_discardPages (l : List Nat) (d : Dev) {p : Nat} (h : p ∈ l ∨ (hdrOf d p).pend = false) : (hdrOf (l.foldl discardPage d) p).pend = false := by
  induction l generalizing d with
  | nil => simpa using h
  | cons q l ih =>
    refine ih _ ?_
    by_cases hq : p = q
    · exact .inr (by rw [pend_discardPage, if_pos hq])
    · rw [pend_discardPage, if_neg hq]
      simpa [hq] using h

theorem gateStaged_shows (d : Dev) : let d1 := gateStaged d
    rd d1 F.CFG_GATE_STATE = 1 ∧ rd d1 F.GLB_STAT_MODE = 0xF ∧ rd d1 F.GLB_STAT_RECOVERED = 0 ∧ rd d1 F.GLB_STAT_RSTAGE = 0 ∧
    d1.cmds.reopening = false ∧ ∀ p ∈ allPages, (hdrOf d1 p).pend = false := by
  intro d1
  generalize hd : leaveAccepted (emptyKeys (journalClean d)) = e
  have he : d1 = wrs { allPages.foldl discardPage e with cmds := { (allPages.foldl discardPage e).cmds with reopening := false } }
      [(F.GLB_STAT_MODE, 0xF), (F.GLB_STAT_RECOVERED, 0), (F.CFG_GATE_STATE, 1), (F.GLB_STAT_RSTAGE, 0)] := by
    rw [← hd]
    rfl
  have hpend (p : Nat) (hp : p ∈ allPages) : (hdrOf (allPages.foldl discardPage e) p).pend = false := pend_discardPages _ _ (.inl hp)
  rw [he]
  generalize allPages.foldl discardPage e = g at hpend
  refine ⟨?_, ?_, ?_, ?_, ?_, hpend⟩
  · simp (disch := decide) only [wrs, List.foldl_cons, List.foldl_nil, rd_wr_same, rd_wr_apart]
    rfl
  · simp (disch := decide) only [wrs, List.foldl_cons, List.foldl_nil, rd_wr_same, rd_wr_apart]
    rfl
  · simp (disch := decide) only [wrs, List.foldl_cons, List.foldl_nil, rd_wr_same, rd_wr_apart]
    rfl
  · simp (disch := decide) only [wrs, List.foldl_cons, List.foldl_nil, rd_wr_same]
    rfl
  · rfl

/-- Settles O45. -/
theorem configurationGate : Obligations.ConfigurationGate := by
  refine ⟨?commit, ?check, ?reopen, ?drained⟩
  case commit =>
    intro s port hw
    refine ⟨fun k hk => gives_cfgCommit hw ?_, fun hready hst => gives_cfgCommit hw ?_⟩
    · rw [gateCommit_ignored hk]
      obtain ⟨hcause, hevt, hframe, hstate⟩ := gateIgnore_shows s.dev (k := k) (by omega)
      exact ⟨hcause, hevt, hframe, hstate⟩
    · obtain ⟨hstate, hshd, hsum⟩ := gateCommit_shows hready hst
      refine ⟨rfl, hstate, hshd, hsum, fun hg o ho => ?_⟩
      rw [gateCommit_none hready hst hg]
      exact actW_wr_ne _ F.CFG_GATE_STATE 2 ho
  case check =>
    intro s hs hst
    exact imageChecked hs hst
  case reopen =>
    intro s port hw
    have hcause := reopenCause_le s.dev
    refine ⟨fun hc => gives_cfgReopen hw ?_, fun hc hr => gives_cfgReopen hw ?_, fun hc hr => gives_cfgReopen hw ?_⟩ <;> unfold gateReopen <;> dsimp only
    · rw [if_pos (by simpa using hc)]
      obtain ⟨hicause, hevt, hframe, -⟩ := gateIgnore_shows s.dev (k := reopenCause s.dev) (by omega)
      exact ⟨hicause, hevt, hframe⟩
    · rw [if_neg (by simp [hc]), if_neg (by simp [hr])]
      refine ⟨rfl, ?_, fun c hm hc => held_of_not_started (l := s.dev.cmds.list) ?_ hc⟩
      · rw [reopenDrain_cmds]
      · rw [reopenDrain_cmds] at hm
        exact hm
    · rw [if_neg (by simp [hc]), if_pos hr]
  case drained =>
    intro s hs hr hd d1
    obtain ⟨hstate, hmode, hrec, hstage, hre, hpend⟩ := gateStaged_shows s.dev
    exact ⟨hstate, hmode, hrec, hstage, hre, hpend, gives_of_guard (c := .reopenComplete) rfl (by rw [hs, hr, hd]; rfl) rfl⟩

end Sys2Proof.Machine
end

section
/-!
PROOFS. The stages of RECOVER (R104, R105, R232, R255, R256, R413, R431).
-/
namespace Sys2Proof.Machine

/-! ### System records -/

/-- The device without what a system record may move: the battens, the system pair, the anchors and their wear, and the active words. -/
def besideRecords (d : Dev) : Dev :=
  { d with
    hub := { d.hub with act := [] }
    med := { d.med with
      window := [], sysWait := false
      nand := { d.med.nand with bats := [], sysGen := 0, sysPair := (0, 0), anchorGen := 0, anchors := [], anchorAt := 0, recBase := 0, recs := [],
                                lunRec := [] } } }

/-- The words a system record may move: the pair MAP_WSEQ and the size of the window. -/
def recordWords : List Nat := [0x20080, 0x20084, 0x21044]

/-- A device reached from another by writing system records. -/
structure RecordsOnly (d d' : Dev) : Prop where
  rest : besideRecords d' = besideRecords d
  words : ∀ o, o ∉ recordWords → actW d' o = actW d o

namespace RecordsOnly

variable {d d' d'' : Dev}

theorem refl (d : Dev) : RecordsOnly d d := ⟨rfl, fun _ _ => rfl⟩

theorem trans (h : RecordsOnly d d') (h' : RecordsOnly d' d'') : RecordsOnly d d'' :=
  ⟨h'.rest.trans h.rest, fun o ho => (h'.words o ho).trans (h.words o ho)⟩

/-- Whatever does not depend on the fields a record moves stays. -/
theorem keeps {α : Type} (g : Dev → α) (hg : ∀ d, g (besideRecords d) = g d) (h : RecordsOnly d d') : g d' = g d := by
  rw [← hg d', h.rest, hg d]

theorem foldl {α : Type} {f : Dev → α → Dev} (l : List α) (d : Dev) (h : ∀ d x, RecordsOnly d (f d x)) : RecordsOnly d (l.foldl f d) :=
  foldl_induct (P := RecordsOnly d) l (refl d) fun x y _ hy => hy.trans (h y x)

theorem wseq (d : Dev) (n : Nat) : RecordsOnly d (add64 d F.MAP_WSEQ n) := by
  refine ⟨rfl, fun o ho => actW_wr64_ne d _ ?_ ?_⟩ <;> rintro rfl <;> exact ho (by decide)

theorem modNand (d : Dev) {f : Nand → Nand} (h : besideRecords (Machine.modNand d f) = besideRecords d) : RecordsOnly d (Machine.modNand d f) :=
  ⟨h, fun _ _ => rfl⟩

theorem modBat (d : Dev) (b : Nat) (f : Batten → Batten) : RecordsOnly d (Machine.modBat d b f) := ⟨rfl, fun _ _ => rfl⟩

theorem putWindow (d : Dev) (l : List Nat) : RecordsOnly d (Machine.putWindow d l) := by
  refine ⟨rfl, fun o ho => actW_wr_ne _ F.JNL_STAT_WIN _ ?_⟩
  rintro rfl
  exact ho (by decide)

theorem openBatten {w : Writer} {r : Dev × Nat} (h : openBatten d w = some r) : RecordsOnly d r.1 := by
  unfold Machine.openBatten at h
  split at h
  · cases h
  · cases h
    exact (modBat ..).trans (putWindow ..)

theorem anchorErase (d : Dev) (k : Nat) : RecordsOnly d (Machine.anchorErase d k) := by
  unfold Machine.anchorErase
  dsimp only
  split
  · exact .refl d
  · exact ⟨rfl, fun _ _ => rfl⟩

theorem anchorPut (d : Dev) : RecordsOnly d (Machine.anchorPut d) := by
  have hput (x : Dev) (g k : Nat) (f : List (Nat × Nat × Nat)) : RecordsOnly x (add64 (Machine.modNand x (fun n => { n with
      anchorGen := g, anchorAt := k, anchors := n.anchors.put (fun _ => []) k (f ++ [(g, n.sysPair.1, n.sysPair.2)]) })) F.MAP_WSEQ 1) :=
    RecordsOnly.trans (modNand _ rfl) (wseq ..)
  unfold Machine.anchorPut
  dsimp only
  split
  · exact hput ..
  split
  · split
    · exact (hput ..).trans (anchorErase ..)
    · exact hput ..
  split
  · exact (anchorErase ..).trans (hput ..)
  · exact hput ..

theorem sysRoll (d : Dev) : RecordsOnly d (Machine.sysRoll d) := by
  have hwait (x : Dev) (b : Bool) : RecordsOnly x { x with med := { x.med with sysWait := b } } := ⟨rfl, fun _ _ => rfl⟩
  unfold Machine.sysRoll
  split
  · exact hwait ..
  · next d1 a h1 =>
    split
    · exact hwait ..
    · next d2 b h2 =>
      have hopen : RecordsOnly d d2 := (openBatten h1).trans (openBatten h2)
      dsimp only
      refine RecordsOnly.trans ?_ (hwait _ false)
      refine RecordsOnly.trans ?_ (foldl _ _ fun d x => modBat ..)
      refine RecordsOnly.trans ?_ (anchorPut _)
      refine RecordsOnly.trans (RecordsOnly.trans ?_ (modNand _ rfl)) (wseq ..)
      exact hopen.trans (foldl _ _ fun d x => modBat ..)

theorem sysPut (d : Dev) (l : List Nat) : RecordsOnly d (Machine.sysPut d l) := by
  unfold Machine.sysPut
  dsimp only
  have hrec : RecordsOnly d (add64 (Machine.modNand d (fun x => { x with
      sysGen := x.sysGen + l.length
      recs := l.zipIdx.foldl (fun (m : SMap Nat) e => SMap.set m e.1 (x.sysGen + 1 + e.2)) x.recs })) F.MAP_WSEQ (2 * l.length)) :=
    RecordsOnly.trans (modNand _ rfl) (wseq ..)
  split
  · exact hrec
  split
  · exact hrec.trans (sysRoll _)
  · exact hrec.trans (foldl _ _ fun d x => modBat ..)

end RecordsOnly

/-! ### The stages -/

theorem toStage_shows (d : Dev) {n : Nat} (h : n < 8) : rd (toStage d n) F.GLB_STAT_RSTAGE = n ∧ (toStage d n).med.t0 = d.sys.time ∧
    ChangesOnly [0x84] [] { d with med := { d.med with t0 := d.sys.time } } (toStage d n) := by
  refine ⟨?_, rfl, ChangesOnly.wr _ F.GLB_STAT_RSTAGE n⟩
  rw [toStage, rd_wr_same _ _ _ (by decide)]
  show n % 2 ^ 4 = n
  omega

theorem mediaFail_shows (d : Dev) (code off : Nat) : let d' := mediaFail d code off
    rd d' F.GLB_STAT_MODE = 0xF ∧ rd d' F.GLB_STAT_RSTAGE = 0 ∧ rd d' F.CFG_GATE_STATE = 3 ∧ rd d' F.CFG_REASON_CODE = code % 256 := by
  have hshape : ∃ e, mediaFail d code off = wrs (gateHeld e code off) [(F.GLB_STAT_MODE, 0xF), (F.GLB_STAT_RSTAGE, 0)] := ⟨_, rfl⟩
  obtain ⟨e, he⟩ := hshape
  obtain ⟨hcode, -, -, hstate, -⟩ := gateHeld_shows e code off
  rw [he]
  generalize gateHeld e code off = g at hcode hstate
  refine ⟨?_, ?_, ?_, ?_⟩ <;> simp (disch := decide) only [wrs, List.foldl_cons, List.foldl_nil, rd_wr_same, rd_wr_apart]
  · rfl
  · rfl
  · exact hstate
  · exact hcode

/-! ### REPLAY and SCAN -/

theorem rd64_wr64_ne (d : Dev) {o p : Nat} (v : Nat) (h : ∀ x ∈ [o, o + 4], x ≠ p ∧ x ≠ p + 4) : rd64 (wr64 d p v) o = rd64 d o :=
  rd64_congr o fun x hx => actW_wr64_ne d v (h x hx).1 (h x hx).2

theorem rd64_wr_ne (d : Dev) {f : Fld} {o : Nat} (v : Nat) (h : ∀ x ∈ [o, o + 4], x ≠ f.off) : rd64 (wr d f v) o = rd64 d o :=
  rd64_congr o fun x hx => actW_wr_ne d f v (h x hx)

/-- The numbers that REPLAY shows: the last chunk and its CMARK, the next SEQ and WSEQ, the time it took, and the next stage. -/
def replayShown (d : Dev) (chunk cmark seq wseq us : Nat) : Dev :=
  toStage (wr (wr64 (wr64 (wr64 (wr64 d 0x21048 chunk) 0x21050 cmark) F.MAP_SEQ seq) F.MAP_WSEQ wseq) F.JNL_REPLAYT_US us) 4

theorem replayShown_eq (d : Dev) (n : Nand) (us : Nat) :
    toStage (wr (raiseWseq (raiseSeq (wr64 (wr64 d 0x21048 n.chunk) 0x21050 n.cmark) (replaySeqs n)) (replayWseqs n)) F.JNL_REPLAYT_US us) 4 =
    replayShown d n.chunk n.cmark ((replaySeqs n).foldl max (rd64 d F.MAP_SEQ - 1) + 1) ((replayWseqs n).foldl max (rd64 d F.MAP_WSEQ - 1) + 1) us := by
  have hseq : rd64 (wr64 (wr64 d 0x21048 n.chunk) 0x21050 n.cmark) F.MAP_SEQ = rd64 d F.MAP_SEQ := by
    rw [rd64_wr64_ne _ _ (by decide), rd64_wr64_ne _ _ (by decide)]
  have hwseq (v : Nat) : rd64 (wr64 (wr64 (wr64 d 0x21048 n.chunk) 0x21050 n.cmark) F.MAP_SEQ v) F.MAP_WSEQ = rd64 d F.MAP_WSEQ := by
    rw [rd64_wr64_ne _ _ (by decide), rd64_wr64_ne _ _ (by decide), rd64_wr64_ne _ _ (by decide)]
  rw [raiseWseq, raiseSeq, hwseq, hseq, replayShown]

theorem replayShown_pairs (d : Dev) (chunk cmark seq wseq us : Nat) : let d' := replayShown d chunk cmark seq wseq us
    rd64 d' F.MAP_SEQ = seq % 2 ^ 64 ∧ rd64 d' F.MAP_WSEQ = wseq % 2 ^ 64 ∧ rd64 d' 0x21048 = chunk % 2 ^ 64 ∧ rd64 d' 0x21050 = cmark % 2 ^ 64 := by
  have hstage (e : Dev) {o : Nat} (h : ∀ x ∈ [o, o + 4], x ≠ 0x84 ∧ x ≠ 0x21064) : rd64 (toStage (wr e F.JNL_REPLAYT_US us) 4) o = rd64 e o :=
    (rd64_wr_ne _ (f := F.GLB_STAT_RSTAGE) _ fun x hx => (h x hx).1).trans (rd64_wr_ne e (f := F.JNL_REPLAYT_US) _ fun x hx => (h x hx).2)
  dsimp only
  rw [replayShown, hstage _ (by decide), hstage _ (by decide), hstage _ (by decide), hstage _ (by decide)]
  refine ⟨?_, rd64_wr64_same .., ?_, ?_⟩
  · rw [rd64_wr64_ne _ _ (by decide), rd64_wr64_same]
  · rw [rd64_wr64_ne _ _ (by decide), rd64_wr64_ne _ _ (by decide), rd64_wr64_ne _ _ (by decide), rd64_wr64_same]
  · rw [rd64_wr64_ne _ _ (by decide), rd64_wr64_ne _ _ (by decide), rd64_wr64_same]

theorem replayShown_words (d : Dev) (chunk cmark seq wseq us : Nat) {o : Nat}
    (ho : o ∉ [0x84, 0x20078, 0x2007C, 0x20080, 0x20084, 0x21048, 0x2104C, 0x21050, 0x21054, 0x21064]) :
    actW (replayShown d chunk cmark seq wseq us) o = actW d o := by
  simp only [List.mem_cons, List.not_mem_nil, or_false, not_or] at ho
  obtain ⟨h84, hs, hs4, hw, hw4, hc, hc4, hm, hm4, ht⟩ := ho
  rw [replayShown, toStage, actW_wr_ne _ F.GLB_STAT_RSTAGE 4 h84]
  refine (actW_wr_ne _ F.JNL_REPLAYT_US us ht).trans ?_
  rw [actW_wr64_ne (o := F.MAP_WSEQ) _ _ hw hw4, actW_wr64_ne (o := F.MAP_SEQ) _ _ hs hs4, actW_wr64_ne _ _ hm hm4, actW_wr64_ne _ _ hc hc4]

/-- The journal after REPLAY: the chunks that read, and the last of them. -/
def replayedNand (d : Dev) (bad : List Nat) : Nand :=
  { d.med.nand with
    chunks := goodChain d bad
    chunk := (((goodChain d bad).getLast?).map Chunk.num).getD 0
    cmark := ((goodChain d bad).map Chunk.cmark).foldl max 0 }

/-- The map after REPLAY. -/
def replayedMap (d : Dev) (bad : List Nat) : MapSt := replayChunks (modNand d (fun _ => replayedNand d bad)) (goodChain d bad)

/-- The media after REPLAY. -/
def replayedDev (d : Dev) (bad : List Nat) : Dev :=
  { d with med := { d.med with
      nand := replayedNand d bad
      jmap := replayedMap d bad
      m := (metaDeltas (replayedNand d bad)).foldl applyDelta (replayedMap d bad)
      jrecent := (goodChain d bad).flatMap Chunk.deltas } }

theorem exec_replayDone (s : State) (bad : List Nat) : exec (.replayDone bad) s = finish s (guardDev (inStage s.dev 3) s.dev
    (toStage (wr (raiseWseq (raiseSeq (wr64 (wr64 (replayedDev s.dev bad) 0x21048 (replayedNand s.dev bad).chunk) 0x21050 (replayedNand s.dev bad).cmark)
      (replaySeqs (replayedNand s.dev bad))) (replayWseqs (replayedNand s.dev bad))) F.JNL_REPLAYT_US (stageUs s.dev)) 4)) := rfl

theorem gives_replayDone {s : State} {bad : List Nat} (hs : inStage s.dev 3 = true) {P : Dev → Prop}
    (hp : ∀ e, e.med = (replayedDev s.dev bad).med → (∀ o, actW e o = actW s.dev o) → P (replayShown e (replayedNand s.dev bad).chunk (replayedNand s.dev bad).cmark
      ((replaySeqs (replayedNand s.dev bad)).foldl max (rd64 s.dev F.MAP_SEQ - 1) + 1)
      ((replayWseqs (replayedNand s.dev bad)).foldl max (rd64 s.dev F.MAP_WSEQ - 1) + 1) (stageUs s.dev))) : Gives (.replayDone bad) s P := by
  have hseq : rd64 (replayedDev s.dev bad) F.MAP_SEQ = rd64 s.dev F.MAP_SEQ := rfl
  have hwseq : rd64 (replayedDev s.dev bad) F.MAP_WSEQ = rd64 s.dev F.MAP_WSEQ := rfl
  have hexec := exec_replayDone s bad
  rw [replayShown_eq, hseq, hwseq] at hexec
  exact gives_of_guard hexec hs (hp _ rfl fun _ => rfl)


theorem replayed {s : State} {bad : List Nat} (hs : inStage s.dev 3 = true) {n : Nand} {jm : MapSt} (hn : n = replayedNand s.dev bad)
    (hj : jm = replayedMap s.dev bad) : Gives (.replayDone bad) s (fun d => rd d F.GLB_STAT_RSTAGE = 4 ∧ rd d F.JNL_REPLAYT_US = stageUs s.dev % 2 ^ 32 ∧
      d.med.nand = n ∧ d.med.jmap = jm ∧ d.med.m = (metaDeltas n).foldl applyDelta jm ∧ d.med.jrecent = (goodChain s.dev bad).flatMap Chunk.deltas ∧
      rd64 d F.MAP_SEQ = ((replaySeqs n).foldl max (rd64 s.dev F.MAP_SEQ - 1) + 1) % 2 ^ 64 ∧
      rd64 d F.MAP_WSEQ = ((replayWseqs n).foldl max (rd64 s.dev F.MAP_WSEQ - 1) + 1) % 2 ^ 64 ∧
      rd64 d 0x21048 = n.chunk % 2 ^ 64 ∧ rd64 d 0x21050 = n.cmark % 2 ^ 64 ∧
      ∀ o, o ∉ [0x84, 0x20078, 0x2007C, 0x20080, 0x20084, 0x21048, 0x2104C, 0x21050, 0x21054, 0x21064] → actW d o = actW s.dev o) := by
  refine gives_replayDone hs fun e hmed hwords => ?_
  have hfields : e.med.nand = n ∧ e.med.jmap = jm ∧ e.med.m = (metaDeltas n).foldl applyDelta jm ∧ e.med.jrecent = (goodChain s.dev bad).flatMap Chunk.deltas := by
    rw [hmed, hn, hj]
    exact ⟨rfl, rfl, rfl, rfl⟩
  rw [← hn]
  obtain ⟨hnand, hjmap, hm, hrecent⟩ := hfields
  generalize (replaySeqs n).foldl max (rd64 s.dev F.MAP_SEQ - 1) + 1 = seq
  generalize (replayWseqs n).foldl max (rd64 s.dev F.MAP_WSEQ - 1) + 1 = wseq
  obtain ⟨hseq, hwseq, hchunk, hcmark⟩ := replayShown_pairs e n.chunk n.cmark seq wseq (stageUs s.dev)
  refine ⟨(toStage_shows _ (by decide)).1, ?_, hnand, hjmap, hm, hrecent, hseq, hwseq, hchunk, hcmark,
    fun o ho => (replayShown_words e _ _ _ _ _ ho).trans (hwords o)⟩
  exact (rd_wr_off _ F.GLB_STAT_RSTAGE F.JNL_REPLAYT_US _ (by decide)).trans (rd_wr_same _ _ _ (by decide))

/-- The device with the changes that SCAN found in its map. -/
def scannedDev (d : Dev) (bad : List Nat) : Dev :=
  let d0 := { d with med := { d.med with scanBad := bad } }
  let ps := scanPieces d0
  let xs := candDeltas (knownOf d0) d0.med.nand.cmark ps
  let ids := ps.map (fun p => p.tag.txid) ++ (openSets d0.med.nand).flatMap (fun s => s.exts.map (fun r => r.ext.tag.txid) ++ s.txns.map Prod.fst)
    ++ (knownOf d0).deltas.map Delta.txid
  let d1 := { d0 with med := { d0.med with m := xs.foldl applyDelta d0.med.m, deltas := xs, nextTx := ids.foldl max 0 + 1 } }
  raiseWseq (raiseSeq d1 (ps.map (fun p => lastSeq p.tag))) (scanWseqs d1)

/-- The device with the counts of SCAN and the window found. -/
def scanShown (d : Dev) (count us : Nat) : Dev := scanWindow (wrs d [(F.JNL_SCANPG_COUNT, count), (F.JNL_SCANT_US, us)])

theorem exec_scanDone (s : State) (bad : List Nat) : exec (.scanDone bad) s = finish s (guardDev (inStage s.dev 4) s.dev
    (toStage (if bad.isEmpty then scanShown (scannedDev s.dev bad) (scanCount { s.dev with med := { s.dev.med with scanBad := bad } }) (stageUs s.dev)
      else raise (scanShown (scannedDev s.dev bad) (scanCount { s.dev with med := { s.dev.med with scanBad := bad } }) (stageUs s.dev)) 0x20 11) 5)) := rfl

/-- The window of SCAN moves battens and nothing else of the media. -/
theorem scanWindow_records (d : Dev) : RecordsOnly d (scanWindow d) :=
  (RecordsOnly.foldl _ d fun _ _ => .modBat ..).trans (.putWindow ..)

theorem scanWindow_window (d : Dev) : ∀ b ∈ (scanWindow d).med.window, (batOf (scanWindow d) b).st = .window := by
  intro b hb
  exact beq_iff_eq.1 (List.mem_filter.1 hb).2

theorem scanShown_shows (d : Dev) (count us : Nat) : let d' := scanShown d count us
    rd d' F.JNL_SCANPG_COUNT = count % 2 ^ 32 ∧ rd d' F.JNL_SCANT_US = us % 2 ^ 32 ∧ d'.hub.hdr = d.hub.hdr ∧ d'.med.m = d.med.m ∧ d'.med.deltas = d.med.deltas ∧
    d'.med.nand.flash = d.med.nand.flash ∧ ∀ b ∈ d'.med.window, (batOf d' b).st = .window := by
  intro d'
  have hshown : (wrs d [(F.JNL_SCANPG_COUNT, count), (F.JNL_SCANT_US, us)]).hub.hdr = d.hub.hdr ∧
      (wrs d [(F.JNL_SCANPG_COUNT, count), (F.JNL_SCANT_US, us)]).med = d.med := ⟨rfl, rfl⟩
  have hapart : [F.JNL_SCANPG_COUNT, F.JNL_SCANT_US].Pairwise FldApart := by decide
  have hrd : rd (wrs d [(F.JNL_SCANPG_COUNT, count), (F.JNL_SCANT_US, us)]) F.JNL_SCANPG_COUNT = count % 2 ^ 32 ∧
      rd (wrs d [(F.JNL_SCANPG_COUNT, count), (F.JNL_SCANT_US, us)]) F.JNL_SCANT_US = us % 2 ^ 32 :=
    ⟨rd_wrs_mem d hapart (by simp) (by decide), rd_wrs_mem d hapart (by simp) (by decide)⟩
  obtain ⟨hhdr, hmed⟩ := hshown
  have hd : d' = scanWindow (wrs d [(F.JNL_SCANPG_COUNT, count), (F.JNL_SCANT_US, us)]) := rfl
  generalize wrs d [(F.JNL_SCANPG_COUNT, count), (F.JNL_SCANT_US, us)] = e at hd hrd hhdr hmed
  have hrec := scanWindow_records e
  rw [hd]
  refine ⟨(rd_congr _ (hrec.words _ (by decide))).trans hrd.1, (rd_congr _ (hrec.words _ (by decide))).trans hrd.2,
    (hrec.keeps (fun d => d.hub.hdr) fun _ => rfl).trans hhdr, (hrec.keeps (fun d => d.med.m) fun _ => rfl).trans (congrArg Med.m hmed),
    (hrec.keeps (fun d => d.med.deltas) fun _ => rfl).trans (congrArg Med.deltas hmed),
    (hrec.keeps (fun d => d.med.nand.flash) fun _ => rfl).trans (congrArg (fun m => m.nand.flash) hmed), scanWindow_window e⟩

theorem scanned {s : State} {bad : List Nat} (hs : inStage s.dev 4 = true) : let d0 := { s.dev with med := { s.dev.med with scanBad := bad } }
    let xs := candDeltas (knownOf d0) s.dev.med.nand.cmark (scanPieces d0)
    Gives (.scanDone bad) s (fun d => rd d F.GLB_STAT_RSTAGE = 5 ∧ rd d F.JNL_SCANPG_COUNT = scanCount d0 % 2 ^ 32 ∧
      rd d F.JNL_SCANT_US = stageUs s.dev % 2 ^ 32 ∧ (bad ≠ [] → evtSet d 0x20 11 = true) ∧ (bad = [] → d.hub.hdr = s.dev.hub.hdr) ∧
      d.med.m = xs.foldl applyDelta s.dev.med.m ∧ d.med.deltas = xs ∧ d.med.nand.flash = s.dev.med.nand.flash ∧
      ∀ b ∈ d.med.window, (batOf d b).st = .window) := by
  intro d0 xs
  have hscanned : (scannedDev s.dev bad).hub.hdr = s.dev.hub.hdr ∧ (scannedDev s.dev bad).med.m = xs.foldl applyDelta s.dev.med.m ∧
      (scannedDev s.dev bad).med.deltas = xs ∧ (scannedDev s.dev bad).med.nand.flash = s.dev.med.nand.flash := ⟨rfl, rfl, rfl, rfl⟩
  obtain ⟨hhdr, hm, hdeltas, hflash⟩ := hscanned
  have hexec := exec_scanDone s bad
  obtain ⟨hcount, hus, hhdr', hm', hdeltas', hflash', hwin⟩ := scanShown_shows (scannedDev s.dev bad) (scanCount d0) (stageUs s.dev)
  generalize scanShown (scannedDev s.dev bad) (scanCount d0) (stageUs s.dev) = e at hexec hcount hus hhdr' hm' hdeltas' hflash' hwin
  have hstage (x : Dev) : rd (toStage x 5) F.GLB_STAT_RSTAGE = 5 := (toStage_shows x (by decide)).1
  have hkeep (x : Dev) (f : Fld) (h : f.off ≠ 0x84) : rd (toStage x 5) f = rd x f := rd_wr_off _ F.GLB_STAT_RSTAGE f _ h
  cases bad with
  | nil =>
    exact gives_of_guard hexec hs ⟨hstage e, (hkeep e _ (by decide)).trans hcount, (hkeep e _ (by decide)).trans hus, fun h => absurd rfl h,
      fun _ => hhdr'.trans hhdr, hm'.trans hm, hdeltas'.trans hdeltas, hflash'.trans hflash, hwin⟩
  | cons x bad =>
    have hmed : (raise e 0x20 11).med = e.med := raise_med ..
    refine gives_of_guard_eq (e := toStage (raise e 0x20 11) 5) hexec hs rfl ⟨hstage _, ?_, ?_, fun _ => ?_, nofun, ?_, ?_, ?_, ?_⟩
    · rw [hkeep _ _ (by decide), rd_raise _ _ _ _ (by decide), hcount]
    · rw [hkeep _ _ (by decide), rd_raise _ _ _ _ (by decide), hus]
    · exact evtSet_raise_same e 0x20 (by decide)
    · exact (congrArg Med.m hmed).trans (hm'.trans hm)
    · exact (congrArg Med.deltas hmed).trans (hdeltas'.trans hdeltas)
    · exact (congrArg (fun m => m.nand.flash) hmed).trans (hflash'.trans hflash)
    · have hbat (b : Nat) : batOf (toStage (raise e 0x20 11) 5) b = batOf e b := congrArg (fun m => m.nand.bats.read (fun _ => {}) b) hmed
      intro b hb
      rw [hbat]
      exact hwin b ((congrArg Med.window hmed) ▸ hb)

/-! ### FOLD and MIGRATE -/

theorem RecordsOnly.makeVictim (d : Dev) (b cls cause : Nat) : RecordsOnly d (makeVictim d b cls cause) := by
  unfold Machine.makeVictim
  dsimp only
  split
  · exact ⟨rfl, fun _ _ => rfl⟩
  · split
    · split
      · exact ⟨rfl, fun _ _ => rfl⟩
      · exact .refl d
    · exact .refl d

/-- The start of the counters and the relocation of what rests on failed LUNs move battens alone. -/
theorem RecordsOnly.foldEnd (d : Dev) : RecordsOnly d (restVictims (startCounters d)) :=
  RecordsOnly.trans (d' := startCounters d) ⟨rfl, fun _ _ => rfl⟩ (RecordsOnly.foldl _ _ fun _ _ => .makeVictim ..)

theorem enterResume_none {d : Dev} (h : resumeOp? d = none) (hm : d.hub.safeMode = false) :
    enterResume d = raise (wrs d [(F.GLB_STAT_RECOVERED, 1), (F.GLB_STAT_RSTAGE, 0)]) 0 9 := by
  have hsafe : (raise (wrs d [(F.GLB_STAT_RECOVERED, 1), (F.GLB_STAT_RSTAGE, 0)]) 0 9).hub.safeMode = false := by
    have hraise := (ChangesOnly.raise (wrs d [(F.GLB_STAT_RECOVERED, 1), (F.GLB_STAT_RSTAGE, 0)]) 0 9).others
    exact (congrArg (fun d => d.hub.safeMode) hraise).trans hm
  unfold enterResume
  rw [h]
  dsimp only
  unfold recoverDone
  exact if_neg (by rw [hsafe]; decide)

theorem folded {s : State} (bad : List (Nat × Nat × Nat)) (failed : List (Nat × Nat)) (hs : inStage s.dev 5 = true) {d1 : Dev} (hf : foldAll s.dev bad failed = some d1) :
    Gives (.foldDone bad failed) s (fun d =>
      d = enterMigrate (restVictims (startCounters
        { d1 with med := { d1.med with t0 := s.dev.sys.time, ptlStart := s.dev.sys.time - s.dev.med.ptlSpent } })) ∧
      (rdB d1 F.FWU_STATE_MIGPEND = true → rd d F.GLB_STAT_RSTAGE = 6) ∧
      (rdB d1 F.FWU_STATE_MIGPEND = false → resumeOp? d1 = none → d1.hub.safeMode = false →
        rd d F.GLB_STAT_RECOVERED = 1 ∧ rd d F.GLB_STAT_RSTAGE = 0 ∧ evtSet d 0 9 = true)) := by
  have hexec : exec (.foldDone bad failed) s = finish s (guardDev (inStage s.dev 5) s.dev (enterMigrate (restVictims (startCounters
      { d1 with med := { d1.med with t0 := s.dev.sys.time, ptlStart := s.dev.sys.time - s.dev.med.ptlSpent } })))) := by
    show execFoldDone bad failed s = _
    unfold execFoldDone
    dsimp only
    rw [hf]
  have hrec := RecordsOnly.foldEnd { d1 with med := { d1.med with t0 := s.dev.sys.time, ptlStart := s.dev.sys.time - s.dev.med.ptlSpent } }
  have hpend : rdB (restVictims (startCounters { d1 with med := { d1.med with t0 := s.dev.sys.time, ptlStart := s.dev.sys.time - s.dev.med.ptlSpent } }))
      F.FWU_STATE_MIGPEND = rdB d1 F.FWU_STATE_MIGPEND := congrArg (fun n => n == 1) (rd_congr F.FWU_STATE_MIGPEND (hrec.words 0xD040 (by decide)))
  have hresume : resumeOp? (restVictims (startCounters { d1 with med := { d1.med with t0 := s.dev.sys.time, ptlStart := s.dev.sys.time - s.dev.med.ptlSpent } })) =
      resumeOp? d1 := (hrec.keeps resumeOp? fun _ => rfl).trans rfl
  have hsafe : (restVictims (startCounters { d1 with med := { d1.med with t0 := s.dev.sys.time, ptlStart := s.dev.sys.time - s.dev.med.ptlSpent } })).hub.safeMode =
      d1.hub.safeMode := (hrec.keeps (fun d => d.hub.safeMode) fun _ => rfl).trans rfl
  generalize restVictims (startCounters { d1 with med := { d1.med with t0 := s.dev.sys.time, ptlStart := s.dev.sys.time - s.dev.med.ptlSpent } }) = e
    at hexec hpend hresume hsafe
  refine gives_of_guard hexec hs ⟨rfl, fun hp => ?_, fun hp hr hm => ?_⟩ <;> rw [enterMigrate, hpend, hp]
  · exact rd_wr_same _ _ _ (by decide)
  · rw [if_neg (by decide), enterResume_none (hresume.trans hr) (hsafe.trans hm)]
    refine ⟨?_, ?_, evtSet_raise_same _ _ (by decide)⟩ <;> rw [rd_raise _ _ _ _ (by decide)] <;>
      simp (disch := decide) only [wrs, List.foldl_cons, List.foldl_nil, rd_wr_same, rd_wr_apart] <;> rfl

theorem migrateStep {s : State} (permille : Nat) (hs : inStage s.dev 6 = true) : let target := (bankHdr s.dev (rd s.dev F.FWA_BANK_EXEC)).fver
    let p : Progress := { op := 4, step := (s.dev.med.nand.mig.map Progress.step).getD 0 + 1, permille := min permille 1000, action := target }
    let d0 := sysPut (modNand s.dev (fun n => { n with mig := some p })) [recKey 7 4]
    Gives (.migrateStepDone permille false) s (fun d => rd d F.FWU_MIGPROG_PERMILLE = min permille 1000 ∧ d.med.nand.mig = some p ∧
      ChangesOnly [0xD06C] [] d0 d) := by
  intro target p d0
  have hmig : d0.med.nand.mig = some p := (RecordsOnly.sysPut (modNand s.dev (fun n => { n with mig := some p })) [recKey 7 4]).keeps
    (fun d => d.med.nand.mig) fun _ => rfl
  refine gives_of_guard (d' := wr d0 F.FWU_MIGPROG_PERMILLE (min permille 1000)) (b := inStage s.dev 6) rfl hs
    ⟨?_, hmig, ChangesOnly.wr d0 F.FWU_MIGPROG_PERMILLE _⟩
  rw [rd_wr_same _ _ _ (by decide)]
  show min permille 1000 % 2 ^ 10 = _
  omega

theorem migrateLast {s : State} (permille : Nat) (hs : inStage s.dev 6 = true) : let target := (bankHdr s.dev (rd s.dev F.FWA_BANK_EXEC)).fver
    Gives (.migrateStepDone permille true) s (fun d =>
      let d2 := raise (wrs (sysPut (modNand s.dev (fun n => { n with fver := target, mig := none })) [recKey 1 0, recKey 7 4])
        [(F.FWU_MFVER_FVER, target), (F.FWU_STATE_MIGPEND, 0), (F.FWU_MIGPROG_PERMILLE, 1000)]) 0xD 13
      d = enterResume d2 ∧ d2.med.nand.fver = target ∧ rd d2 F.FWU_STATE_MIGPEND = 0 ∧ rd d2 F.FWU_MIGPROG_PERMILLE = 1000 ∧ evtSet d2 0xD 13 = true) := by
  intro target
  have hfver : (sysPut (modNand s.dev (fun n => { n with fver := target, mig := none })) [recKey 1 0, recKey 7 4]).med.nand.fver = target :=
    (RecordsOnly.sysPut _ _).keeps (fun d => d.med.nand.fver) fun _ => rfl
  have hexec : exec (.migrateStepDone permille true) s = finish s (guardDev (inStage s.dev 6) s.dev
      (enterResume (raise (wrs (sysPut (modNand s.dev (fun n => { n with fver := target, mig := none })) [recKey 1 0, recKey 7 4])
        [(F.FWU_MFVER_FVER, target), (F.FWU_STATE_MIGPEND, 0), (F.FWU_MIGPROG_PERMILLE, 1000)]) 0xD 13))) := rfl
  refine gives_of_guard hexec hs ?_
  generalize sysPut (modNand s.dev (fun n => { n with fver := target, mig := none })) [recKey 1 0, recKey 7 4] = e at hfver
  refine ⟨rfl, ?_, ?_, ?_, evtSet_raise_same _ _ (by decide)⟩
  · rw [raise_med]
    exact hfver
  · rw [rd_raise _ _ _ _ (by decide)]
    simp (disch := decide) only [wrs, List.foldl_cons, List.foldl_nil, rd_wr_same, rd_wr_apart]
    rfl
  · rw [rd_raise _ _ _ _ (by decide)]
    simp (disch := decide) only [wrs, List.foldl_cons, List.foldl_nil, rd_wr_same]
    rfl

/-- Settles O46. -/
theorem recoverStagesFollow : Obligations.RecoverStagesFollow := by
  refine ⟨fun d n hn => toStage_shows d hn, fun s results hs hr => ?train, fun s media hs hq => ⟨fun code off hf => ?bad, fun hf => ?good⟩,
    fun s bad hs => ?replay, fun s bad hs => ?scan, fun s bad failed hs => ⟨fun hf => ?wait, fun d1 hf => folded bad failed hs hf⟩, fun s permille hs =>
      ⟨migrateStep permille hs, migrateLast permille hs⟩⟩
  case train => exact gives_of_guard (c := .trainStageDone results) rfl (by rw [hs, hr]; rfl) rfl
  case bad =>
    have hexec : exec (.verifyDone media) s = finish s (guardDev (inStage s.dev 2 && catchQuiet s.dev) s.dev (mediaFail s.dev code off)) := by
      show execVerifyDone media s = _
      unfold execVerifyDone
      dsimp only
      rw [hf]
    obtain ⟨hmode, hstage, hstate, hcode⟩ := mediaFail_shows s.dev code off
    exact gives_of_guard hexec (by rw [hs, hq]; rfl) ⟨rfl, hmode, hstage, hstate, hcode⟩
  case good =>
    have hexec : exec (.verifyDone media) s = finish s (guardDev (inStage s.dev 2 && catchQuiet s.dev) s.dev
        (releaseHeld (toStage (lunsChanged (verified s.dev media)) 3))) := by
      show execVerifyDone media s = _
      unfold execVerifyDone
      dsimp only
      rw [hf]
    exact gives_of_guard hexec (by rw [hs, hq]; rfl) rfl
  case replay => exact replayed hs rfl rfl
  case scan => exact scanned hs
  case wait =>
    have hexec : exec (.foldDone bad failed) s = finish s (guardDev (inStage s.dev 5) s.dev s.dev) := by
      show execFoldDone bad failed s = _
      unfold execFoldDone
      dsimp only
      rw [hf]
    exact gives_of_guard hexec hs rfl

end Sys2Proof.Machine
end

section
/-!
PROOFS. Data commands: writes, their pulls and their seals (R26, R27, R146, R149, R150, R221).
-/
namespace Sys2Proof.Machine

/-! ### Commands -/

theorem cmdOf?_congr {d d' : Dev} (h : d'.cmds = d.cmds) (q : Nat) : cmdOf? d' q = cmdOf? d q := by rw [cmdOf?, h]; rfl

theorem cmdOf?_seq {d : Dev} {q : Nat} {c : Cmd} (h : cmdOf? d q = some c) : c.seq = q := by simpa using List.find?_some h

theorem cmdOf?_modCmd (d : Dev) (q : Nat) {f : Cmd → Cmd} (hf : ∀ x, (f x).seq = x.seq) : cmdOf? (modCmd d q f) q = (cmdOf? d q).map f := by
  have hlist : (modCmd d q f).cmds.list = d.cmds.list.map (fun x => if x.seq == q then f x else x) := rfl
  rw [cmdOf?, hlist, List.find?_map, cmdOf?]
  have hp : ((fun c => c.seq == q) ∘ fun x => if (x.seq == q) = true then f x else x) = fun c : Cmd => c.seq == q := by
    funext x
    show ((if (x.seq == q) = true then f x else x).seq == q) = (x.seq == q)
    split
    · rw [hf]
    · rfl
  rw [hp]
  cases h : d.cmds.list.find? (fun c => c.seq == q) with
  | none => rfl
  | some x => exact congrArg some (if_pos (List.find?_some h))

/-! ### Pausing and issuing -/

theorem pauseCmd_med (d : Dev) (c : Cmd) (patch transfer : Bool) : (pauseCmd d c patch transfer).med = d.med := by
  have hflag (b : Bool) (x : Dev) (f : Fld) (p e : Nat) : (if b then raise (wr x f 1) p e else x).med = x.med := by
    cases b
    · rfl
    · exact raise_med ..
  exact (hflag ..).trans (hflag ..)

theorem cmdOf?_pauseCmd {d : Dev} {c x : Cmd} (h : cmdOf? d c.seq = some x) (patch transfer : Bool) :
    cmdOf? (pauseCmd d c patch transfer) c.seq = some { x with stage := .paused } := by
  have hflag (b : Bool) (x : Dev) (f : Fld) (p e : Nat) : (if b then raise (wr x f 1) p e else x).cmds = x.cmds := by
    cases b
    · rfl
    · exact raise_cmds ..
  have hcmds : (pauseCmd d c patch transfer).cmds = (modCmd d c.seq (fun x => { x with stage := .paused })).cmds := (hflag ..).trans (hflag ..)
  rw [cmdOf?_congr hcmds, cmdOf?_modCmd d c.seq (f := fun x => { x with stage := .paused }) fun _ => rfl, h]
  rfl

/-- A transfer that waits for ring space shows it, once it was not waiting already. -/
theorem pauseCmd_transfer (d : Dev) {c : Cmd} (h : c.stage ≠ .paused) (patch : Bool) :
    evtSet (pauseCmd d c patch true) 0x1F 9 = true ∧ rd (pauseCmd d c patch true) F.BUF_STAT_PAUSE = 1 := by
  unfold pauseCmd
  dsimp only
  rw [if_pos (by simpa using h)]
  exact ⟨evtSet_raise_same _ _ (by decide), (rd_raise _ _ _ _ (by decide)).trans (rd_wr_same _ _ _ (by decide))⟩

/-- A transfer that waits for patch space shows it. -/
theorem pauseCmd_patch (d : Dev) (c : Cmd) : rd (pauseCmd d c true true) F.MAP_STAT_PFULL = 1 ∧
    (rd d F.MAP_STAT_PFULL = 0 → evtSet (pauseCmd d c true true) 0x20 8 = true) := by
  have hlast (b : Bool) (x : Dev) : rd (if b then raise (wr x F.BUF_STAT_PAUSE 1) 0x1F 9 else x) F.MAP_STAT_PFULL = rd x F.MAP_STAT_PFULL ∧
      (evtSet x 0x20 8 = true → evtSet (if b then raise (wr x F.BUF_STAT_PAUSE 1) 0x1F 9 else x) 0x20 8 = true) := by
    cases b
    · exact ⟨rfl, id⟩
    · exact ⟨(rd_raise _ _ _ _ (by decide)).trans (rd_wr_off _ _ _ _ (by decide)), fun h => evtSet_raise_of_set _ _ h⟩
  unfold pauseCmd
  dsimp only
  obtain ⟨hrd, hevt⟩ := hlast (true && !(c.stage == .paused)) (if true && !rdB (modCmd d c.seq (fun x => { x with stage := .paused })) F.MAP_STAT_PFULL then
    raise (wr (modCmd d c.seq (fun x => { x with stage := .paused })) F.MAP_STAT_PFULL 1) 0x20 8 else modCmd d c.seq (fun x => { x with stage := .paused }))
  refine ⟨hrd.trans ?_, fun h0 => hevt ?_⟩
  · split
    · exact (rd_raise _ _ _ _ (by decide)).trans (rd_wr_same _ _ _ (by decide))
    · next h => simpa [rdB] using h
  · rw [if_pos (by simp [rdB]; exact fun h => absurd (h.symm.trans h0) (by decide))]
    exact evtSet_raise_same _ _ (by decide)

theorem issueNext_med (d : Dev) (q : Nat) : (issueNext d q).med = d.med := by
  unfold issueNext
  split
  · rfl
  · dsimp only
    split
    · rfl
    · split
      · exact pauseCmd_med ..
      · split
        · rfl
        · exact pauseCmd_med ..

/-- A command that may issue its next portion does so, or pauses for patch space or for ring space. -/
theorem issueNext_eq {d : Dev} {q : Nat} {c : Cmd} (hc : cmdOf? d q = some c) (hp : c.prog.issued ≤ c.prog.pulled)
    (hf : cOpc c = opFILL → c.prog.issued ≤ c.prog.done) (he : cLen c > 256 → c.ending = none) (hn : c.prog.issued < cPortions c) (ho : c.orphan = false)
    (hr : ((seatOf? d c.seat).bind Seat.reapAt).isSome = false) (hh : c.prog.issued = 0 → d.cmds.activating = false ∧ d.cmds.reopening = false) :
    issueNext d q = if patchWait d c c.prog.issued then pauseCmd d c true true
      else if roomFor d c (portBytes c c.prog.issued) then modCmd d q (fun x => { x with
        stage := .run
        prog := { x.prog with
          issued := c.prog.issued + 1, pulled := if cOpc c == opFILL then c.prog.issued + 1 else x.prog.pulled,
          data := if cOpc c == opFILL then List.replicate (portLen (cLba c) (cLen c) c.prog.issued) (fillBlock (cOp c 0) (cOp c 1)) else x.prog.data } })
      else pauseCmd d c false true := by
  have hfree : ¬ (decide (c.prog.issued > c.prog.pulled) || (cOpc c == opFILL && decide (c.prog.issued > c.prog.done)) || (decide (cLen c > 256) && c.ending.isSome)
      || decide (c.prog.issued ≥ cPortions c) || (((seatOf? d c.seat).bind Seat.reapAt).isSome || c.orphan)
      || (c.prog.issued == 0 && (d.cmds.activating || d.cmds.reopening))) = true := by
    rw [hr, ho]
    simp only [Bool.or_eq_true, Bool.and_eq_true, decide_eq_true_eq, beq_iff_eq, Bool.false_eq_true, or_false, not_or, not_and]
    refine ⟨⟨⟨⟨by omega, fun h => by have := hf h; omega⟩, fun h => by simp [he h]⟩, by omega⟩, fun h => ?_⟩
    obtain ⟨ha, hb⟩ := hh h
    simp [ha, hb]
  unfold issueNext
  rw [hc]
  exact if_neg hfree

theorem issueNext_cases {d : Dev} {seq : Nat} {c : Cmd} (hc : cmdOf? d seq = some c) (hq : c.seq = seq) (hp : c.prog.issued ≤ c.prog.pulled)
    (hf : cOpc c = opFILL → c.prog.issued ≤ c.prog.done) (he : cLen c > 256 → c.ending = none) (hn : c.prog.issued < cPortions c) (ho : c.orphan = false)
    (hr : ((seatOf? d c.seat).bind Seat.reapAt).isSome = false) (hh : c.prog.issued = 0 → d.cmds.activating = false ∧ d.cmds.reopening = false) :
    (patchWait d c c.prog.issued = true → (∃ x, cmdOf? (issueNext d seq) seq = some x ∧ x.stage = .paused ∧ x.prog = c.prog) ∧
      rd (issueNext d seq) F.MAP_STAT_PFULL = 1 ∧ (rd d F.MAP_STAT_PFULL = 0 → evtSet (issueNext d seq) 0x20 8 = true)) ∧
    (patchWait d c c.prog.issued = false → roomFor d c (portBytes c c.prog.issued) = true → ∃ x, cmdOf? (issueNext d seq) seq = some x ∧ x.stage = .run ∧
      x.prog.issued = c.prog.issued + 1 ∧ (cOpc c = opFILL → x.prog.pulled = c.prog.issued + 1)) ∧
    (patchWait d c c.prog.issued = false → roomFor d c (portBytes c c.prog.issued) = false → (∃ x, cmdOf? (issueNext d seq) seq = some x ∧ x.stage = .paused ∧ x.prog = c.prog) ∧
      (c.stage ≠ .paused → evtSet (issueNext d seq) 0x1F 9 = true ∧ rd (issueNext d seq) F.BUF_STAT_PAUSE = 1)) := by
  subst hq
  rw [issueNext_eq hc hp hf he hn ho hr hh]
  refine ⟨fun hw => ?_, fun hw hroom => ?_, fun hw hroom => ?_⟩
  · rw [if_pos hw]
    exact ⟨⟨_, cmdOf?_pauseCmd hc .., rfl, rfl⟩, pauseCmd_patch d c⟩
  · rw [if_neg (by simp [hw]), if_pos hroom]
    refine ⟨_, (cmdOf?_modCmd d c.seq fun x => ?_).trans (congrArg (Option.map _) hc), ?_, ?_, ?_⟩
    · rfl
    · rfl
    · rfl
    · intro hfill
      exact if_pos (by simp [hfill])
  · rw [if_neg (by simp [hw]), if_neg (by simp [hroom])]
    exact ⟨⟨_, cmdOf?_pauseCmd hc .., rfl, rfl⟩, fun h => pauseCmd_transfer d h false⟩

/-! ### The rows -/

theorem startWrite_med (d : Dev) (c : Cmd) : (startWrite d c).med = { d.med with nextTx := (d.med.nextTx + 1) % 2 ^ 32 } := by
  have hflags (x : Dev) : (pauseFlags x).med = x.med := by
    unfold pauseFlags
    dsimp only
    split <;> rfl
  exact (hflags _).trans (issueNext_med ..)

theorem exec_dataPull {s : State} {seat tag : Nat} {c : Cmd} (res : PullRes)
    (hc : runCmd? s.dev seat tag (fun c => (isDataWrite c && !(cOpc c == opFILL)) || cOpc c == opVERIFY) = some c) :
    exec (.dataPullComplete seat tag res) s = finish s (guardDev (dataPull c && pullTurn s.dev c && (match res with
        | .fail cause => 1 ≤ cause && cause ≤ 6
        | .ok data _ => data.length == portLen (cLba c) (cLen c) c.prog.pulled)) s.dev (afterWork (match res with
        | .fail cause => pullFailed (pullServed s.dev c) c cause
        | .ok data crcOk => if crcOk then pullDone (pullServed s.dev c) c data else pullFailed (pullServed s.dev c) c 5))) := by
  show execDataPullComplete seat tag res s = _
  unfold execDataPullComplete
  dsimp only
  rw [hc] <;> cases res <;> rfl

/-- A failed pull of a write ends it with BUS_ERROR and the cause; a bad CRC is logged first. -/
theorem pullFailed_write {c : Cmd} (d : Dev) {cause : Nat} (hw : isDataWrite c = true) :
    pullFailed d c cause = endWriteAt (if cause == 5 then logCourse d c stBUS else d) c.seq stBUS cause := if_pos hw

theorem pulls {s : State} {seat tag : Nat} {c : Cmd}
    (hc : runCmd? s.dev seat tag (fun c => (isDataWrite c && !(cOpc c == opFILL)) || cOpc c == opVERIFY) = some c)
    (hw : isDataWrite c = true) (hp : dataPull c = true) (ht : pullTurn s.dev c = true) : let d0 := pullServed s.dev c
    (∀ data, data.length = portLen (cLba c) (cLen c) c.prog.pulled →
      Gives (.dataPullComplete seat tag (.ok data true)) s (fun d => d = afterWork (issueNext (modCmd d0 c.seq
        (fun x => { x with prog := { x.prog with pulled := x.prog.pulled + 1, data := x.prog.data ++ data } })) c.seq)) ∧
      Gives (.dataPullComplete seat tag (.ok data false)) s (fun d => d = afterWork (endWriteAt (logCourse d0 c stBUS) c.seq stBUS 5))) ∧
    ∀ cause, 1 ≤ cause → cause ≤ 4 → Gives (.dataPullComplete seat tag (.fail cause)) s (fun d => d = afterWork (endWriteAt d0 c.seq stBUS cause)) := by
  intro d0
  refine ⟨fun data hlen => ⟨?_, ?_⟩, fun cause h1 h4 => ?_⟩
  · exact gives_of_guard (exec_dataPull (.ok data true) hc) (by simp [hp, ht, hlen]) (congrArg afterWork (if_pos hw))
  · exact gives_of_guard (exec_dataPull (.ok data false) hc) (by simp [hp, ht, hlen]) (congrArg afterWork (pullFailed_write _ hw))
  · refine gives_of_guard (exec_dataPull (.fail cause) hc) (by simp [hp, ht, h1]; omega) (congrArg afterWork ((pullFailed_write _ hw).trans ?_))
    rw [if_neg (by simp; omega)]

theorem exec_sealComplete {s : State} {seat tag : Nat} {c : Cmd} (hc : runCmd? (voteAll s.dev) seat tag isWriteKind = some c) (ho : cOpc c ≠ opDISCARD) :
    exec (.sealComplete seat tag) s = finish s (guardDev (sealReady (voteAll s.dev) c && !clockHeld (voteAll s.dev) 2 &&
      (contractWrite (voteAll s.dev) c || coreTurn (voteAll s.dev) 0 (portionInv (voteAll s.dev) c c.prog.done))) (voteAll s.dev)
      (afterWork (coreServed (writeNext (sealPortion (if contractWrite (voteAll s.dev) c then voteAll s.dev
        else coreTake (voteAll s.dev) 0 (portionInv (voteAll s.dev) c c.prog.done)) c) c.seq)))) := by
  show execSealComplete seat tag s = _
  unfold execSealComplete
  dsimp only
  rw [hc]
  exact congrArg (finish s) (if_neg (by simpa using ho))

theorem exec_transferResume {s : State} {seat tag : Nat} {c : Cmd} (hc : runCmd? s.dev seat tag (fun c => c.stage == .paused) = some c) :
    exec (.transferResume seat tag) s = finish s (guardDev (isStarted c || (!s.dev.cmds.activating && !s.dev.cmds.reopening && !seatReaps s.dev c)) s.dev
      (afterData (if cOpc c == opDISCARD then discardGo s.dev c else issueNext s.dev c.seq))) := by
  show execTransferResume seat tag s = _
  unfold execTransferResume
  dsimp only
  rw [hc]

/-- Settles O47. -/
theorem writesRun : Obligations.WritesRun := by
  refine ⟨?start, ?issue, ?pull, ?sealed, ?resume⟩
  case start =>
    intro s seat tag row opc c hrow hc
    have hmed := startWrite_med s.dev c
    have hexec : exec row s = finish s (startWrite s.dev c) := by
      simp only [List.mem_cons, List.not_mem_nil, or_false, Prod.mk.injEq] at hrow
      rcases hrow with ⟨rfl, rfl⟩ | ⟨rfl, rfl⟩ | ⟨rfl, rfl⟩
      · show execWrite seat tag s = _
        unfold execWrite
        dsimp only
        rw [hc]
      · show execWriteFill seat tag s = _
        unfold execWriteFill
        dsimp only
        rw [hc]
      · show execGatherWrite seat tag s = _
        unfold execGatherWrite
        dsimp only
        rw [hc]
    exact ⟨_, hexec, rfl, congrArg Med.nextTx hmed, (congrArg Med.ring hmed).trans rfl, (congrArg Med.nand hmed).trans rfl⟩
  case issue =>
    intro d seq c hc hq hp hf he hn ho hr hh
    exact issueNext_cases hc hq hp hf he hn ho hr hh
  case pull =>
    intro s seat tag c hc hw hp ht
    exact pulls hc hw hp ht
  case sealed =>
    intro s seat tag c v n hc ho hready
    refine ⟨fun hk hclk => ?_, fun hk hturn => ?_⟩
    · exact gives_of_guard (exec_sealComplete hc ho) (by rw [hready, hclk, hk]; rfl) (by rw [if_pos hk])
    · have hclk : clockHeld v 2 = false := by
        have h := hturn
        unfold coreTurn at h
        simp only [Bool.and_eq_true, Bool.not_eq_true'] at h
        exact h.1.1
      exact gives_of_guard (exec_sealComplete hc ho) (by rw [hready, hclk, hk, hturn]; rfl) (by rw [if_neg (Bool.eq_false_iff.1 hk)])
  case resume =>
    intro s seat tag c hc
    refine ⟨fun h => gives_of_guard (exec_transferResume hc) ?_ ⟨fun ho => ?_, fun ho => ?_⟩, fun hst h => ?_⟩
    · rcases h with h | ⟨h1, h2, h3⟩
      · simp [h]
      · simp [h1, h2, h3]
    · rw [if_neg (by simpa using ho)]
      rfl
    · rw [if_pos (by simpa using ho)]
      rfl
    · have hshut : (isStarted c || (!s.dev.cmds.activating && !s.dev.cmds.reopening && !seatReaps s.dev c)) = false := by
        rcases h with h | h | h <;> simp [hst, h]
      have hexec := exec_transferResume hc
      rw [hshut] at hexec
      exact ⟨_, hexec, rfl⟩

end Sys2Proof.Machine
end

section
/-!
PROOFS. Reads and verifications, FLUSH, DISCARD and ABORT (R31, R147, R148, R151, R154, R159, R163, R259, R329, R343, R344).
-/
namespace Sys2Proof.Machine

/-! ### Completions leave the rest -/

theorem completeOne_keeps {α : Type} (g : Dev → α) (hg : ∀ (d : Dev) t p l k, g { d with seats := t, pci := p, out := l, cmds := k } = g d) (d : Dev) (c : Cmd)
    (status result courses : Nat) (pb : Bool) : g (completeOne d c status result courses pb) = g d := by
  have hlist (x : Dev) (f : List Cmd → List Cmd) : g (modCmds x f) = g x := hg x x.seats x.pci x.out _
  unfold completeOne
  dsimp only
  split
  · exact hlist ..
  · split
    · exact hlist ..
    · refine (drainCq_keeps g (fun d t p l => hg d t p l d.cmds) _ _ _).trans ?_
      exact hg d _ d.pci d.out _

theorem complete_keeps {α : Type} (g : Dev → α) (hg : ∀ (d : Dev) t p l k, g { d with seats := t, pci := p, out := l, cmds := k } = g d) (d : Dev) (c : Cmd)
    (status result courses : Nat) (pb : Bool) : g (complete d c status result courses pb) = g d := by
  unfold complete
  refine (foldl_keeps g _ _ fun x a => ?_).trans (completeOne_keeps g hg ..)
  split
  · exact completeOne_keeps g hg ..
  · rfl

/-- A completion takes the command off the list, and puts none on it. -/
theorem completeOne_list (d : Dev) (c : Cmd) (status result courses : Nat) (pb : Bool) :
    (completeOne d c status result courses pb).cmds.list = d.cmds.list.filter (fun x => !(x.seq == c.seq)) := by
  unfold completeOne
  dsimp only
  split
  · rfl
  · split
    · rfl
    · exact drainCq_keeps (fun d => d.cmds.list) (fun _ _ _ _ => rfl) _ _ _

theorem complete_last {d : Dev} {c : Cmd} (h : ∀ x ∈ d.cmds.list, x.seq = c.seq) (status result courses : Nat) (pb : Bool) :
    (complete d c status result courses pb).cmds.list = [] := by
  unfold complete
  refine foldl_induct (P := fun y : Dev => y.cmds.list = []) _ ?_ fun a y _ hy => ?_
  · rw [completeOne_list, List.filter_eq_nil_iff]
    simpa using h
  · split
    · rw [completeOne_list, hy, List.filter_nil]
    · exact hy

/-! ### Reads -/

theorem releasePort_read {c : Cmd} (hr : cOpc c = opREAD) (d : Dev) (data : List Block) : releasePort d c data =
    (modCmd (emit d (.push c.seat c.tag (portOffset c c.prog.done) data)) c.seq
      (fun x => { x with prog := { x.prog with done := c.prog.done + 1, data := [] } }), true) := by
  unfold releasePort
  dsimp only
  rw [if_neg (by rw [hr]; decide)]

theorem readOn_done {d : Dev} {n seq : Nat} {c : Cmd} (hc : cmdOf? d seq = some c) (he : c.ending = none) (hd : cPortions c ≤ c.prog.done) :
    readOn (n + 1) d seq = succeed d c := by
  unfold readOn
  simp only [hc, he, ite_self]
  exact if_pos hd

theorem readOn_next {d : Dev} {n seq : Nat} {c : Cmd} (hc : cmdOf? d seq = some c) (he : c.ending = none) (hd : c.prog.done < cPortions c)
    (hr : cOpc c = opREAD) : readOn (n + 1) d seq =
    if (piecesOf d.med.m (portKey c c.prog.done) (portFirst c c.prog.done) (portLen (cLba c) (cLen c) c.prog.done)).1.isEmpty then
      readOn n (modCmd (emit d (.push c.seat c.tag (portOffset c c.prog.done) (List.replicate (portLen (cLba c) (cLen c) c.prog.done) 0))) c.seq
        (fun x => { x with prog := { x.prog with done := c.prog.done + 1, data := [] } })) seq
    else newJob d (.host seq) 4 (portKey c c.prog.done)
      (piecesOf d.med.m (portKey c c.prog.done) (portFirst c c.prog.done) (portLen (cLba c) (cLen c) c.prog.done)).1
      (piecesOf d.med.m (portKey c c.prog.done) (portFirst c c.prog.done) (portLen (cLba c) (cLen c) c.prog.done)).2 := by
  have hv : (cOpc c == opVERIFY) = false := by rw [hr]; decide
  rw [readOn]
  simp only [hc, he, ite_self, hv, Bool.false_and, Bool.false_eq_true, if_false]
  rw [if_neg (by omega), releasePort_read hr]
  simp only [if_true]

/-- An extent whose tag check fails ends a READ that holds its data with AUTH_FAIL, counted and logged. -/
theorem decryptPort_altered {d : Dev} {c : Cmd} {j : ReadJob} (hj : j.exts ≠ []) (hk : ∀ e ∈ j.exts, (openSlot? d e).isSome = true ∨ e.tag.dmg = true)
    (hr : cOpc c = opREAD) (hh : cHold c = true) : decryptPort d c j true =
      complete (logCourse (raise (satAdd (dropJob d j.id) F.CRY_AUTHF_COUNT 1) 0x70 8) c stAUTH) c stAUTH (portOffset c c.prog.done) := by
  have habs : ¬ j.exts.any (fun e => (openSlot? d e).isNone && !e.tag.dmg) = true := by
    rw [List.any_eq_true]
    rintro ⟨e, he, h⟩
    rcases hk e he with h' | h' <;> simp [h', ← Option.not_isSome] at h
  have hall (p : Extent → Bool) : ¬ j.exts.all (fun e => !true && p e) = true := by
    obtain ⟨e, l, he⟩ := List.exists_cons_of_ne_nil hj
    simp [he]
  unfold decryptPort
  dsimp only
  rw [if_neg habs, if_neg (hall _)]
  exact if_neg (by rw [hr, hh]; decide)

theorem exec_decryptComplete {s : State} {seat tag : Nat} {c : Cmd} {j : ReadJob} (altered : Bool) (hc : runCmd? (voteAll s.dev) seat tag isReadKind = some c)
    (hj : hostJob? (voteAll s.dev) c.seq = some j) : exec (.decryptComplete seat tag altered) s = finish s
      (guardDev (jobRead j && !jobUnreadable j && pushable (voteAll s.dev) c && coreTurn (voteAll s.dev) 1 (jobInv j)) (voteAll s.dev)
        (afterWork (coreServed (decryptPort (coreTake (voteAll s.dev) 1 (jobInv j)) c j altered)))) := by
  show execDecryptComplete seat tag altered s = _
  unfold execDecryptComplete
  dsimp only
  rw [hc]
  dsimp only
  rw [hj]

/-- Settles O48. -/
theorem readsRun : Obligations.ReadsRun := by
  refine ⟨?start, ?next, ?decrypted, ?pulled, fun d c j hj hk hr hh => decryptPort_altered hj hk hr hh, ?zeroed⟩
  case start =>
    intro s seat tag row opc c hrow hc
    have hexec : exec row s = finish s (afterWork (readGo (modCmd s.dev c.seq (fun x => { x with stage := .run })) c)) := by
      simp only [List.mem_cons, List.not_mem_nil, or_false, Prod.mk.injEq] at hrow
      rcases hrow with ⟨rfl, rfl⟩ | ⟨rfl, rfl⟩
      · show execRead seat tag s = _
        unfold execRead
        dsimp only
        rw [hc]
      · show execVerify seat tag s = _
        unfold execVerify
        dsimp only
        rw [hc]
    exact ⟨_, hexec, rfl⟩
  case next =>
    intro d n seq c hc he
    refine ⟨fun hd => readOn_done hc he hd, fun hd hr => ⟨fun hp => ?_, fun hp => ?_⟩⟩ <;> rw [readOn_next hc he hd hr]
    · exact if_pos (by rw [hp]; rfl)
    · exact if_neg (by simpa using hp)
  case decrypted =>
    intro s seat tag altered c j v hc hj hread hbad hpush hturn
    exact gives_of_guard (exec_decryptComplete altered hc hj) (by rw [hread, hbad, hpush, hturn]; rfl) rfl
  case pulled =>
    intro s seat tag c data hc hv hp ht hlen
    have hw : ¬ isDataWrite c = true := by
      unfold isDataWrite
      rw [hv]
      decide
    exact gives_of_guard (exec_dataPull (.ok data true) hc) (by simp [hp, ht, hlen]) (congrArg afterWork (if_neg hw))
  case zeroed =>
    intro s seat tag c hc
    have hexec (ok : Bool) : exec (.zeroingReadComplete seat tag ok) s = finish s (afterWork (complete (if ok then s.dev
        else raiseArgs (satAdd s.dev F.CRY_ZFAIL_COUNT 1) 0x70 9
          (((hostSpans c (4096 * c.aux) (4096 * portLen (cLba c) (cLen c) c.prog.done)).take 3).flatMap
            (fun z => [BitVec.ofNat 32 z.1, BitVec.ofNat 32 (z.1 / 2 ^ 32), BitVec.ofNat 32 z.2]))) c stAUTH c.aux)) := by
      show execZeroingReadComplete seat tag ok s = _
      unfold execZeroingReadComplete
      dsimp only
      rw [hc]
    exact ⟨⟨_, hexec true, rfl⟩, ⟨_, hexec false, rfl⟩⟩

/-! ### FLUSH -/

theorem readyCmd?_opc {d : Dev} {seat tag opc : Nat} {c : Cmd} (h : readyCmd? d seat tag opc = some c) : cOpc c = opc := by
  unfold readyCmd? at h
  split at h
  · cases h
  · split at h
    · split at h
      · next hc =>
        cases h
        simp only [Bool.and_eq_true, beq_iff_eq] at hc
        exact hc.1.1.2
      · cases h
    · cases h

theorem flushPush_ring {d : Dev} (h : d.med.ring = []) : flushPush d = d := by
  unfold flushPush
  refine foldl_induct (P := fun y => y = d) _ rfl fun f y _ hy => ?_
  subst hy
  rw [h]
  rfl

theorem flushChunk_none {d : Dev} (h : d.med.deltas = []) : flushChunk d = d := by
  unfold flushChunk
  rw [h]
  exact if_neg (by simp)

/-- With one FLUSH as the only command and nothing that it covers, the work ends it. -/
theorem flushTry_ends {d : Dev} {f : Cmd} (hl : d.cmds.list = [f]) (ho : cOpc f = opFLUSH) (hs : f.stage = .wait) (hr : d.med.ring = [])
    (hd : d.med.deltas = []) (hk : chunkDeltas d = []) : (flushTry d).cmds.list = [] := by
  have hfl : flushes d = [f] := by
    rw [flushes, hl, List.filter_cons_of_pos (by rw [ho, hs]; rfl), List.filter_nil]
  have hdone : flushDone d f = true := by
    unfold flushDone
    rw [hl, hr, hd, hk]
    simp
  unfold flushTry
  rw [hfl, List.foldl_cons, List.foldl_nil, if_pos hdone]
  exact complete_last (by simp [hl]) ..

theorem closeTry_none {d : Dev} (h : d.cmds.list = []) : closeTry d = d := by
  rw [closeTry, h]
  rfl

theorem pauseFlags_cmds (d : Dev) : (pauseFlags d).cmds = d.cmds := by
  unfold pauseFlags
  dsimp only
  split <;> rfl

theorem gives_flush {s : State} {seat tag : Nat} {c : Cmd} (hc : readyCmd? s.dev seat tag opFLUSH = some c) : Gives (.flush seat tag) s (fun d =>
    d = afterWork (flushChunk (flushPush (modCmd s.dev c.seq (fun x => { x with stage := .wait })))) ∧
    (s.dev.cmds.list = [c] → s.dev.med.ring = [] → s.dev.med.deltas = [] → chunkDeltas s.dev = [] → d.cmds.list = [])) := by
  have hexec : exec (.flush seat tag) s = finish s (afterWork (flushChunk (flushPush (modCmd s.dev c.seq (fun x => { x with stage := .wait }))))) := by
    show execFlush seat tag s = _
    unfold execFlush
    dsimp only
    rw [hc]
  refine ⟨_, hexec, rfl, fun hl hr hd hk => ?_⟩
  have hlist : (modCmd s.dev c.seq (fun x => { x with stage := .wait })).cmds.list = [{ c with stage := .wait }] := by
    show updWhere (fun x => x.seq == c.seq) (fun x => { x with stage := .wait }) s.dev.cmds.list = _
    rw [hl]
    exact congrArg (fun x => [x]) (if_pos (beq_self_eq_true c.seq))
  rw [flushPush_ring (d := modCmd s.dev c.seq (fun x => { x with stage := .wait })) hr, flushChunk_none (d := modCmd s.dev c.seq (fun x => { x with stage := .wait })) hd, afterWork,
    flushPush_ring (d := modCmd s.dev c.seq (fun x => { x with stage := .wait })) hr]
  have hopc : cOpc c = opFLUSH := readyCmd?_opc hc
  have hend := flushTry_ends hlist hopc rfl hr hd hk
  rw [pauseFlags_cmds, closeTry_none hend]
  exact hend

/-! ### DISCARD -/

theorem mapEnt_setCourse (m : MapSt) (k : Nat) (e : MapEnt) : mapEnt (setCourse m k e) k = e ∧ ∀ j, j ≠ k → mapEnt (setCourse m k e) j = mapEnt m j := by
  unfold mapEnt setCourse
  exact ⟨SMap.read_put_same .., fun j hj => SMap.read_put_ne _ _ _ _ _ hj⟩

/-- What a command of one whole course says of its portions. -/
theorem wholeCourse {c : Cmd} (hl : cLen c = 256) (ha : cLba c % 256 = 0) : cPortions c = 1 ∧ wholePort c 0 = true := by
  unfold cPortions wholePort portLen
  rw [hl]
  constructor
  · rw [if_neg (by decide)]
    omega
  · rw [if_pos (by decide), beq_iff_eq]
    omega

/-- A whole course is discarded with no fine entry and no rewriting. -/
theorem wholeCourse_free (d : Dev) {c : Cmd} (hl : cLen c = 256) (ha : cLba c % 256 = 0) : fineWait d c 0 = false ∧ discardRewrites d c 0 = false := by
  obtain ⟨hp, hw⟩ := wholeCourse hl ha
  have hneed : fineNeed d c 0 = 0 := by
    unfold fineNeed
    rw [hp]
    simp [List.range_succ, hw]
  constructor
  · unfold fineWait
    rw [hneed]
    rfl
  · unfold discardRewrites
    rw [hw]
    simp

/-- The device after the one portion of a discarded course. -/
def courseDropped (d : Dev) (c : Cmd) : Dev :=
  modCmd (discardMap d c 0 1) c.seq (fun x => { x with prog := { x.prog with done := 1, eff := x.prog.eff } })

theorem discardOn_course {d : Dev} {c : Cmd} (n : Nat) (hc : cmdOf? d c.seq = some c) (hl : cLen c = 256) (ha : cLba c % 256 = 0) (hd : c.prog.done = 0) :
    discardOn (n + 1) d c.seq = discardOn n (courseDropped d c) c.seq := by
  obtain ⟨hp, hw⟩ := wholeCourse hl ha
  obtain ⟨hfine, hre⟩ := wholeCourse_free d hl ha
  have hsmall : cLen c ≤ 256 := by omega
  rw [discardOn]
  simp only [hc, hd, hp, hfine, hre, hw, hsmall, decide_true, if_true, Bool.not_true, Bool.and_false, Bool.false_and, Bool.false_eq_true, if_false]
  rw [if_neg (by decide)]
  rfl

theorem discardOn_ended {d : Dev} {c : Cmd} (n : Nat) (hc : cmdOf? d c.seq = some c) (hl : cLen c = 256) (ha : cLba c % 256 = 0) (hd : c.prog.done = 1)
    (hs : slotsOf d c.seq = []) : discardOn (n + 1) d c.seq =
      complete (add64 d F.MAP_SEQ 1) c (c.ending.getD stSUCCESS) 0 1 c.ending.isSome := by
  obtain ⟨hp, -⟩ := wholeCourse hl ha
  have hsmall : cLen c ≤ 256 := by omega
  rw [discardOn]
  simp only [hc, hd, hp, hs, hsmall, decide_true, if_true, List.any_nil, Bool.not_true, Bool.false_eq_true, if_false, List.isEmpty_nil]
  rw [if_pos (by decide)]

/-- A discarded whole course: the command completed on the device without the course, with one SEQ taken. -/
theorem discardGo_course {d : Dev} {c : Cmd} (hc : cmdOf? d c.seq = some c) (hl : cLen c = 256) (ha : cLba c % 256 = 0) (hd : c.prog.done = 0)
    (he : c.ending = none) (hs : slotsOf d c.seq = []) : ∃ c', discardGo d c = complete (add64 (courseDropped d c) F.MAP_SEQ 1) c' stSUCCESS 0 1 false := by
  obtain ⟨hp, -⟩ := wholeCourse hl ha
  have hc' : cmdOf? (courseDropped d c) c.seq = some { c with prog := { c.prog with done := 1, eff := c.prog.eff } } := by
    unfold courseDropped
    rw [cmdOf?_modCmd _ _ (f := fun x => { x with prog := { x.prog with done := 1, eff := x.prog.eff } }) fun _ => rfl]
    have : cmdOf? (discardMap d c 0 1) c.seq = some c := hc
    rw [this]
    rfl
  refine ⟨{ c with prog := { c.prog with done := 1, eff := c.prog.eff } }, ?_⟩
  unfold discardGo
  rw [hp, discardOn_course 3 hc hl ha hd]
  refine (discardOn_ended 2 (c := { c with prog := { c.prog with done := 1, eff := c.prog.eff } }) hc' hl ha rfl hs).trans ?_
  rw [show ({ c with prog := { c.prog with done := 1, eff := c.prog.eff } } : Cmd).ending = none from he]
  rfl

theorem discardGo_shows {d : Dev} {c : Cmd} (hc : cmdOf? d c.seq = some c) (hl : cLen c = 256) (ha : cLba c % 256 = 0) (hd : c.prog.done = 0)
    (he : c.ending = none) (hs : slotsOf d c.seq = []) : let d' := discardGo d c
    mapEnt d'.med.m (portKey c 0) = .un ∧ (∀ k, k ≠ portKey c 0 → mapEnt d'.med.m k = mapEnt d.med.m k) ∧
    d'.med.deltas = d.med.deltas ++ [discardDelta d c 0 1] ∧ rd64 d' F.MAP_SEQ = (rd64 d F.MAP_SEQ + 1) % 2 ^ 64 ∧ d'.med.nand = d.med.nand := by
  obtain ⟨-, hw⟩ := wholeCourse hl ha
  obtain ⟨c', hgo⟩ := discardGo_course hc hl ha hd he hs
  have hm : (courseDropped d c).med.m = setCourse d.med.m (portKey c 0) .un := if_pos hw
  have hmed : (discardGo d c).med = (courseDropped d c).med := by
    rw [hgo]
    exact complete_keeps Dev.med (fun _ _ _ _ _ => rfl) ..
  have hact : (discardGo d c).hub.act = (add64 (courseDropped d c) F.MAP_SEQ 1).hub.act := by
    rw [hgo]
    exact complete_keeps (fun d => d.hub.act) (fun _ _ _ _ _ => rfl) ..
  intro d'
  have hmap := mapEnt_setCourse d.med.m (portKey c 0) .un
  rw [← hm, ← congrArg Med.m hmed] at hmap
  refine ⟨hmap.1, hmap.2, (congrArg Med.deltas hmed).trans rfl, ?_, (congrArg Med.nand hmed).trans rfl⟩
  rw [rd64_congr (d := add64 (courseDropped d c) F.MAP_SEQ 1) F.MAP_SEQ fun x _ => actW_congr hact x, add64, rd64_wr64_same]
  rfl

/-! ### ABORT -/

theorem exec_abort {s : State} {seat tag : Nat} {a : Cmd} (h : readyCmd? s.dev seat tag opABORT = some a) :
    exec (.abort seat tag) s = finish s (abortRun s.dev a) := by
  show execAbort seat tag s = _
  unfold execAbort
  dsimp only
  rw [h]

theorem abortRun_found {d : Dev} {a t : Cmd} (hself : cOp a 0 % 32 ≠ a.tag) (ht : abortTarget? d a = some t) : abortRun d a =
    if cOpc t == opABORT then complete d a stINVFLD 0x28
    else if !isStarted t then succeed (complete (dropLine d t 0) t stABORTED 0) a
    else if cOpc t == opFLUSH then succeed (complete d t stABORTED 0) a
    else if isWriteKind t || isReadKind t then
      endStarted (modCmd (modCmd d t.seq (fun x => { x with aborts := x.aborts ++ [a.seq] })) a.seq (fun x => { x with stage := .wait })) t stABORTED
    else complete d a stTOOLATE 0 := by
  unfold abortRun
  rw [if_neg (by simpa using hself), ht]
  rfl

theorem dataKind_opc {t : Cmd} (h : isWriteKind t = true ∨ isReadKind t = true) : cOpc t ≠ opABORT ∧ cOpc t ≠ opFLUSH := by
  constructor <;> intro ho <;> simp [isWriteKind, isReadKind, isDataWrite, ho] at h <;> revert h <;> decide

/-- Settles O49. -/
theorem flushDiscardAbort : Obligations.FlushDiscardAbort := by
  refine ⟨fun s seat tag c hc => gives_flush hc, ?discard, fun d c hc hl ha hd he hs => discardGo_shows hc hl ha hd he hs, ?sealed, ?abort⟩
  case discard =>
    intro s seat tag c hc ho
    have hexec : exec (.discard seat tag) s = finish s (guardDev ((List.range (cPortions c)).all (seatOrderOk s.dev c)) s.dev
        (afterData (discardGo (modCmd { s.dev with med := { s.dev.med with nextTx := (s.dev.med.nextTx + 1) % 2 ^ 32 } } c.seq
          (fun x => { x with stage := .run, txn := some s.dev.med.nextTx })) c))) := by
      show execDiscard seat tag s = _
      unfold execDiscard
      dsimp only
      rw [hc]
    refine gives_of_guard hexec ?_ rfl
    rw [List.all_eq_true]
    exact fun k hk => ho k (List.mem_range.1 hk)
  case sealed =>
    intro s seat tag c j v hc ho hj hread hbad hseal hturn
    have hexec : exec (.sealComplete seat tag) s = finish s (guardDev (jobRead j && !jobUnreadable j && canSeal v c.kslot 1 && coreTurn v 0 (jobInv j + 1)) v
        (afterData (coreServed (sealDiscard (coreTake v 0 (jobInv j + 1)) c j)))) := by
      show execSealComplete seat tag s = _
      unfold execSealComplete
      dsimp only
      rw [hc]
      dsimp only
      rw [if_pos (by rw [ho]; rfl), hj]
    exact gives_of_guard hexec (by rw [hread, hbad, hseal, hturn]; rfl) rfl
  case abort =>
    intro s seat tag a ha
    refine ⟨fun hself => ⟨_, exec_abort ha, ?_⟩, fun hself hnone => ⟨_, exec_abort ha, ?_⟩, fun t hself ht => ?_⟩
    · exact if_pos (by simpa using hself)
    · unfold abortRun
      rw [if_neg (by simpa using hself), hnone]
    · have hrun := abortRun_found hself ht
      refine ⟨fun ho => ⟨_, exec_abort ha, ?_⟩, fun ho hs => ⟨_, exec_abort ha, ?_⟩, fun hs ho => ⟨_, exec_abort ha, ?_⟩, fun hs hk => ⟨_, exec_abort ha, ?_⟩,
        fun hs ho hw hr => ⟨_, exec_abort ha, ?_⟩⟩ <;> rw [hrun]
      · rw [if_pos (by simpa using ho)]
      · rw [if_neg (by simpa using ho), if_pos (by simp [hs])]
      · rw [if_neg (by rw [ho]; decide), if_neg (by simp [hs]), if_pos (by simpa using ho)]
      · obtain ⟨hab, hfl⟩ := dataKind_opc hk
        rw [if_neg (by simpa using hab), if_neg (by simp [hs]), if_neg (by simpa using hfl), if_pos (by simpa using hk)]
      · simp only [List.mem_cons, List.not_mem_nil, or_false, not_or] at ho
        rw [if_neg (by simpa using ho.1), if_neg (by simp [hs]), if_neg (by simpa using ho.2), if_neg (by simp [hw, hr])]

end Sys2Proof.Machine
end

section
/-!
PROOFS. Streams and keys (R152, R169, R176, R187, R188, R331 to R334, R338 to R342).
-/
namespace Sys2Proof.Machine

/-! ### Streams -/

theorem openRefused_shows (d : Dev) {c : Cmd} {r : Nat} (hr : r < 16) :
    let g := raise (wrs d [(F.ADM_LAST_VALID, 1), (F.ADM_LAST_SEAT, c.seat), (F.ADM_LAST_RESULT, r)]) 0x13 9
    openRefused d c r = complete g c stNOTADM r ∧ rd g F.ADM_LAST_VALID = 1 ∧ rd g F.ADM_LAST_RESULT = r ∧ evtSet g 0x13 9 = true := by
  refine ⟨rfl, ?_, ?_, evtSet_raise_same _ _ (by decide)⟩ <;> rw [rd_raise _ _ _ _ (by decide)] <;>
    simp (disch := decide) only [wrs, List.foldl_cons, List.foldl_nil, rd_wr_same, rd_wr_apart]
  · rfl
  · exact Nat.mod_eq_of_lt hr

theorem admitTest_le (d : Dev) (seat rate smax burst tmin : Nat) : admitTest d seat rate smax burst tmin ≤ 4 := by
  unfold admitTest
  dsimp only
  split
  · decide
  · split
    · decide
    · split
      · decide
      · split
        · decide
        · split <;> decide

/-- Settles O50. -/
theorem streamCommands : Obligations.StreamCommands := by
  refine ⟨?opens, ?closes, ?query, fun s hs => gives_of_guard (c := .tokenFill) rfl hs rfl, ?one⟩
  case opens =>
    intro s seat tag c hc rate smax burst r
    have hexec : exec (.streamOpen seat tag) s = finish s (openStream s.dev c) := by
      show execStreamOpen seat tag s = _
      unfold execStreamOpen
      dsimp only
      rw [hc]
    refine ⟨fun hr => ⟨_, hexec, if_pos (by simpa using hr)⟩, fun hr => ⟨_, hexec, ?_⟩⟩
    have hle : r ≤ 4 := admitTest_le ..
    obtain ⟨heq, hvalid, hres, hevt⟩ := openRefused_shows s.dev (c := c) (r := r) (by omega)
    exact ⟨(if_neg (by simpa using hr)).trans heq, hvalid, hres, hevt⟩
  case closes =>
    intro s seat tag c hc
    have hexec : exec (.streamClose seat tag) s = finish s (afterWork (modCmd s.dev c.seq (fun x => { x with stage := .wait }))) := by
      show execStreamClose seat tag s = _
      unfold execStreamClose
      dsimp only
      rw [hc]
    exact ⟨_, hexec, rfl⟩
  case query =>
    intro s seat tag c hc
    have hexec : exec (.streamQuery seat tag) s = finish s (if !ownStream s.dev c then complete s.dev c stNOTADM 0
        else match seatOf? s.dev seat with
          | none => s.dev
          | some v => guardDev (fnReachable s.dev v.fn) s.dev
            (succeed (emit s.dev (.memWrite v.fn (BitVec.ofNat 64 (cDptr c)) (queryRecord s.dev (cSid c)))) c)) := by
      show execStreamQuery seat tag s = _
      unfold execStreamQuery
      dsimp only
      rw [hc] <;> rfl
    refine ⟨fun ho => ⟨_, hexec, if_pos (by rw [ho]; rfl)⟩, fun ho v hv hr => ⟨_, hexec, ?_⟩⟩
    rw [if_neg (by rw [ho]; decide), hv]
    dsimp only
    rw [hr]
    rfl
  case one =>
    intro s i hs hi h64
    have hfold : (openStreams s.dev).foldl (fun d i =>
        setTokens d i (min (bucketDepth d i) ((strmOf d i).tokens + rd d (F.STRM_CONTRACT_RATE i) * 10))) s.dev =
        setTokens s.dev i (min (bucketDepth s.dev i) ((strmOf s.dev i).tokens + rd s.dev (F.STRM_CONTRACT_RATE i) * 10)) := by
      rw [hi]
      rfl
    refine gives_of_guard_eq (c := .tokenFill) rfl hs hfold ⟨?_, ?_⟩
    · exact congrArg Strm.tokens (strmOf_setStrm_same ..)
    · exact ChangesOnly.wr (setStrm s.dev i _) (F.STRM_TOKEN_KIB i) _

/-! ### The words of a key slot -/

/-- The fields of a key slot that a load writes after its state. -/
def slotFields (n : Nat) : List Fld :=
  [F.KEY_STAT_ROLE n, F.KEY_STAT_K128 n, F.KEY_STAT_FOREIGN n, F.KEY_STAT_UNSAFE n, F.KEY_STAT_EXH n, F.KEY_STAT_VOL n, F.KEY_STAT_KGEN n, F.KEY_SALT_SALT n]

theorem slotFields_apart {n : Nat} (h : n < 64) : (slotFields n).Pairwise FldApart ∧ ∀ g ∈ slotFields n, FldApart (F.KEY_STAT_STATE n) g := by
  have hall : ∀ n < 64, (slotFields n).Pairwise FldApart ∧ ∀ g ∈ slotFields n, FldApart (F.KEY_STAT_STATE n) g := by decide
  exact hall n h

theorem slotWord_off {n : Nat} (h : n < 64) : 0x71040 + 16 * n ∉ logWords := by
  have hall : ∀ n < 64, 0x71040 + 16 * n ∉ logWords := by decide
  exact hall n h

theorem rd_slotStat_cnt (d : Dev) (n v : Nat) {f : Fld} (hf : f.off = 0x71040 + 16 * n) : rd (wr64 d (F.KEY_CNT n) v) f = rd d f := by
  refine rd_wr64 d v ?_ ?_ <;> rw [hf, F.KEY_CNT] <;> omega

theorem rd_slotClear (d : Dev) (n : Nat) {state : Nat} (h : state < 8) : rd (slotClear d n state) (F.KEY_STAT_STATE n) = state := by
  unfold slotClear
  dsimp only
  rw [rd_wr_same _ _ _ (by show 29 + 3 ≤ 32; omega)]
  exact Nat.mod_eq_of_lt h

theorem keySlot_wrs (d : Dev) (l : List (Fld × Nat)) (n : Nat) : keySlot (wrs d l) n = keySlot d n :=
  wrs_keeps (fun d => keySlot d n) (fun _ _ _ => rfl) d l

theorem slotStat_off (n : Nat) : (F.KEY_STAT_STATE n).off = 0x71040 + 16 * n ∧ (F.KEY_STAT_ROLE n).off = 0x71040 + 16 * n := ⟨rfl, rfl⟩

/-- The words of a load over a slot that was cleared. -/
theorem slotWords_shows {e : Dev} {n role cnt : Nat} {vals : List (Fld × Nat)} (hn : n < 64) (hr : role < 4)
    (hv : (F.KEY_STAT_ROLE n :: vals.map Prod.fst) = slotFields n) : let d' := wr64 (wrs e ((F.KEY_STAT_ROLE n, role) :: vals)) (F.KEY_CNT n) cnt
    rd d' (F.KEY_STAT_STATE n) = rd e (F.KEY_STAT_STATE n) ∧ rd d' (F.KEY_STAT_ROLE n) = role ∧ keySlot d' n = keySlot e n := by
  obtain ⟨hpair, hstate⟩ := slotFields_apart hn
  have hmap : ((F.KEY_STAT_ROLE n, role) :: vals).map Prod.fst = slotFields n := hv
  dsimp only
  refine ⟨?_, ?_, keySlot_wrs ..⟩
  · rw [rd_slotStat_cnt _ _ _ (slotStat_off n).1, rd_wrs_apart _ _ (by show 29 + 3 ≤ 32; omega) (by rw [hmap]; exact hstate)]
  · rw [rd_slotStat_cnt _ _ _ (slotStat_off n).2, rd_wrs_mem _ (by rw [hmap]; exact hpair) (.head _) (by show 27 + 2 ≤ 32; omega)]
    exact Nat.mod_eq_of_lt hr

theorem slotLoad_eq (d : Dev) (l : KeyLoad) (ctr mark : Nat) (noMark : Bool) : ∃ vals : List (Fld × Nat), slotLoad d l ctr mark noMark =
    wr64 (wrs (setKeySlot (slotClear d l.slot ksLOADED) l.slot { mat := l.mat, mark := mark }) ((F.KEY_STAT_ROLE l.slot, l.role) :: vals)) (F.KEY_CNT l.slot) ctr ∧
    (F.KEY_STAT_ROLE l.slot :: vals.map Prod.fst) = slotFields l.slot := by
  unfold slotLoad
  exact ⟨_, rfl, rfl⟩

/-- A slot that is loaded serves with its role and its key. -/
theorem slotLoad_shows (d : Dev) {l : KeyLoad} (hn : l.slot < 64) (hr : l.role < 4) (ctr mark : Nat) (noMark : Bool) : let d' := slotLoad d l ctr mark noMark
    rd d' (F.KEY_STAT_STATE l.slot) = ksLOADED ∧ rd d' (F.KEY_STAT_ROLE l.slot) = l.role ∧ (keySlot d' l.slot).mat = l.mat := by
  obtain ⟨vals, heq, hvals⟩ := slotLoad_eq d l ctr mark noMark
  have hclear : rd (setKeySlot (slotClear d l.slot ksLOADED) l.slot { mat := l.mat, mark := mark }) (F.KEY_STAT_STATE l.slot) = ksLOADED :=
    (rd_setKeySlot ..).trans (rd_slotClear d l.slot (by decide))
  have hslot : keySlot (setKeySlot (slotClear d l.slot ksLOADED) l.slot { mat := l.mat, mark := mark }) l.slot = { mat := l.mat, mark := mark } :=
    keySlot_setKeySlot_same ..
  obtain ⟨hs, hrole, hk⟩ := slotWords_shows (e := setKeySlot (slotClear d l.slot ksLOADED) l.slot { mat := l.mat, mark := mark }) (cnt := ctr) hn hr hvals
  dsimp only
  rw [heq]
  exact ⟨hs.trans hclear, hrole, congrArg KeySlot.mat (hk.trans hslot)⟩

/-! ### KEY_LOAD and KEY_RETIRE -/

theorem succeed_keeps {α : Type} (g : Dev → α) (hg : ∀ (d : Dev) t p l k, g { d with seats := t, pci := p, out := l, cmds := k } = g d) (d : Dev) (c : Cmd) (r : Nat) :
    g (succeed d c r) = g d := complete_keeps g hg ..

theorem rd_raise_key (d : Dev) (p b : Nat) {n : Nat} (h : n < 64) {f : Fld} (hf : f.off = 0x71040 + 16 * n) : rd (raise d p b) f = rd d f :=
  rd_raise d p b f (by rw [hf]; exact slotWord_off h)

theorem keyInstall_serves (d : Dev) (c : Cmd) {l : KeyLoad} (rec_ : Bool) (hrest : l.role ≠ roleREST) (hn : l.slot < 64) (hr : l.role < 4) :
    let d' := keyInstall d c l rec_
    rd d' (F.KEY_STAT_STATE l.slot) = ksLOADED ∧ evtSet d' 0x71 8 = true ∧ rd d' (F.KEY_STAT_ROLE l.slot) = l.role ∧ (keySlot d' l.slot).mat = l.mat := by
  have heq : keyInstall d c l rec_ = succeed (raise (slotLoad d l 0 0 false) 0x71 8) c := if_pos (by simpa using hrest)
  obtain ⟨hstate, hrole, hmat⟩ := slotLoad_shows d hn hr 0 0 false
  dsimp only
  rw [heq]
  generalize slotLoad d l 0 0 false = e at hstate hrole hmat
  have hhub : (succeed (raise e 0x71 8) c).hub = (raise e 0x71 8).hub := succeed_keeps Dev.hub (fun _ _ _ _ _ => rfl) ..
  have hkeys : (succeed (raise e 0x71 8) c).keys = e.keys := (succeed_keeps Dev.keys (fun _ _ _ _ _ => rfl) ..).trans (raise_keys ..)
  have hrd (f : Fld) : rd (succeed (raise e 0x71 8) c) f = rd (raise e 0x71 8) f := rd_congr f (actW_congr (congrArg Hub.act hhub) _)
  refine ⟨?_, ?_, ?_, ?_⟩
  · rw [hrd, rd_raise_key _ _ _ hn (slotStat_off _).1, hstate]
  · rw [evtSet_congr 8 (hdrOf_congr (congrArg Hub.hdr hhub) 0x71)]
    exact evtSet_raise_same _ _ (by decide)
  · rw [hrd, rd_raise_key _ _ _ hn (slotStat_off _).2, hrole]
  · rw [keySlot, hkeys]
    exact hmat

theorem exec_keyLoad {s : State} {seat tag : Nat} {c : Cmd} (material : KeyMat) (hc : readyCmd? (voteAll s.dev) seat tag opKEYLOAD = some c)
    (hf : keyMatFits c material = true) (ht : c.aux = 1 ∨ pullTurn (voteAll s.dev) c = true) : exec (.keyLoad seat tag material) s = finish s
      (keyLoadRun (if c.aux = 1 then voteAll s.dev else pullServed (voteAll s.dev) c) c material) := by
  have hgo : (keyMatFits c material && (c.aux == 1 || pullTurn (voteAll s.dev) c)) = true := by
    rw [hf]
    simpa using ht
  have haux : (if (c.aux == 1) = true then voteAll s.dev else pullServed (voteAll s.dev) c) = if c.aux = 1 then voteAll s.dev else pullServed (voteAll s.dev) c := by
    simp only [beq_iff_eq]
  show execKeyLoad seat tag material s = _
  unfold execKeyLoad
  dsimp only
  rw [hc]
  dsimp only
  rw [hgo, haux]
  rfl

theorem keyLoadRun_bytes (d : Dev) (c : Cmd) (m : List Nat) (cause : Nat) (rec_ : Bool) : keyLoadRun d c ⟨some m, cause, rec_⟩ = match keyOpen d c m with
    | .error e => complete d c e.1 e.2
    | .ok l => if foldEnded d || !(l.role == roleREST) then keyInstall d c l rec_ else modCmd d c.seq (fun x => { x with aux := 1 }) := by
  unfold keyLoadRun
  dsimp only <;> cases keyOpen d c m <;> rfl

theorem keyLoads {s : State} {seat tag : Nat} {c : Cmd} {v d0 : Dev} (hv : v = voteAll s.dev) (h0 : d0 = if c.aux = 1 then v else pullServed v c)
    (hc : readyCmd? v seat tag opKEYLOAD = some c) (ht : c.aux = 1 ∨ pullTurn v c = true) :
    (∀ cause rec_, c.aux = 0 → 1 ≤ cause → cause ≤ 6 → Gives (.keyLoad seat tag ⟨none, cause, rec_⟩) s (fun d => d = complete d0 c stBUS cause)) ∧
    ∀ m cause rec_, m.length = cOp c 1 →
      (∀ e, keyOpen d0 c m = .error e → Gives (.keyLoad seat tag ⟨some m, cause, rec_⟩) s (fun d => d = complete d0 c e.1 e.2)) ∧
      (∀ l, keyOpen d0 c m = .ok l → foldEnded d0 = true ∨ l.role ≠ roleREST → Gives (.keyLoad seat tag ⟨some m, cause, rec_⟩) s (fun d =>
        d = keyInstall d0 c l rec_ ∧ (l.role ≠ roleREST → l.slot < 64 → l.role < 4 → rd d (F.KEY_STAT_STATE l.slot) = ksLOADED ∧ evtSet d 0x71 8 = true ∧
          rd d (F.KEY_STAT_ROLE l.slot) = l.role ∧ (keySlot d l.slot).mat = l.mat))) ∧
      ∀ l, keyOpen d0 c m = .ok l → foldEnded d0 = false → l.role = roleREST → Gives (.keyLoad seat tag ⟨some m, cause, rec_⟩) s (fun d =>
        d = modCmd d0 c.seq (fun x => { x with aux := 1 })) := by
  subst hv
  refine ⟨fun cause rec_ h1 hlo hhi => ?_, fun m cause rec_ hlen => ?_⟩
  · have hfit : keyMatFits c ⟨none, cause, rec_⟩ = true := by simp [keyMatFits, h1, hlo, hhi]
    have hexec := exec_keyLoad _ hc hfit ht
    rw [← h0] at hexec
    exact ⟨_, hexec, rfl⟩
  · have hfit : keyMatFits c ⟨some m, cause, rec_⟩ = true := by simp [keyMatFits, hlen]
    have hexec := exec_keyLoad _ hc hfit ht
    rw [← h0, keyLoadRun_bytes] at hexec
    refine ⟨fun e he => ?_, fun l hl hgo => ?_, fun l hl hf hr => ?_⟩
    · rw [he] at hexec
      exact ⟨_, hexec, rfl⟩
    · rw [hl] at hexec
      refine ⟨_, hexec, ?_⟩
      dsimp only
      rw [if_pos (by rcases hgo with h | h <;> simp [h])]
      exact ⟨rfl, fun hrest hn hr => keyInstall_serves d0 c rec_ hrest hn hr⟩
    · rw [hl] at hexec
      refine ⟨_, hexec, ?_⟩
      dsimp only
      rw [if_neg (by simp [hf, hr])]

theorem exec_keyRetire {s : State} {seat tag : Nat} {c : Cmd} (hc : readyCmd? s.dev seat tag opKEYRET = some c) : exec (.keyRetire seat tag) s = finish s
    (if !slotLoaded s.dev (retSlot c) then succeed s.dev c
      else modCmd (setKeySlot s.dev (retSlot c) { keySlot s.dev (retSlot c) with retiring := some ((keySlot s.dev (retSlot c)).retiring.getD c.seq) }) c.seq
        (fun x => { x with stage := .wait })) := by
  show execKeyRetire seat tag s = _
  unfold execKeyRetire
  dsimp only
  rw [hc]

/-- What an update of the commands with one number leaves on the list. -/
theorem mem_updWhere_seq {l : List Cmd} {q : Nat} {f : Cmd → Cmd} {x : Cmd} (h : x ∈ updWhere (fun c => c.seq == q) f l)
    (hx : x.seq = q) : ∃ y, x = f y := by
  obtain ⟨y, -, rfl⟩ := List.mem_map.1 h
  by_cases hy : y.seq = q
  · exact ⟨y, if_pos (by simpa using hy)⟩
  · rw [if_neg (by simpa using hy)] at hx
    exact absurd hx hy

theorem slotLeave_shows (d : Dev) {n : Nat} (hn : n < 64) : rd (slotLeave d n ksRETIRED) (F.KEY_STAT_STATE n) = ksRETIRED ∧
    (keySlot (slotLeave d n ksRETIRED) n).mat = 0 ∧ evtSet (slotLeave d n ksRETIRED) 0x71 9 = true := by
  unfold slotLeave
  refine ⟨?_, ?_, evtSet_raise_same _ _ (by decide)⟩
  · rw [rd_raise_key _ _ _ hn (slotStat_off _).1, rd_wr_same _ _ _ (by show 29 + 3 ≤ 32; omega)]
    rfl
  · rw [keySlot, raise_keys]
    exact congrArg KeySlot.mat (keySlot_setKeySlot_same (tvTaken d (0x71040 + 16 * n) false) n {})

/-! ### Reservations -/

theorem exec_reservationDurable {s : State} {slot : Nat} {r : VolRec} {v : Dev} (hv : v = voteAll s.dev) (hrun : running v = true) (h64 : slot < 64)
    (hext : (keySlot v slot).extending = true) (hl : slotLoaded v slot = true) (hr : volRec? v (rd v (F.KEY_STAT_VOL slot)) = some r) (ok : Bool) :
    exec (.reservationDurable slot ok) s = finish s
      (if ok then writeVolRec (setKeySlot v slot { keySlot v slot with extending := false, mark := min ((keySlot v slot).mark + 2 ^ 20) ctrLimit })
          (rd v (F.KEY_STAT_VOL slot)) (setMark r (rd v (F.KEY_STAT_KGEN slot)) (min ((keySlot v slot).mark + 2 ^ 20) ctrLimit))
        else slotUnsafe v slot) := by
  have hgo : (running v && decide (slot < 64) && (keySlot v slot).extending && slotLoaded v slot) = true := by
    rw [hrun, decide_eq_true h64, hext, hl]
    rfl
  show execReservationDurable slot ok s = _
  unfold execReservationDurable
  dsimp only
  rw [← hv, hgo, hr]
  rfl

theorem keySlot_congr {d d' : Dev} (h : d'.keys = d.keys) (n : Nat) : keySlot d' n = keySlot d n := by rw [keySlot, h]; rfl

theorem writeVolRec_keys (d : Dev) (v : Nat) (r : VolRec) : (writeVolRec d v r).keys = d.keys := by
  unfold writeVolRec
  dsimp only
  exact ((RecordsOnly.sysPut (modNand d _) _).keeps Dev.keys fun _ => rfl).trans rfl

theorem reservationEnds {s : State} {slot : Nat} {r : VolRec} {v : Dev} (hv : v = voteAll s.dev) (hrun : running v = true) (h64 : slot < 64)
    (hext : (keySlot v slot).extending = true) (hl : slotLoaded v slot = true) (hr : volRec? v (rd v (F.KEY_STAT_VOL slot)) = some r) :
    Gives (.reservationDurable slot true) s (fun d =>
      keySlot d slot = { keySlot v slot with extending := false, mark := min ((keySlot v slot).mark + 2 ^ 20) ctrLimit }) ∧
    let d1 := raise (wr (setKeySlot v slot { keySlot v slot with extending := false }) (F.KEY_STAT_UNSAFE slot) 1) 0x70 12
    (keySlot d1 slot).mark = (keySlot v slot).mark ∧ evtSet d1 0x70 12 = true ∧ rd d1 (F.KEY_STAT_UNSAFE slot) = 1 ∧
    Gives (.reservationDurable slot false) s (fun d =>
      d = afterWork ((overMark slot ((keySlot v slot).mark - rd64 v (F.KEY_CNT slot)) d1.cmds.list).foldl nonceEnd d1)) := by
  have hexec := exec_reservationDurable hv hrun h64 hext hl hr
  have hoff : (F.KEY_STAT_UNSAFE slot).off = 0x71040 + 16 * slot := rfl
  refine ⟨⟨_, hexec true, ?_⟩, ?_, evtSet_raise_same _ _ (by decide), ?_, ⟨_, hexec false, ?_⟩⟩
  · exact (keySlot_congr (writeVolRec_keys ..) slot).trans (keySlot_setKeySlot_same ..)
  · have hkeys : (raise (wr (setKeySlot v slot { keySlot v slot with extending := false }) (F.KEY_STAT_UNSAFE slot) 1) 0x70 12).keys =
        (setKeySlot v slot { keySlot v slot with extending := false }).keys := raise_keys ..
    exact (congrArg KeySlot.mark ((keySlot_congr hkeys slot).trans (keySlot_setKeySlot_same ..))).trans rfl
  · rw [rd_raise_key _ _ _ h64 hoff, rd_wr_same _ _ _ (by show 24 + 1 ≤ 32; omega)]
    rfl
  · rw [if_neg (by decide)]
    unfold slotUnsafe
    rfl

/-- Settles O51. -/
theorem keyCommands : Obligations.KeyCommands := by
  refine ⟨?load, ?retire, ?retired, ?bind, ?extend, ?durable⟩
  case load =>
    intro s seat tag c v hc ht d0
    exact keyLoads rfl rfl hc ht
  case retire =>
    intro s seat tag c hc
    have hexec := exec_keyRetire hc
    refine ⟨fun hl => ⟨_, hexec, if_pos (by rw [hl]; rfl)⟩, fun hl => ⟨_, hexec, ?_⟩⟩
    rw [if_neg (by rw [hl]; decide)]
    refine ⟨?_, fun o => rfl, fun x hx hq => ?_⟩
    · exact (congrArg (fun k => k.retiring.isSome) (keySlot_setKeySlot_same s.dev (retSlot c) _)).trans rfl
    · obtain ⟨y, rfl⟩ := mem_updWhere_seq hx hq
      rfl
  case retired =>
    intro s slot v h64 hrun waits hw hl hu
    have hgo : (running v && decide (slot < 64) && !waits.isEmpty && (!slotLoaded v slot || !slotInUse v slot)) = true := by
      rw [hrun, decide_eq_true h64, hl, hu]
      simpa using hw
    obtain ⟨hstate, hmat, hevt⟩ := slotLeave_shows v h64
    have hd : (if slotLoaded v slot then slotLeave v slot ksRETIRED else v) = slotLeave v slot ksRETIRED := if_pos hl
    refine gives_of_guard_eq (c := .keyRetireEffect slot) (d' := waits.foldl (fun d c => succeed d c) (if slotLoaded v slot then slotLeave v slot ksRETIRED else v))
      rfl hgo (by rw [hd]) ?_
    generalize slotLeave v slot ksRETIRED = e at hstate hmat hevt
    have hhub : (waits.foldl (fun d c => succeed d c) e).hub = e.hub := foldl_keeps Dev.hub _ _ fun _ _ => succeed_keeps Dev.hub (fun _ _ _ _ _ => rfl) ..
    have hkeys : (waits.foldl (fun d c => succeed d c) e).keys = e.keys := foldl_keeps Dev.keys _ _ fun _ _ => succeed_keeps Dev.keys (fun _ _ _ _ _ => rfl) ..
    refine ⟨rfl, ?_, ?_, ?_⟩
    · rw [rd_congr _ (actW_congr (congrArg Hub.act hhub) _), hstate]
    · rw [keySlot, hkeys]
      exact hmat
    · rw [evtSet_congr 9 (hdrOf_congr (congrArg Hub.hdr hhub) 0x71), hevt]
  case bind =>
    intro s seat tag recordOk c hc n
    have hexec : exec (.volumeSet seat tag recordOk) s = finish s (volumeSet s.dev c recordOk) := by
      show execVolumeSet seat tag recordOk s = _
      unfold execVolumeSet
      dsimp only
      rw [hc]
    refine ⟨_, hexec, rfl, fun hrest => ?_, fun hrest hvol hbit hgen => ?_⟩ <;> unfold volumeSet <;> dsimp only
    · rw [if_pos (by rw [hrest]; rfl)]
    · rw [if_neg (by rw [hrest, hvol, hbit, hgen]; simp), if_neg (by rw [hbit]; decide)]
  case extend =>
    intro s slot v hrun h64 hmore hext hmark
    refine gives_of_guard (c := .reservationExtend slot) (d' := setKeySlot v slot { keySlot v slot with extending := true })
      (b := running v && decide (slot < 64) && sealsMore v slot && !(keySlot v slot).extending && decide (rd64 v (F.KEY_CNT slot) + 2 ^ 19 ≥ (keySlot v slot).mark))
      rfl (by rw [hrun, decide_eq_true h64, hmore, hext, decide_eq_true hmark]; rfl) ⟨keySlot_setKeySlot_same .., fun o => rfl⟩
  case durable =>
    intro s slot r v hrun h64 hext hl hr
    exact reservationEnds rfl hrun h64 hext hl hr

end Sys2Proof.Machine
end

section
/-!
PROOFS. Administration: SANITISE, FORMAT, media initialisation and LOG_READ (R427 to R430, R433).
-/
namespace Sys2Proof.Machine

/-! ### Progress records and chunks -/

theorem RecordsOnly.windowPrune (d : Dev) : RecordsOnly d (windowPrune d) :=
  (RecordsOnly.foldl _ d fun _ _ => .modBat ..).trans (.putWindow ..)

theorem RecordsOnly.unitsWritten (d : Dev) (b lo hi : Nat) : RecordsOnly d (unitsWritten d b lo hi) := by
  unfold Machine.unitsWritten
  dsimp only
  split
  · exact .refl d
  · exact RecordsOnly.foldl _ d fun _ _ => (RecordsOnly.modBat ..).trans (.wseq ..)

/-- The places a chunk is written to. -/
theorem RecordsOnly.directRoom (n : Nat) (d : Dev) (cw : Nat) (acc : List (Nat × Nat × Nat)) : RecordsOnly d (directRoom n d cw acc).1 := by
  induction n generalizing d cw acc with
  | zero => exact .refl d
  | succ n ih =>
    unfold Machine.directRoom
    dsimp only
    split
    · exact .refl d
    · split
      · exact .refl d
      · next r d2 b hb =>
        have hclosed := RecordsOnly.foldl (f := fun d b => Machine.modBat d b (fun v => { v with st := .closed, sealed := true, passed := [] }))
          ((openOf d .journal).filter (fun b => (batOf d b).wptr + min cw (batCw d) > batCw d)) d fun d b => .modBat ..
        have hopen : RecordsOnly d d2 := by
          split at hb
          · cases hb
            exact hclosed
          · exact hclosed.trans (RecordsOnly.openBatten hb)
        exact ((hopen.trans (.modBat ..)).trans (.unitsWritten ..)).trans (ih ..)

/-- The map, the ring and the map of the journal. -/
def mapAndRing (d : Dev) : MapSt × SMap RingSlot × MapSt := (d.med.m, d.med.ring, d.med.jmap)

theorem mapAndRing_records {d d' : Dev} (h : RecordsOnly d d') : mapAndRing d' = mapAndRing d := h.keeps mapAndRing fun _ => rfl

theorem mapAndRing_pickWindow (n : Nat) (d : Dev) (acc : List Nat) : mapAndRing (pickWindow n d acc).1 = mapAndRing d := by
  induction n generalizing d acc with
  | zero => rfl
  | succ n ih =>
    unfold pickWindow
    dsimp only
    split
    · rfl
    · exact (ih ..).trans rfl

theorem mapAndRing_windowFill (d : Dev) : mapAndRing (windowFill d) = mapAndRing d := by
  have hwin (x : Dev) (l : List Nat) : mapAndRing (setWindow x l) = mapAndRing x := rfl
  unfold windowFill
  dsimp only
  rw [hwin, mapAndRing_pickWindow]
  exact mapAndRing_records (.windowPrune d)

theorem mapAndRing_eraseBatchPut (d : Dev) : mapAndRing (eraseBatchPut d) = mapAndRing d := by
  unfold eraseBatchPut
  split
  · rfl
  · exact (mapAndRing_records (.sysPut _ _)).trans rfl

/-- A chunk that stands takes its deltas into the map of the journal, and leaves the map and the ring. -/
theorem mapAndRing_chunkTo (d : Dev) (c : Chunk) : mapAndRing (chunkTo d c) = (d.med.m, d.med.ring, c.deltas.foldl applyDelta d.med.jmap) := by
  have hroot (x : Dev) (b : Bool) : mapAndRing (if b then x else sysPut x [recKey 6 0]) = mapAndRing x := by
    cases b
    · exact mapAndRing_records (.sysPut _ _)
    · rfl
  have hjmap (x y : Dev) (m : MapSt) (h : mapAndRing x = mapAndRing y) :
      mapAndRing { x with med := { x.med with jmap := m } } = (y.med.m, y.med.ring, m) := by
    have hm : x.med.m = y.med.m := congrArg (·.1) h
    have hring : x.med.ring = y.med.ring := congrArg (·.2.1) h
    show (x.med.m, x.med.ring, m) = _
    rw [hm, hring]
  exact hjmap _ d _ ((hroot _ _).trans rfl)

theorem chunkWrite_eq (d : Dev) (cmark : Nat) (clean : Bool) (extra : List Nat) : ∃ n cw c, c.deltas = [] ∧
    chunkWrite d [] cmark clean extra = chunkTo (directRoom n (eraseBatchPut (windowFill d)) cw []).1 c := ⟨_, _, _, rfl, rfl⟩

/-- A chunk without deltas leaves the map, the ring and the map of the journal. -/
theorem mapAndRing_chunkDirect (d : Dev) (clean : Bool) (extra : List Nat) : mapAndRing (chunkDirect d [] clean extra) = mapAndRing d := by
  obtain ⟨n, cw, c, hc, heq⟩ := chunkWrite_eq d (rd64 d F.MAP_SEQ - 1) clean extra
  rw [chunkDirect, heq, mapAndRing_chunkTo, hc]
  exact (mapAndRing_records (.directRoom ..)).trans ((mapAndRing_eraseBatchPut _).trans (mapAndRing_windowFill _))

theorem unmapAll_empties (d : Dev) : mapAndRing (unmapAll d) = ({}, [], {}) := by
  unfold unmapAll
  dsimp only
  have hbusy (x : Dev) : mapAndRing (wr x F.JNL_STAT_BUSY 0) = mapAndRing x := rfl
  rw [hbusy, mapAndRing_chunkDirect]
  rfl

/-! ### The steps of a SANITISE -/

/-- The words of a progress record beside those of ADMIN_PROG. -/
theorem putProg_act (d : Dev) (p : Progress) {o : Nat} (h : o ∉ recordWords) : actW (putProg d p) o = actW d o :=
  ((RecordsOnly.sysPut _ _).words o h).trans rfl

theorem putProg_keeps {α : Type} (g : Dev → α) (hg : ∀ d, g (besideRecords d) = g d)
    (hp : ∀ (d : Dev) a p, g { d with admin := a, med := { d.med with nand := { d.med.nand with prog := p } } } = g d) (d : Dev) (p : Progress) :
    g (putProg d p) = g d := by
  unfold putProg
  exact ((RecordsOnly.sysPut _ _).keeps g hg).trans (hp d _ _)

theorem sanStep_shows (d : Dev) {step permille : Nat} (hs : step < 16) (hp : permille < 1024) : rd (sanStep d step permille) F.ADMIN_PROG_STEP = step ∧
    rd (sanStep d step permille) F.ADMIN_PROG_PERMILLE = permille := by
  unfold sanStep
  constructor <;> simp (disch := decide) only [wrs, List.foldl_cons, List.foldl_nil, rd_wr_same, rd_wr_apart]
  · exact Nat.mod_eq_of_lt hs
  · exact Nat.mod_eq_of_lt hp

theorem sanStep_keeps {α : Type} (g : Dev → α) (hg : ∀ d, g (besideRecords d) = g d)
    (hp : ∀ (d : Dev) a p, g { d with admin := a, med := { d.med with nand := { d.med.nand with prog := p } } } = g d) (d : Dev) (step permille : Nat) :
    g (sanStep d step permille) = g d := by
  have hwr (x : Dev) (f : Fld) (v : Nat) : g (wr x f v) = g x := (hg _).symm.trans ((congrArg g rfl).trans (hg x))
  unfold sanStep
  exact (wrs_keeps g hwr _ _).trans (putProg_keeps g hg hp ..)

theorem actW_sanStep (d : Dev) (step permille : Nat) {o : Nat} (h : o ∉ recordWords) (hp : o ≠ 0x7D040) : actW (sanStep d step permille) o = actW d o := by
  unfold sanStep
  exact ((actW_wr_ne _ F.ADMIN_PROG_PERMILLE _ hp).trans (actW_wr_ne _ F.ADMIN_PROG_STEP _ hp)).trans (putProg_act _ _ h)

/-! ### CRYPTO -/

theorem actW_slotClear_ne (d : Dev) {i : Nat} (state : Nat) {o : Nat} (h : o < 0x71040 + 16 * i ∨ 0x71040 + 16 * i + 16 ≤ o) :
    actW (slotClear d i state) o = actW d o := by
  unfold slotClear
  dsimp only
  rw [actW_wr_ne _ (F.KEY_STAT_STATE i) _ (by show o ≠ 0x71040 + 16 * i + 0x0; omega), actW_setKeySlot, actW_setActW_ne _ _ (by omega),
    actW_setActW_ne _ _ (by omega), actW_setActW_ne _ _ (by omega), actW_setActW_ne _ _ (by omega)]
  rfl

theorem emptyKeys_empty (d : Dev) {n : Nat} (hn : n < 64) : rd (emptyKeys d) (F.KEY_STAT_STATE n) = ksEMPTY ∧ keySlot (emptyKeys d) n = {} := by
  have hclear (x : Dev) (i : Nat) : keySlot (slotClear x i ksEMPTY) i = {} := keySlot_setKeySlot_same _ i _
  have hother (x : Dev) {i : Nat} (h : i ≠ n) : keySlot (slotClear x i ksEMPTY) n = keySlot x n := keySlot_setKeySlot_ne _ _ (Ne.symm h)
  constructor
  · refine foldUpto_once (v := fun d => rd d (F.KEY_STAT_STATE n)) (new := fun _ => ksEMPTY) hn (fun x => rd_slotClear x n (by decide)) fun i x _ hne => ?_
    exact rd_congr _ (actW_slotClear_ne x _ (by rw [(slotStat_off n).1]; omega))
  · exact foldUpto_once (v := fun d => keySlot d n) (new := fun _ => {}) hn (fun x => hclear x n) fun i x _ hne => hother x hne

theorem cryptoErase_empty (d : Dev) {n : Nat} (hn : n < 64) : rd (cryptoErase d) (F.KEY_STAT_STATE n) = ksEMPTY ∧ keySlot (cryptoErase d) n = {} := by
  obtain ⟨hstate, hslot⟩ := emptyKeys_empty d hn
  have hoff : ∀ n < 64, 0x71040 + 16 * n ∉ recordWords := by decide
  have hrec : RecordsOnly (modNand (emptyKeys d) (fun n => { n with vols := n.vols.mapV (fun _ r =>
    { r with cur := nextGen r.cur, gens := [⟨nextGen r.cur, 1, (r.gens.map GenEnt.mark).foldl max 0⟩] }) })) (cryptoErase d) := .sysPut _ _
  have hkeys : (cryptoErase d).keys = (modNand (emptyKeys d) _).keys := hrec.keeps Dev.keys fun _ => rfl
  have hwords : actW (cryptoErase d) (0x71040 + 16 * n) = actW (modNand (emptyKeys d) _) (0x71040 + 16 * n) := hrec.words _ (hoff n hn)
  generalize emptyKeys d = e at hstate hslot hkeys hwords
  constructor
  · rw [← hstate]
    exact rd_congr _ (by rw [(slotStat_off n).1]; exact hwords)
  · rw [← hslot]
    exact keySlot_congr hkeys n

theorem gives_sanitiseStep {s : State} {P : Dev → Prop} (hc : cpuRuns s.dev = true) (ha : accepted s.dev = true) (hs : sanitising s.dev = true)
    (h1 : rd s.dev F.ADMIN_PROG_STEP = 1 → adminAlone s.dev = true) (hp : P (sanAdvance s.dev)) : Gives .sanitiseStepDone s P := by
  refine gives_of_guard (c := .sanitiseStepDone) rfl ?_ hp
  rw [hc, ha, hs]
  by_cases h : rd s.dev F.ADMIN_PROG_STEP = 1
  · simp [h, h1 h]
  · simp [h]

theorem sanAdvance_eq (d : Dev) : sanAdvance d =
    if rd d F.ADMIN_PROG_STEP == 1 then sanStep d (if adminOp d == 2 then 2 else 3) 0
    else if rd d F.ADMIN_PROG_STEP == 2 then sanStep (cryptoErase d) 3 0
    else if rd d F.ADMIN_PROG_STEP == 3 then sanStep (unmapAll d) 4 0
    else if rd d F.ADMIN_PROG_STEP == 4 then
      if rd d F.ADMIN_PROG_PERMILLE + 10 < 1000 then sanStep d 4 (rd d F.ADMIN_PROG_PERMILLE + 10) else sanStep (eraseAll d) 5 1000
    else if rd d F.ADMIN_PROG_STEP == 5 then
      if rdB d F.ADMIN_PROG_REINIT then sanStep (windowFill (lunsChanged (eaveRebuild (saveLog (sysRenew d)) []))) 6 1000
      else adminDone (windowFill (lunsChanged (eaveRebuild (saveLog (sysRenew d)) []))) stSUCCESS
    else adminDone (lunsChanged { d with med := { d.med with nand := { prog := d.med.nand.prog }, window := [] }
                                         log := { d.log with saved := [] }
                                         admin := { d.admin with noMedia := true } }) stSUCCESS := rfl

theorem sanitiseSteps {s : State} (hc : cpuRuns s.dev = true) (ha : accepted s.dev = true) (hs : sanitising s.dev = true)
    (h1 : rd s.dev F.ADMIN_PROG_STEP = 1 → adminAlone s.dev = true) : let step := rd s.dev F.ADMIN_PROG_STEP
    (step = 1 → Gives .sanitiseStepDone s (fun d => rd d F.ADMIN_PROG_STEP = (if adminOp s.dev = 2 then 2 else 3) ∧ d.keys = s.dev.keys)) ∧
    (step = 2 → Gives .sanitiseStepDone s (fun d => rd d F.ADMIN_PROG_STEP = 3 ∧ ∀ n, n < 64 → rd d (F.KEY_STAT_STATE n) = ksEMPTY ∧
      (keySlot d n).mat = 0)) ∧
    (step = 3 → Gives .sanitiseStepDone s (fun d => rd d F.ADMIN_PROG_STEP = 4 ∧ d.med.m = {} ∧ d.med.ring = [] ∧ d.med.jmap = {})) ∧
    (step = 4 → rd s.dev F.ADMIN_PROG_PERMILLE < 990 → Gives .sanitiseStepDone s (fun d => rd d F.ADMIN_PROG_STEP = 4 ∧
      rd d F.ADMIN_PROG_PERMILLE = rd s.dev F.ADMIN_PROG_PERMILLE + 10 ∧ d.med.nand.flash = s.dev.med.nand.flash)) ∧
    (step = 4 → 990 ≤ rd s.dev F.ADMIN_PROG_PERMILLE → Gives .sanitiseStepDone s (fun d => rd d F.ADMIN_PROG_STEP = 5 ∧
      rd d F.ADMIN_PROG_PERMILLE = 1000 ∧ d = sanStep (eraseAll s.dev) 5 1000)) ∧
    (5 ≤ step → Gives .sanitiseStepDone s (fun d => d = sanAdvance s.dev)) := by
  have hgives {P : Dev → Prop} (hp : P (sanAdvance s.dev)) : Gives .sanitiseStepDone s P := gives_sanitiseStep hc ha hs h1 hp
  refine ⟨fun h => hgives ?_, fun h => hgives ?_, fun h => hgives ?_, fun h hp => hgives ?_, fun h hp => hgives ?_, fun _ => hgives rfl⟩ <;> rw [sanAdvance_eq, h]
  · rw [if_pos (by decide)]
    have hop : (if adminOp s.dev == 2 then 2 else 3) = if adminOp s.dev = 2 then 2 else 3 := by simp only [beq_iff_eq]
    have hlt : (if adminOp s.dev = 2 then 2 else 3) < 16 := by split <;> decide
    rw [hop]
    exact ⟨(sanStep_shows s.dev hlt (by decide)).1, sanStep_keeps Dev.keys (fun _ => rfl) (fun _ _ _ => rfl) ..⟩
  · rw [if_neg (by decide), if_pos (by decide)]
    have hoff : ∀ n < 64, 0x71040 + 16 * n ∉ recordWords ∧ 0x71040 + 16 * n ≠ 0x7D040 := by decide
    refine ⟨(sanStep_shows _ (by decide) (by decide)).1, fun n hn => ?_⟩
    obtain ⟨hstate, hslot⟩ := cryptoErase_empty s.dev hn
    exact ⟨(rd_congr _ (actW_sanStep _ _ _ (hoff n hn).1 (hoff n hn).2)).trans hstate,
      congrArg KeySlot.mat ((keySlot_congr (sanStep_keeps Dev.keys (fun _ => rfl) (fun _ _ _ => rfl) ..) n).trans hslot)⟩
  · rw [if_neg (by decide), if_neg (by decide), if_pos (by decide)]
    have hmap := (sanStep_keeps mapAndRing (fun _ => rfl) (fun _ _ _ => rfl) (unmapAll s.dev) 4 0).trans (unmapAll_empties s.dev)
    exact ⟨(sanStep_shows _ (by decide) (by decide)).1, congrArg (·.1) hmap, congrArg (·.2.1) hmap, congrArg (·.2.2) hmap⟩
  · rw [if_neg (by decide), if_neg (by decide), if_neg (by decide), if_pos (by decide), if_pos (by omega)]
    obtain ⟨hstep, hpm⟩ := sanStep_shows s.dev (step := 4) (permille := rd s.dev F.ADMIN_PROG_PERMILLE + 10) (by decide) (by omega)
    exact ⟨hstep, hpm, sanStep_keeps (fun d => d.med.nand.flash) (fun _ => rfl) (fun _ _ _ => rfl) ..⟩
  · rw [if_neg (by decide), if_neg (by decide), if_neg (by decide), if_pos (by decide), if_neg (by omega)]
    obtain ⟨hstep, hpm⟩ := sanStep_shows (eraseAll s.dev) (step := 5) (permille := 1000) (by decide) (by decide)
    exact ⟨hstep, hpm, rfl⟩

/-! ### The start of an operation -/

theorem adminStart_shows (d : Dev) (cmd : Option Nat) {op step : Nat} (vol : Nat) (reinit : Bool) (ho : op < 8) (hs : step < 16) :
    let d' := adminStart d cmd op step vol reinit
    rd d' F.ADMIN_PROG_BUSY = 1 ∧ rd d' F.ADMIN_PROG_OP = op ∧ rd d' F.ADMIN_PROG_STEP = step ∧ rd d' F.ADMIN_PROG_REINIT = b2n reinit ∧
    d'.admin.cmd = cmd ∧ d'.med = d.med ∧ d'.keys = d.keys := by
  have hkeep {α : Type} (g : Dev → α) (hg : ∀ (d : Dev) f v, g (wr d f v) = g d) : g (adminStart d cmd op step vol reinit) =
      g { d with admin := { d.admin with cmd := cmd, start := d.sys.time } } := wrs_keeps g hg _ _
  refine ⟨?_, ?_, ?_, ?_, congrArg AdminSt.cmd (hkeep Dev.admin fun _ _ _ => rfl), hkeep Dev.med fun _ _ _ => rfl, hkeep Dev.keys fun _ _ _ => rfl⟩ <;>
    unfold adminStart <;> simp (disch := decide) only [wrs, List.foldl_cons, List.foldl_nil, rd_wr_same, rd_wr_apart]
  · rfl
  · exact Nat.mod_eq_of_lt ho
  · exact Nat.mod_eq_of_lt hs
  · cases reinit <;> rfl

theorem refuseReady_keeps {α : Type} (g : Dev → α) (hg : ∀ (d : Dev) t p l k, g { d with seats := t, pci := p, out := l, cmds := k } = g d) (d : Dev) (own : Nat) :
    g (refuseReady d own) = g d :=
  foldl_keeps g _ _ fun _ _ => complete_keeps g hg ..

theorem exec_sanitise {s : State} {seat tag : Nat} {c : Cmd} (hc : readyCmd? s.dev seat tag opSANITISE = some c) : exec (.sanitise seat tag) s = finish s
    (if adminRefuses s.dev c || modeRefuses s.dev c then complete s.dev c stMODE 0
      else refuseReady (adminStart (modCmd s.dev c.seq (fun x => { x with stage := .wait })) (some c.seq) (bitsOf (cOp c 0) 0 2) 1 0 (bitOf (cOp c 0) 2)) c.seq) := by
  show execSanitise seat tag s = _
  unfold execSanitise
  dsimp only
  rw [hc]

theorem exec_format {s : State} {seat tag : Nat} {c : Cmd} (ok : Bool) (hc : readyCmd? s.dev seat tag opFORMAT = some c) : exec (.format seat tag ok) s = finish s
    (if adminRefuses s.dev c || modeRefuses s.dev c then complete s.dev c stMODE 0
      else if newMedia s.dev then adminStart (modCmd s.dev c.seq (fun x => { x with stage := .wait })) (some c.seq) 4 0 (cVol c) false
      else
        let d2 := formatUnmap (adminStart (modCmd s.dev c.seq (fun x => { x with stage := .wait })) (some c.seq) 3 0 (cVol c) false) (cVol c) ok
        if canChunk d2 then chunkStart d2 false else d2) := by
  show execFormat seat tag ok s = _
  unfold execFormat
  dsimp only
  rw [hc]

/-- Settles O52. -/
theorem administrativeOperations : Obligations.AdministrativeOperations := by
  refine ⟨?sanitise, ?format, ?steps, ?media, ?log⟩
  case sanitise =>
    intro s seat tag c hc
    refine ⟨fun h => ⟨_, exec_sanitise hc, if_pos (by simpa using h)⟩, fun ha hm => ⟨_, exec_sanitise hc, ?_⟩⟩
    rw [if_neg (by simp [ha, hm])]
    have hop : bitsOf (cOp c 0) 0 2 < 8 := Nat.lt_of_lt_of_le (Nat.mod_lt _ (by decide)) (by decide)
    obtain ⟨hbusy, hopc, hstep, hre, hcmd, hmed, hkeys⟩ := adminStart_shows (modCmd s.dev c.seq (fun x => { x with stage := .wait })) (some c.seq) 0
      (bitOf (cOp c 0) 2) hop (step := 1) (by decide)
    generalize adminStart (modCmd s.dev c.seq (fun x => { x with stage := .wait })) (some c.seq) (bitsOf (cOp c 0) 0 2) 1 0 (bitOf (cOp c 0) 2) = e
      at hbusy hopc hstep hre hcmd hmed hkeys
    have hrd (f : Fld) : rd (refuseReady e c.seq) f = rd e f :=
      rd_congr f (actW_congr (refuseReady_keeps (fun d => d.hub.act) (fun _ _ _ _ _ => rfl) e c.seq) _)
    exact ⟨(hrd _).trans hbusy, (hrd _).trans hopc, (hrd _).trans hstep, (hrd _).trans hre,
      (refuseReady_keeps (fun d => d.admin.cmd) (fun _ _ _ _ _ => rfl) ..).trans hcmd, (refuseReady_keeps Dev.med (fun _ _ _ _ _ => rfl) ..).trans hmed,
      (refuseReady_keeps Dev.keys (fun _ _ _ _ _ => rfl) ..).trans hkeys⟩
  case format =>
    intro s seat tag ok c hc
    refine ⟨fun h => ⟨_, exec_format ok hc, if_pos (by simpa using h)⟩, fun ha hm hn => ⟨_, exec_format ok hc, ?_⟩, fun ha hm hn => ⟨_, exec_format ok hc, ?_⟩⟩
    · rw [if_neg (by simp [ha, hm]), if_pos hn]
      obtain ⟨hbusy, hopc, -, -, hcmd, hmed, -⟩ := adminStart_shows (modCmd s.dev c.seq (fun x => { x with stage := .wait })) (some c.seq) (cVol c)
        false (op := 4) (step := 0) (by decide) (by decide)
      exact ⟨hbusy, hopc, hcmd, hmed⟩
    · rw [if_neg (by simp [ha, hm]), if_neg (by simp [hn])]
  case steps =>
    intro s hc ha hs h1
    exact sanitiseSteps hc ha hs h1
  case media =>
    intro s bad hc ha hb ho
    exact gives_of_guard (c := .mediaInitDone bad) rfl (by rw [hc, ha, hb, ho]; rfl) rfl
  case log =>
    intro s seat tag c v hc hv hr
    have hexec : exec (.logRead seat tag) s = finish s (guardDev (fnReachable s.dev v.fn) s.dev
        (succeed (emit s.dev (.push seat tag 0 (if bitsOf (cOp c 0) 0 4 == 0 then logUnits s.dev (cLba c) (cLen c) else [healthUnit s.dev]))) c)) := by
      show execLogRead seat tag s = _
      unfold execLogRead
      dsimp only
      rw [hc]
      dsimp only
      rw [hv]
    refine gives_of_guard hexec hr ?_
    simp only [beq_iff_eq]

end Sys2Proof.Machine
end

section
/-!
PROOFS. Field update: FW_LOAD, FW_COMMIT, FW_ACTIVATE and the steps of an activation (R404, R407 to R411).
-/
namespace Sys2Proof.Machine

/-! ### FW_LOAD -/

theorem noArrayOp {d : Dev} {bank : Nat} (h : ∀ o ∈ d.array.ops, o.bank ≠ bank) : d.array.ops.any (fun o => o.bank == bank) = false := by
  simpa using h

theorem exec_fwLoad {s : State} {seat tag : Nat} {data : List Block} {stop : Option (Nat × Nat)} (fail : Option Nat) {c : Cmd}
    (hc : readyCmd? (voteAll s.dev) seat tag opFWLOAD = some c) (hf : pullFits c data stop = true)
    (ho : ∀ o ∈ (voteAll s.dev).array.ops, o.bank ≠ targetBank (voteAll s.dev)) (ht : pullTurn (voteAll s.dev) c = true) :
    exec (.fwLoad seat tag data stop fail) s = finish s (fwLoad (pullServed (voteAll s.dev) c) c data stop fail) := by
  show execFwLoad seat tag data stop fail s = _
  unfold execFwLoad
  dsimp only
  rw [hc]
  dsimp only
  rw [hf, noArrayOp ho, ht]
  rfl

theorem fwLoad_bad {d : Dev} (c : Cmd) (data : List Block) (stop : Option (Nat × Nat)) (fail : Option Nat) (hb : bankBad d (targetBank d) = true) :
    fwLoad d c data stop fail = updFail d c 8 := if_pos hb

theorem fwLoad_unfit {d : Dev} {c : Cmd} (data : List Block) (stop : Option (Nat × Nat)) (fail : Option Nat) (hb : bankBad d (targetBank d) = false)
    (hl : cLba c ≠ 0) (hs : fwuState d ≠ fuLOADING ∨ cLba c ≠ rd d F.FWU_NEXT_LBA) : fwLoad d c data stop fail = complete d c stINVFLD 0x08 := by
  unfold fwLoad
  dsimp only
  rw [if_neg (by rw [hb]; decide), if_pos]
  rcases hs with h | h <;> simp [hl, h]

theorem loadBlocks_stopped {d : Dev} {c : Cmd} {bank : Nat} {stop : Option (Nat × Nat)} {fail : Option Nat} {n k : Nat} {data : List Block}
    (h : stop.any (fun e => e.1 == k) = true) : loadBlocks d c bank stop fail (n + 1) k data = complete d c stBUS ((stop.map Prod.snd).getD 5) := by
  rw [loadBlocks]
  exact if_pos h

theorem loadBlocks_badCrc {d : Dev} {c : Cmd} {bank : Nat} {fail : Option Nat} {n k : Nat} {data : List Block} (h : imgBlockOk (data.take 16) = false) :
    loadBlocks d c bank none fail (n + 1) k data = complete d c stBUS 5 := by
  rw [loadBlocks]
  exact (if_neg (by simp)).trans (if_pos (by rw [h]; rfl))

theorem loadBlocks_arrayFails {d : Dev} {c : Cmd} {bank n k : Nat} {data : List Block} (h : imgBlockOk (data.take 16) = true)
    (h16 : 16 ≤ rd d F.FWU_NEXT_LBA) : loadBlocks d c bank none (some k) (n + 1) k data =
      updFail (arrFail d bank (rd d F.FWU_NEXT_LBA / 16 / 4) none) c 8 := by
  have himg : (rd d F.FWU_NEXT_LBA / 16 == 0) = false := by
    rw [beq_eq_false_iff_ne]
    omega
  rw [loadBlocks]
  simp only [Option.any_none, Bool.false_eq_true, if_false, h, Bool.not_true, himg, Bool.false_and, beq_self_eq_true, if_true]

/-! ### The bank record -/

/-- The fields that show the governing record. -/
def recordFields : List Fld := [F.FWA_BANK_RECSRC, F.FWA_BANK_RECACT, F.FWA_RECSEQ_SEQ]

theorem rd_recShow (d : Dev) {f : Fld} (hf : f.lo + f.wd ≤ 32) (h : ∀ g ∈ recordFields, FldApart f g) : rd (recShow d) f = rd d f := by
  unfold recShow
  split <;> exact rd_wrs_apart d _ hf h

theorem rd_writeRecord (d : Dev) (bank active cause : Nat) {f : Fld} (hf : f.lo + f.wd ≤ 32) (h : ∀ g ∈ recordFields, FldApart f g) :
    rd (writeRecord d bank active cause) f = rd d f := by
  unfold writeRecord
  split
  · rfl
  · split
    · rfl
    · refine (rd_recShow _ hf h).trans ?_
      split <;> rfl

/-- The device with a committed image. -/
def committed (d : Dev) (b : Nat) : Dev := raise (wr (writeRecord d b b 1) F.FWU_STATE_STATE fuCOMMITTED) 0xD 9

theorem committed_shows {d : Dev} (b : Nat) (hv : rd d F.FWU_KEYIDX_VALID = 1) : fwuState (committed d b) = fuCOMMITTED ∧ rd (committed d b) F.FWU_KEYIDX_VALID = 1 ∧
    evtSet (committed d b) 0xD 9 = true := by
  unfold committed fwuState
  refine ⟨?_, ?_, evtSet_raise_same _ _ (by decide)⟩ <;> rw [rd_raise _ _ _ _ (by decide)]
  · rw [rd_wr_same _ _ _ (by decide)]
    rfl
  · rw [rd_wr_apart _ _ (by decide) (by decide), rd_writeRecord _ _ _ _ (by decide) (by decide), hv]

theorem evtSet_updFail {d : Dev} {p b : Nat} (c : Cmd) (cause : Nat) (h : evtSet d p b = true) : evtSet (updFail d c cause) p b = true := by
  have hhdr : (updFail d c cause).hub.hdr = (updRefused d (cOpc c) cause).hub.hdr := complete_keeps (fun d => d.hub.hdr) (fun _ _ _ _ _ => rfl) ..
  rw [evtSet_congr b (hdrOf_congr hhdr p)]
  exact evtSet_raise_of_set _ _ h

theorem exec_fwCommit {s : State} {seat tag : Nat} {v : ImgVerdict} {c : Cmd} {w : Dev} (hw : w = voteAll s.dev) (hc : readyCmd? w seat tag opFWCOMMIT = some c)
    (ho : ∀ o ∈ w.array.ops, o.bank ≠ targetBank w) {e : Dev} (he : (match commitCause w v with
        | some k => updFail w c k
        | none =>
          let b := targetBank w
          let d1 := wrs w [(F.FWU_KEYIDX_VALID, 1), (F.FWU_KEYIDX_SLOT, (imgVerifies w b v).getD 0)]
          if !v.programOk then
            updFail (match recordPlace w b with
              | some p => arrFail d1 b p.1 (some p.2)
              | none => d1) c 8
          else succeed (raise (wr (writeRecord d1 b b 1) F.FWU_STATE_STATE fuCOMMITTED) 0xD 9) c) = e) : exec (.fwCommit seat tag v) s = finish s e := by
  subst he
  show execFwCommit seat tag v s = _
  unfold execFwCommit
  dsimp only
  rw [← hw, hc]
  dsimp only
  rw [noArrayOp ho]
  rfl

theorem commits {s : State} {seat tag : Nat} {v : ImgVerdict} {c : Cmd} {w : Dev} (hw : w = voteAll s.dev) (hc : readyCmd? w seat tag opFWCOMMIT = some c)
    (ho : ∀ o ∈ w.array.ops, o.bank ≠ targetBank w) :
    (∀ k, commitCause w v = some k → Gives (.fwCommit seat tag v) s (fun d => d = updFail w c k)) ∧
    (commitCause w v = none → let b := targetBank w
      let d1 := wrs w [(F.FWU_KEYIDX_VALID, 1), (F.FWU_KEYIDX_SLOT, (imgVerifies w b v).getD 0)]
      (v.programOk = true → Gives (.fwCommit seat tag v) s (fun d => fwuState d = fuCOMMITTED ∧ rd d F.FWU_KEYIDX_VALID = 1 ∧ evtSet d 0xD 9 = true ∧
        d = succeed (raise (wr (writeRecord d1 b b 1) F.FWU_STATE_STATE fuCOMMITTED) 0xD 9) c)) ∧
      (v.programOk = false → ∀ blk pg, recordPlace w b = some (blk, pg) → Gives (.fwCommit seat tag v) s (fun d =>
        d = updFail (arrFail d1 b blk (some pg)) c 8 ∧ evtSet d 0xC 10 = true))) := by
  refine ⟨fun k hk => ⟨_, exec_fwCommit hw hc ho rfl, by rw [hk]⟩, fun hk => ⟨fun hp => ?_, fun hp blk pg hr => ?_⟩⟩
  · refine ⟨succeed (committed (wrs w [(F.FWU_KEYIDX_VALID, 1), (F.FWU_KEYIDX_SLOT, (imgVerifies w (targetBank w) v).getD 0)]) (targetBank w)) c,
      exec_fwCommit (w := w) hw hc ho (by rw [hk]; exact if_neg (by rw [hp]; decide)), ?_⟩
    have hvalid : rd (wrs w [(F.FWU_KEYIDX_VALID, 1), (F.FWU_KEYIDX_SLOT, (imgVerifies w (targetBank w) v).getD 0)]) F.FWU_KEYIDX_VALID = 1 := by
      simp (disch := decide) only [wrs, List.foldl_cons, List.foldl_nil, rd_wr_same, rd_wr_apart]
      rfl
    obtain ⟨hstate, hkey, hevt⟩ := committed_shows (targetBank w) hvalid
    have hhub : (succeed (committed (wrs w [(F.FWU_KEYIDX_VALID, 1), (F.FWU_KEYIDX_SLOT, (imgVerifies w (targetBank w) v).getD 0)]) (targetBank w)) c).hub =
        (committed (wrs w [(F.FWU_KEYIDX_VALID, 1), (F.FWU_KEYIDX_SLOT, (imgVerifies w (targetBank w) v).getD 0)]) (targetBank w)).hub :=
      succeed_keeps Dev.hub (fun _ _ _ _ _ => rfl) ..
    refine ⟨?_, ?_, ?_, rfl⟩
    · exact (rd_congr F.FWU_STATE_STATE (actW_congr (congrArg Hub.act hhub) _)).trans hstate
    · exact (rd_congr F.FWU_KEYIDX_VALID (actW_congr (congrArg Hub.act hhub) _)).trans hkey
    · exact (evtSet_congr 9 (hdrOf_congr (congrArg Hub.hdr hhub) 0xD)).trans hevt
  · refine ⟨updFail (arrFail (wrs w [(F.FWU_KEYIDX_VALID, 1), (F.FWU_KEYIDX_SLOT, (imgVerifies w (targetBank w) v).getD 0)]) (targetBank w) blk (some pg)) c 8,
      exec_fwCommit (w := w) hw hc ho ?_, rfl, evtSet_updFail c 8 (evtSet_raise_same _ _ (by decide))⟩
    rw [hk]
    refine (if_pos (by rw [hp]; rfl)).trans ?_
    rw [hr]

/-! ### FW_ACTIVATE -/

theorem exec_fwActivate {s : State} {seat tag : Nat} {c : Cmd} {w : Dev} (hw : w = voteAll s.dev) (hc : readyCmd? w seat tag opFWACT = some c) {e : Dev}
    (he : (if !(fwuState w == fuCOMMITTED) then updFail w c 4
      else if sanitising w || hardRepairing w then updFail w c 11
      else if modeRefuses w c then complete w c stMODE 0
      else
        let d1 := modCmds w (updWhere (fun x => !isStarted x && !(x.seq == c.seq)) (fun x => { x with stage := .held, kres := 0 }))
        let d2 := modCmd d1 c.seq (fun x => { x with stage := .run })
        wr { d2 with cmds := { d2.cmds with activating := true }
                     upd := { d2.upd with step := 1, cmd := c.seq, t0 := w.sys.time } } F.FWU_STATE_STATE fuACTIVATING) = e) :
    exec (.fwActivate seat tag) s = finish s e := by
  subst he
  show execFwActivate seat tag s = _
  unfold execFwActivate
  dsimp only
  rw [← hw, hc]

theorem isStarted_ready {x : Cmd} (h : x.stage = .ready) : isStarted x = false := by
  simp [isStarted, underWay, h]

/-- An activation holds every command that has not started, but its own. -/
theorem activation_holds {l : List Cmd} {q : Nat} {x : Cmd}
    (hx : x ∈ updWhere (fun c => c.seq == q) (fun x => { x with stage := .run }) (updWhere (fun x => !isStarted x && !(x.seq == q))
      (fun x => { x with stage := .held, kres := 0 }) l)) (hq : x.seq ≠ q) : x.stage ≠ .ready ∧ (isStarted x = false → x.stage = .held) := by
  obtain ⟨y, hy, rfl⟩ := List.mem_map.1 hx
  obtain ⟨z, -, rfl⟩ := List.mem_map.1 hy
  have hne : ¬ ((if (!isStarted z && !(z.seq == q)) = true then { z with stage := Stage.held, kres := 0 } else z).seq == q) = true := by
    intro h
    rw [if_pos h] at hq
    exact hq (by simpa using h)
  rw [if_neg hne] at hq ⊢
  split at hq <;> rename_i hz
  · rw [if_pos hz]
    exact ⟨nofun, fun _ => rfl⟩
  · have hst : isStarted z = true := by simpa [hq] using hz
    rw [if_neg hz, hst]
    exact ⟨fun hr => Bool.false_ne_true ((isStarted_ready hr).symm.trans hst), nofun⟩

theorem activates {s : State} {seat tag : Nat} {c : Cmd} {w : Dev} (hw : w = voteAll s.dev) (hc : readyCmd? w seat tag opFWACT = some c) :
    (fwuState w ≠ fuCOMMITTED → Gives (.fwActivate seat tag) s (fun d => d = updFail w c 4)) ∧
    (fwuState w = fuCOMMITTED → sanitising w = true ∨ hardRepairing w = true → Gives (.fwActivate seat tag) s (fun d => d = updFail w c 11)) ∧
    (fwuState w = fuCOMMITTED → sanitising w = false → hardRepairing w = false → modeRefuses w c = true →
      Gives (.fwActivate seat tag) s (fun d => d = complete w c stMODE 0)) ∧
    (fwuState w = fuCOMMITTED → sanitising w = false → hardRepairing w = false → modeRefuses w c = false → Gives (.fwActivate seat tag) s (fun d =>
      fwuState d = fuACTIVATING ∧ d.cmds.activating = true ∧ d.upd.step = 1 ∧ d.upd.cmd = c.seq ∧
      (∀ x ∈ d.cmds.list, x.seq ≠ c.seq → x.stage ≠ .ready ∧ (isStarted x = false → x.stage = .held)) ∧
      ∀ o, o ≠ 0xD040 → actW d o = actW w o)) := by
  refine ⟨fun hst => ⟨_, exec_fwActivate hw hc rfl, by rw [if_pos (by simpa using hst)]⟩,
    fun hst hbusy => ⟨_, exec_fwActivate hw hc rfl, by rw [if_neg (by simp [hst]), if_pos (by simpa using hbusy)]⟩,
    fun hst hs hr hm => ⟨_, exec_fwActivate hw hc rfl, by rw [if_neg (by simp [hst]), if_neg (by simp [hs, hr]), if_pos hm]⟩,
    fun hst hs hr hm => ⟨_, exec_fwActivate hw hc rfl, ?_⟩⟩
  rw [if_neg (by simp [hst]), if_neg (by simp [hs, hr]), if_neg (by simp [hm])]
  dsimp only
  refine ⟨(rd_wr_same _ F.FWU_STATE_STATE _ (by decide)).trans rfl, rfl, rfl, rfl, fun x hx hq => activation_holds hx hq,
    fun o ho => (actW_wr_ne _ F.FWU_STATE_STATE _ ho).trans rfl⟩

/-! ### The steps of an activation -/

theorem newImage_shows (d : Dev) : evtSet (newImage d) 0xD 10 = true ∧ rd (newImage d) F.FWA_BANK_EXEC = rd d F.FWA_BANK_EXEC ∧
    rd (newImage d) F.FWA_ACTIVE_VER_VERSION = (bankHdr d (rd d F.FWA_BANK_EXEC)).version ∧ fwuState (newImage d) = fuEMPTY ∧
    rd (newImage d) F.FWU_TACT_US = (d.sys.time - d.upd.t0) / 1000 % 2 ^ 32 := by
  have hb : rd d F.FWA_BANK_EXEC < 2 := rd_lt ..
  have hver : (bankHdr d (rd d F.FWA_BANK_EXEC)).version < 2 ^ 32 := Nat.mod_lt _ (by decide)
  have hexec := (rd_bankStarted_bank d hb).2
  have hshown : rd (bankStarted d (rd d F.FWA_BANK_EXEC)) F.FWA_ACTIVE_VER_VERSION = (bankHdr d (rd d F.FWA_BANK_EXEC)).version := by
    unfold bankStarted
    simp (disch := decide) only [wrs, List.foldl_cons, List.foldl_nil, rd_wr_same, rd_wr_apart]
    exact Nat.mod_eq_of_lt hver
  unfold newImage fwuState
  generalize bankStarted d (rd d F.FWA_BANK_EXEC) = e at hexec hshown
  refine ⟨evtSet_raise_same _ _ (by decide), ?_, ?_, ?_, ?_⟩ <;> rw [rd_raise _ _ _ _ (by decide)] <;> unfold setMigpend fwuEmpty <;>
    simp (disch := decide) only [wrs, List.foldl_cons, List.foldl_nil, rd_wr_same, rd_wr_apart]
  · exact hexec
  · exact hshown
  · rfl
  · rfl

theorem oldImage_shows (d : Dev) : evtSet (oldImage d) 0xD 11 = true ∧ rd (oldImage d) F.FWA_BANK_EXEC = 1 - rd d F.FWA_BANK_EXEC ∧
    fwuState (oldImage d) = fuEMPTY := by
  unfold oldImage fwuState
  refine ⟨evtSet_raise_same _ _ (by decide), ?_, ?_⟩ <;> rw [rd_raise _ _ _ _ (by decide)] <;> unfold fwuEmpty <;>
    simp (disch := decide) only [wrs, List.foldl_cons, List.foldl_nil, rd_wr_same, rd_wr_apart]
  · rw [rd_writeRecord _ _ _ _ (by decide) (by decide)]
    unfold execFrom
    simp (disch := decide) only [wrs, List.foldl_cons, List.foldl_nil, rd_wr_same, rd_wr_apart]
    exact Nat.mod_eq_of_lt (Nat.lt_of_le_of_lt (Nat.sub_le ..) (by decide))
  · rfl

theorem execFrom_shows (d : Dev) {b : Nat} (hb : b < 2) : rd (execFrom d b) F.FWA_BANK_EXEC = b ∧ rd (execFrom d b) F.GLB_BOOT_BANK = b ∧
    ∀ o, o ∉ [0xC044, 0x144] → actW (execFrom d b) o = actW d o := by
  unfold execFrom
  refine ⟨?_, ?_, fun o ho => actW_wrs_ne d (offs := [0xC044, 0x144]) rfl ho⟩ <;>
    simp (disch := decide) only [wrs, List.foldl_cons, List.foldl_nil, rd_wr_same, rd_wr_apart]
  · exact Nat.mod_eq_of_lt hb
  · exact Nat.mod_eq_of_lt hb

/-- Settles O53: loads by their blocks, the commit by its cause and its record, the activation step by step. -/
theorem firmwareUpdateRuns : Obligations.FirmwareUpdateRuns := by
  refine ⟨?load, ?blocks, ?commit, ?activate, ?drain, ?quiesce, ?run⟩
  case load =>
    intro s seat tag data stop fail c w hc hf ho ht d0
    have hbank : targetBank d0 = targetBank w := rd_congr F.FWU_STATE_TARGET (actW_pullServed ..)
    have hbad : bankBad d0 (targetBank d0) = bankBad w (targetBank w) := by
      rw [hbank]
      unfold bankBad
      rw [pullServed_array]
    refine ⟨_, exec_fwLoad fail hc hf ho ht, rfl, fun hb => fwLoad_bad c data stop fail (hbad.trans hb), fun hb hl hs => ?_⟩
    refine fwLoad_unfit data stop fail (hbad.trans hb) hl ?_
    have hstate : fwuState d0 = fwuState w := rd_congr F.FWU_STATE_STATE (actW_pullServed ..)
    have hnext : rd d0 F.FWU_NEXT_LBA = rd w F.FWU_NEXT_LBA := rd_congr F.FWU_NEXT_LBA (actW_pullServed ..)
    rwa [hstate, hnext]
  case blocks =>
    intro d c bank stop fail n k data
    refine ⟨loadBlocks_stopped, fun hs h => ?_, fun hs h h16 hf => ?_⟩
    · rw [hs]
      exact loadBlocks_badCrc h
    · rw [hs, hf]
      exact loadBlocks_arrayFails h h16
  case commit => exact fun s seat tag v c hc ho => commits rfl hc ho
  case activate => exact fun s seat tag c hc => activates rfl hc
  case drain =>
    intro s hrun hstep
    refine ⟨fun hd => ⟨_, rfl, ?_⟩, fun hd => ⟨_, rfl, ?_⟩⟩ <;> dsimp only <;> rw [hrun, hstep, hd] <;> rfl
  case quiesce =>
    intro s hrun hstep hb
    obtain ⟨hexec, hboot, hrest⟩ := execFrom_shows { s.dev with upd := { s.dev.upd with step := 3 } } hb
    refine gives_of_guard (c := .activationQuiesceDone) rfl (by rw [hrun, hstep]; rfl) ⟨hexec, hboot, ?_, hrest⟩
    exact wrs_keeps (fun d => d.upd.step) (fun _ _ _ => rfl) ..
  case run =>
    intro s hrun hstep b d1 d2
    obtain ⟨hevt, hexec, hver, hstate, htact⟩ := newImage_shows s.dev
    obtain ⟨hevt2, hexec2, hstate2⟩ := oldImage_shows s.dev
    have hgo : (cpuRuns s.dev && s.dev.upd.step == 3) = true := by
      rw [hrun, hstep]
      rfl
    refine ⟨hevt, hexec, hver, hstate, htact, hevt2, hexec2, hstate2, fun c hc => ?_, fun hc => ?_, gives_of_guard (c := .activationFallback) rfl hgo rfl⟩ <;>
      exact gives_of_guard_eq (c := .activated) rfl hgo (by rw [hc]) rfl

end Sys2Proof.Machine
end

section
/-!
PROOFS. The firmware array: a write of FWA_OPCMD votes the triple-voted fields first (R60), and the statement's array operation does not.
-/
namespace Sys2Proof.Machine

/-- A device whose port B reaches page FWA, with one copy of PFL_EHOLD upset, and an erase of bank 0 in its minimum run. -/
def upsetDev : Dev :=
  let d := State.reset.dev
  let d1 := wrs { d with
      sys := { d.sys with pwrgd := true, aon := true, rails := allRails, portsFree := true, perstLow := [], refPresent := [0, 1] }
      array := { d.array with ops := [{ bank := 0, block := 0, page := 0, op := 2, minRun := true }] }
      pci := { d.pci with bme := [0, 512], mse := [0, 512] }
      hub := { d.hub with tv := [(2 * F.PFL_EHOLD_MJ.off, { x0 := 1 })] } }
    [(F.PRT_LSTAT_UP 0 0, 1), (F.PRT_LSTAT_UP 1 0, 1), (F.PWR_DOMSTAT_ON, 2 ^ 30 - 1), (F.CLK_STAT_LOCK, 2 ^ 23 - 1)]
  setHdr d1 0xC { hdrOf d1 0xC with on := true }

/-- The copies that differ after a command that answers. -/
def copiesAfter (o : Host.Outcome State Fault Refusal) : SMap Copies :=
  match o with
  | .next s => s.dev.hub.tv
  | _ => []

/-- Refutes O54: a raw read written while one copy of PFL_EHOLD is upset votes that word before it acts, and the operation the statement
names leaves the copies upset. -/
theorem not_firmwareArrayOperations : ¬ Obligations.FirmwareArrayOperations := by
  rintro ⟨hraw, -⟩
  obtain ⟨-, hread, -⟩ := hraw { State.reset with dev := upsetDev } 1 0x80000000 (by decide +kernel) (by decide +kernel)
  obtain ⟨d, hexec, hd⟩ := hread (by decide +kernel) (by decide +kernel)
  have hupset := congrArg copiesAfter hexec
  rw [hd] at hupset
  exact absurd hupset (by decide +kernel)

end Sys2Proof.Machine
end

section
/-!
PROOFS. The ends of flash operations, the commit of a portion, freed battens and padding (R192, R199, R200, R244, R273, R280).
-/
namespace Sys2Proof.Machine

/-! ### The operations of a LUN -/

theorem programEnds {s : State} {lun : Nat} {o : FOp} (h : execOp? s.dev lun .prog = some o) :
    Gives (.programComplete lun true) s (fun d => d = afterMedia (issueLun (progPassed (endOp s.dev lun) o) lun)) ∧
    Gives (.programComplete lun false) s (fun d => d = afterMedia (issueLun (progFailed (endOp s.dev lun) lun o) lun)) ∧
    ((lunOf s.dev lun).asking = true → (lunOf s.dev lun).asleep = none → 3 ≤ o.cls → o.susp = 0 → Gives (.programSuspended lun) s (fun d =>
      d = issueLun (modLun s.dev lun (fun v => { v with exec := none, asking := false, asleep := some { o with susp := 1 } })) lun)) ∧
    ((lunOf s.dev lun).asleep.isSome = true → Gives (.programSuspended lun) s (fun d => d = s.dev)) := by
  refine ⟨⟨_, rfl, by simp only [h, if_true]⟩, ⟨_, rfl, by simp only [h, Bool.false_eq_true, if_false]⟩, fun ha hs hc hp => ⟨_, rfl, ?_⟩,
    fun hs => ⟨_, rfl, ?_⟩⟩
  · simp only [h, ha, hs, hp, decide_eq_true hc]
    rfl
  · have hnone : (lunOf s.dev lun).asleep.isNone = false := by simpa [Option.isSome_iff_ne_none] using hs
    simp only [h, hnone, Bool.and_false, Bool.false_and, guardDev, Bool.false_eq_true, if_false]

theorem flushProgEnd_shows (d : Dev) (lun : Nat) (o : FOp) (ok : Bool) : lunOf (flushProgEnd d lun o ok) lun = {} ∧
    (ok = false → (o.stripe, o.pos) ∈ (batOf (flushProgEnd d lun o ok) o.batten).failed) := by
  refine ⟨(lunOf_setLun_same d lun {} :), ?_⟩
  rintro rfl
  unfold flushProgEnd modBat
  rw [batOf_setBat_same]
  show (o.stripe, o.pos) ∈ if ((batOf (setLun d lun {}) o.batten).failed.contains (o.stripe, o.pos)) = true then _ else _
  split
  · next h => exact List.contains_iff_mem.1 h
  · exact List.mem_append_right _ List.mem_cons_self

theorem eraseSuspends {s : State} {lun : Nat} {o : FOp} (h : execOp? s.dev lun .erase = some o) (ha : (lunOf s.dev lun).asking = true) :
    let d1 := modLun s.dev lun (fun v => { v with exec := none, asking := false, asleep := some { o with susp := o.susp + 1 } })
    let d2 := raise (satAdd d1 F.COX_ESLIM_COUNT 1) 0x18 9
    (o.susp + 1 ≠ rd s.dev F.MEDIA_TESUS_ESMAX → Gives (.eraseSuspended lun) s (fun d => d = issueLun (placeDue d1 lun) lun)) ∧
    (o.susp + 1 = rd s.dev F.MEDIA_TESUS_ESMAX → Gives (.eraseSuspended lun) s (fun d => d = issueLun (placeDue d2 lun) lun)) := by
  refine ⟨fun hn => ⟨_, rfl, ?_⟩, fun hn => ⟨_, rfl, ?_⟩⟩
  · simp only [h, ha, guardDev, if_true, if_neg (show ¬(o.susp + 1 == rd s.dev F.MEDIA_TESUS_ESMAX) = true by simpa using hn)]
  · simp only [h, ha, guardDev, if_true, if_pos (show (o.susp + 1 == rd s.dev F.MEDIA_TESUS_ESMAX) = true by simpa using hn)]

/-! ### The commit of a portion -/

/-- The map, the deltas and the ring. -/
def mapDeltasRing (d : Dev) : MapSt × List Delta × SMap RingSlot := (d.med.m, d.med.deltas, d.med.ring)

theorem mapDeltasRing_horizonCommit (d : Dev) (i cmd k : Nat) : mapDeltasRing (horizonCommit d i cmd k) = mapDeltasRing d := by
  unfold horizonCommit advanceHorizon
  dsimp only
  split
  · rfl
  · split
    · exact (congrArg (fun m : Med => (m.m, m.deltas, m.ring)) (raise_med ..)).trans rfl
    · rfl

theorem mapDeltasRing_commitSlot {d : Dev} {id : Nat} {r : RingSlot} (h : d.med.ring.get? id = some r) :
    mapDeltasRing (commitSlot d id) =
      (commitMap d.med.m r id, d.med.deltas ++ commitDeltas d.med.m r (ringBlocks d.med.m r.ext.tag id), d.med.ring.erase id) := by
  unfold commitSlot
  rw [h]
  dsimp only
  split
  · split
    · exact (mapDeltasRing_horizonCommit ..).trans rfl
    · rfl
  · rfl

/-! ### A batten that is freed -/

theorem batOf_congr {d d' : Dev} (h : d'.med.nand.bats = d.med.nand.bats) (b : Nat) : batOf d' b = batOf d b := by
  unfold batOf
  rw [h]

/-- A device whose battens differ from those of another only by at most so many codewords appended. -/
structure Appended (k : Nat) (d d' : Dev) : Prop where
  pair : d'.med.nand.sysPair = d.med.nand.sysPair
  cw : sysCw d' = sysCw d
  bats : ∀ b, (batOf d' b).st = (batOf d b).st ∧ (batOf d' b).ec = (batOf d b).ec ∧ (batOf d' b).wptr ≤ (batOf d b).wptr + k

/-- The device after records have taken their numbers. -/
def recsNumbered (d : Dev) (l : List Nat) : Dev :=
  add64 (modNand d (fun x => { x with
    sysGen := x.sysGen + l.length
    recs := l.zipIdx.foldl (fun (m : SMap Nat) e => SMap.set m e.1 (x.sysGen + 1 + e.2)) x.recs })) F.MAP_WSEQ (2 * l.length)

theorem sysCw_records {d d' : Dev} (h : RecordsOnly d d') : sysCw d' = sysCw d := by
  have hw : batW d' = batW d := rd_congr F.MEDIA_BATW_W (h.words _ (by decide))
  have hq : rd d' F.MEDIA_GEOM0_Q = rd d F.MEDIA_GEOM0_Q := rd_congr F.MEDIA_GEOM0_Q (h.words _ (by decide))
  have hn : rd d' F.MEDIA_GEOM1_NUSLC = rd d F.MEDIA_GEOM1_NUSLC := rd_congr F.MEDIA_GEOM1_NUSLC (h.words _ (by decide))
  unfold sysCw
  rw [hw, hq, hn]

/-- Records with room in the system pair start no new pair. -/
theorem sysPut_room {d : Dev} {l : List Nat} (h : (batOf d d.med.nand.sysPair.1).wptr + 4 * l.length ≤ sysCw d) :
    sysPut d l = if (!d.med.nand.formatted || sysCw d == 0) = true then recsNumbered d l
      else [d.med.nand.sysPair.1, d.med.nand.sysPair.2].foldl (fun d x => modBat d x (fun v => { v with wptr := v.wptr + 4 * l.length })) (recsNumbered d l) := by
  unfold sysPut
  exact ite_congr rfl (fun _ => rfl) fun _ => (if_neg (Nat.not_lt.2 h))

namespace Appended

variable {k j : Nat} {d d' d'' : Dev}

theorem trans (h : Appended k d d') (h' : Appended j d' d'') : Appended (k + j) d d'' := by
  refine ⟨h'.pair.trans h.pair, h'.cw.trans h.cw, fun b => ?_⟩
  obtain ⟨hst, hec, hw⟩ := h.bats b
  obtain ⟨hst', hec', hw'⟩ := h'.bats b
  exact ⟨hst'.trans hst, hec'.trans hec, by omega⟩

theorem mono (h : Appended k d d') (hk : k ≤ j) : Appended j d d' :=
  ⟨h.pair, h.cw, fun b => ⟨(h.bats b).1, (h.bats b).2.1, Nat.le_trans (h.bats b).2.2 (Nat.add_le_add_left hk _)⟩⟩

theorem of_bats (hb : d'.med.nand.bats = d.med.nand.bats) (hp : d'.med.nand.sysPair = d.med.nand.sysPair) (hc : sysCw d' = sysCw d) : Appended 0 d d' :=
  ⟨hp, hc, fun b => by rw [batOf_congr hb]; exact ⟨rfl, rfl, Nat.le_refl _⟩⟩

theorem modBat (d : Dev) (x m : Nat) : Appended m d (Machine.modBat d x (fun v => { v with wptr := v.wptr + m })) := by
  refine ⟨rfl, rfl, fun b => ?_⟩
  unfold Machine.modBat
  by_cases hb : b = x
  · subst hb
    rw [batOf_setBat_same]
    exact ⟨rfl, rfl, Nat.le_refl _⟩
  · rw [batOf_setBat_ne _ _ hb]
    exact ⟨rfl, rfl, Nat.le_add_right ..⟩

/-- Records with room in the system pair are appended to it. -/
theorem sysPut (l : List Nat) (h : (batOf d d.med.nand.sysPair.1).wptr + 4 * l.length ≤ sysCw d) :
    Appended (8 * l.length) d (Machine.sysPut d l) := by
  have hnum : Appended 0 d (recsNumbered d l) := of_bats rfl rfl (sysCw_records (RecordsOnly.trans (.modNand _ rfl) (.wseq ..)))
  rw [sysPut_room h]
  split
  · exact hnum.mono (by omega)
  · exact ((hnum.trans (modBat _ _ _)).trans (modBat _ _ _)).mono (by omega)

theorem eraseBatchPut (h : (batOf d d.med.nand.sysPair.1).wptr + 4 ≤ sysCw d) : Appended 8 d (Machine.eraseBatchPut d) := by
  unfold Machine.eraseBatchPut
  split
  · exact (of_bats rfl rfl rfl).mono (by omega)
  · have hnum : Appended 0 d (modNand { d with med := { d.med with eraseBatch := [] } } (fun n => { n with batchNo := n.batchNo + 1 })) := of_bats rfl rfl rfl
    exact hnum.trans (sysPut [recKey 4 d.med.nand.batchNo] h)

/-- The records of a freed batten, the batch of erase counts before them where it is full. -/
theorem freedPuts {c : Prop} [Decidable c] (l : Nat) (h : (batOf d d.med.nand.sysPair.1).wptr + 16 ≤ sysCw d) :
    Appended 16 d (Machine.sysPut (if c then Machine.eraseBatchPut d else d) [l]) := by
  have hbatch : Appended 8 d (if c then Machine.eraseBatchPut d else d) := by
    split
    · exact eraseBatchPut (by omega)
    · exact (of_bats rfl rfl rfl).mono (by omega)
  refine hbatch.trans (sysPut [l] ?_)
  obtain ⟨-, -, hw⟩ := hbatch.bats d.med.nand.sysPair.1
  rw [hbatch.pair, hbatch.cw]
  simp only [List.length_singleton]
  omega

end Appended

theorem bats_wearEol (d : Dev) : (wearEol d).med.nand.bats = d.med.nand.bats := by
  unfold wearEol
  split
  · rw [raise_med]
  · rfl

/-- The device with a batten freed and its erase count in the batch, no record written yet. -/
def freed (d : Dev) (b : Nat) : Dev :=
  let d1 := setBat d b { ec := (batOf d b).ec + 1, repl := (batOf d b).repl, adj := (batOf d b).adj }
  { d1 with med := { d1.med with eraseBatch := if d1.med.eraseBatch.any (fun e => e.1 == b) then d1.med.eraseBatch
                                               else d1.med.eraseBatch ++ [(b, (batOf d b).ec)] } }

theorem freeBat_eq {d : Dev} {b : Nat} (hst : (batOf d b).st = .erasing) (he : (batOf d b).toErase = []) :
    freeBat d b = wearEol (sysPut (if (freed d b).med.eraseBatch.length ≥ 2048 then eraseBatchPut (freed d b) else freed d b) [recKey 3 b]) :=
  if_pos (by rw [hst, he]; rfl)

theorem batOf_freed (d : Dev) (b x : Nat) :
    batOf (freed d b) x = if x = b then { ec := (batOf d b).ec + 1, repl := (batOf d b).repl, adj := (batOf d b).adj } else batOf d x :=
  batOf_setBat ..

theorem freeBat_frees {d : Dev} {b : Nat} (hst : (batOf d b).st = .erasing) (he : (batOf d b).toErase = [])
    (hroom : (batOf d d.med.nand.sysPair.1).wptr + 16 ≤ sysCw d) :
    (batOf (freeBat d b) b).st = .free ∧ (batOf (freeBat d b) b).ec = (batOf d b).ec + 1 := by
  have hroom' : (batOf (freed d b) (freed d b).med.nand.sysPair.1).wptr + 16 ≤ sysCw (freed d b) := by
    show (batOf (freed d b) d.med.nand.sysPair.1).wptr + 16 ≤ sysCw d
    rw [batOf_freed]
    split
    · exact Nat.le_trans (Nat.add_le_add_right (Nat.zero_le _) _) hroom
    · exact hroom
  obtain ⟨hs, hec, -⟩ := (Appended.freedPuts (c := (freed d b).med.eraseBatch.length ≥ 2048) (recKey 3 b) hroom').bats b
  rw [batOf_freed, if_pos rfl] at hs hec
  rw [freeBat_eq hst he, batOf_congr (bats_wearEol _)]
  exact ⟨hs, hec⟩

/-! ### Padding -/

theorem nand_emitUnits (d : Dev) (b lo hi cls : Nat) : (emitUnits d b lo hi cls).med.nand = d.med.nand := by
  unfold emitUnits
  dsimp only
  split <;> rfl

theorem wptr_padTo {d : Dev} {b n : Nat} (cls : Nat) (hw : (batOf d b).wptr % n ≠ 0) (hn : 0 < n) :
    (batOf (padTo d b n cls) b).wptr = ((batOf d b).wptr / n + 1) * n := by
  unfold padTo
  dsimp only
  rw [if_neg (by simp; omega), batOf_congr (congrArg Nand.bats (nand_emitUnits ..))]
  exact congrArg Batten.wptr (batOf_setBat_same ..)

/-- Settles O55: each end by its row; a portion by its commit, a freed batten by the records it writes, a stripe by its padding. -/
theorem flashOperationsEnd : Obligations.FlashOperationsEnd := by
  refine ⟨fun s lun o h => programEnds h, ?flush, ?read, ?soft, ?recon, ?erase, ?timeout, ?pad, ?system, ?slot, ?count, ?commit, fun d b => freeBat_frees,
    fun d b cls hn hw => wptr_padTo cls hw hn⟩
  case flush =>
    intro s lun o ok h hf
    obtain ⟨hlun, hfailed⟩ := flushProgEnd_shows s.dev lun o ok
    have hexec : exec (.programComplete lun ok) s = finish s (flushProgEnd s.dev lun o ok) := by
      show execProgramComplete lun ok s = _
      unfold execProgramComplete
      simp only [h, hf]
    exact ⟨_, hexec, rfl, hlun, hfailed⟩
  case read =>
    intro s lun o cws h
    refine ⟨fun hu => ⟨_, rfl, by simp only [h, hu]⟩, fun u hu => ⟨fun hs hl hr => ⟨_, rfl, ?_⟩, fun hs hn => ⟨_, rfl, ?_⟩⟩⟩
    · simp only [h, hu, hs, hl, hr, beq_self_eq_true, Bool.true_and, guardDev, if_true, Bool.false_eq_true, if_false]
    · simp only [h, hu, hs, hn, guardDev, List.isEmpty_nil, if_true]
  case soft =>
    intro s lun cw j u x h hm hc hr
    have hgo : (mediaOn s.dev && !clockHeld s.dev 3 && (cw.mis == 0 || !isRidge (batW s.dev) u.stripe u.pos)) = true := by
      rw [hm, hc]
      simpa using hr
    exact ⟨_, rfl, by simp only [h, hgo, guardDev, if_true]⟩
  case recon =>
    intro s lun others checks j u h hm hd hr
    exact ⟨_, rfl, by simp only [h, hm, hd, hr, guardDev, Bool.and_self, if_true]⟩
  case erase =>
    intro s lun o ok h
    refine ⟨⟨_, rfl, by simp only [h]⟩, fun ha => ⟨evtSet_raise_same _ _ (by decide), eraseSuspends h ha⟩⟩
  case timeout =>
    intro s lun o ok hm hc h
    exact ⟨_, rfl, by simp only [h, hm, hc, guardDev, beq_self_eq_true, Bool.and_self, if_true]⟩
  case pad =>
    intro s b hm hst hr cls
    have hgo : (mediaOn s.dev && (batOf s.dev b).st == .opened && !((batOf s.dev b).role == .system)) = true := by
      rw [hm, hst]
      simpa using hr
    refine ⟨fun hd => ⟨_, rfl, ?_⟩, fun hd => ⟨_, rfl, ?_⟩, ⟨_, rfl, ?_⟩⟩
    · simp only [hgo, guardDev, if_true, Bool.false_eq_true, if_false, hd, cls]
    · simp only [hgo, guardDev, if_true, Bool.false_eq_true, if_false, hd, cls]
    · simp only [hgo, guardDev, if_true, cls]
  case system =>
    intro s b unit hr
    have hgo : (mediaOn s.dev && (batOf s.dev b).st == .opened && !((batOf s.dev b).role == .system)) = false := by
      rw [hr]
      exact Bool.and_false _
    exact ⟨_, rfl, by simp only [hgo, guardDev, Bool.false_eq_true, if_false]⟩
  case slot =>
    intro s hm hd
    exact ⟨_, rfl, by simp only [hm, hd, Bool.and_self, if_true]⟩
  case count =>
    intro s hm hd hr ha
    have hgo : (running s.dev && domOn s.dev 29 && (accepted s.dev || rd64 s.dev F.COX_SLOT > 0)) = true := by
      rw [hr, hd]
      simpa using ha
    refine ⟨add64 s.dev F.COX_SLOT 1, ?_, rd64_wr64_same .., rfl, rfl⟩
    show finish s _ = finish s _
    rw [if_neg (by rw [hm]; exact Bool.false_ne_true), hgo]
    rfl
  case commit =>
    intro d id r h
    have hc := mapDeltasRing_commitSlot h
    exact ⟨congrArg (fun x => x.2.2) hc, congrArg Prod.fst hc, congrArg (fun x => x.2.1) hc⟩

end Sys2Proof.Machine
end

section
/-!
PROOFS. Journal chunks, the valid-data walk, the patrol rate and read disturb (R250 to R255, R277, R286, R288).
-/
namespace Sys2Proof.Machine

/-! ### What placing a chunk leaves -/

/-- What shows of a chunk under way: the busy bit, the deltas that wait and the deltas of the chunk. -/
def chunkView (d : Dev) : Nat × List Delta × List Delta := (rd d F.JNL_STAT_BUSY, d.med.deltas, chunkDeltas d)

theorem chunkView_wr (d : Dev) (f : Fld) (v : Nat) (h : FldApart F.JNL_STAT_BUSY f) : chunkView (wr d f v) = chunkView d := by
  show (rd (wr d f v) F.JNL_STAT_BUSY, _) = _
  rw [rd_wr_apart _ _ (by decide) h]
  rfl

theorem chunkView_wseq (d : Dev) (n : Nat) : chunkView (add64 d F.MAP_WSEQ n) = chunkView d := by
  show (rd (add64 d F.MAP_WSEQ n) F.JNL_STAT_BUSY, _) = _
  rw [add64, rd_wr64 _ _ (by decide) (by decide)]
  rfl

theorem chunkView_modBats (l : List Nat) (f : Dev → Nat → Batten → Batten) (d : Dev) : chunkView (l.foldl (fun d x => modBat d x (f d x)) d) = chunkView d :=
  foldl_keeps chunkView l d fun _ _ => rfl

theorem chunkView_openBatten {d : Dev} {w : Writer} {r : Dev × Nat} (h : openBatten d w = some r) : chunkView r.1 = chunkView d := by
  unfold openBatten at h
  split at h
  · cases h
  · cases h
    exact (chunkView_wr _ F.JNL_STAT_WIN _ (by decide)).trans rfl

theorem chunkView_anchorErase (d : Dev) (k : Nat) : chunkView (anchorErase d k) = chunkView d := by
  unfold anchorErase
  dsimp only
  split <;> rfl

theorem chunkView_anchorPut (d : Dev) : chunkView (anchorPut d) = chunkView d := by
  have hput (x : Dev) (f : Nand → Nand) : chunkView (add64 (modNand x f) F.MAP_WSEQ 1) = chunkView x := (chunkView_wseq ..).trans rfl
  unfold anchorPut
  dsimp only
  split
  · exact hput ..
  split
  · split
    · exact (chunkView_anchorErase ..).trans (hput ..)
    · exact hput ..
  split
  · exact (hput ..).trans (chunkView_anchorErase ..)
  · exact hput ..

theorem chunkView_sysRoll (d : Dev) : chunkView (sysRoll d) = chunkView d := by
  unfold sysRoll
  split
  · rfl
  · next d1 a h1 =>
    split
    · rfl
    · next d2 b h2 =>
      have hopen : chunkView d2 = chunkView d := (chunkView_openBatten h2).trans (chunkView_openBatten h1)
      have hwait (x : Dev) : chunkView { x with med := { x.med with sysWait := false } } = chunkView x := rfl
      have hnand (x : Dev) (f : Nand → Nand) : chunkView (modNand x f) = chunkView x := rfl
      dsimp only
      rw [hwait, chunkView_modBats, chunkView_anchorPut, chunkView_wseq, hnand, chunkView_modBats, hopen]

theorem chunkView_sysPut (d : Dev) (l : List Nat) : chunkView (sysPut d l) = chunkView d := by
  have hnum : chunkView (recsNumbered d l) = chunkView d := (chunkView_wseq ..).trans rfl
  unfold sysPut
  dsimp only
  split
  · exact hnum
  split
  · exact (chunkView_sysRoll _).trans hnum
  · exact (chunkView_modBats ..).trans hnum

theorem chunkView_eraseBatchPut (d : Dev) : chunkView (eraseBatchPut d) = chunkView d := by
  unfold eraseBatchPut
  split
  · rfl
  · exact (chunkView_sysPut ..).trans rfl

theorem chunkView_emitUnits (d : Dev) (b lo hi cls : Nat) : chunkView (emitUnits d b lo hi cls) = chunkView d := by
  unfold emitUnits
  dsimp only
  split <;> rfl

theorem chunkView_padTo (d : Dev) (b n cls : Nat) : chunkView (padTo d b n cls) = chunkView d := by
  unfold padTo
  dsimp only
  split
  · rfl
  · exact (chunkView_emitUnits ..).trans ((chunkView_wr _ F.GC_PADP_COUNT _ (by decide)).trans rfl)

theorem chunkView_settleBat (d : Dev) (b : Nat) : chunkView (settleBat d b) = chunkView d := by
  have hmod (f : Batten → Batten) : chunkView (modBat d b f) = chunkView d := rfl
  unfold settleBat
  dsimp only
  rw [apply_ite chunkView, chunkView_sysPut, hmod, ite_self]

theorem chunkView_closeBat (d : Dev) (b cls : Nat) : chunkView (closeBat d b cls) = chunkView d := by
  have hmod (x : Dev) (f : Batten → Batten) : chunkView (modBat x b f) = chunkView x := rfl
  unfold closeBat
  split
  · rw [chunkView_settleBat, hmod, padClose, chunkView_padTo]
  · rfl

theorem chunkView_batFor {d : Dev} {w : Writer} {cw cls : Nat} {r : Dev × Nat} (h : batFor d w cw cls = some r) : chunkView r.1 = chunkView d := by
  have hclosed := foldl_keeps (f := fun d b => closeBat d b cls) chunkView ((openOf d w).filter (fun b => (batOf d b).wptr + cw > batCw d)) d
    fun _ _ => chunkView_closeBat ..
  unfold batFor at h
  dsimp only at h
  split at h
  · split at h
    · next hopen =>
      cases h
      exact (chunkView_openBatten hopen).trans hclosed
    · obtain ⟨b, -, rfl⟩ := Option.map_eq_some_iff.1 h
      exact hclosed
  · obtain ⟨b, -, rfl⟩ := Option.map_eq_some_iff.1 h
    exact hclosed

theorem chunkView_journalRoom (n : Nat) (d : Dev) (cw : Nat) (acc : List (Nat × Nat × Nat)) : chunkView (journalRoom n d cw acc).1 = chunkView d := by
  induction n generalizing d cw acc with
  | zero => rfl
  | succ n ih =>
    unfold journalRoom
    dsimp only
    split
    · rfl
    · split
      · rfl
      · next hb =>
        have hmod (x : Dev) (b : Nat) (f : Batten → Batten) : chunkView (modBat x b f) = chunkView x := rfl
        rw [ih, padClose, chunkView_padTo, appendExt, chunkView_emitUnits, hmod]
        exact chunkView_batFor hb

theorem chunkView_placeChunk (d : Dev) : chunkView (placeChunk d) = chunkView d := by
  unfold placeChunk
  split
  · rfl
  · next c hc =>
    have hparts (x : Dev) (p : List (Nat × Nat × Nat)) : chunkView { x with med := { x.med with chunkNow := some { c with parts := p } } } =
        ((chunkView x).1, (chunkView x).2.1, c.deltas) := rfl
    dsimp only
    split
    · rfl
    · rw [hparts, chunkView_journalRoom]
      show (_, _, c.deltas) = (_, _, chunkDeltas d)
      rw [chunkDeltas, hc]
      rfl

theorem chunkView_saveLog (d : Dev) : chunkView (saveLog d) = chunkView d := (chunkView_wr _ F.LOG_PEND_COUNT _ (by decide)).trans rfl

/-- The deltas a chunk takes and those that stay. -/
def chunkPick (d : Dev) : List Delta × List Delta := if d.mem.recopy > 1 then ([], d.med.deltas) else pickDeltas d d.med.deltas

theorem chunkStart_eq (d : Dev) (early : Bool) : ∃ x : Dev, x.med.deltas = (chunkPick d).2 ∧ chunkDeltas x = withFills d.med.jmap (chunkPick d).1 ∧
    chunkStart d early = saveLog (eraseBatchPut (placeChunk (wr x F.JNL_STAT_BUSY 1))) := by
  have hjmap (n : Nat) : (pickWindow n d []).1.med.jmap = d.med.jmap := congrArg (·.2.2) (mapAndRing_pickWindow n d [])
  have hdeltas (n : Nat) (m : Nat) (w : List (Nat × Nat)) (cl : Bool) (e : List Nat) (xs : List Delta) :
      (chunkOf (pickWindow n d []).1 xs m w early cl e).deltas = withFills d.med.jmap xs := by
    rw [← hjmap n]
    rfl
  refine ⟨_, ?_, ?_, rfl⟩
  · simp only [chunkPick]
  · refine (hdeltas _ _ _ _ _ _).trans ?_
    simp only [chunkPick]

/-- A chunk starts with the deltas that may be journalled. -/
theorem chunkStart_shows (d : Dev) (early : Bool) : rd (chunkStart d early) F.JNL_STAT_BUSY = 1 ∧ (chunkStart d early).log.buf = [] ∧
    (d.mem.recopy ≤ 1 → (chunkStart d early).med.deltas = (pickDeltas d d.med.deltas).2 ∧
      chunkDeltas (chunkStart d early) = withFills d.med.jmap (pickDeltas d d.med.deltas).1) := by
  obtain ⟨x, hx, hcx, heq⟩ := chunkStart_eq d early
  have hview : chunkView (chunkStart d early) = chunkView (wr x F.JNL_STAT_BUSY 1) := by
    rw [heq, chunkView_saveLog, chunkView_eraseBatchPut, chunkView_placeChunk]
  refine ⟨(congrArg Prod.fst hview).trans ((rd_wr_same _ _ _ (by decide)).trans rfl), by rw [heq]; rfl, fun hr => ?_⟩
  have hpick : chunkPick d = pickDeltas d d.med.deltas := if_neg (by omega)
  rw [hpick] at hx hcx
  exact ⟨(congrArg (·.2.1) hview).trans hx, (congrArg (·.2.2) hview).trans hcx⟩

/-! ### The chain -/

/-- The device with a chunk at the end of its chain. -/
def chained (d : Dev) (c : Chunk) : Dev :=
  modNand d (fun n =>
    let l := n.chunks ++ [c]
    let kept := l.drop (l.length - 64)
    { n with chunk := c.num, cmark := max n.cmark c.cmark, chunks := kept
             root := ((kept.head?).bind (fun c => c.parts.head?)).map (fun p => placeKey p.1 p.2.1) })

theorem chunkTo_eq (d : Dev) (c : Chunk) : ∃ e, RecordsOnly (chained d c) e ∧ chunkTo d c =
    wr64 (wr64 (wr { e with med := { e.med with jmap := c.deltas.foldl applyDelta d.med.jmap } } F.JNL_LASTT_T (now32 d)) 0x21048 c.num) 0x21050
      e.med.nand.cmark := by
  refine ⟨if (chained d c).med.nand.root == d.med.nand.root then chained d c else sysPut (chained d c) [recKey 6 0], ?_, rfl⟩
  split
  · exact .refl _
  · exact .sysPut ..

theorem chunkTo_shows (d : Dev) (c : Chunk) : (chunkTo d c).med.nand.chunk = c.num ∧ (chunkTo d c).med.nand.chunks.getLast? = some c ∧
    (chunkTo d c).med.nand.chunks.length ≤ 64 ∧ (chunkTo d c).med.jmap = c.deltas.foldl applyDelta d.med.jmap ∧
    (chunkTo d c).med.nand.cmark = max d.med.nand.cmark c.cmark ∧ rd64 (chunkTo d c) 0x21048 = c.num % 2 ^ 64 ∧
    rd (chunkTo d c) F.JNL_LASTT_T = now32 d ∧ (chunkTo d c).med.nand.flash = d.med.nand.flash := by
  obtain ⟨e, he, heq⟩ := chunkTo_eq d c
  have hchunks : e.med.nand.chunks = (d.med.nand.chunks ++ [c]).drop ((d.med.nand.chunks ++ [c]).length - 64) :=
    he.keeps (fun d => d.med.nand.chunks) fun _ => rfl
  rw [heq]
  refine ⟨he.keeps (fun d => d.med.nand.chunk) fun _ => rfl, ?_, ?_, rfl, he.keeps (fun d => d.med.nand.cmark) fun _ => rfl, ?_, ?_,
    (he.keeps (fun d => d.med.nand.flash) fun _ => rfl :)⟩
  · show e.med.nand.chunks.getLast? = _
    rw [hchunks, List.getLast?_drop, if_neg (by rw [List.length_append, List.length_singleton]; omega), List.getLast?_concat]
  · show e.med.nand.chunks.length ≤ 64
    rw [hchunks, List.length_drop]
    omega
  · rw [rd64_wr64_ne _ _ (by decide), rd64_wr64_same]
  · rw [rd_wr64 _ _ (by decide) (by decide), rd_wr64 _ _ (by decide) (by decide), rd_wr_same _ F.JNL_LASTT_T _ (by decide)]
    exact Nat.mod_eq_of_lt (Nat.mod_lt _ (by decide))

/-! ### Upkeep -/

theorem walkDone_shows {s : State} (hm : mediaOn s.dev = true) (hw : rdB s.dev F.GC_STAT_WALK = true) :
    Gives .validWalkDone s (fun d => rd d F.GC_STAT_WALK = 0 ∧ ChangesOnly [0x22048] [] s.dev d) :=
  gives_of_guard (c := .validWalkDone) rfl (by rw [hm, hw]; rfl) ⟨rd_wr_same _ F.GC_STAT_WALK _ (by decide), ChangesOnly.wr _ F.GC_STAT_WALK _⟩

/-- The seconds left to the patrol. -/
def patrolLeft (d : Dev) : Nat := rd d F.PTL_PERIOD_DAYS * 86400 - (d.sys.time - d.med.ptlStart) / 1000000000

/-- The device with its patrol rate for the time left. -/
def patrolRated (d : Dev) : Dev :=
  wr d F.PTL_RATE_PAGES (if patrolLeft d == 0 then rd d F.PTL_RATE_PAGES else min 0xFFFFFFFF (ceilDiv (patrolPages d) (patrolLeft d)))

theorem exec_patrolRateTick (s : State) : exec .patrolRateTick s = finish s (guardDev (mediaOn s.dev && !(recovering s.dev && rd s.dev F.GLB_STAT_RSTAGE < 6)) s.dev
    (if patrolLeft s.dev == 0 && !rdB (patrolRated s.dev) F.PTL_STAT_LATE then raise (wr (patrolRated s.dev) F.PTL_STAT_LATE 1) 0x24 9
      else patrolRated s.dev)) := rfl

theorem patrolRated_shows {d : Dev} (hl : patrolLeft d ≠ 0) :
    rd (patrolRated d) F.PTL_RATE_PAGES = min 0xFFFFFFFF (ceilDiv (patrolPages d) (patrolLeft d)) ∧ ChangesOnly [0x24054] [] d (patrolRated d) := by
  refine ⟨(rd_wr_same _ F.PTL_RATE_PAGES _ (by decide)).trans ?_, ChangesOnly.wr _ F.PTL_RATE_PAGES _⟩
  rw [if_neg (by simpa using hl)]
  exact Nat.mod_eq_of_lt (Nat.lt_of_le_of_lt (Nat.min_le_left ..) (by decide))

theorem patrolRate_shows {s : State} (hm : mediaOn s.dev = true) (hr : recovering s.dev = false ∨ 6 ≤ rd s.dev F.GLB_STAT_RSTAGE) :
    Gives .patrolRateTick s (fun d =>
      (patrolLeft s.dev ≠ 0 → rd d F.PTL_RATE_PAGES = min 0xFFFFFFFF (ceilDiv (patrolPages s.dev) (patrolLeft s.dev)) ∧ ChangesOnly [0x24054] [] s.dev d) ∧
      (patrolLeft s.dev = 0 → rd d F.PTL_STAT_LATE = 1 ∧ (rdB s.dev F.PTL_STAT_LATE = false → evtSet d 0x24 9 = true))) := by
  have hgo : (mediaOn s.dev && !(recovering s.dev && rd s.dev F.GLB_STAT_RSTAGE < 6)) = true := by
    rw [hm]
    rcases hr with h | h
    · rw [h]
      rfl
    · rw [decide_eq_false (Nat.not_lt.2 h), Bool.and_false]
      rfl
  have hlate : rd (patrolRated s.dev) F.PTL_STAT_LATE = rd s.dev F.PTL_STAT_LATE := rd_wr_apart _ _ (by decide) (by decide)
  have hlateB : rdB (patrolRated s.dev) F.PTL_STAT_LATE = rdB s.dev F.PTL_STAT_LATE := congrArg (fun n => n == 1) hlate
  refine gives_of_guard (exec_patrolRateTick s) hgo ⟨fun hl => ?_, fun hl => ?_⟩
  · rw [if_neg (by simp [hl])]
    exact patrolRated_shows hl
  · rw [hl, hlateB]
    cases hb : rdB s.dev F.PTL_STAT_LATE with
    | false =>
      refine ⟨?_, fun _ => evtSet_raise_same _ _ (by decide)⟩
      exact (rd_raise _ _ _ _ (by decide)).trans (rd_wr_same _ F.PTL_STAT_LATE _ (by decide))
    | true => exact ⟨hlate.trans (by simpa [rdB] using hb), nofun⟩

theorem readDisturb_shows {s : State} {b : Nat} (hm : mediaOn s.dev = true) (hst : (batOf s.dev b).st = .closed)
    (hr : (batOf s.dev b).reads.any (fun e => e.2 > rd s.dev F.WEAR_RDTH_KREADS * 1000) = true) :
    Gives (.readDisturbLimit b) s (fun d => (batOf d b).st = .victim ∧ (batOf d b).vcause = 5 ∧
      (batOf d b).vcls = (if (batOf s.dev b).hardRead then 1 else 6) ∧
      rd d F.WEAR_RDREL_COUNT = (rd s.dev F.WEAR_RDREL_COUNT + 1) % 2 ^ F.WEAR_RDREL_COUNT.wd ∧
      ∀ o, o ≠ F.WEAR_RDREL_COUNT.off → actW d o = actW s.dev o) := by
  have hvictim : makeVictim s.dev b (if (batOf s.dev b).hardRead then 1 else 6) 5 =
      setBat s.dev b { batOf s.dev b with st := .victim, vcls := if (batOf s.dev b).hardRead then 1 else 6, vcause := 5 } := if_pos (by rw [hst]; rfl)
  refine gives_of_guard (c := .readDisturbLimit b) rfl (by rw [hm, hr, hst]; rfl) ?_
  rw [hvictim]
  have hbat : batOf (wrapAdd (setBat s.dev b { batOf s.dev b with st := .victim, vcls := if (batOf s.dev b).hardRead then 1 else 6, vcause := 5 })
      F.WEAR_RDREL_COUNT 1) b = _ := batOf_setBat_same ..
  rw [hbat]
  exact ⟨rfl, rfl, rfl, rd_wr_same _ F.WEAR_RDREL_COUNT _ (by decide), fun o ho => (actW_wr_ne _ F.WEAR_RDREL_COUNT _ ho).trans rfl⟩

/-- Settles O56: chunks by what placing them leaves and by the chain; the upkeep row by row. -/
theorem journalAndUpkeep : Obligations.JournalAndUpkeep := by
  refine ⟨?starts, chunkStart_shows, ?durable, chunkTo_shows, fun s hm hw => walkDone_shows hm hw, fun s hm hr => patrolRate_shows hm hr,
    fun s b hm hst hr => readDisturb_shows hm hst hr⟩
  case starts =>
    intro s h
    exact ⟨gives_of_guard (c := .journalChunkStart) rfl h rfl,
      fun he => gives_of_guard (c := .early) rfl (by rw [h, he]; rfl) ⟨rfl, evtSet_raise_same _ _ (by decide)⟩⟩
  case durable =>
    intro s c hm hc
    refine ⟨fun hp => ⟨_, rfl, ?_⟩, fun hp => ⟨evtSet_raise_same _ _ (by decide), ⟨_, rfl, ?_⟩⟩⟩
    · simp only [hc, hm, hp, guardDev, beq_self_eq_true, Bool.and_self, if_true]
    · simp only [hc, hm, hp, guardDev, beq_self_eq_true, Bool.and_self, if_true, Bool.false_eq_true, if_false]

end Sys2Proof.Machine
end

section
/-!
PROOFS. Isolation, training and tracking of a channel (R300 to R307, R442).
-/
namespace Sys2Proof.Machine

/-! ### A write of CHN_CTL -/

theorem page_chnCtl : ∀ c < 64, pageOf (0x30058 + 0x1000 * c) = 0x30 + c ∧ inPage (0x30058 + 0x1000 * c) = 0x58 := by decide

theorem actHigh_chnCtl (d g : Dev) {c : Nat} (hc : c < 64) (v : Word) : actHigh d g (0x30058 + 0x1000 * c) v = some (chnCtlWrite g c v) := by
  obtain ⟨hp, hi⟩ := page_chnCtl c hc
  unfold actHigh
  dsimp only
  rw [if_neg (by simp; omega), if_neg (by simp; omega), if_neg (by simp; omega), if_pos (by rw [hp, hi]; simp; omega), hp, Nat.add_sub_cancel_left]

/-- The register CHN_CTL: EVAC is kept, ISO and TRAIN act. -/
def chnCtlRow : RegRow := ⟨0x58, 0x4, 0x0, 0x0, 0x0, 0x0, 0x3, 0x0, 0x0, 0⟩

theorem regRow_chnCtl : ∀ c < 64, regRow? (0x30058 + 0x1000 * c) = some chnCtlRow := by decide +kernel

/-- The device with a word written to CHN_CTL, before it acts. -/
def ctlStored (d : Dev) (c : Nat) (v : Word) : Dev := setActW d (0x30058 + 0x1000 * c) (kindWord chnCtlRow (actW d (0x30058 + 0x1000 * c)) v)

theorem writeWord_chnCtl (d : Dev) (port : Nat) {c : Nat} (hc : c < 64) (v : Word) :
    writeWord d port (0x30058 + 0x1000 * c) v = chnCtlWrite (ctlStored d c v) c v := by
  have hstored : storeWord d (0x30058 + 0x1000 * c) chnCtlRow v = ctlStored d c v := by
    rw [storeWord_eq _ _ _ rfl]
    exact touchConfig_stays fun h => h.2.1 rfl
  rw [writeWord_row _ (regRow_chnCtl c hc), if_neg (by decide), oneWrite, if_neg (by simp [(page_chnCtl c hc).1]; omega), hstored, actHigh_chnCtl _ _ hc]
  rfl

section
variable (d : Dev) (c : Nat) (v : Word)

theorem rd_ctlStored {f : Fld} (h : f.off % 0x100 ≠ 0x58) : rd (ctlStored d c v) f = rd d f := by
  have hne : f.off ≠ 0x30058 + 0x1000 * c := by omega
  exact rd_congr f (actW_setActW_ne _ _ hne)

theorem evac_ctlStored : rd (ctlStored d c v) (F.CHN_CTL_EVAC c) = bitsOf v.toNat 2 1 := by
  have hword : actW (ctlStored d c v) (0x30058 + 0x1000 * c) = kindWord chnCtlRow (actW d (0x30058 + 0x1000 * c)) v := actW_setActW_same ..
  have hbit : bitOf (actW (ctlStored d c v) (0x30058 + 0x1000 * c)).toNat 2 = bitOf v.toNat 2 := by
    rw [hword, bitOf_eq, bitOf_eq, BitVec.testBit_toNat, BitVec.testBit_toNat]
    simp [kindWord, chnCtlRow]
  have hone (n : Nat) : bitsOf n 2 1 = b2n (bitOf n 2) := by
    simp only [bitsOf, bitOf, b2n, beq_iff_eq]
    split <;> omega
  have hoff : (F.CHN_CTL_EVAC c).off = 0x30058 + 0x1000 * c := by
    show 0x30000 + 0x1000 * c + 0x58 = _
    omega
  show bitsOf (actW (ctlStored d c v) (F.CHN_CTL_EVAC c).off).toNat 2 1 = _
  rw [hoff, hone, hone, hbit]

theorem chnState_ctlStored (x : Nat) : chnState (ctlStored d c v) x = chnState d x :=
  rd_ctlStored d c v (by show (0x30000 + 0x1000 * x + 0x5C) % 0x100 ≠ 0x58; omega)

theorem lunKept_ctlStored (l : Nat) : lunKept (ctlStored d c v) l = lunKept d l := by
  unfold lunKept
  rw [chnState_ctlStored]
  rfl

theorem healthyLuns_ctlStored : healthyLuns (ctlStored d c v) = healthyLuns d := by
  have htgt (x : Nat) : rd (ctlStored d c v) (F.CHN_MAP_TGT x) = rd d (F.CHN_MAP_TGT x) :=
    rd_ctlStored d c v (by show (0x30000 + 0x1000 * x + 0x40) % 0x100 ≠ 0x58; omega)
  have hhealthy : lunHealthy (ctlStored d c v) = lunHealthy d := by
    funext l
    unfold lunHealthy hostGated hostOff
    rw [lunKept_ctlStored, rd_ctlStored _ _ _ (by decide)]
  unfold healthyLuns declaredLuns
  simp only [htgt, hhealthy, rd_ctlStored d c v (show F.MEDIA_GEOM0_LPTM1.off % 0x100 ≠ 0x58 by decide)]

theorem judgedRates_ctlStored : judgedRates (ctlStored d c v) = judgedRates d := by
  have hopen (i : Nat) : rdB (ctlStored d c v) (F.STRM_STAT_OPEN i) = rdB d (F.STRM_STAT_OPEN i) :=
    congrArg (fun n => n == 1) (rd_ctlStored d c v (by show (0x14000 + 0x100 * i + 0x40) % 0x100 ≠ 0x58; omega))
  have hdem (i : Nat) : rdB (ctlStored d c v) (F.STRM_STAT_DEMOTED i) = rdB d (F.STRM_STAT_DEMOTED i) :=
    congrArg (fun n => n == 1) (rd_ctlStored d c v (by show (0x14000 + 0x100 * i + 0x40) % 0x100 ≠ 0x58; omega))
  have hrate (i : Nat) : rd (ctlStored d c v) (F.STRM_CONTRACT_RATE i) = rd d (F.STRM_CONTRACT_RATE i) :=
    rd_ctlStored d c v (by show (0x14000 + 0x100 * i + 0x44) % 0x100 ≠ 0x58; omega)
  have hcon : contracted (ctlStored d c v) = contracted d := by
    unfold contracted openStreams
    simp only [hopen, hdem]
  unfold judgedRates sumRates
  rw [hcon]
  simp only [hrate]
  rfl

theorem exposes_ctlStored (x : Nat) : exposes (ctlStored d c v) x = exposes d x := by
  unfold exposes
  simp only [lunKept_ctlStored]
  rfl

end

/-! ### ISO -/

/-- Why ISO of a channel is refused; 0 where it is not. -/
def isoWhy (d : Dev) (c : Nat) : Nat :=
  if chnState d c ≠ chSERVE then 1
  else if rMediaOf ((healthyLuns d).filter (fun l => !lunLeaving d l && !onChn c l)).length (rd d F.MEDIA_RPROG_MBS) (batW d) - d.med.rung1Cut <
    judgedRates d then 2
  else if exposes d c then 3 else 0

theorem isoWhy_ctlStored (d : Dev) (c x : Nat) (v : Word) : isoWhy (ctlStored d c v) x = isoWhy d x := by
  unfold isoWhy batW
  rw [chnState_ctlStored, healthyLuns_ctlStored, judgedRates_ctlStored, exposes_ctlStored, rd_ctlStored _ _ _ (by decide), rd_ctlStored _ _ _ (by decide)]
  rfl

theorem chnIsoReq_eq (d : Dev) (c : Nat) :
    chnIsoReq d c = if isoWhy d c = 0 then setCh d c { chOf d c with isolating := true } else chnRefuse d c (isoWhy d c) := by
  unfold chnIsoReq isoWhy
  dsimp only
  by_cases h1 : chnState d c = chSERVE
  · rw [if_neg (by simp [h1]), if_neg (show ¬ chnState d c ≠ chSERVE from fun h => h h1)]
    split
    · rfl
    · split <;> rfl
  · rw [if_pos (by simpa using h1), if_pos h1]
    rfl

theorem rd_raise_low (d : Dev) (p b : Nat) {f : Fld} (h : f.off < 0x7E000) : rd (raise d p b) f = rd d f := by
  refine rd_raise _ _ _ _ fun hm => ?_
  have hlog : ∀ o ∈ logWords, 0x7E000 ≤ o := by decide
  exact absurd (hlog _ hm) (Nat.not_le.2 h)

theorem chOf_raise (d : Dev) (p b c : Nat) : chOf (raise d p b) c = chOf d c :=
  (ChangesOnly.raise d p b).keeps (fun d => chOf d c) fun _ _ _ => rfl

/-- The fields of CHN_STAT that isolation, training and a refusal write. -/
def chnStatFields (c : Nat) : List Fld :=
  [F.CHN_STAT_STATE c, F.CHN_STAT_ICAUSE c, F.CHN_STAT_IREF c, F.CHN_STAT_RATE c, F.CHN_STAT_FSTEP c]

/-- A channel field is read past a raised event. -/
theorem rd_raise_chn (d : Dev) (p b : Nat) {c : Nat} (hc : c < 64) {f : Fld} (h : f.off < 0x30100 + 0x1000 * c) : rd (raise d p b) f = rd d f :=
  rd_raise_low _ _ _ (by omega)

theorem chnRefuse_shows (d : Dev) {c n : Nat} (hc : c < 64) (hn : n < 4) : rd (chnRefuse d c n) (F.CHN_STAT_IREF c) = n ∧
    chnState (chnRefuse d c n) c = chnState d c ∧ evtSet (chnRefuse d c n) (0x30 + c) 13 = true ∧ chOf (chnRefuse d c n) c = chOf d c ∧
    rd (chnRefuse d c n) (F.CHN_CTL_EVAC c) = rd d (F.CHN_CTL_EVAC c) := by
  have hstat (f : Fld) (h : f.off = 0x30000 + 0x1000 * c + 0x5C) : rd (chnRefuse d c n) f = rd (wr d (F.CHN_STAT_IREF c) n) f :=
    rd_raise_chn _ _ _ hc (by omega)
  refine ⟨(hstat _ rfl).trans ?_, (hstat _ rfl).trans ?_, evtSet_raise_same _ _ (by decide), (chOf_raise ..).trans rfl, ?_⟩
  · exact (rd_wr_same _ (F.CHN_STAT_IREF c) _ (by show 24 + 2 ≤ 32; omega)).trans (Nat.mod_eq_of_lt hn)
  · exact rd_wr_apart _ _ (by show 29 + 3 ≤ 32; omega) (.inr (.inr (by show 24 + 2 ≤ 29; omega)))
  · refine (rd_raise_chn _ _ _ hc (by show 0x30000 + 0x1000 * c + 0x58 < _; omega)).trans ?_
    exact rd_wr_apart _ _ (by show 2 + 1 ≤ 32; omega) (.inl (by show 0x30000 + 0x1000 * c + 0x58 ≠ 0x30000 + 0x1000 * c + 0x5C; omega))

theorem chnIso_shows {s : State} {port c : Nat} {v : Word} (hc : c < 64) (hw : Writes s port (0x30058 + 0x1000 * c) v) (h0 : bitOf v.toNat 0 = true)
    (h1 : bitOf v.toNat 1 = false) :
    Gives (.chnIso port c v) s (fun d => rd d (F.CHN_CTL_EVAC c) = bitsOf v.toNat 2 1 ∧ chnState d c = chnState s.dev c ∧
      (isoWhy s.dev c = 0 → (chOf d c).isolating = true ∧ rd d (F.CHN_STAT_IREF c) = rd s.dev (F.CHN_STAT_IREF c)) ∧
      (isoWhy s.dev c ≠ 0 → rd d (F.CHN_STAT_IREF c) = isoWhy s.dev c ∧ evtSet d (0x30 + c) 13 = true ∧ chOf d c = chOf s.dev c)) := by
  refine gives_of_row (c := .chnIso port c v) rfl (by rw [decide_eq_true hc, h0]; rfl) hw ?_
  rw [writeWord_chnCtl _ _ hc]
  have hacts : chnCtlWrite (ctlStored s.dev c v) c v = chnIsoReq (ctlStored s.dev c v) c := by
    unfold chnCtlWrite
    rw [if_pos h0, if_neg (by rw [h1]; exact Bool.false_ne_true)]
  have hevac := evac_ctlStored s.dev c v
  have hstate := chnState_ctlStored s.dev c v c
  have hiref : rd (ctlStored s.dev c v) (F.CHN_STAT_IREF c) = rd s.dev (F.CHN_STAT_IREF c) :=
    rd_ctlStored _ _ _ (by show (0x30000 + 0x1000 * c + 0x5C) % 0x100 ≠ 0x58; omega)
  have hch : chOf (ctlStored s.dev c v) c = chOf s.dev c := rfl
  rw [hacts, chnIsoReq_eq, isoWhy_ctlStored]
  generalize ctlStored s.dev c v = g at hevac hstate hiref hch
  by_cases hwhy : isoWhy s.dev c = 0
  · rw [if_pos hwhy]
    exact ⟨hevac, hstate, fun _ => ⟨by rw [chOf_setCh_same], hiref⟩, fun h => absurd hwhy h⟩
  · rw [if_neg hwhy]
    have hlt : isoWhy s.dev c < 4 := by
      unfold isoWhy
      repeat' split
      all_goals decide
    obtain ⟨hi, hst, hevt, hkeep, hctl⟩ := chnRefuse_shows g hc hlt
    exact ⟨hctl.trans hevac, hst.trans hstate, fun h => absurd h hwhy, fun _ => ⟨hi, hevt, hkeep.trans hch⟩⟩

/-! ### Isolation -/

/-- Three fields of CHN_STAT, written together. -/
theorem chnStat_wrs (d : Dev) {c : Nat} (hc : c < 64) (a b r : Nat) (l : List (Fld × Nat)) (hl : ∀ e ∈ l, e.1.off ≠ 0x30000 + 0x1000 * c + 0x5C) :
    chnState (wrs d ([(F.CHN_STAT_STATE c, a), (F.CHN_STAT_ICAUSE c, b), (F.CHN_STAT_RATE c, r)] ++ l)) c = a % 8 ∧
    rd (wrs d ([(F.CHN_STAT_STATE c, a), (F.CHN_STAT_ICAUSE c, b), (F.CHN_STAT_RATE c, r)] ++ l)) (F.CHN_STAT_ICAUSE c) = b % 8 ∧
    rd (wrs d ([(F.CHN_STAT_STATE c, a), (F.CHN_STAT_ICAUSE c, b), (F.CHN_STAT_RATE c, r)] ++ l)) (F.CHN_STAT_RATE c) = r % 16 := by
  have hpair : ∀ c < 64, ([F.CHN_STAT_STATE c, F.CHN_STAT_ICAUSE c, F.CHN_STAT_RATE c] : List Fld).Pairwise FldApart := by decide
  have hpast (x : Dev) {f : Fld} (ho : f.off = 0x30000 + 0x1000 * c + 0x5C) (hf : f.lo + f.wd ≤ 32) : rd (wrs x l) f = rd x f := by
    refine rd_wrs_apart x l hf fun g hg => .inl ?_
    obtain ⟨e, he, rfl⟩ := List.mem_map.1 hg
    rw [ho]
    exact (hl e he).symm
  have happ (x : Dev) (k : List (Fld × Nat)) : wrs x (k ++ l) = wrs (wrs x k) l := List.foldl_append
  rw [happ]
  refine ⟨(hpast _ rfl (by show 29 + 3 ≤ 32; omega)).trans ?_, (hpast _ rfl (by show 26 + 3 ≤ 32; omega)).trans ?_,
    (hpast _ rfl (by show 20 + 4 ≤ 32; omega)).trans ?_⟩
  · exact rd_wrs_mem (v := a) d (hpair c hc) (by simp) (by show 29 + 3 ≤ 32; omega)
  · exact rd_wrs_mem (v := b) d (hpair c hc) (by simp) (by show 26 + 3 ≤ 32; omega)
  · exact rd_wrs_mem (v := r) d (hpair c hc) (by simp) (by show 20 + 4 ≤ 32; omega)

theorem setIsolated_shows (d : Dev) {c cause : Nat} (hc : c < 64) (h8 : cause < 8) : chnState (setIsolated d c cause) c = chISO ∧
    rd (setIsolated d c cause) (F.CHN_STAT_ICAUSE c) = cause ∧ evtSet (setIsolated d c cause) (0x30 + c) 10 = true ∧
    (chOf (setIsolated d c cause) c).isolating = false := by
  have hstat (f : Fld) (h : f.off = 0x30000 + 0x1000 * c + 0x5C) : rd (setIsolated d c cause) f = _ := rd_raise_chn _ _ _ hc (by omega)
  obtain ⟨hst, hcause, -⟩ := chnStat_wrs (setCh d c { chOf d c with isolating := false, touts := [], low := 0 }) hc chISO cause 0 [] (by simp)
  refine ⟨(hstat _ rfl).trans hst, (hstat _ rfl).trans (hcause.trans (Nat.mod_eq_of_lt h8)), evtSet_raise_same _ _ (by decide), ?_⟩
  refine (congrArg Chn.isolating (chOf_raise _ _ _ c)).trans ?_
  rw [wrs_keeps (fun d => chOf d c) (fun _ _ _ => rfl), chOf_setCh_same]

/-! ### TRAIN -/

theorem trainStart_shows (d : Dev) (c : Nat) : chnState (trainStart d c) c = chTRAIN ∧ (chOf (trainStart d c) c).retrain = (chOf d c).retrain := by
  refine ⟨(rd_wr_same _ (F.CHN_STAT_STATE c) _ (by show 29 + 3 ≤ 32; omega)).trans rfl, ?_⟩
  have hch (x : Dev) (f : Fld) (n : Nat) : chOf (wr x f n) c = chOf x c := rfl
  rw [trainStart, hch, chOf_setCh_same]

theorem chnTrain_shows {s : State} {port c : Nat} {v : Word} (hc : c < 64) (hw : Writes s port (0x30058 + 0x1000 * c) v) (h1 : bitOf v.toNat 1 = true)
    (h0 : bitOf v.toNat 0 = false) :
    Gives (.chnTrain port c v) s (fun d =>
      (chnState s.dev c = chISO → groupPll s.dev c = true → chnState d c = chTRAIN ∧ (chOf d c).retrain = true) ∧
      (chnState s.dev c ≠ chISO ∨ groupPll s.dev c = false → rd d (F.CHN_STAT_IREF c) = 1 ∧ evtSet d (0x30 + c) 13 = true ∧
        chnState d c = chnState s.dev c)) := by
  refine gives_of_row (c := .chnTrain port c v) rfl (by rw [decide_eq_true hc, h1]; rfl) hw ?_
  rw [writeWord_chnCtl _ _ hc]
  have hacts : chnCtlWrite (ctlStored s.dev c v) c v = chnTrainReq (ctlStored s.dev c v) c := by
    unfold chnCtlWrite
    dsimp only
    rw [if_pos h1, if_neg (by rw [h0]; exact Bool.false_ne_true)]
  have hstate := chnState_ctlStored s.dev c v c
  have hpll : groupPll (ctlStored s.dev c v) c = groupPll s.dev c := congrArg (bitOf · (5 + c / 4)) (rd_ctlStored _ _ _ (by decide))
  rw [hacts]
  generalize ctlStored s.dev c v = g at hstate hpll
  rw [← hstate, ← hpll]
  unfold chnTrainReq
  refine ⟨fun hi hp => ?_, fun hr => ?_⟩
  · rw [if_neg (by simp [hi, hp])]
    obtain ⟨hst, hre⟩ := trainStart_shows _ c
    exact ⟨hst, hre.trans (congrArg Chn.retrain (chOf_setCh_same ..))⟩
  · rw [if_pos (by simpa using hr)]
    obtain ⟨hi, hst, hevt, -⟩ := chnRefuse_shows g hc (n := 1) (by decide)
    exact ⟨hi, hevt, hst⟩

/-! ### The end of training -/

theorem trainFail_lt (d : Dev) (r : TrainRes) : trainFail d r < 8 := by
  unfold trainFail
  dsimp only
  repeat' split
  all_goals omega

theorem trainFail_early (d : Dev) {r : TrainRes} (h1 : 1 ≤ r.fail) (h3 : r.fail ≤ 3) : trainFail d r = r.fail := by
  have hat : (if r.fail == 0 then 8 else r.fail) = r.fail := if_neg (by simp; omega)
  unfold trainFail
  dsimp only
  rw [hat, if_pos h3]

/-- The end of training is that of the registers it leaves by its outcome. -/
theorem trainEnd_eq (d : Dev) (r : TrainRes) : ∃ x y, trainEnd d r = if trainFail d r == 0 then
      raise (satAdd (wrs x [(F.CHN_STAT_STATE r.chn, chSERVE), (F.CHN_STAT_ICAUSE r.chn, 0), (F.CHN_STAT_RATE r.chn, (chOf d r.chn).tRate),
        (F.CHN_TTRN_US r.chn, r.us)]) (F.CHN_HTRN_COUNT r.chn) 1) (chnPage r.chn) 8
    else setIsolated (raise (wr y (F.CHN_STAT_FSTEP r.chn) (trainFail d r)) (chnPage r.chn) 9) r.chn icTRAIN := ⟨_, _, rfl⟩

theorem trainEnd_fails (d : Dev) (r : TrainRes) (hc : r.chn < 64) (hf : trainFail d r ≠ 0) :
    chnState (trainEnd d r) r.chn = chISO ∧ rd (trainEnd d r) (F.CHN_STAT_ICAUSE r.chn) = icTRAIN ∧
    rd (trainEnd d r) (F.CHN_STAT_FSTEP r.chn) = trainFail d r ∧ evtSet (trainEnd d r) (0x30 + r.chn) 9 = true := by
  obtain ⟨x, y, heq⟩ := trainEnd_eq d r
  rw [heq, if_neg (by simpa using hf)]
  have hstep : rd (raise (wr y (F.CHN_STAT_FSTEP r.chn) (trainFail d r)) (chnPage r.chn) 9) (F.CHN_STAT_FSTEP r.chn) = trainFail d r := by
    refine (rd_raise_chn _ _ _ hc (by show 0x30000 + 0x1000 * r.chn + 0x5C < _; omega)).trans ?_
    refine (rd_wr_same _ (F.CHN_STAT_FSTEP r.chn) _ (by show 16 + 4 ≤ 32; omega)).trans ?_
    exact Nat.mod_eq_of_lt (Nat.lt_of_lt_of_le (trainFail_lt d r) (by show 8 ≤ 16; omega))
  have hevt : evtSet (raise (wr y (F.CHN_STAT_FSTEP r.chn) (trainFail d r)) (chnPage r.chn) 9) (0x30 + r.chn) 9 = true := evtSet_raise_same _ _ (by decide)
  generalize raise (wr y (F.CHN_STAT_FSTEP r.chn) (trainFail d r)) (chnPage r.chn) 9 = z at hstep hevt
  obtain ⟨hst, hcause, -, -⟩ := setIsolated_shows z hc (cause := icTRAIN) (by decide)
  refine ⟨hst, hcause, ?_, ?_⟩
  · refine (rd_raise_chn _ _ _ hc (by show 0x30000 + 0x1000 * r.chn + 0x5C < _; omega)).trans ((rd_wrs_apart _ _ (by show 16 + 4 ≤ 32; omega) ?_).trans hstep)
    have hapart : ∀ c < 64, ∀ g ∈ [F.CHN_STAT_STATE c, F.CHN_STAT_ICAUSE c, F.CHN_STAT_RATE c], FldApart (F.CHN_STAT_FSTEP c) g := by decide
    exact hapart _ hc
  · refine evtSet_raise_of_set _ _ ((evtSet_congr 9 ?_).trans hevt)
    exact (wrs_keeps (fun d => hdrOf d (0x30 + r.chn)) (fun _ _ _ => rfl) _ _).trans rfl

theorem trainEnd_passes (d : Dev) (r : TrainRes) (hc : r.chn < 64) (hf : trainFail d r = 0) :
    chnState (trainEnd d r) r.chn = chSERVE ∧ rd (trainEnd d r) (F.CHN_STAT_ICAUSE r.chn) = 0 ∧
    rd (trainEnd d r) (F.CHN_STAT_RATE r.chn) = (chOf d r.chn).tRate % 2 ^ (F.CHN_STAT_RATE r.chn).wd ∧ evtSet (trainEnd d r) (0x30 + r.chn) 8 = true := by
  obtain ⟨x, y, heq⟩ := trainEnd_eq d r
  rw [heq, if_pos (by rw [hf]; rfl)]
  have hstat (f : Fld) (h : f.off = 0x30000 + 0x1000 * r.chn + 0x5C) (hw : f.lo + f.wd ≤ 32) := (rd_raise_chn (satAdd (wrs x [(F.CHN_STAT_STATE r.chn, chSERVE),
      (F.CHN_STAT_ICAUSE r.chn, 0), (F.CHN_STAT_RATE r.chn, (chOf d r.chn).tRate), (F.CHN_TTRN_US r.chn, r.us)]) (F.CHN_HTRN_COUNT r.chn) 1)
      (chnPage r.chn) 8 hc (f := f) (by omega)).trans
    (rd_wr_apart _ _ hw (.inl (by rw [h]; show 0x30000 + 0x1000 * r.chn + 0x5C ≠ 0x30000 + 0x1000 * r.chn + 0x80; omega)))
  obtain ⟨hst, hcause, hrate⟩ := chnStat_wrs x hc chSERVE 0 (chOf d r.chn).tRate [(F.CHN_TTRN_US r.chn, r.us)] (by
    intro e he
    rw [List.mem_singleton.1 he]
    show 0x30000 + 0x1000 * r.chn + 0x84 ≠ _
    omega)
  exact ⟨(hstat _ rfl (by show 29 + 3 ≤ 32; omega)).trans hst, (hstat _ rfl (by show 26 + 3 ≤ 32; omega)).trans hcause,
    (hstat _ rfl (by show 20 + 4 ≤ 32; omega)).trans hrate, evtSet_raise_same _ _ (by decide)⟩

/-! ### ZQ calibration -/

theorem foldl_emit {α : Type} (g : α → Output) (l : List α) (d : Dev) :
    l.foldl (fun d t => emit d (g t)) d = { d with out := (l.map g).reverse ++ d.out } := by
  induction l generalizing d with
  | nil => rfl
  | cons t l ih =>
    rw [List.foldl_cons, ih]
    simp [emit]

theorem zqShort_eq (d : Dev) (c : Nat) : zqShort d c = { d with out := (((List.range 16).filter (fun t => bitOf (rd d (F.CHN_MAP_TGT c)) t)).map
    (fun t => Output.nand (targetLun c t) [.cmd 0xE1, .vol (t % 4), .cmd 0xD9])).reverse ++ d.out } :=
  foldl_emit (fun t => Output.nand (targetLun c t) [.cmd 0xE1, .vol (t % 4), .cmd 0xD9]) _ d

theorem zqShortTimer_shows (s : State) {c : Nat} (hc : c < 64) :
    let serves := running s.dev && !clockHeld s.dev (5 + c / 4) && chnState s.dev c == chSERVE
    Gives (.zqShortTimer c) s (fun d => (serves = false → d = s.dev) ∧
      (serves = true → ∀ t, t < 16 → bitOf (rd s.dev (F.CHN_MAP_TGT c)) t = true →
        Output.nand (targetLun c t) [.cmd 0xE1, .vol (t % 4), .cmd 0xD9] ∈ d.out) ∧ { d with out := [] } = { s.dev with out := [] }) := by
  intro serves
  have hexec : exec (.zqShortTimer c) s = finish s (guardDev serves s.dev (zqShort s.dev c)) := by
    show finish s (guardDev (running s.dev && !clockHeld s.dev (5 + c / 4) && decide (c < 64) && chnState s.dev c == chSERVE) s.dev (zqShort s.dev c)) = _
    rw [decide_eq_true hc, Bool.and_true]
  refine ⟨_, hexec, ?_⟩
  cases hs : serves with
  | false => exact ⟨fun _ => rfl, nofun, rfl⟩
  | true =>
    show _ ∧ (_ → ∀ t, t < 16 → _ → _ ∈ (zqShort s.dev c).out) ∧ _
    refine ⟨nofun, fun _ t ht hb => ?_, ?_⟩
    · rw [zqShort_eq]
      refine List.mem_append_left _ (List.mem_reverse.2 (List.mem_map.2 ⟨t, List.mem_filter.2 ⟨List.mem_range.2 ht, hb⟩, rfl⟩))
    · show { zqShort s.dev c with out := [] } = _
      rw [zqShort_eq]

/-! ### Tracking -/

/-- The eye of a channel is recorded with its margins. -/
theorem marginShows (x : Dev) {c e mn : Nat} (hc : c < 64) (he : e < 256) (hm : mn < 256) (b : Bool) (p : Chn) :
    let d2 := wrs (setCh x c p) [(F.CHN_HMARG_NOW c, e), (F.CHN_HMARG_MIN c, mn)]
    let d3 := if b then raise d2 (0x30 + c) 11 else d2
    rd d3 (F.CHN_HMARG_NOW c) = e ∧ rd d3 (F.CHN_HMARG_MIN c) = mn ∧ chOf d3 c = p := by
  intro d2 d3
  have hpair : ∀ c < 64, ([F.CHN_HMARG_NOW c, F.CHN_HMARG_MIN c] : List Fld).Pairwise FldApart := by decide
  have hnow : rd d2 (F.CHN_HMARG_NOW c) = e :=
    (rd_wrs_mem (v := e) (l := [(F.CHN_HMARG_NOW c, e), (F.CHN_HMARG_MIN c, mn)]) _ (hpair c hc) (by simp) (by show 0 + 8 ≤ 32; omega)).trans (Nat.mod_eq_of_lt he)
  have hmin : rd d2 (F.CHN_HMARG_MIN c) = mn :=
    (rd_wrs_mem (v := mn) (l := [(F.CHN_HMARG_NOW c, e), (F.CHN_HMARG_MIN c, mn)]) _ (hpair c hc) (by simp) (by show 8 + 8 ≤ 32; omega)).trans (Nat.mod_eq_of_lt hm)
  have hch : chOf d2 c = p := (wrs_keeps (fun d => chOf d c) (fun _ _ _ => rfl) _ _).trans (chOf_setCh_same ..)
  cases b with
  | false => exact ⟨hnow, hmin, hch⟩
  | true =>
    exact ⟨(rd_raise_chn _ _ _ hc (by show 0x30000 + 0x1000 * c + 0x74 < _; omega)).trans hnow,
      (rd_raise_chn _ _ _ hc (by show 0x30000 + 0x1000 * c + 0x74 < _; omega)).trans hmin, (chOf_raise ..).trans hch⟩

/-- Settles O57: a request by the reason against it, training by its outcome, tracking by the margins it records. -/
theorem channelCommands : Obligations.ChannelCommands := by
  refine ⟨fun s port c v hc hw h0 h1 => chnIso_shows hc hw h0 h1, ?host, fun d c cause hc h8 => setIsolated_shows d hc h8,
    fun s port c v hc hw h1 h0 => chnTrain_shows hc hw h1 h0, ?trained, ?early, ?fails, trainEnd_passes, fun s c hc => zqShortTimer_shows s hc, ?track⟩
  case host =>
    intro s c hr ha hc hi hq he
    exact gives_of_guard (c := .hostIsolationDone c) rfl (by rw [hr, ha, decide_eq_true hc, hi, hq, he]; rfl) rfl
  case trained =>
    intro s r hr hk ha hst hc hch d1
    have hgo : (running s.dev && !clockHeld s.dev (5 + r.chn / 4) && accepted s.dev && !(inRecover s.dev && rd s.dev F.GLB_STAT_RSTAGE == 1) &&
        decide (r.chn < 64) && chnState s.dev r.chn == chTRAIN) = true := by
      rw [hr, hk, ha, decide_eq_true hc, hch]
      simpa [Decidable.imp_iff_not_or] using hst
    refine gives_of_guard (c := .trainingDone r) rfl hgo ⟨fun h => ?_, fun h => ?_⟩
    · exact congrArg lunsChanged (if_pos (by simpa using h))
    · exact congrArg lunsChanged (if_neg (by simpa using h))
  case early =>
    intro d r hc h1 h3
    have hfail := trainFail_early d h1 h3
    obtain ⟨hst, -, hstep, hevt⟩ := trainEnd_fails d r hc (by omega)
    exact ⟨hst, hstep.trans hfail, hevt⟩
  case fails =>
    intro d r hc hf
    obtain ⟨hst, hcause, hstep, -⟩ := trainEnd_fails d r hc hf
    exact ⟨hst, hcause, hstep⟩
  case track =>
    intro s c eye moves hr hk ha hc hst e ch win low mn drift d1 d2 d3
    have he : e < 256 := Nat.lt_of_le_of_lt (Nat.min_le_right ..) (by decide)
    have hm : mn < 256 := by
      show (if ch.tracked then min e (rd s.dev (F.CHN_HMARG_MIN c)) else e) < 256
      split <;> omega
    obtain ⟨hnow, hmin, hch⟩ := marginShows d1 hc he hm (drift && !ch.drifted) { ch with low := low, tracked := true, drifted := ch.drifted || drift }
    refine ⟨hnow, hmin, congrArg Chn.low hch, ?_⟩
    refine gives_of_guard (c := .trackingCheck c eye moves) rfl (by rw [hr, hk, ha, decide_eq_true hc, hst]; rfl) ⟨fun h => ?_, fun h => ?_⟩
    · exact if_neg (Nat.not_le.2 h)
    · exact if_pos h

end Sys2Proof.Machine
end

section
/-!
PROOFS. The vote leaves the sample counter of Stroke (R60, R204): what a vote can set in motion writes other words.
-/
namespace Sys2Proof.Machine

/-- The sample counter of Stroke, word by word. -/
def scnt (d : Dev) : Word × Word := (actW d 0x19064, actW d 0x19068)

/-- The words of the counter. -/
def scntWords : List Nat := [0x19064, 0x19068]

/-! ### Writes and events -/

section
variable (d : Dev)

theorem scnt_of_words {d d' : Dev} (h : ∀ o ∈ scntWords, actW d' o = actW d o) : scnt d' = scnt d := by
  unfold scnt
  rw [h 0x19064 (by decide), h 0x19068 (by decide)]

theorem scnt_setActW {o : Nat} (w : Word) (h : o ∉ scntWords) : scnt (setActW d o w) = scnt d :=
  scnt_of_words fun _ hx => actW_setActW_ne _ _ fun he => h (he ▸ hx)

theorem scnt_wr {f : Fld} (v : Nat) (h : f.off ∉ scntWords) : scnt (wr d f v) = scnt d := scnt_setActW d _ h

theorem scnt_wr64 {o : Nat} (v : Nat) (h : o ∉ scntWords) (h4 : o + 4 ∉ scntWords) : scnt (wr64 d o v) = scnt d :=
  (scnt_setActW _ _ h4).trans (scnt_setActW _ _ h)

theorem scnt_wrs {l : List (Fld × Nat)} (h : ∀ e ∈ l, e.1.off ∉ scntWords) : scnt (wrs d l) = scnt d :=
  foldl_induct (P := fun x => scnt x = scnt d) l rfl fun e _ he hx => (scnt_wr _ _ (h e he)).trans hx

theorem scnt_changes {d d' : Dev} {ws ps : List Nat} (h : ChangesOnly ws ps d d') (hw : ∀ o ∈ scntWords, o ∉ ws) : scnt d' = scnt d :=
  scnt_of_words fun o ho => h.words o (hw o ho)

theorem scnt_raise (p b : Nat) : scnt (raise d p b) = scnt d := scnt_changes (ChangesOnly.raise d p b) (by decide)

theorem scnt_setBit {f : Fld} (n : Nat) (v : Bool) (h : f.off ∉ scntWords) : scnt (setBit d f n v) = scnt d := by
  unfold setBit
  dsimp only
  split
  · rfl
  · exact scnt_wr _ _ h

theorem scnt_ite {c : Prop} [Decidable c] {a b : Dev} {w : Word × Word} (ha : scnt a = w) (hb : scnt b = w) : scnt (if c then a else b) = w := by
  split
  · exact ha
  · exact hb

theorem scnt_wake (c : Nat) : scnt (wake d c) = scnt d := scnt_changes (wake_words d c) (by decide)

theorem scnt_complete (c : Cmd) (st r k : Nat) (pb : Bool) : scnt (complete d c st r k pb) = scnt d := complete_keeps scnt (fun _ _ _ _ _ => rfl) ..

/-- The words of the slot of a stream. -/
theorem strmWord_off {i k : Nat} (hi : i < 64) (hk : k < 0x100) : 0x14000 + 0x100 * i + k ∉ scntWords := by
  simp only [scntWords, List.mem_cons, List.not_mem_nil, or_false]
  omega

theorem lt_of_mem_contracted {i : Nat} (h : i ∈ contracted d) : i < 64 :=
  List.mem_range.1 ((List.mem_filter.1 (List.mem_filter.1 h).1).1)

end

/-! ### Contract terms -/

section
variable (d : Dev)

theorem scnt_admSums : scnt (admSums d) = scnt d :=
  scnt_wrs d (by simp only [List.forall_mem_cons]; decide)

theorem scnt_bounds : scnt (bounds d) = scnt d := by
  unfold bounds
  dsimp only
  refine foldl_induct (P := fun x => scnt x = scnt d) _ ?_ fun i x hi hx => ?_
  · have hraise (b : Bool) : scnt (if b then raise d 0x13 11 else d) = scnt d := scnt_ite (scnt_raise ..) rfl
    exact hraise _
  · have hlt := lt_of_mem_contracted _ hi
    refine scnt_ite ((scnt_wrs x ?_).trans hx) ((scnt_wrs x ?_).trans hx) <;> simp only [List.forall_mem_cons] <;>
      exact ⟨strmWord_off hlt (by decide), strmWord_off hlt (by decide), nofun⟩

theorem scnt_admRecompute : scnt (admRecompute d) = scnt d := by
  refine scnt_ite rfl ?_
  dsimp only
  rw [scnt_bounds, scnt_admSums]
  refine scnt_ite ((scnt_raise ..).trans ?_) ?_ <;> exact (scnt_wrs _ (by simp only [List.forall_mem_cons]; decide)).trans rfl

theorem scnt_flushTerms : scnt (flushTerms d) = scnt d := by
  have henergy (e : EnergyIn) : scnt (energyRegs d e) = scnt d := scnt_wrs d (by simp only [List.forall_mem_cons]; decide)
  have hterms (e : EnergyIn) (a b c t k : Nat) : scnt (wrs (energyRegs d e) [(F.BUF_DCEIL_KIB, a), (F.BUF_DENRG_KIB, b), (F.BUF_DEAVE_KIB, c),
      (F.PFL_TFLUSH_US, t), (F.BUF_STAT_BIND, k)]) = scnt d :=
    (scnt_wrs _ (by simp only [List.forall_mem_cons]; decide)).trans (henergy e)
  unfold flushTerms
  dsimp only
  refine scnt_ite ((scnt_raise ..).trans ?_) ?_ <;> exact scnt_ite (hterms ..) ((scnt_raise ..).trans (hterms ..))

theorem scnt_transClear : scnt (transClear d) = scnt d :=
  (scnt_raise ..).trans (scnt_wrs _ (by simp only [List.forall_mem_cons]; decide))

theorem scnt_modeTakes (mode : Nat) : scnt (modeTakes d mode) = scnt d := by
  have hmode : scnt (wrs d [(F.GLB_STAT_MODE, mode), (F.GLB_STAT_TRANS, 1)]) = scnt d := scnt_wrs d (by simp only [List.forall_mem_cons]; decide)
  have hwake (b : Bool) : scnt (if b then wake (wrs d [(F.GLB_STAT_MODE, mode), (F.GLB_STAT_TRANS, 1)]) 4
      else wrs d [(F.GLB_STAT_MODE, mode), (F.GLB_STAT_TRANS, 1)]) = scnt d := scnt_ite ((scnt_wake ..).trans hmode) hmode
  exact (scnt_admRecompute _).trans (scnt_ite (hwake _) ((scnt_transClear _).trans (hwake _)))

end

/-! ### Streams -/

section
variable (d : Dev)

theorem scnt_safeDemote (i : Nat) : scnt (safeDemote d i) = scnt d := scnt_ite rfl rfl

theorem scnt_contractTaken (i : Nat) : scnt (contractTaken d i) = scnt d := foldUpto_keeps scnt _ _ fun _ _ => rfl

theorem scnt_strmSafe {i : Nat} (hi : i < 64) : scnt (strmSafe d i) = scnt d := by
  unfold strmSafe
  dsimp only
  rw [scnt_admRecompute, scnt_wrs, scnt_contractTaken, scnt_safeDemote]
  simp only [List.forall_mem_cons]
  exact ⟨strmWord_off hi (by decide), strmWord_off hi (by decide), strmWord_off hi (by decide), strmWord_off hi (by decide),
    strmWord_off hi (by decide), strmWord_off hi (by decide), nofun⟩

theorem scnt_advanceHorizon {i : Nat} (hi : i < 64) : scnt (advanceHorizon d i) = scnt d := by
  have hwr (x : Dev) (n : Nat) : scnt (wr64 x (F.STRM_HORIZON i) n) = scnt x := scnt_wr64 _ _ (strmWord_off hi (by decide)) (strmWord_off hi (k := 0x54) (by decide))
  unfold advanceHorizon
  dsimp only
  refine scnt_ite rfl (scnt_ite ((scnt_raise ..).trans ?_) ?_) <;> exact (hwr ..).trans rfl

theorem cSid_lt (c : Cmd) : cSid c < 64 := Nat.mod_lt _ (by decide)

theorem scnt_dropLine (c : Cmd) (k : Nat) : scnt (dropLine d c k) = scnt d :=
  scnt_ite ((scnt_advanceHorizon _ (cSid_lt c)).trans rfl) rfl

theorem scnt_streamDone (c : Cmd) (n : Nat) : scnt (streamDone d c n) = scnt d :=
  scnt_ite (scnt_wr64 _ _ (strmWord_off (cSid_lt c) (by decide)) (strmWord_off (cSid_lt c) (k := 0x6C) (by decide))) rfl

theorem loop_off {l k : Nat} (hk : k < 0x80) : 0x1A040 + 0x1000 * (l / 17) + 0x80 * (l % 17) + k ∉ scntWords := by
  simp only [scntWords, List.mem_cons, List.not_mem_nil, or_false]
  omega

theorem scnt_loopOff {l : Nat} (hl : l < 64) : scnt (loopOff d l) = scnt d := by
  have hfault : (F.STK_FAULT (l / 32)).off ∉ scntWords := by
    show 0x19058 + 4 * (l / 32) ∉ _
    simp only [scntWords, List.mem_cons, List.not_mem_nil, or_false]
    omega
  refine (scnt_setBit _ _ _ hfault).trans (scnt_wrs _ ?_)
  simp only [List.forall_mem_cons]
  exact ⟨loop_off (by decide), loop_off (by decide), loop_off (by decide), nofun⟩

theorem scnt_loopClose {i : Nat} (hi : i < 64) : scnt (loopClose d i) = scnt d := by
  have hwrs : scnt (wrs (loopOff d i) [(F.STKL_SETPT_SP i, 0), (F.STKL_UMIN_UMIN i, 0), (F.STKL_MEAS_M i, 0), (F.STKL_ERR_E i, 0),
      (F.STKL_PTERM_P i, 0), (F.STKL_ITERM_I i, 0), (F.STKL_UOUT_U i, 0), (F.STKL_FLAGS_FLAGS i, 0)]) = scnt d := by
    refine (scnt_wrs _ ?_).trans (scnt_loopOff d hi)
    simp only [List.forall_mem_cons]
    exact ⟨loop_off (by decide), loop_off (by decide), loop_off (by decide), loop_off (by decide), loop_off (by decide), loop_off (by decide),
      loop_off (by decide), loop_off (by decide), nofun⟩
  have hstk (x : Dev) (a : Stroke) (b : Cox) : scnt { x with stk := a, cox := b } = scnt x := rfl
  exact (hstk _ _ _).trans hwrs

theorem scnt_clearSlot {i : Nat} (hi : i < 64) : scnt (clearSlot d i) = scnt d := by
  unfold clearSlot
  dsimp only
  refine foldUpto_induct (P := fun x => scnt x = scnt d) 16 (scnt_contractTaken d i) fun k x hk hx => (scnt_setActW _ _ ?_).trans hx
  simp only [scntWords, List.mem_cons, List.not_mem_nil, or_false]
  omega

theorem scnt_streamEnd {i : Nat} (hi : i < 64) (cause : Nat) : scnt (streamEnd d i cause) = scnt d := by
  have hsucceed (l : List Cmd) : scnt (l.foldl (fun d c => succeed d c) d) = scnt d := foldl_keeps scnt l d fun _ _ => scnt_complete ..
  have hended : (F.ADM_ENDED (i / 32)).off ∉ scntWords := by
    show 0x13080 + 4 * (i / 32) ∉ _
    simp only [scntWords, List.mem_cons, List.not_mem_nil, or_false]
    omega
  have hrest (x : Dev) (a : Med) (b : Adm) : scnt { x with med := a, adm := b } = scnt x := rfl
  have hstrm (x : Dev) (v : Strm) : scnt (setStrm x i v) = scnt x := rfl
  refine scnt_ite rfl ?_
  dsimp only
  rw [scnt_bounds, scnt_admSums, scnt_raise, scnt_raise, scnt_wrs _ (by simp only [List.forall_mem_cons]; decide), scnt_setBit _ _ _ hended, scnt_clearSlot _ hi,
    hstrm, scnt_loopClose _ hi, hrest]
  exact hsucceed _

end

/-! ### Battens -/

section
variable (d : Dev)

theorem scnt_records {d d' : Dev} (h : RecordsOnly d d') : scnt d' = scnt d :=
  scnt_of_words fun o ho => h.words o ((show ∀ o ∈ scntWords, o ∉ recordWords by decide) o ho)

theorem scnt_emitUnits (b lo hi cls : Nat) : scnt (emitUnits d b lo hi cls) = scnt d := by
  unfold emitUnits
  dsimp only
  exact scnt_ite rfl rfl

theorem scnt_padTo (b n cls : Nat) : scnt (padTo d b n cls) = scnt d := by
  unfold padTo
  dsimp only
  exact scnt_ite rfl ((scnt_emitUnits ..).trans ((scnt_wr _ _ (by decide)).trans rfl))

theorem scnt_settleBat (b : Nat) : scnt (settleBat d b) = scnt d := by
  have hmod (f : Batten → Batten) : scnt (modBat d b f) = scnt d := rfl
  unfold settleBat
  dsimp only
  rw [apply_ite scnt, scnt_records (.sysPut _ _), hmod, ite_self]

theorem scnt_closeBat (b cls : Nat) : scnt (closeBat d b cls) = scnt d := by
  have hmod (x : Dev) (f : Batten → Batten) : scnt (modBat x b f) = scnt x := rfl
  refine scnt_ite ?_ rfl
  rw [scnt_settleBat, hmod, padClose, scnt_padTo]

theorem scnt_endStream {i : Nat} (hi : i < 64) (cause : Nat) : scnt (endStream d i cause) = scnt d :=
  (foldl_keeps scnt _ _ fun _ _ => scnt_closeBat ..).trans (scnt_streamEnd d hi cause)

end

/-! ### Work that goes on -/

section
variable (d : Dev)

theorem scnt_flushPush : scnt (flushPush d) = scnt d := by
  have hmod (x : Dev) (b : Nat) (f : Batten → Batten) : scnt (modBat x b f) = scnt x := rfl
  refine foldl_keeps scnt _ _ fun x f => foldl_keeps scnt _ _ fun y e => scnt_ite ?_ rfl
  rw [hmod, padClose, scnt_padTo]

theorem scnt_flushTry : scnt (flushTry d) = scnt d := foldl_keeps scnt _ _ fun _ _ => scnt_ite (scnt_complete ..) rfl

theorem scnt_closeTry : scnt (closeTry d) = scnt d := foldl_keeps scnt _ _ fun _ c => scnt_ite rfl (scnt_endStream _ (cSid_lt c) 1)

theorem scnt_pauseFlags : scnt (pauseFlags d) = scnt d := by
  have hpause (n : Nat) : scnt (wr d F.BUF_STAT_PAUSE n) = scnt d := scnt_wr _ _ (by decide)
  exact scnt_ite (hpause _) ((scnt_wr _ _ (by decide)).trans (hpause _))

theorem scnt_afterWork : scnt (afterWork d) = scnt d := by
  rw [afterWork, scnt_pauseFlags, scnt_closeTry, scnt_flushTry, scnt_flushPush]

/-! ### A key slot that is lost -/

theorem scnt_slotLeave (n st : Nat) : scnt (slotLeave d n st) = scnt d := by
  refine (scnt_raise ..).trans ((scnt_wr _ _ ?_).trans rfl)
  show 0x71040 + 16 * n ∉ _
  simp only [scntWords, List.mem_cons, List.not_mem_nil, or_false]
  omega

theorem scnt_retireWaiters (p : Nat → Bool) : scnt (retireWaiters d p) = scnt d := foldl_keeps scnt _ _ fun _ _ => scnt_complete ..

theorem scnt_endWriteAt (seq st r : Nat) : scnt (endWriteAt d seq st r) = scnt d := by
  unfold endWriteAt
  split
  · rfl
  · dsimp only
    rw [scnt_complete, scnt_streamDone, scnt_dropLine]
    rfl

theorem scnt_cmdKeysLost (seq : Nat) : scnt (cmdKeysLost d seq) = scnt d := by
  unfold cmdKeysLost
  split
  · rfl
  · refine scnt_ite rfl (scnt_ite (scnt_ite ?_ (scnt_endWriteAt ..)) (scnt_ite ?_ (scnt_ite (scnt_ite rfl (scnt_complete ..)) rfl)))
    · rw [scnt_complete, scnt_dropLine]
    · exact (scnt_complete ..).trans rfl

theorem scnt_slotLost (n : Nat) : scnt (slotLost d n) = scnt d := by
  have hleft : scnt (slotLeave (descLost d (· == n)) n ksLOST) = scnt d := (scnt_slotLeave ..).trans rfl
  refine scnt_ite ?_ hleft
  rw [scnt_afterWork, scnt_retireWaiters]
  exact (foldl_keeps scnt _ _ fun _ _ => scnt_cmdKeysLost ..).trans hleft

end

/-! ### The vote -/

section
variable (d : Dev)

theorem scnt_stklSafe {off : Nat} (h : off ∉ scntWords) : scnt (stklSafe d off) = scnt d := by
  have hreset (w x : Word) : scnt (setShdW (setActW d off w) off x) = scnt d := scnt_setActW d w h
  refine scnt_ite ?_ ?_
  · exact scnt_ite (hreset ..) ((scnt_safeDemote ..).trans (hreset ..))
  · exact scnt_ite (hreset ..) (hreset ..)

theorem scnt_tvSafe {off : Nat} (lo : Nat) (h : off ∉ scntWords) : scnt (tvSafe d off lo) = scnt d := by
  have hmode : scnt (wrBoth d F.GLB_MODE_MODE 4) = scnt d := scnt_wr d 4 (by decide)
  unfold tvSafe
  dsimp only
  refine scnt_ite (scnt_ite hmode (scnt_ite ((scnt_modeTakes ..).trans hmode) hmode)) (scnt_ite (scnt_wr _ _ (by decide)) (scnt_ite ?_ (scnt_ite ?_ ?_)))
  · rw [scnt_admRecompute, scnt_flushTerms, scnt_wr _ _ (by decide)]
  · exact scnt_wr d 20000 (by decide)
  · refine scnt_ite (scnt_stklSafe d h) ?_
    by_cases hp : 0x14 ≤ pageOf off ∧ pageOf off ≤ 0x17
    · rw [if_pos (by simpa using hp)]
      have hin : inPage off < 0x1000 := Nat.mod_lt _ (by decide)
      exact scnt_ite (scnt_strmSafe d (by omega)) rfl
    · rw [if_neg (by simpa using hp)]
      exact scnt_ite (scnt_slotLost ..) rfl

theorem scnt_voteStat (off : Nat) (t : Bool) : scnt (voteStat d off t) = scnt d := by
  unfold voteStat
  exact scnt_ite ((scnt_raise ..).trans rfl) ((scnt_raise ..).trans rfl)

theorem scnt_voteField (off : Nat) (sh : Bool) (c : Copies) (f : Nat × Nat) (h : off ∉ scntWords) : scnt (voteField off sh c d f) = scnt d := by
  have hput (x : Dev) (n : Nat) : scnt (if sh then setShdW x off (putBits (shdW x off) f.1 f.2 n)
      else setActW x off (putBits (actW x off) f.1 f.2 n)) = scnt x := scnt_ite rfl (scnt_setActW _ _ h)
  unfold voteField
  dsimp only
  refine scnt_ite (hput ..) (scnt_ite ((scnt_voteStat ..).trans (hput ..)) (scnt_ite ((scnt_voteStat ..).trans (hput ..)) (scnt_ite ?_ ?_)))
  · exact (hput ..).trans (scnt_voteStat ..)
  · exact (scnt_tvSafe _ _ h).trans (scnt_voteStat ..)

theorem scnt_voteWord {k : Nat} (h : k / 2 ∉ scntWords) : scnt (voteWord d k) = scnt d := by
  unfold voteWord
  split
  · rfl
  · exact (foldl_keeps scnt _ _ fun _ _ => scnt_voteField _ _ _ _ _ h).trans rfl

theorem scnt_voteAt (off : Nat) : scnt (voteAt d off) = scnt d := by
  unfold voteAt
  split
  · rfl
  · next h =>
    have hoff : off ∉ scntWords := by
      intro hm
      have hmask : ∀ o ∈ scntWords, tvMask o = 0 := by decide +kernel
      exact h (by rw [hmask off hm]; rfl)
    rw [scnt_voteWord _ (by rwa [Nat.mul_div_cancel_left _ (by decide)]), scnt_voteWord _ (by rwa [show (2 * off + 1) / 2 = off by omega])]

theorem scnt_voteAll : scnt (voteAll d) = scnt d := foldl_keeps scnt _ _ fun _ _ => scnt_voteAt ..

end

end Sys2Proof.Machine
end

section
/-!
PROOFS. Stroke samples, the trace, scrubs, leaks, injections and repairs (R204 to R217, R380 to R386).
-/
namespace Sys2Proof.Machine

/-! ### Stroke -/

theorem sampleCounted (s : State) (n : Nat) :
    rd64 (wr (add64 (voteAll s.dev) 0x19064 1) F.STK_PMEAS_MW n) 0x19064 = (rd64 s.dev 0x19064 + 1) % 2 ^ 64 := by
  have hvote : rd64 (voteAll s.dev) 0x19064 = rd64 s.dev 0x19064 := by
    have h := scnt_voteAll s.dev
    exact rd64_congr 0x19064 (List.forall_mem_cons.2 ⟨congrArg Prod.fst h, List.forall_mem_cons.2 ⟨congrArg Prod.snd h, nofun⟩⟩)
  rw [rd64_wr_ne _ _ (by decide), add64, rd64_wr64_same, hvote]

theorem q16Clamp_bounds {x lo hi : Int} (a b : Nat) (h : lo ≤ hi) : lo ≤ (q16Clamp x lo hi a b).1 ∧ (q16Clamp x lo hi a b).1 ≤ hi := by
  unfold q16Clamp
  split
  · exact ⟨Int.le_refl _, h⟩
  · split <;> dsimp only <;> omega

theorem loopEval_bounds (d : Dev) (l : Nat) (sp m : Int) (h : l < 64 ∨ q16 d (F.STKL_UMIN_UMIN l) ≤ q16 d (F.STKL_UMAX_UMAX l)) :
    q16 d (F.STKL_UMIN_UMIN l) ≤ (loopEval d l sp m).u ∧
    (loopEval d l sp m).u ≤ max (q16 d (F.STKL_UMAX_UMAX l)) (q16 d (F.STKL_UMIN_UMIN l)) := by
  have hle : q16 d (F.STKL_UMIN_UMIN l) ≤ (if l < 64 then max (q16 d (F.STKL_UMAX_UMAX l)) (q16 d (F.STKL_UMIN_UMIN l)) else q16 d (F.STKL_UMAX_UMAX l)) := by
    split
    · exact Int.le_max_right _ _
    · omega
  have hmax : (if l < 64 then max (q16 d (F.STKL_UMAX_UMAX l)) (q16 d (F.STKL_UMIN_UMIN l)) else q16 d (F.STKL_UMAX_UMAX l)) ≤
      max (q16 d (F.STKL_UMAX_UMAX l)) (q16 d (F.STKL_UMIN_UMIN l)) := by
    split
    · exact Int.le_refl _
    · exact Int.le_max_left _ _
  obtain ⟨hlo, hhi⟩ := q16Clamp_bounds 4 8 hle
  exact ⟨hlo, Int.le_trans hhi hmax⟩

/-! ### The trace -/

/-- The register STKT_TRIG: its source fields are kept, ARM, FORCE and STOP act. -/
def trigRow : RegRow := ⟨0x60, 0x0F7F0703, 0x0, 0x0, 0x0, 0x0, 0xE0000000, 0x0, 0x0, 0⟩

theorem regRow_trig : regRow? 0x1E060 = some trigRow := by decide +kernel

theorem writeWord_trig (d : Dev) (port : Nat) (v : Word) : writeWord d port 0x1E060 v = stktWrite (storeWord d 0x1E060 trigRow v) v := by
  rw [writeWord_row _ regRow_trig, if_neg (by decide), oneWrite, if_neg (by decide)]
  rfl

theorem traceArm_shows (d : Dev) : rd (traceArm d) F.STKT_STAT_STATE = 1 ∧ rd (traceArm d) F.STKT_STAT_VPRE = 0 ∧ (traceArm d).trace.before = [] ∧
    (traceArm d).trace.after = [] ∧ (traceArm d).trace.pre = rd d F.STKT_PRE_PRE := by
  have htrace : (traceArm d).trace = _ := wrs_keeps Dev.trace (fun _ _ _ => rfl) _ _
  refine ⟨?_, ?_, congrArg Trace.before htrace, congrArg Trace.after htrace, congrArg Trace.pre htrace⟩ <;> unfold traceArm <;>
    simp (disch := decide) only [wrs, List.foldl_cons, List.foldl_nil, rd_wr_same, rd_wr_apart] <;> rfl

theorem traceDrop_shows (d : Dev) : rd (traceDrop d) F.STKT_PRE_PRE = rd d F.STKT_PRE_PRE ∧
    (rd d F.STKT_STAT_STATE = 1 ∨ rd d F.STKT_STAT_STATE = 2 → rd (traceDrop d) F.STKT_STAT_STATE = 0) ∧
    (rd d F.STKT_STAT_STATE ≠ 1 → rd d F.STKT_STAT_STATE ≠ 2 → traceDrop d = d) := by
  unfold traceDrop
  dsimp only
  refine ⟨?_, fun h => ?_, fun h1 h2 => if_neg (by simp [h1, h2])⟩
  · split
    · exact rd_wrs_apart _ _ (by decide) (by decide)
    · rfl
  · rw [if_pos (by simpa using h)]
    simp (disch := decide) only [wrs, List.foldl_cons, List.foldl_nil, rd_wr_same, rd_wr_apart]
    rfl

theorem traceFire_shows (d : Dev) : rd (traceFire d 1) F.STKT_STAT_STATE = 2 ∧ rd (traceFire d 1) F.STKT_STAT_TCAUSE = 1 ∧
    evtSet (traceFire d 1) 0x1E 8 = true := by
  refine ⟨?_, ?_, evtSet_raise_same _ _ (by decide)⟩ <;> refine (rd_raise _ _ _ _ (by decide)).trans ?_ <;>
    simp (disch := decide) only [wrs, List.foldl_cons, List.foldl_nil, rd_wr_same, rd_wr_apart] <;> rfl

theorem traceTriggers {s : State} {port : Nat} {v : Word} (hw : Writes s port 0x1E060 v) :
    (bitOf v.toNat 31 = true → bitOf v.toNat 30 = false → Gives (.stktArm port v) s (fun d => rd d F.STKT_STAT_STATE = 1 ∧
      rd d F.STKT_STAT_VPRE = 0 ∧ d.trace.before = [] ∧ d.trace.after = [] ∧ d.trace.pre = rd s.dev F.STKT_PRE_PRE)) ∧
    (bitOf v.toNat 30 = true → bitOf v.toNat 31 = false → bitOf v.toNat 29 = false → rd s.dev F.STKT_STAT_STATE = 1 →
      Gives (.stktForce port v) s (fun d => rd d F.STKT_STAT_STATE = 2 ∧ rd d F.STKT_STAT_TCAUSE = 1 ∧ evtSet d 0x1E 8 = true ∧
        rd64 d 0x1E074 = s.dev.sys.time % 2 ^ 64)) ∧
    (bitOf v.toNat 29 = true → bitOf v.toNat 31 = false → bitOf v.toNat 30 = false → Gives (.stktStop port v) s (fun d =>
      (rd s.dev F.STKT_STAT_STATE = 1 ∨ rd s.dev F.STKT_STAT_STATE = 2 → rd d F.STKT_STAT_STATE = 0) ∧
      (rd s.dev F.STKT_STAT_STATE ≠ 1 → rd s.dev F.STKT_STAT_STATE ≠ 2 → d.trace = s.dev.trace))) := by
  obtain ⟨hstored, -⟩ := storeWord_plain (d := s.dev) (off := 0x1E060) (r := trigRow) v rfl rfl rfl
  have hwrite := writeWord_trig s.dev port v
  have hstate : rd (storeWord s.dev 0x1E060 trigRow v) F.STKT_STAT_STATE = rd s.dev F.STKT_STAT_STATE := rd_congr F.STKT_STAT_STATE (hstored.words _ (by decide))
  have hpre : rd (storeWord s.dev 0x1E060 trigRow v) F.STKT_PRE_PRE = rd s.dev F.STKT_PRE_PRE := rd_congr F.STKT_PRE_PRE (hstored.words _ (by decide))
  have htime : (storeWord s.dev 0x1E060 trigRow v).sys = s.dev.sys := hstored.keeps Dev.sys fun _ _ _ => rfl
  have htrace : (storeWord s.dev 0x1E060 trigRow v).trace = s.dev.trace := hstored.keeps Dev.trace fun _ _ _ => rfl
  generalize storeWord s.dev 0x1E060 trigRow v = g at hwrite hstate hpre htime htrace
  refine ⟨fun h31 h30 => ?_, fun h30 h31 h29 hst => ?_, fun h29 h31 h30 => ?_⟩
  · refine gives_of_row (c := .stktArm port v) rfl (by simp [h31]) hw ?_
    have hacts : stktWrite g v = traceArm (if bitOf v.toNat 29 then traceDrop g else g) := by
      unfold stktWrite
      simp [h31, h30]
    obtain ⟨hs, hv, hb, ha, hp⟩ := traceArm_shows (if bitOf v.toNat 29 then traceDrop g else g)
    rw [hwrite, hacts]
    refine ⟨hs, hv, hb, ha, hp.trans ?_⟩
    split
    · exact (traceDrop_shows g).1.trans hpre
    · exact hpre
  · refine gives_of_row (c := .stktForce port v) rfl (by simp [h30]) hw ?_
    have hacts : stktWrite g v = wr64 (traceFire g 1) 0x1E074 g.sys.time := by
      unfold stktWrite
      simp [h31, h30, h29, hstate, hst]
    obtain ⟨hs, hc, he⟩ := traceFire_shows g
    rw [hwrite, hacts, htime]
    exact ⟨(rd_wr64 _ _ (by decide) (by decide)).trans hs, (rd_wr64 _ _ (by decide) (by decide)).trans hc, he, rd64_wr64_same ..⟩
  · refine gives_of_row (c := .stktStop port v) rfl (by simp [h29]) hw ?_
    have hacts : stktWrite g v = traceDrop g := by
      unfold stktWrite
      simp [h31, h30, h29]
    obtain ⟨-, hdrop, hkeep⟩ := traceDrop_shows g
    rw [hwrite, hacts, ← hstate]
    exact ⟨hdrop, fun h1 h2 => by rw [hkeep h1 h2, htrace]⟩

theorem traceRead {s : State} {port : Nat} (hh : HostAt s port) (ha : answers s.dev 0x1E = true) : Gives (.stktRdataRead port) s (fun d =>
    d.out = .reg port (traceData s.dev) :: s.dev.out ∧ rd d F.STKT_RIDX_IDX = (rd s.dev F.STKT_RIDX_IDX + 1) % 2 ^ 12 ∧
    (rd s.dev F.STKT_STAT_STATE ≠ 3 → traceData s.dev = 0)) := by
  have hvote : voteAt s.dev 0x1E080 = s.dev := if_pos (by decide +kernel)
  have hread : hubRead s.dev port 0x1E080 = (traceData s.dev, wr s.dev F.STKT_RIDX_IDX (rd s.dev F.STKT_RIDX_IDX + 1)) := by
    unfold hubRead
    rw [hvote]
    rfl
  refine ⟨_, hubRow_read hh (by decide) (by decide) (.inr ha), ?_⟩
  rw [hread]
  refine ⟨rfl, (rd_wr_same _ F.STKT_RIDX_IDX _ (by decide)).trans rfl, fun h => if_neg (by simpa using h)⟩

/-! ### Protected memories -/

theorem memOn_le {d : Dev} {m : Nat} (h : memOn d m = true) : m ≤ 110 := by
  unfold memOn at h
  exact of_decide_eq_true (Bool.and_eq_true_iff.1 h).1

theorem poisoned_shows (d : Dev) {m : Nat} (hm : m ≤ 110) (word : Nat) :
    let d' := memPoisoned d m word .unused
    rd d' (F.MEMx_UE_COUNT m) = min (rd d (F.MEMx_UE_COUNT m) + 1) (2 ^ (F.MEMx_UE_COUNT m).wd - 1) ∧
      rd d' F.MEM_UELAST_MEMID = m ∧ rd d' F.MEM_UEADDR_WORD = word % 2 ^ 32 ∧ evtSet d' 7 8 = true ∧ evtSet d' (8 + m / 32) 9 = true := by
  intro d'
  have hoff : ∀ m ≤ 110, (F.MEMx_UE_COUNT m).off ∉ [0x705C, 0x7060] ∧ (F.MEMx_UE_COUNT m).off ∉ logWords := by decide
  obtain ⟨hue, hlog⟩ := hoff m hm
  have hread {f : Fld} (h : f.off ∉ logWords) : rd d' f = rd (wrs (satAdd d (F.MEMx_UE_COUNT m) 1) [(F.MEM_UELAST_VALID, 1), (F.MEM_UELAST_MEMID, m),
      (F.MEM_UEADDR_WORD, word)]) f := (rd_raise _ _ _ _ h).trans (rd_raise _ _ _ _ h)
  refine ⟨?_, ?_, ?_, evtSet_raise_of_set _ _ (evtSet_raise_same _ _ (by decide)), evtSet_raise_same _ _ (by decide)⟩
  · refine (hread hlog).trans ((rd_wrs_apart _ _ (by show 0 + 32 ≤ 32; omega) ?_).trans ?_)
    · simp only [List.mem_cons, List.not_mem_nil, or_false, not_or] at hue
      obtain ⟨h1, h2⟩ := hue
      simp only [List.map_cons, List.map_nil, List.forall_mem_cons]
      exact ⟨.inl h1, .inl h1, .inl h2, nofun⟩
    · exact rd_satAdd_same d (F.MEMx_UE_COUNT m) 1 (by show 0 + 32 ≤ 32; omega)
  · rw [hread (by decide)]
    simp (disch := decide) only [wrs, List.foldl_cons, List.foldl_nil, rd_wr_same, rd_wr_apart]
    exact Nat.mod_eq_of_lt (Nat.lt_of_le_of_lt hm (by decide))
  · rw [hread (by decide)]
    simp (disch := decide) only [wrs, List.foldl_cons, List.foldl_nil, rd_wr_same]
    rfl

/-- The register MEM_INJ. -/
def injRow : RegRow := ⟨0x48, 0x77F, 0x60000000, 0x0, 0x0, 0x0, 0x80000000, 0x0, 0x700, 0⟩

theorem regRow_inj : regRow? 0x7048 = some injRow := by decide +kernel

theorem writeWord_inj (d : Dev) (port : Nat) (v : Word) : writeWord d port 0x7048 v = memInjWrite d v := by
  rw [writeWord_row _ regRow_inj, if_neg (by decide), oneWrite]
  rfl

theorem memInjWrite_shows (d : Dev) {v : Word} (h31 : bitOf v.toNat 31 = true) : ChangesOnly [0x7048] [] d (memInjWrite d v) ∧
    (bitsOf v.toNat 0 7 ≤ 110 → bitsOf v.toNat 8 3 ≠ 6 → rd (memInjWrite d v) F.MEM_INJ_ARM = 1 ∧ rd (memInjWrite d v) F.MEM_INJ_DONE = 0 ∧
      rd (memInjWrite d v) F.MEM_INJ_REFUSED = 0) ∧
    (bitsOf v.toNat 0 7 > 110 ∨ bitsOf v.toNat 8 3 = 6 → rd (memInjWrite d v) F.MEM_INJ_REFUSED = 1 ∧
      rd (memInjWrite d v) F.MEM_INJ_ARM = rd d F.MEM_INJ_ARM) := by
  have hfields (x : Dev) (l : List (Fld × Nat)) (h : ∀ f ∈ l.map Prod.fst, f.off = 0x7048) : ChangesOnly [0x7048] [] x (wrs x l) :=
    ChangesOnly.wrs x l fun e he => by rw [h e he]; simp
  unfold memInjWrite
  dsimp only
  rw [if_neg (by rw [h31]; decide)]
  refine ⟨?_, fun hm hr => ?_, fun h => ?_⟩
  · have hbase := hfields d [(F.MEM_INJ_REGION, bitsOf v.toNat 8 3), (F.MEM_INJ_MEMID, bitsOf v.toNat 0 7)] (by simp only [List.map_cons, List.map_nil, List.forall_mem_cons]; exact ⟨rfl, rfl, nofun⟩)
    split
    · exact hbase.step (hfields _ _ (by simp only [List.map_cons, List.map_nil, List.forall_mem_cons]; exact ⟨rfl, rfl, rfl, nofun⟩))
    · exact hbase.step (ChangesOnly.wr _ F.MEM_INJ_REFUSED _)
  · rw [if_pos (by simp [hm, hr])]
    refine ⟨?_, ?_, ?_⟩ <;> simp (disch := decide) only [wrs, List.foldl_cons, List.foldl_nil, rd_wr_same, rd_wr_apart] <;> rfl
  · rw [if_neg (by simp; omega)]
    refine ⟨?_, ?_⟩ <;> simp (disch := decide) only [wrs, List.foldl_cons, List.foldl_nil, rd_wr_same, rd_wr_apart]
    rfl

/-! ### Repairs -/

/-- The register MEM_RPCMD. -/
def rpcmdRow : RegRow := ⟨0x68, 0x1, 0x0, 0x0, 0x0, 0x0, 0x80000000, 0x0, 0x0, 0⟩

theorem regRow_rpcmd : regRow? 0x7068 = some rpcmdRow := by decide +kernel

theorem writeWord_rpcmd (d : Dev) (port : Nat) (v : Word) : writeWord d port 0x7068 v = memRpcmdWrite d v := by
  rw [writeWord_row _ regRow_rpcmd, if_neg (by decide), oneWrite]
  rfl

/-- The command word has no part in what refuses a repair. -/
theorem repairRefused_rpcmd (d : Dev) (n : Nat) (hard : Bool) (row : HbmRow) : repairRefused (wr d F.MEM_RPCMD_OP n) hard row = repairRefused d hard row := by
  have hrd {f : Fld} (h : f.off ≠ 0x7068) : rd (wr d F.MEM_RPCMD_OP n) f = rd d f := rd_congr f (actW_wr_ne d F.MEM_RPCMD_OP n h)
  have hflush : flushing (wr d F.MEM_RPCMD_OP n) = flushing d := congrArg (fun x => !(x == 0)) (hrd (by decide))
  have hmode : inMaintain (wr d F.MEM_RPCMD_OP n) = inMaintain d := congrArg (fun x => x == 4) (hrd (by decide))
  have hstreams : openStreams (wr d F.MEM_RPCMD_OP n) = openStreams d := by
    have hopen (i : Nat) : rdB (wr d F.MEM_RPCMD_OP n) (F.STRM_STAT_OPEN i) = rdB d (F.STRM_STAT_OPEN i) :=
      congrArg (fun x => x == 1) (hrd (by show 0x14000 + 0x100 * i + 0x40 ≠ 0x7068; omega))
    unfold openStreams
    simp only [hopen]
  have hsan : sanitising (wr d F.MEM_RPCMD_OP n) = sanitising d := by
    unfold sanitising adminBusy adminOp rdB
    rw [hrd (by decide), hrd (by decide)]
  have hleft (pc : Nat) : hrLeft (wr d F.MEM_RPCMD_OP n) pc = hrLeft d pc :=
    congrArg (fun x => x / 16 ^ (pc % 8) % 16) (hrd (by show 0x7070 + 4 * (pc / 8) ≠ 0x7068; omega))
  unfold repairRefused
  rw [hrd (f := F.MEM_RPADDR_SID) (by decide), hflush, hmode, hstreams, hsan, hleft]
  rfl

theorem repairRefused_lt (d : Dev) (hard : Bool) (row : HbmRow) : repairRefused d hard row < 16 := by
  unfold repairRefused
  repeat' split
  all_goals decide

theorem memRpcmdWrite_eq {d : Dev} {v : Word} {hard : Bool} (hst : stageReady d = true) (h31 : bitOf v.toNat 31 = true) (h0 : bitOf v.toNat 0 = hard) :
    memRpcmdWrite d v =
      if repairRefused d hard (actW d 0x7064).toNat = 0 then
        wr { wr d F.MEM_RPCMD_OP (b2n hard) with mem := { d.mem with repair := some ((actW d 0x7064).toNat, b2n hard) } } F.MEM_RPSTAT_BUSY 1
      else raise (wr (wr d F.MEM_RPCMD_OP (b2n hard)) F.MEM_RPSTAT_CAUSE (repairRefused d hard (actW d 0x7064).toNat)) 7 11 := by
  have hready : stageReady (wr d F.MEM_RPCMD_OP (b2n hard)) = true :=
    (congrArg (fun x => x == 6) (rd_congr F.GLB_BOOT_STAGE (actW_wr_ne d F.MEM_RPCMD_OP (b2n hard) (by decide)))).trans hst
  have hrow : actW (wr d F.MEM_RPCMD_OP (b2n hard)) 0x7064 = actW d 0x7064 := actW_wr_ne d F.MEM_RPCMD_OP (b2n hard) (by decide)
  unfold memRpcmdWrite
  dsimp only
  rw [h0, if_neg (by rw [h31, hready]; decide), hrow, repairRefused_rpcmd]
  simp only [beq_iff_eq]
  rfl

theorem repairs {s : State} {port : Nat} {v : Word} {hard : Bool} (hw : Writes s port 0x7068 v) (hst : stageReady s.dev = true)
    (h31 : bitOf v.toNat 31 = true) (h0 : bitOf v.toNat 0 = hard) :
    let row := (actW s.dev 0x7064).toNat
    let why := repairRefused s.dev hard row
    Gives (if hard then .hardRepair port v else .softRepair port v) s (fun d =>
      (why = 0 → rd d F.MEM_RPSTAT_BUSY = 1 ∧ d.mem.repair = some (row, b2n hard)) ∧
      (why ≠ 0 → rd d F.MEM_RPSTAT_CAUSE = why ∧ evtSet d 7 11 = true ∧ d.mem = s.dev.mem)) := by
  intro row why
  have hshows : (why = 0 → rd (writeWord s.dev port 0x7068 v) F.MEM_RPSTAT_BUSY = 1 ∧ (writeWord s.dev port 0x7068 v).mem.repair = some (row, b2n hard)) ∧
      (why ≠ 0 → rd (writeWord s.dev port 0x7068 v) F.MEM_RPSTAT_CAUSE = why ∧ evtSet (writeWord s.dev port 0x7068 v) 7 11 = true ∧
        (writeWord s.dev port 0x7068 v).mem = s.dev.mem) := by
    rw [writeWord_rpcmd, memRpcmdWrite_eq hst h31 h0]
    refine ⟨fun h => ?_, fun h => ?_⟩
    · rw [if_pos h]
      exact ⟨(rd_wr_same _ F.MEM_RPSTAT_BUSY _ (by decide)).trans rfl, rfl⟩
    · rw [if_neg h]
      refine ⟨?_, evtSet_raise_same _ _ (by decide), ?_⟩
      · exact (rd_raise _ _ _ _ (by decide)).trans ((rd_wr_same _ F.MEM_RPSTAT_CAUSE _ (by decide)).trans (Nat.mod_eq_of_lt (repairRefused_lt ..)))
      · exact ((ChangesOnly.raise _ _ _).keeps Dev.mem fun _ _ _ => rfl).trans rfl
  cases hard with
  | true => exact gives_of_row (c := .hardRepair port v) rfl (by rw [h31, h0]; rfl) hw hshows
  | false => exact gives_of_row (c := .softRepair port v) rfl (by rw [h31, h0]; rfl) hw hshows

theorem repairDone_shows {d : Dev} {row : HbmRow} (h : d.mem.repair = some (row, 0)) : evtSet (repairDone d) 7 10 = true ∧
    rd (repairDone d) F.MEM_RPSTAT_BUSY = 0 ∧ (repairDone d).mem.repair = none ∧ (repairDone d).mem.soft = d.mem.soft ++ [row] ∧
    rd (repairDone d) F.MEM_RPSTAT_SOFT = (d.mem.soft.length + 1) % 256 := by
  have heq : repairDone d = raise (wr { wr { d with mem := { d.mem with repair := none } } F.MEM_RPSTAT_BUSY 0 with
      mem := { d.mem with repair := none, soft := d.mem.soft ++ [row] } } F.MEM_RPSTAT_SOFT (d.mem.soft.length + 1)) 7 10 := by
    unfold repairDone
    rw [h]
    rfl
  have hmem : (repairDone d).mem = { d.mem with repair := none, soft := d.mem.soft ++ [row] } := by
    rw [heq]
    exact ((ChangesOnly.raise _ _ _).keeps Dev.mem fun _ _ _ => rfl).trans rfl
  refine ⟨by rw [heq]; exact evtSet_raise_same _ _ (by decide), ?_, by rw [hmem], by rw [hmem], ?_⟩ <;> rw [heq] <;>
    refine (rd_raise _ _ _ _ (by decide)).trans ?_
  · exact (rd_wr_apart _ _ (by decide) (by decide)).trans ((rd_wr_same _ F.MEM_RPSTAT_BUSY _ (by decide)).trans rfl)
  · exact (rd_wr_same _ F.MEM_RPSTAT_SOFT _ (by decide)).trans rfl

/-- Settles O58: the counter by what a vote leaves, outputs by their clamp, the trace, the memories and the repairs row by row. -/
theorem strokeTraceAndMemory : Obligations.StrokeTraceAndMemory := by
  refine ⟨?sample, fun d l sp m => loopEval_bounds d l sp m, fun s port v hw => traceTriggers hw, fun s port hh ha => traceRead hh ha, ?scrub, ?leak, ?inject,
    fun s port v hard hw hst h31 h0 => repairs hw hst h31 h0, fun s row ha h => ?_⟩
  case sample =>
    intro s inp hr ha hd v d1 d3
    exact ⟨sampleCounted s _, gives_of_guard (c := .strokeSample inp) rfl (by rw [hr, ha, hd]; rfl) rfl⟩
  case scrub =>
    intro s m f ha hm hst
    have hgo : (alive s.dev && memOn s.dev m && !(rd s.dev F.GLB_BOOT_STAGE == 0xF)) = true := by
      rw [ha, hm]
      simpa using hst
    refine gives_of_guard (c := .memScrubPass m f) rfl hgo ⟨rfl, ?_, ?_, ?_⟩
    · rintro rfl
      rfl
    · rintro rfl h32
      show rd (if m < 32 then wrapAdd s.dev F.MEM_SCRUB_PASSES 1 else s.dev) F.MEM_SCRUB_PASSES = _ ∧ ChangesOnly _ _ _ (if m < 32 then _ else _)
      rw [if_pos h32]
      exact ⟨rd_wr_same _ F.MEM_SCRUB_PASSES _ (by decide), ChangesOnly.wr _ F.MEM_SCRUB_PASSES _⟩
    · rintro word rfl
      exact poisoned_shows s.dev (memOn_le hm) word
  case leak =>
    intro s m ha hm
    refine gives_of_guard (c := .leakTick m) rfl (by rw [ha, decide_eq_true hm]; rfl) ⟨?_, ChangesOnly.wr _ _ _⟩
    refine (rd_wr_same _ (F.MEMx_LVL_LEVEL m) _ (by show 0 + 16 ≤ 32; omega)).trans (Nat.mod_eq_of_lt ?_)
    exact Nat.lt_of_le_of_lt (Nat.sub_le ..) (rd_lt ..)
  case inject =>
    intro s port v hw h31
    refine gives_of_row (c := .memInjArm port v) rfl h31 hw ?_
    rw [writeWord_inj]
    exact memInjWrite_shows s.dev h31
  · exact gives_of_guard (c := .rpdone) rfl ha (repairDone_shows h)

end Sys2Proof.Machine
end

section
/-!
PROOFS. The data mover: tails, EN, STOP, RESET, descriptors and barriers (R359 to R372).
-/
namespace Sys2Proof.Machine

/-! ### Rows and writes of a channel -/

/-- The registers DMC_CTL and DMC_TAIL of a channel. -/
def dmcCtlRow : RegRow := ⟨0x0, 0x1, 0x0, 0x0, 0x0, 0x0, 0x6, 0x0, 0x0, 0⟩
def dmcTailRow : RegRow := ⟨0x14, 0xFFF, 0x0, 0x0, 0x0, 0x0, 0x0, 0x0, 0x0, 0⟩

theorem regRow_dmcCtl : ∀ ch < 32, regRow? (dmcOff ch 0) = some dmcCtlRow := by decide +kernel
theorem regRow_dmcTail : ∀ ch < 32, regRow? (dmcOff ch 0x14) = some dmcTailRow := by decide +kernel

theorem page_dmc : ∀ ch < 32, (0x79 ≤ pageOf (dmcOff ch 0) ∧ pageOf (dmcOff ch 0) ≤ 0x7C ∧ (inPage (dmcOff ch 0) - 0x40) % 0x80 = 0 ∧ dmcOf (dmcOff ch 0) = ch) ∧
    (0x79 ≤ pageOf (dmcOff ch 0x14) ∧ pageOf (dmcOff ch 0x14) ≤ 0x7C ∧ (inPage (dmcOff ch 0x14) - 0x40) % 0x80 = 0x14 ∧ dmcOf (dmcOff ch 0x14) = ch) := by
  decide

theorem dmcOff_eq (ch k : Nat) : dmcOff ch k = 0x79040 + 0x1000 * (ch / 8) + 0x80 * (ch % 8) + k := rfl

/-- A word of the pages of the data mover is served by its channel. -/
theorem oneWrite_dmc (d : Dev) (port : Nat) {off : Nat} (r : RegRow) (v : Word) (hoff : 0x79000 ≤ off) (h1 : 0x79 ≤ pageOf off) (h2 : pageOf off ≤ 0x7C) :
    oneWrite d port off r v = (if (inPage off - 0x40) % 0x80 == 0 then some (mvCtlWrite d (dmcOf off) v.toNat)
      else if (inPage off - 0x40) % 0x80 == 4 then some (mvFnWrite d (dmcOf off) v)
      else if (inPage off - 0x40) % 0x80 == 0x14 then some (mvTailWrite d (dmcOf off) (v.toNat % 4096)) else none).getD (storeWord d off r v) := by
  unfold oneWrite
  dsimp only
  rw [if_neg (by simp; omega)]
  unfold actHigh
  dsimp only
  rw [if_neg (by simp; omega), if_neg (by simp; omega), if_neg (by simp; omega), if_neg (by simp; omega), if_pos (by simp [h1, h2])]

theorem writeWord_dmcCtl (d : Dev) (port : Nat) {ch : Nat} (hc : ch < 32) (v : Word) : writeWord d port (dmcOff ch 0) v = mvCtlWrite d ch v.toNat := by
  obtain ⟨h1, h2, h3, h4⟩ := (page_dmc ch hc).1
  rw [writeWord_row _ (regRow_dmcCtl ch hc), if_neg (by decide), oneWrite_dmc _ _ _ _ (by rw [dmcOff_eq]; omega) h1 h2, h3, h4]
  rfl

theorem writeWord_dmcTail (d : Dev) (port : Nat) {ch : Nat} (hc : ch < 32) (v : Word) :
    writeWord d port (dmcOff ch 0x14) v = mvTailWrite d ch (v.toNat % 4096) := by
  obtain ⟨h1, h2, h3, h4⟩ := (page_dmc ch hc).2
  rw [writeWord_row _ (regRow_dmcTail ch hc), if_neg (by decide), oneWrite_dmc _ _ _ _ (by rw [dmcOff_eq]; omega) h1 h2, h3, h4]
  rfl

/-! ### The state of a channel -/

theorem dmcStat_apart : ∀ ch < 32, FldApart (F.DMC_STAT_STATE ch) F.DMV_RUN_CH ∧ FldApart (F.DMC_STAT_HEAD ch) (F.DMC_STAT_STATE ch) ∧
    FldApart (F.DMC_STAT_SCAUSE ch) (F.DMC_STAT_STATE ch) ∧ FldApart (F.DMC_CTL_EN ch) (F.DMC_STAT_STATE ch) ∧
    FldApart (F.DMC_CTL_EN ch) F.DMV_RUN_CH ∧ FldApart (F.DMC_STAT_SCAUSE ch) (F.DMC_CTL_EN ch) ∧
    FldApart (F.DMC_STAT_HEAD ch) (F.DMC_STAT_SCAUSE ch) ∧ FldApart (F.DMC_STAT_HEAD ch) (F.DMC_CTL_EN ch) := by decide

theorem rd_setMvState (d : Dev) (ch st : Nat) {f : Fld} (hf : f.lo + f.wd ≤ 32) (h : FldApart f (F.DMC_STAT_STATE ch)) (hr : FldApart f F.DMV_RUN_CH) :
    rd (setMvState d ch st) f = rd d f :=
  (rd_setBit_apart _ _ _ hf hr).trans (rd_wr_apart _ _ hf h)

theorem mvState_setMvState (d : Dev) {ch st : Nat} (hc : ch < 32) (h8 : st < 8) : mvState (setMvState d ch st) ch = st := by
  refine (rd_setBit_apart _ _ _ (by show 29 + 3 ≤ 32; omega) (dmcStat_apart ch hc).1).trans ?_
  exact (rd_wr_same _ (F.DMC_STAT_STATE ch) _ (by show 29 + 3 ≤ 32; omega)).trans (Nat.mod_eq_of_lt h8)

/-- What does not read the registers stays when a channel takes a state. -/
theorem setMvState_keeps {α : Type} (g : Dev → α) (hg : ∀ d f v, g (wr d f v) = g d) (d : Dev) (ch st : Nat) : g (setMvState d ch st) = g d := by
  unfold setMvState setBit
  dsimp only
  split
  · exact hg ..
  · exact (hg ..).trans (hg ..)

/-- The words a channel's state may move. -/
def mvWords (ch : Nat) : List Nat := [dmcOff ch 0x18, dmcOff ch 0, 0x78040]

theorem actW_setMvState (d : Dev) (ch st : Nat) {o : Nat} (h : o ∉ mvWords ch) : actW (setMvState d ch st) o = actW d o := by
  simp only [mvWords, List.mem_cons, List.not_mem_nil, or_false, not_or] at h
  obtain ⟨h1, -, h3⟩ := h
  exact ((ChangesOnly.setBit _ F.DMV_RUN_CH _ _).words o (by rw [List.mem_singleton]; exact h3)).trans (actW_wr_ne d (F.DMC_STAT_STATE ch) st h1)

theorem mvSettle_words (d : Dev) (ch : Nat) {o : Nat} (h : o ∉ mvWords ch) : actW (mvSettle d ch) o = actW d o := by
  have h' := h
  simp only [mvWords, List.mem_cons, List.not_mem_nil, or_false, not_or] at h'
  obtain ⟨h1, h2, -⟩ := h'
  unfold mvSettle
  dsimp only
  split
  · exact actW_setMvState _ _ _ h
  · split
    · refine (actW_setMvState _ _ _ h).trans ((actW_wr_ne _ (F.DMC_CTL_EN ch) _ h2).trans ((actW_wr_ne _ (F.DMC_STAT_SCAUSE ch) _ h1).trans rfl))
    · exact actW_setMvState _ _ _ h

theorem mvSettle_keeps {α : Type} (g : Dev → α) (hg : ∀ d f v, g (wr d f v) = g d) (hm : ∀ d ch m, g (setMov d ch m) = g d) (d : Dev) (ch : Nat) :
    g (mvSettle d ch) = g d := by
  unfold mvSettle
  dsimp only
  split
  · exact setMvState_keeps g hg ..
  · split
    · refine (setMvState_keeps g hg ..).trans ((hg ..).trans ((hg ..).trans (hm ..)))
    · exact setMvState_keeps g hg ..

theorem evtSet_mvSettle (d : Dev) (ch p b : Nat) : evtSet (mvSettle d ch) p b = evtSet d p b :=
  evtSet_congr b (mvSettle_keeps (fun d => hdrOf d p) (fun _ _ _ => rfl) (fun _ _ _ => rfl) d ch)

theorem mvSettle_captured {d : Dev} {ch : Nat} {c : DescCap} {rest : List DescCap} (h : (movOf d ch).cap = c :: rest) :
    mvSettle d ch = setMvState d ch (if c.clear then mvRUN else mvWAIT) := by
  unfold mvSettle
  dsimp only
  rw [h]

theorem mvSettle_stops {d : Dev} {ch sc : Nat} (h : (movOf d ch).cap = []) (hs : (movOf d ch).stopping = some sc) :
    mvSettle d ch = setMvState (wrs (setMov d ch { movOf d ch with stopping := none }) [(F.DMC_STAT_SCAUSE ch, sc), (F.DMC_CTL_EN ch, 0)]) ch mvSTOPPED := by
  unfold mvSettle
  dsimp only
  rw [h]
  dsimp only
  rw [hs]

/-! ### Refusals and tails -/

theorem mvRef_shows (d : Dev) {ch why : Nat} (hc : ch < 32) (hw : why < 16) : rd (mvRef d ch why) F.DMV_REF_VALID = 1 ∧ rd (mvRef d ch why) F.DMV_REF_CH = ch ∧
    rd (mvRef d ch why) F.DMV_REF_WHY = why ∧ evtSet (mvRef d ch why) 0x78 9 = true := by
  refine ⟨?_, ?_, ?_, evtSet_raise_same _ _ (by decide)⟩ <;> refine (rd_raise _ _ _ _ (by decide)).trans ?_ <;>
    simp (disch := decide) only [wrs, List.foldl_cons, List.foldl_nil, rd_wr_same, rd_wr_apart]
  · rfl
  · exact Nat.mod_eq_of_lt hc
  · exact Nat.mod_eq_of_lt hw

theorem dmcOff_log : ∀ ch < 32, ∀ k ∈ [0, 4, 8, 0xC, 0x10, 0x14, 0x18], dmcOff ch k ∉ logWords ∧ dmcOff ch k ≠ 0x78050 := by decide

theorem actW_mvRef (d : Dev) {ch : Nat} (why : Nat) (hc : ch < 32) {k : Nat} (hk : k ∈ [0, 4, 8, 0xC, 0x10, 0x14, 0x18]) :
    actW (mvRef d ch why) (dmcOff ch k) = actW d (dmcOff ch k) := by
  obtain ⟨hlog, hne⟩ := dmcOff_log ch hc k hk
  exact (actW_raise _ _ _ _ hlog).trans (actW_wrs_ne d (offs := [0x78050, 0x78050, 0x78050]) rfl (by simpa using hne))

theorem tails {s : State} {port ch : Nat} {v : Word} (hc : ch < 32) (hw : Writes s port (dmcOff ch 0x14) v) :
    (ringLen s.dev ch ≤ v.toNat % 4096 → Gives (.dmcTailWrite port ch v) s (fun d => rd d F.DMV_REF_VALID = 1 ∧ rd d F.DMV_REF_CH = ch ∧
      rd d F.DMV_REF_WHY = 3 ∧ evtSet d 0x78 9 = true ∧ rd d (F.DMC_TAIL_TAIL ch) = rd s.dev (F.DMC_TAIL_TAIL ch))) ∧
    (v.toNat % 4096 < ringLen s.dev ch → Gives (.dmcTailWrite port ch v) s (fun d => rd d (F.DMC_TAIL_TAIL ch) = v.toNat % 4096 ∧
      (rdB s.dev (F.DMC_CTL_EN ch) = false ∨ mvState s.dev ch ≠ mvIDLE → ∀ o, o ≠ dmcOff ch 0x14 → actW d o = actW s.dev o))) := by
  refine ⟨fun hl => ?_, fun hl => ?_⟩ <;> refine gives_of_row (c := .dmcTailWrite port ch v) rfl (decide_eq_true hc) hw ?_ <;>
    rw [writeWord_dmcTail _ _ hc, mvTailWrite]
  · rw [if_pos hl]
    obtain ⟨hv, hch, hwhy, hevt⟩ := mvRef_shows s.dev hc (why := 3) (by decide)
    exact ⟨hv, hch, hwhy, hevt, rd_congr (F.DMC_TAIL_TAIL ch) (actW_mvRef s.dev 3 hc (k := 0x14) (by decide))⟩
  · rw [if_neg (Nat.not_le.2 hl)]
    dsimp only
    have htail : rd (wr s.dev (F.DMC_TAIL_TAIL ch) (v.toNat % 4096)) (F.DMC_TAIL_TAIL ch) = v.toNat % 4096 :=
      (rd_wr_same _ (F.DMC_TAIL_TAIL ch) _ (by show 0 + 12 ≤ 32; omega)).trans (Nat.mod_eq_of_lt (Nat.mod_lt _ (by decide)))
    have hrest (o : Nat) (ho : o ≠ dmcOff ch 0x14) : actW (wr s.dev (F.DMC_TAIL_TAIL ch) (v.toNat % 4096)) o = actW s.dev o :=
      actW_wr_ne s.dev (F.DMC_TAIL_TAIL ch) _ ho
    have hen : rdB (wr s.dev (F.DMC_TAIL_TAIL ch) (v.toNat % 4096)) (F.DMC_CTL_EN ch) = rdB s.dev (F.DMC_CTL_EN ch) :=
      congrArg (fun n => n == 1) (rd_congr (F.DMC_CTL_EN ch) (hrest _ (by show dmcOff ch 0 ≠ _; simp only [dmcOff_eq]; omega)))
    have hst : mvState (wr s.dev (F.DMC_TAIL_TAIL ch) (v.toNat % 4096)) ch = mvState s.dev ch :=
      rd_congr (F.DMC_STAT_STATE ch) (hrest _ (by show dmcOff ch 0x18 ≠ _; simp only [dmcOff_eq]; omega))
    have hnot : dmcOff ch 0x14 ∉ mvWords ch := by
      simp only [mvWords, dmcOff_eq, List.mem_cons, List.not_mem_nil, or_false]
      omega
    rw [hen, hst]
    generalize wr s.dev (F.DMC_TAIL_TAIL ch) (v.toNat % 4096) = x at htail hrest
    split
    · next hgo =>
      refine ⟨(rd_congr (F.DMC_TAIL_TAIL ch) (mvSettle_words x ch hnot)).trans htail, fun h => ?_⟩
      simp only [Bool.and_eq_true, beq_iff_eq] at hgo
      obtain ⟨h1, h2⟩ := hgo
      rcases h with h | h
      · exact absurd h (by rw [h1]; decide)
      · exact absurd h2 h
    · exact ⟨htail, fun _ => hrest⟩

/-! ### EN, STOP and RESET -/

theorem mvEnable_refused {d : Dev} {ch : Nat} (h : fnEnabled d (rd d (F.DMC_FN_FNA ch)) = false) : mvEnable d ch = mvRef d ch 1 := by
  unfold mvEnable
  dsimp only
  rw [if_pos (by rw [h]; rfl)]

theorem mvStop_idle {d : Dev} {ch : Nat} (hc : ch < 32) (hs : mvState d ch = mvIDLE) (hcap : (movOf d ch).cap = []) :
    mvState (mvStop d ch 1) ch = mvSTOPPED ∧ rd (mvStop d ch 1) (F.DMC_STAT_SCAUSE ch) = 1 ∧ rd (mvStop d ch 1) (F.DMC_CTL_EN ch) = 0 := by
  obtain ⟨-, -, hsc, hen, henr, hsce, -, -⟩ := dmcStat_apart ch hc
  have hscr : FldApart (F.DMC_STAT_SCAUSE ch) F.DMV_RUN_CH := .inl (by show dmcOff ch 0x18 ≠ 0x78040; rw [dmcOff_eq]; omega)
  unfold mvStop
  dsimp only
  rw [if_neg (by rw [hs]; decide)]
  generalize hx : wr (setMov d ch { movOf d ch with cap := (movOf d ch).cap.take 1, stopping := some 1 }) (F.DMC_STAT_HEAD ch)
    ((rd d (F.DMC_STAT_HEAD ch) + ringLen d ch - ((movOf d ch).cap.length - 1)) % ringLen d ch) = x
  have hmov : movOf x ch = { movOf d ch with cap := (movOf d ch).cap.take 1, stopping := some 1 } := by
    rw [← hx]
    exact movOf_setMov_same ..
  rw [mvSettle_stops (sc := 1) (by rw [hmov, hcap]; rfl) (by rw [hmov])]
  refine ⟨mvState_setMvState _ hc (by decide), ?_, ?_⟩
  · refine (rd_setMvState _ _ _ (by show 26 + 3 ≤ 32; omega) hsc hscr).trans ?_
    refine (rd_wr_apart _ _ (by show 26 + 3 ≤ 32; omega) hsce).trans ?_
    exact (rd_wr_same _ (F.DMC_STAT_SCAUSE ch) _ (by show 26 + 3 ≤ 32; omega)).trans rfl
  · refine (rd_setMvState _ _ _ (by show 0 + 1 ≤ 32; omega) hen henr).trans ?_
    exact (rd_wr_same _ (F.DMC_CTL_EN ch) _ (by show 0 + 1 ≤ 32; omega)).trans rfl

theorem mvStop_ended {d : Dev} {ch : Nat} (scause : Nat) (h : mvState d ch ∈ [mvOFF, mvSTOPPED, mvDETACHED]) : mvStop d ch scause = d := by
  unfold mvStop
  dsimp only
  exact if_pos (by simpa [or_assoc] using h)

theorem mvStop_running {d : Dev} {ch : Nat} (scause : Nat) (h : mvState d ch ∉ [mvOFF, mvSTOPPED, mvDETACHED]) :
    rd (mvStop d ch scause) F.DMV_REF_WHY = rd d F.DMV_REF_WHY ∧ ∀ p b, evtSet (mvStop d ch scause) p b = evtSet d p b := by
  have hne : F.DMV_REF_WHY.off ∉ mvWords ch := by
    show 0x78050 ∉ _
    simp only [mvWords, dmcOff_eq, List.mem_cons, List.not_mem_nil, or_false]
    omega
  have hh : (0x78050 : Nat) ≠ (F.DMC_STAT_HEAD ch).off := by
    show 0x78050 ≠ dmcOff ch 0x18
    rw [dmcOff_eq]
    omega
  unfold mvStop
  dsimp only
  rw [if_neg (by simpa [or_assoc] using h)]
  refine ⟨?_, fun p b => (evtSet_mvSettle ..).trans (evtSet_congr b rfl)⟩
  exact (rd_congr F.DMV_REF_WHY (mvSettle_words _ _ hne)).trans (rd_congr F.DMV_REF_WHY ((actW_wr_ne _ (F.DMC_STAT_HEAD ch) _ hh).trans rfl))

theorem mvReset_shows {d : Dev} {ch : Nat} (h : mvState d ch ∈ [mvOFF, mvSTOPPED, mvDETACHED]) :
    mvState (mvReset d ch) ch = mvState d ch ∧ rd (mvReset d ch) (F.DMC_STAT_HEAD ch) = 0 ∧ rd64 (mvReset d ch) (F.DMC_CSUM ch) = 0 ∧
    movOf (mvReset d ch) ch = {} := by
  have hne : dmcOff ch 0x18 ≠ F.DMC_CSUM ch ∧ dmcOff ch 0x18 ≠ F.DMC_CSUM ch + 4 := by
    simp only [dmcOff_eq, F.DMC_CSUM]
    omega
  have hstate : FldApart (F.DMC_STAT_STATE ch) (F.DMC_STAT_HEAD ch) := .inr (.inr (by show 0 + 12 ≤ 29; omega))
  unfold mvReset
  dsimp only
  rw [if_pos (by simpa [or_assoc] using h)]
  refine ⟨?_, ?_, (rd64_wr64_same ..).trans rfl, ?_⟩
  · exact (rd_wr64 _ _ hne.1 hne.2).trans (rd_wr_apart _ _ (by show 29 + 3 ≤ 32; omega) hstate)
  · exact (rd_wr64 _ _ hne.1 hne.2).trans ((rd_wr_same _ (F.DMC_STAT_HEAD ch) _ (by show 0 + 12 ≤ 32; omega)).trans rfl)
  · exact movOf_setMov_same d ch {}

theorem controls {s : State} {port ch : Nat} {v : Word} (hc : ch < 32) (hw : Writes s port (dmcOff ch 0) v) :
    (bitOf v.toNat 0 = true → bitOf v.toNat 1 = false → bitOf v.toNat 2 = false → Gives (.dmcEnable port ch v) s (fun d => d = mvEnable s.dev ch ∧
      (fnEnabled s.dev (rd s.dev (F.DMC_FN_FNA ch)) = false → rd d F.DMV_REF_WHY = 1 ∧ evtSet d 0x78 9 = true ∧ mvState d ch = mvState s.dev ch))) ∧
    (bitOf v.toNat 2 = false → (bitOf v.toNat 1 = true ∨ bitOf v.toNat 0 = false) → Gives (.dmcStop port ch v) s (fun d => d = mvStop s.dev ch 1 ∧
      (mvState s.dev ch = mvIDLE → (movOf s.dev ch).cap = [] → mvState d ch = mvSTOPPED ∧ rd d (F.DMC_STAT_SCAUSE ch) = 1 ∧
        rd d (F.DMC_CTL_EN ch) = 0))) ∧
    (bitOf v.toNat 2 = true → bitOf v.toNat 1 = false → bitOf v.toNat 0 = false → Gives (.dmcReset port ch v) s (fun d =>
      (mvState s.dev ch ∈ [mvOFF, mvSTOPPED, mvDETACHED] → rd d (F.DMC_STAT_HEAD ch) = 0 ∧ rd64 d (F.DMC_CSUM ch) = 0 ∧
        movOf d ch = {}) ∧
      (mvState s.dev ch ∉ [mvOFF, mvSTOPPED, mvDETACHED] → rd d F.DMV_REF_WHY = 4 ∧ evtSet d 0x78 9 = true))) := by
  refine ⟨fun h0 h1 h2 => ?_, fun h2 h10 => ?_, fun h2 h1 h0 => ?_⟩
  · refine gives_of_row (c := .dmcEnable port ch v) rfl (by rw [decide_eq_true hc, h0, h1]; rfl) hw ?_
    rw [writeWord_dmcCtl _ _ hc]
    refine ⟨by simp [mvCtlWrite, h0, h1, h2], fun hf => ?_⟩
    have heq : mvCtlWrite s.dev ch v.toNat = mvRef s.dev ch 1 := by
      rw [← mvEnable_refused hf]
      simp [mvCtlWrite, h0, h1, h2]
    obtain ⟨-, -, hwhy, hevt⟩ := mvRef_shows s.dev hc (why := 1) (by decide)
    rw [heq]
    exact ⟨hwhy, hevt, rd_congr (F.DMC_STAT_STATE ch) (actW_mvRef s.dev 1 hc (k := 0x18) (by decide))⟩
  · have hor : (bitOf v.toNat 1 || !bitOf v.toNat 0) = true := by simpa using h10
    refine gives_of_row (c := .dmcStop port ch v) rfl (by rw [decide_eq_true hc, hor]; rfl) hw ?_
    have heq : mvCtlWrite s.dev ch v.toNat = mvStop s.dev ch 1 := by
      unfold mvCtlWrite
      simp only [h2, hor, if_true, Bool.false_eq_true, if_false]
    rw [writeWord_dmcCtl _ _ hc, heq]
    exact ⟨rfl, fun hs hcap => mvStop_idle hc hs hcap⟩
  · refine gives_of_row (c := .dmcReset port ch v) rfl (by rw [decide_eq_true hc, h2]; rfl) hw ?_
    have heq : mvCtlWrite s.dev ch v.toNat = mvStop (mvReset s.dev ch) ch 1 := by
      simp [mvCtlWrite, h0, h1, h2]
    rw [writeWord_dmcCtl _ _ hc, heq]
    refine ⟨fun hin => ?_, fun hout => ?_⟩
    · obtain ⟨hst, hshows⟩ := mvReset_shows hin
      rw [mvStop_ended _ (by rw [hst]; exact hin)]
      exact hshows
    · have href : mvReset s.dev ch = mvRef s.dev ch 4 := by
        unfold mvReset
        dsimp only
        exact if_neg (by simpa [or_assoc] using hout)
      obtain ⟨-, -, hwhy, hevt⟩ := mvRef_shows s.dev hc (why := 4) (by decide)
      have hst : mvState (mvRef s.dev ch 4) ch = mvState s.dev ch := rd_congr (F.DMC_STAT_STATE ch) (actW_mvRef s.dev 4 hc (k := 0x18) (by decide))
      obtain ⟨hkeep, hevts⟩ := mvStop_running 1 (d := mvRef s.dev ch 4) (ch := ch) (by rw [hst]; exact hout)
      rw [href]
      exact ⟨hkeep.trans hwhy, (hevts ..).trans hevt⟩

/-! ### Descriptors -/

theorem ringLen_le (d : Dev) (ch : Nat) : 0 < ringLen d ch ∧ ringLen d ch ≤ 4096 := by
  unfold ringLen
  dsimp only
  refine ⟨Nat.two_pow_pos _, ?_⟩
  split
  · next h =>
    simp only [Bool.and_eq_true, decide_eq_true_eq] at h
    exact Nat.pow_le_pow_right (by decide) h.2
  · decide

/-- A fetched descriptor as it is captured. -/
def captured (d : Dev) (ch : Nat) (words iv : List Word) : DescCap :=
  ⟨rd d (F.DMC_STAT_HEAD ch), words, iv, (descBad ch words).1, (descBad ch words).2, !dBar words || (!(movOf d ch).dirty && (movOf d ch).cap.isEmpty)⟩

/-- A fetched descriptor joins the captured ones, and the head advances. -/
theorem mvFetch_shows (d : Dev) {ch : Nat} {words : List Word} (iv : List Word) (hc : ch < 32) (hw : words ≠ []) :
    rd (mvFetch d ch words iv) (F.DMC_STAT_HEAD ch) = (rd d (F.DMC_STAT_HEAD ch) + 1) % ringLen d ch ∧
    (movOf (mvFetch d ch words iv) ch).cap = (movOf d ch).cap ++ [captured d ch words iv] := by
  obtain ⟨-, hhead, -, -, -, -, -, -⟩ := dmcStat_apart ch hc
  have hrun : FldApart (F.DMC_STAT_HEAD ch) F.DMV_RUN_CH := .inl (by show dmcOff ch 0x18 ≠ 0x78040; rw [dmcOff_eq]; omega)
  obtain ⟨hpos, hle⟩ := ringLen_le d ch
  have hlt : (rd d (F.DMC_STAT_HEAD ch) + 1) % ringLen d ch < 2 ^ 12 := Nat.lt_of_lt_of_le (Nat.mod_lt _ hpos) hle
  have heq : mvFetch d ch words iv = mvSettle (wr (setMov d ch { movOf d ch with cap := (movOf d ch).cap ++ [captured d ch words iv] }) (F.DMC_STAT_HEAD ch)
      ((rd d (F.DMC_STAT_HEAD ch) + 1) % ringLen d ch)) ch := if_neg (by simpa using hw)
  rw [heq]
  generalize captured d ch words iv = c
  generalize hx : wr (setMov d ch { movOf d ch with cap := (movOf d ch).cap ++ [c] }) (F.DMC_STAT_HEAD ch) ((rd d (F.DMC_STAT_HEAD ch) + 1) % ringLen d ch) = x
  have hmov : movOf x ch = { movOf d ch with cap := (movOf d ch).cap ++ [c] } := by
    rw [← hx]
    exact movOf_setMov_same ..
  have hxhead : rd x (F.DMC_STAT_HEAD ch) = (rd d (F.DMC_STAT_HEAD ch) + 1) % ringLen d ch := by
    rw [← hx]
    exact (rd_wr_same _ (F.DMC_STAT_HEAD ch) _ (by show 0 + 12 ≤ 32; omega)).trans (Nat.mod_eq_of_lt hlt)
  obtain ⟨c0, rest, hne⟩ : ∃ c0 rest, (movOf x ch).cap = c0 :: rest := List.exists_cons_of_ne_nil (by rw [hmov]; simp)
  rw [mvSettle_captured hne]
  refine ⟨(rd_setMvState _ _ _ (by show 0 + 12 ≤ 32; omega) hhead hrun).trans hxhead, ?_⟩
  have hkeep := setMvState_keeps (fun d => movOf d ch) (fun _ _ _ => rfl) x ch (if c0.clear then mvRUN else mvWAIT)
  exact (congrArg MovCh.cap hkeep).trans (by rw [hmov])

/-! ### The write-back of a descriptor -/

/-- What a channel writes back through: its function and the base of its ring. -/
def backPath (ch : Nat) (d : Dev) : Word × Word × Word := (actW d (dmcOff ch 4), actW d (dmcOff ch 8), actW d (dmcOff ch 0xC))

theorem backPath_of_words {d d' : Dev} {ch : Nat} (h : ∀ o ∈ [dmcOff ch 4, dmcOff ch 8, dmcOff ch 0xC], actW d' o = actW d o) : backPath ch d' = backPath ch d := by
  simp only [List.forall_mem_cons] at h
  obtain ⟨h1, h2, h3, -⟩ := h
  unfold backPath
  rw [h1, h2, h3]

theorem backPath_wr64 (d : Dev) {ch o : Nat} (v : Nat) (h : ∀ k, k < 0x10 → dmcOff ch k ≠ o ∧ dmcOff ch k ≠ o + 4) : backPath ch (wr64 d o v) = backPath ch d := by
  have hword (k : Nat) (hk : k < 0x10) : actW (wr64 d o v) (dmcOff ch k) = actW d (dmcOff ch k) := actW_wr64_ne d v (h k hk).1 (h k hk).2
  unfold backPath
  rw [hword 4 (by decide), hword 8 (by decide), hword 0xC (by decide)]

theorem backPath_chainFeed (d : Dev) {ch : Nat} (m : MovCh) (w : List Word) (e : DescEnd) (data : List Nat) : backPath ch (chainFeed d ch m w e data) = backPath ch d := by
  unfold chainFeed
  dsimp only
  split
  · rfl
  · split
    · rfl
    · refine (backPath_wr64 _ _ fun k hk => ?_).trans rfl
      simp only [dmcOff_eq, F.DMC_CSUM]
      omega

theorem backPath_chainEnd (d : Dev) {ch : Nat} (w : List Word) (e : DescEnd) : backPath ch (chainEnd d ch w e) = backPath ch d := by
  unfold chainEnd
  dsimp only
  split
  · rfl
  · split
    · split
      · rfl
      · refine (backPath_wr64 _ _ fun k hk => ?_).trans rfl
        simp only [dmcOff_eq, F.DMC_CSUM]
        omega
    · rfl

theorem backPath_cipherDone (d : Dev) {ch : Nat} (w : List Word) (e : DescEnd) (hc : ch < 32) : backPath ch (cipherDone d ch w e) = backPath ch d := by
  have hinv (x : Dev) (n : Nat) : backPath ch (add64 x F.CRS_INV n) = backPath ch x := by
    refine backPath_wr64 _ _ fun k hk => ?_
    simp only [dmcOff_eq, F.CRS_INV]
    omega
  have hcnt (x : Dev) (k n : Nat) (hk : k < 64) : backPath ch (add64 x (F.KEY_CNT k) n) = backPath ch x := by
    refine backPath_wr64 _ _ fun k hk => ?_
    simp only [dmcOff_eq, F.KEY_CNT]
    omega
  unfold cipherDone
  dsimp only
  split
  · rfl
  · split
    · refine backPath_of_words fun o ho => ?_
      have hlog : o ∉ logWords ∧ o ≠ 0x7204C := by
        have hall : ∀ ch < 32, ∀ o ∈ [dmcOff ch 4, dmcOff ch 8, dmcOff ch 0xC], o ∉ logWords ∧ o ≠ 0x7204C := by decide
        exact hall ch hc o ho
      exact (actW_raise _ _ _ _ hlog.1).trans (actW_wrs_ne d (offs := [0x7204C, 0x7204C, 0x7204C]) rfl (by simpa using hlog.2))
    · split
      · rfl
      · split
        · have hemit (x : Dev) (o : Output) : backPath ch (emit x o) = backPath ch x := rfl
          have hfree (x : Dev) (n : Nat) : backPath ch { x with free := n } = backPath ch x := rfl
          rw [hemit, hcnt _ (bitsOf (dCiph w) 0 6) _ (Nat.mod_lt _ (by decide)), hfree, hinv]
        · exact hinv d 1

/-- A descriptor's entry is where its channel's ring stands. -/
theorem backPath_entry {d d' : Dev} {ch : Nat} (h : backPath ch d' = backPath ch d) (idx : Nat) :
    rd d' (F.DMC_FN_FNA ch) = rd d (F.DMC_FN_FNA ch) ∧ entryAddr d' ch idx = entryAddr d ch idx := by
  have h4 : actW d' (dmcOff ch 4) = actW d (dmcOff ch 4) := congrArg Prod.fst h
  have h8 : actW d' (dmcOff ch 8) = actW d (dmcOff ch 8) := congrArg (·.2.1) h
  have hC : actW d' (dmcOff ch 0xC) = actW d (dmcOff ch 0xC) := congrArg (·.2.2) h
  have hbase : rd64 d' (F.DMC_RBASE ch) = rd64 d (F.DMC_RBASE ch) :=
    rd64_congr (F.DMC_RBASE ch) (List.forall_mem_cons.2 ⟨h8, List.forall_mem_cons.2 ⟨hC, nofun⟩⟩)
  refine ⟨rd_congr (F.DMC_FN_FNA ch) h4, ?_⟩
  unfold entryAddr
  rw [hbase]

/-- Outputs stay when others join them. -/
theorem out_descEvents (d : Dev) (ch : Nat) (w : List Word) (e : DescEnd) : ∀ o ∈ d.out, o ∈ (descEvents d ch w e).out := by
  have hirq (b : Bool) : ∀ o ∈ d.out, o ∈ (irqOf d ch b).out := by
    intro o ho
    have hraise : o ∈ (raise d (dmcPage ch) (8 + ch % 8)).out := by rwa [raise_out]
    unfold irqOf
    dsimp only
    split
    · split
      · exact (sendMsix_keeps ..).1 o hraise
      · exact hraise
    · exact ho
  have hlast (x : Dev) (a b : Nat) : (mvLast x ch a b).out = x.out := (raise_out ..).trans (wrs_keeps Dev.out (fun _ _ _ => rfl) _ _)
  intro o ho
  have h1 := hirq (bitOf (dN w 0) 17) o ho
  have h2 : o ∈ (if e.status == 0 then irqOf d ch (bitOf (dN w 0) 17)
      else mvLast (raise (irqOf d ch (bitOf (dN w 0) 17)) (dmcPage ch) (16 + ch % 8)) ch e.status e.cause).out := by
    split
    · exact h1
    · rw [hlast, raise_out]
      exact h1
  unfold descEvents
  dsimp only
  split
  · exact h2
  · exact h2

/-- A descriptor that ends writes its status word back to its entry. -/
theorem mvComplete_writesBack (d : Dev) {ch : Nat} (c : DescCap) (rest : List DescCap) {r : DescRes} (hc : ch < 32) (hr : r.wbOk = true) :
    Output.memWrite (rd d (F.DMC_FN_FNA ch)) (entryAddr d ch c.idx) [BitVec.ofNat 32
      (bitsOf (dN c.words 0) 0 20 + 2 ^ 28 * bitsOf (dN c.words 0) 28 3 + 2 ^ 24 * (descEnd d ch (movOf d ch) c r).status +
        2 ^ 20 * (descEnd d ch (movOf d ch) c r).cause)] ∈ (mvComplete d ch c rest r).out := by
  have hbytes (x : Dev) (n : Nat) : backPath ch (add64 (add64 x (F.DMC_BYTES ch) n) F.DMV_BYTES n) = backPath ch x := by
    refine (backPath_wr64 _ _ fun k hk => ?_).trans (backPath_wr64 _ _ fun k hk => ?_) <;> simp only [dmcOff_eq, F.DMC_BYTES, F.DMV_BYTES] <;> omega
  have hemit (x : Dev) (b : Bool) (o : Output) : backPath ch (if b then x else emit x o) = backPath ch x := by
    cases b <;> rfl
  have hmov (x : Dev) (m : MovCh) : backPath ch (setMov x ch m) = backPath ch x := rfl
  have hsettle (x : Dev) : (mvSettle x ch).out = x.out := mvSettle_keeps Dev.out (fun _ _ _ => rfl) (fun _ _ _ => rfl) x ch
  unfold mvComplete
  dsimp only
  generalize descEnd d ch (movOf d ch) c r = e
  rw [if_neg (by rw [hr]; decide)]
  generalize hx : (if (descWritten c.words e == 0) = true then _ else _ : Dev) = x
  have hpath : backPath ch x = backPath ch d := by
    rw [← hx, hemit, hbytes, backPath_chainEnd, backPath_cipherDone _ _ _ hc, backPath_chainFeed, hmov]
  obtain ⟨hfn, haddr⟩ := backPath_entry hpath c.idx
  have hwrite : Output.memWrite (rd d (F.DMC_FN_FNA ch)) (entryAddr d ch c.idx) [BitVec.ofNat 32
      (bitsOf (dN c.words 0) 0 20 + 2 ^ 28 * bitsOf (dN c.words 0) 28 3 + 2 ^ 24 * e.status + 2 ^ 20 * e.cause)] ∈ (writeBack x ch c e).out := by
    rw [← hfn, ← haddr]
    exact List.mem_cons_self
  have hevents := out_descEvents (writeBack x ch c e) ch c.words e _ hwrite
  split
  · rw [hsettle]
    exact hevents
  · rw [hsettle]
    exact hevents

theorem mvBarrier_passes (d : Dev) {ch : Nat} (c : DescCap) (rest : List DescCap) (hc : ch < 32) : (movOf (mvBarrier d ch 0 c rest) ch).cap = { c with clear := true } :: rest ∧
    (movOf (mvBarrier d ch 0 c rest) ch).dirty = false ∧ mvState (mvBarrier d ch 0 c rest) ch = mvRUN := by
  have hmov := movOf_setMov_same d ch { movOf d ch with cap := { c with clear := true } :: rest, dirty := false }
  have hbar : mvBarrier d ch 0 c rest = mvSettle (setMov d ch { movOf d ch with cap := { c with clear := true } :: rest, dirty := false }) ch := rfl
  have heq := hbar.trans (mvSettle_captured (c := { c with clear := true }) (rest := rest) (by rw [hmov]))
  rw [if_pos rfl] at heq
  have hkeep := (setMvState_keeps (fun d => movOf d ch) (fun _ _ _ => rfl) _ ch mvRUN).trans hmov
  rw [heq]
  exact ⟨congrArg MovCh.cap hkeep, congrArg MovCh.dirty hkeep, mvState_setMvState _ hc (by decide)⟩

theorem exec_descriptorComplete {s : State} {ch : Nat} {c : DescCap} {rest : List DescCap} {v : Dev} (res : DescRes) (hv : v = voteAll s.dev)
    (hcap : (movOf v ch).cap = c :: rest) : exec (.descriptorComplete ch res) s = finish s
      (guardDev (running v && ch < 32 && c.clear && dataFits c.words (descEnd v ch (movOf v ch) c res) res && channelTurn v ch c &&
        (!descCiphers v ch c || (serviceOpen v && coreTurn v 3 1))) v
        (let d0 := if descCiphers v ch c then coreTake v 3 1 else v
         let d1 := if descReads c then rrServed d0 (descLink v ch c) (512 + ch) else d0
         let d2 := mvComplete d1 ch c rest res
         if descCiphers v ch c then coreServed { d2 with cmds := { d2.cmds with service := d2.cmds.service - (dCount c.words : Nat) } } else d2)) := by
  show execDescriptorComplete ch res s = _
  unfold execDescriptorComplete
  dsimp only
  rw [← hv, hcap]

theorem exec_barrierReadComplete {s : State} {ch : Nat} {c : DescCap} {rest : List DescCap} (cause : Nat) (hcap : (movOf s.dev ch).cap = c :: rest) :
    exec (.barrierReadComplete ch cause) s =
      finish s (guardDev (running s.dev && ch < 32 && !c.clear && cause ≤ 4) s.dev (mvBarrier s.dev ch cause c rest)) := by
  show execBarrierReadComplete ch cause s = _
  unfold execBarrierReadComplete
  dsimp only
  rw [hcap]

/-- Settles O59: writes by their rows, descriptors by what is captured, what ends by its write-back. -/
theorem dataMoverCommands : Obligations.DataMoverCommands := by
  refine ⟨fun s port ch v hc hw => tails hc hw, fun s port ch v hc hw => controls hc hw, ?fetched, ?ends, fun d ch c rest r hc hr => mvComplete_writesBack d c rest hc hr,
    ?barrier⟩
  case fetched =>
    intro s ch words iv v hr hc hst hstop hcap hne hw
    have hgo : (running v && decide (ch < 32) && (mvState v ch == mvRUN || mvState v ch == mvWAIT) && (movOf v ch).stopping.isNone &&
        decide ((movOf v ch).cap.length ≤ 8) && !(rd v (F.DMC_STAT_HEAD ch) == rd v (F.DMC_TAIL_TAIL ch))) = true := by
      simp [hr, hc, hst, hstop, hcap, hne]
    exact gives_of_guard (c := .descriptorFetched ch words iv) rfl hgo (mvFetch_shows v iv hc hw)
  case ends =>
    intro s ch res c rest v hr hc hcap hcl hfit hturn take d2
    have hexec := exec_descriptorComplete res (v := v) rfl hcap
    refine ⟨fun hci => gives_of_guard hexec (by simp [hr, hc, hcl, hfit, hturn, hci]) ?_,
      fun hci hs ht => gives_of_guard hexec (by simp [hr, hc, hcl, hfit, hturn, hs, ht]) ?_⟩
    · simp only [hci, Bool.false_eq_true, if_false, take]
    · simp only [hci, if_true, d2, take]
  case barrier =>
    intro s ch cause c rest hr hc hcap hcl h4
    refine gives_of_guard (exec_barrierReadComplete cause hcap) (by simp [hr, hc, hcl, h4]) ⟨?_, fun hne => if_neg (by simpa using hne)⟩
    rintro rfl
    exact mvBarrier_passes s.dev c rest hc

end Sys2Proof.Machine
end

section
/-!
PROOFS. Map look-ups, the counter clear, the energy hold, the SMBus and the TAP (R224, R261, R325, R437, R466).
-/
namespace Sys2Proof.Machine

/-- The low bits of a word of read-write bits are those written. -/
theorem kindWord_low {r : RegRow} {n : Nat} (old v : Word) (hw1c : r.w1c = 0) (hrw : ∀ i < n, r.rw.getLsbD i = true) :
    (kindWord r old v).toNat % 2 ^ n = v.toNat % 2 ^ n := by
  refine Nat.eq_of_testBit_eq fun i => ?_
  rw [Nat.testBit_mod_two_pow, Nat.testBit_mod_two_pow]
  by_cases hi : i < n
  · have h32 : i < 32 := BitVec.lt_of_getLsbD (hrw i hi)
    simp only [BitVec.testBit_toNat, kindWord, hw1c, word_and_zero, BitVec.getLsbD_and, BitVec.getLsbD_or, BitVec.getLsbD_not, hrw i hi, h32]
    simp
  · simp [hi]

/-! ### Map look-up -/

/-- The low half of MAP_QSEL: the course. -/
def qselLow : RegRow := ⟨0x60, 0xFFFFFFFF, 0, 0, 0, 0, 0, 0, 0, 1⟩

/-- The high half of MAP_QSEL: the rest of the course and the volume. -/
def qselHigh : RegRow := ⟨0x64, 0x3FFFFF, 0, 0, 0, 0, 0, 0, 0, 2⟩

theorem regRow_qselLow : regRow? 0x20060 = some qselLow := by decide +kernel

theorem regRow_qselHigh : regRow? 0x20064 = some qselHigh := by decide +kernel

/-- A write of the high half of a pair takes the held low half, or the low half as it stands. -/
theorem pairWrite_takes (d : Dev) (port lo : Nat) {rl r : RegRow} (v : Word) (hl : regRow? lo = some rl) (h : r.pair = 2) :
    ∃ w, pairWrite d port (lo + 4) r v = pairTaken (storeWord (storeWord (dropHeld d lo port) lo rl w) (lo + 4) r v) (lo + 4) := by
  refine ⟨(SMap.get? d.hub.held (2 * lo + port)).getD (standing d lo rl), ?_⟩
  rw [pairWrite, h, if_neg (by decide), Nat.add_sub_cancel]
  dsimp only
  rw [hl]
  rfl

/-- A write of the high half of MAP_QSEL stores both halves and looks the block up. -/
theorem writeWord_qsel (d : Dev) (port : Nat) (v : Word) :
    ∃ w, writeWord d port 0x20064 v = mapLookup (storeWord (storeWord (dropHeld d 0x20060 port) 0x20060 qselLow w) 0x20064 qselHigh v) := by
  obtain ⟨w, hw⟩ := pairWrite_takes d port 0x20060 (r := qselHigh) v regRow_qselLow rfl
  exact ⟨w, by rw [writeWord_row _ regRow_qselHigh, if_pos (by decide), hw]; rfl⟩

/-- MAP_QENT shows the entry of the block that MAP_QSEL names. -/
theorem mapLookup_shows (d : Dev) : rd64 (mapLookup d) F.MAP_QSEL = rd64 d F.MAP_QSEL ∧ (mapLookup d).med = d.med ∧
    rd64 (mapLookup d) F.MAP_QENT =
      entWord (mapEnt d.med.m (courseKey (bitsOf (rd64 d F.MAP_QSEL) 48 6) (bitsOf (rd64 d F.MAP_QSEL) 0 48 / 256))) % 2 ^ 64 := by
  refine ⟨rd64_congr _ fun x hx => (ChangesOnly.mapLookup d).words x ?_, (ChangesOnly.mapLookup d).keeps Dev.med fun _ _ _ => rfl, ?_⟩
  · revert x
    decide
  · rw [mapLookup, rd64_wr64_ne _ _ (by decide), rd64_wr64_same]

theorem gives_mapLookup {s : State} {port : Nat} {v : Word} (hw : Writes s port 0x20064 v) : Gives (.mapLookup port v) s (fun d =>
    let q := rd64 d F.MAP_QSEL
    let e := mapEnt s.dev.med.m (courseKey (bitsOf q 48 6) (bitsOf q 0 48 / 256))
    bitsOf q 32 22 = bitsOf v.toNat 0 22 ∧ rd64 d F.MAP_QENT = entWord e % 2 ^ 64 ∧ d.med = s.dev.med) := by
  obtain ⟨w, hlook⟩ := writeWord_qsel s.dev port v
  refine gives_of_row (c := .mapLookup port v) rfl rfl hw ?_
  rw [hlook]
  let d1 := storeWord (dropHeld s.dev 0x20060 port) 0x20060 qselLow w
  obtain ⟨hkeep, hword⟩ := storeWord_plain (d := d1) (off := 0x20064) (r := qselHigh) v rfl rfl rfl
  have hmed1 : d1.med = (dropHeld s.dev 0x20060 port).med := (storeWord_plain w rfl rfl rfl).1.keeps Dev.med fun _ _ _ => rfl
  have hmed2 := hkeep.keeps Dev.med fun _ _ _ => rfl
  generalize storeWord d1 0x20064 qselHigh v = d2 at hword hmed2
  obtain ⟨hsel, hmed3, hent⟩ := mapLookup_shows d2
  have hmed : d2.med = s.dev.med := hmed2.trans hmed1
  refine ⟨?_, ?_, hmed3.trans hmed⟩
  · have hlow := kindWord_low (r := qselHigh) (n := 22) (actW d1 0x20064) v rfl (by decide)
    have hlo : (actW d2 0x20060).toNat < 2 ^ 32 := (actW d2 0x20060).isLt
    rw [hsel, rd64, show F.MAP_QSEL + 4 = 0x20064 from rfl, hword, bitsOf, bitsOf, show F.MAP_QSEL = 0x20060 from rfl,
      Nat.add_mul_div_left _ _ (by decide), Nat.div_eq_of_lt hlo, Nat.zero_add, hlow, Nat.pow_zero, Nat.div_one]
  · rw [hent, hsel, hmed]

/-! ### Counter clear and energy hold -/

/-- The register LDPC_STAT: CLR is a bit that acts. -/
def ldpcStatRow : RegRow := ⟨0x4C, 0, 0xFF, 0, 0, 0, 0x100, 0, 0, 0⟩

theorem regRow_ldpcStat : regRow? 0x2804C = some ldpcStatRow := by decide +kernel

theorem ldpcClear_upto (d : Dev) (n : Nat) : ∀ i < n, actW ((List.range n).foldl (fun d i => setActW d (0x28050 + 4 * i) 0) d) (0x28050 + 4 * i) = 0 := by
  induction n with
  | zero => nofun
  | succ n ih =>
    intro i hi
    rw [List.range_succ, List.foldl_append, List.foldl_cons, List.foldl_nil]
    by_cases h : i = n
    · rw [h, actW_setActW_same]
    · rw [actW_setActW_ne _ _ (by omega)]
      exact ih i (by omega)

theorem writeWord_ldpcStat (d : Dev) (port : Nat) (v : Word) :
    writeWord d port 0x2804C v =
      if bitOf v.toNat 8 then ldpcClear (storeWord d 0x2804C ldpcStatRow v) else storeWord d 0x2804C ldpcStatRow v := by
  rw [writeWord_row _ regRow_ldpcStat, if_neg (by decide), oneWrite, if_neg (by decide)]
  rfl

theorem gives_ldpcCounterClear {s : State} {port : Nat} (hw : Writes s port 0x2804C 0x100) :
    Gives (.ldpcCounterClear port) s (fun d => ∀ i, i < 15 → actW d (0x28050 + 4 * i) = 0) := by
  refine gives_of_row (c := .ldpcCounterClear port) rfl rfl hw ?_
  rw [writeWord_ldpcStat, if_pos (by decide)]
  exact ldpcClear_upto _ 15

/-- The register PFL_EHOLD: its triple-voted value. -/
def eholdRow : RegRow := ⟨0x40, 0xFFFFF, 0, 0, 0xFFFFF, 0, 0, 0, 0, 0⟩

theorem regRow_ehold : regRow? 0x5040 = some eholdRow := by decide +kernel

theorem writeWord_ehold (d : Dev) (port : Nat) (v : Word) : writeWord d port 0x5040 v = eholdWritten (storeWord d 0x5040 eholdRow v) := by
  rw [writeWord_row _ regRow_ehold, if_neg (by decide), oneWrite, if_pos (by decide)]
  rfl

/-- The gate is not accepted by a write of a configuration word. -/
theorem accepted_touchConfig {d : Dev} (off : Nat) (r : RegRow) (h : accepted d = false) : accepted (touchConfig d off r) = false := by
  by_cases hm : gateMoves d off r
  · rw [touchConfig_moves hm, accepted, rd_wr_same _ _ _ (by decide)]
    rfl
  · rwa [touchConfig_stays hm]

theorem accepted_storeEhold {d : Dev} (v : Word) (h : accepted d = false) : accepted (storeWord d 0x5040 eholdRow v) = false := by
  rw [storeWord_eq d _ v rfl]
  refine accepted_touchConfig _ _ ?_
  rw [shadowTaken, if_pos (by decide), accepted, rd_congr _ ((activeTaken_frame d 0x5040 eholdRow v).2.1 _ (by decide))]
  exact h

theorem rd_storeEhold (d : Dev) (v : Word) : rd (storeWord d 0x5040 eholdRow v) F.PFL_EHOLD_MJ = v.toNat % 2 ^ 20 := by
  show bitsOf (actW (storeWord d 0x5040 eholdRow v) 0x5040).toNat 0 20 = _
  rw [actW_storeWord_same v rfl (by decide), bitsOf, Nat.pow_zero, Nat.div_one, kindWord_low _ _ rfl (by decide)]

theorem eholdWritten_closed {d : Dev} (h : accepted d = false) : eholdWritten d = d := by
  rw [eholdWritten, h]
  rfl

/-! ### SMBus -/

/-- A block read sends the words of its command. -/
theorem gives_smbusRead {s : State} {c : Instr} {l : Dev → List Word} {ws : List Word} (hc : exec c s = smbusRead l s) (ha : s.dev.sys.aon = true)
    (hl : l s.dev = ws) : Gives c s (fun d => d = emit s.dev (.smbus (smbBytes ws))) :=
  gives_of_guard hc ha (by rw [hl])

/-- Four bytes, the lowest first, are the offset. -/
theorem fourBytes {b0 b1 b2 b3 : Nat} (h0 : b0 < 256) (h1 : b1 < 256) (h2 : b2 < 256) (h3 : b3 < 256) :
    ([b0, b1, b2, b3].take 4).foldr (fun b a => b % 256 + 256 * a) 0 = b0 + 2 ^ 8 * b1 + 2 ^ 16 * b2 + 2 ^ 24 * b3 := by
  simp only [List.take, List.foldr]
  omega

theorem gives_smbusSetOffset {s : State} {b0 b1 b2 b3 : Nat} (ha : s.dev.sys.aon = true) (h0 : b0 < 256) (h1 : b1 < 256) (h2 : b2 < 256)
    (h3 : b3 < 256) : Gives (.smbusSetOffset [b0, b1, b2, b3]) s (fun d =>
      d = { s.dev with sys := { s.dev.sys with smbOff := b0 + 2 ^ 8 * b1 + 2 ^ 16 * b2 + 2 ^ 24 * b3 } }) := by
  refine gives_of_guard rfl (by rw [ha]; rfl) ?_
  rw [fourBytes h0 h1 h2 h3]

/-- A read does not wait. -/
theorem hubStall_noValue (d : Dev) {r : HubReq} (h : r.value = none) : hubStall d r = false := by
  rw [hubStall, h]
  split
  · next he => cases he
  · rfl

/-- A register read of the SMBus, with no access before it waiting. -/
theorem hubDo_smbus {d : Dev} (t : Bool) (h : d.hub.stalled = []) : hubDo d ⟨2, d.sys.smbOff, none, none, !t⟩ =
    emit (smbusReg d d.sys.smbOff t).2 (.smbus (smbBytes [(smbusReg d d.sys.smbOff t).1])) := by
  rw [hubDo, h, hubStall_noValue d rfl, if_neg (by decide), hubOne, if_pos (beq_self_eq_true 2), Bool.not_not]

/-! ### The TAP -/

theorem tapEffect_closed {d : Dev} {ir : TapIr} (h : d.sys.testEn = false) (hid : ir ≠ .idcode) (hsp : ir ≠ .samplePreload) :
    tapEffect d ir = .bypass := by
  cases ir with
  | idcode => exact absurd rfl hid
  | samplePreload => exact absurd rfl hsp
  | bypass => rfl
  | other => rfl
  | extest | extestPulse | extestTrain | highz | clamp => rw [tapEffect, h, if_neg Bool.false_ne_true] <;> simp

/-- The device after an instruction of the TAP: the instruction in force, and what IDCODE or BYPASS shifts out. -/
def tapped (d : Dev) (e : TapIr) : Dev :=
  match e with
  | .idcode => emit { d with sys := { d.sys with tapIr := e } } (.tdo (idcode d))
  | .bypass => emit { d with sys := { d.sys with tapIr := e } } (.tdo 0)
  | _ => { d with sys := { d.sys with tapIr := e } }

theorem tapped_shows (d : Dev) (e : TapIr) : (tapped d e).sys.tapIr = e ∧ (∀ o, actW (tapped d e) o = actW d o) ∧
    (e = .idcode → (tapped d e).out = .tdo (idcode d) :: d.out) ∧ (e = .bypass → (tapped d e).out = .tdo 0 :: d.out) := by
  refine ⟨?_, fun o => ?_, fun h => by rw [h]; rfl, fun h => by rw [h]; rfl⟩ <;> cases e <;> rfl

theorem gives_tapInstruction {s : State} (ir : TapIr) (h : s.dev.sys.pwrgd = true) : Gives (.tapInstruction ir) s (fun d =>
    d.sys.tapIr = tapEffect s.dev ir ∧ (∀ o, actW d o = actW s.dev o) ∧
    (tapEffect s.dev ir = .idcode → d.out = .tdo (idcode s.dev) :: s.dev.out) ∧
    (tapEffect s.dev ir = .bypass → d.out = .tdo 0 :: s.dev.out) ∧
    (s.dev.sys.testEn = false → ir ≠ .idcode → ir ≠ .samplePreload → tapEffect s.dev ir = .bypass)) := by
  obtain ⟨hir, hact, hid, hby⟩ := tapped_shows s.dev (tapEffect s.dev ir)
  exact gives_of_guard (d' := tapped s.dev (tapEffect s.dev ir)) rfl h ⟨hir, hact, hid, hby, tapEffect_closed⟩

/-- Settles O60: each access goes through the hub or the guard of its bus to the function that answers it. -/
theorem lookupsAndSideBuses : Obligations.LookupsAndSideBuses := by
  refine ⟨fun _ _ _ => gives_mapLookup, fun _ _ => gives_ldpcCounterClear, fun s port v r hw hr => ?_, fun s ha => ?_,
    fun _ ir => gives_tapInstruction ir⟩
  · obtain rfl : eholdRow = r := Option.some.inj (regRow_ehold.symm.trans hr)
    refine ⟨rd_storeEhold s.dev v, gives_of_row (c := .pflEholdWrite port v) rfl rfl hw ⟨writeWord_ehold s.dev port v, fun hg => ?_⟩⟩
    rw [writeWord_ehold, eholdWritten_closed (accepted_storeEhold v hg)]
  · refine ⟨?_, ?_, ?_, ?_, ?_, fun _ _ _ _ => gives_smbusSetOffset ha, fun t hs => gives_of_guard rfl ha (hubDo_smbus t hs),
      fun hl => gives_of_guard rfl (by rw [ha, hl]; rfl) rfl⟩
    · exact gives_smbusRead (l := fun d => [0x144, 0x1040, 0x84, 0x2078].map (actW d)) rfl ha rfl
    · exact gives_smbusRead (l := fun d => [0x4068, 0x406C].map (actW d)) rfl ha rfl
    · exact gives_smbusRead (l := fun d => (List.range 10).map (fun n => actW d (0x4040 + 4 * n))) rfl ha rfl
    · exact gives_smbusRead (l := fun d => [BitVec.ofNat 32 d.admin.aonPower, actW d 0x2050, actW d 0x2054]) rfl ha rfl
    · exact gives_smbusRead (l := fun d => [actW d 0x604C, actW d 0x148, actW d 0x40,
        if stageReady d then BitVec.ofNat 32 d.upd.aonVer else 0]) rfl ha rfl

end Sys2Proof.Machine
end
